-- ==== Sys2Proof/Word.lean ====
section
/-! DEFINITION. The word types of the Yarow's registers and byte strings (R3, R4), and the sparse map
that holds repeated units by index. -/

namespace Sys2Proof

/-- One byte of the Store, of a datagram or of a bale. -/
abbrev Byte := BitVec 8

/-- A register word (R59). -/
abbrev Word := BitVec 32

/-- An IEEE 754 binary16 value by its bits (R170). -/
abbrev Half := BitVec 16

/-- A 64-byte bale, byte 0 first (R84). -/
abbrev Bale := List Byte

/-- Repeated units by index: strictly rising keys, no entry equal to the unit's reset record.
The functions on it are in Machine/Map.lean. -/
abbrev SMap (α : Type) := List (Nat × α)

end Sys2Proof
end

