-- ==== Sys2Proof/Syntax/Operand.lean ====
section
/-! DEFINITION. The types of the commands' operands: parties, addresses, and what the environment shows the
unit at an event. -/

namespace Sys2Proof

/-- A look-up table entry that fails parity when it is read (R187): bank, table as LUT_PORT_ADDR codes it, and index. -/
structure LutFault where
  bank  : Fin 2
  table : Fin 6
  index : Nat
  deriving DecidableEq, Repr, Inhabited

/-- The units that fail the tests of a pattern load (R165, R175, R223, R403). -/
structure LoadCheck where
  skeins  : List (Fin 96)
  needles : List (Fin 32)
  cores   : List (Fin 8)
  deriving DecidableEq, Repr, Inhabited

/-- A line whose last pixel passed the head stages (R194), with the table entries that failed parity on the way (R187). -/
structure LineDone where
  line : Nat
  bad  : List LutFault
  deriving DecidableEq, Repr, Inhabited

/-- How a pattern operation ends: whether the flash took every write, and which units fail the load's tests. -/
structure OperationEnd where
  flashOk : Bool
  check   : LoadCheck
  deriving DecidableEq, Repr, Inhabited

/-- An IGMPv3 query (RFC 3376): its group, none for a general query, and its senders. -/
structure GroupQuery where
  group   : Option Word
  senders : List Word
  deriving DecidableEq, Repr, Inhabited

/-- A Purl client: IPv4 address, UDP port and the network port of arrival (R270). -/
structure Client where
  addr : Word
  port : BitVec 16
  net  : Fin 2
  deriving DecidableEq, Repr, Inhabited

/-- Who makes a register access (R61), and by which path (VIOLATION_INFO PATH). -/
inductive Accessor where
  | purl (client : Client) (session : Word)
  | usb
  | bale
  | porter
  deriving DecidableEq, Repr, Inhabited

/-- The header of a Purl request after the checks of R268: sender, SEQUENCE and SESSION. -/
structure PurlReq where
  client  : Client
  seq     : Word
  session : Word
  deriving DecidableEq, Repr, Inhabited

/-- The exchange a DHCP message of a server belongs to: its message type (2 OFFER, 5 ACK, 6 NAK), transaction identifier and
client hardware address. -/
structure DhcpExchange where
  kind   : Nat
  xid    : Word
  chaddr : BitVec 48
  deriving DecidableEq, Repr, Inhabited

/-- What a DHCP message gives a client. -/
structure DhcpLease where
  address : Word
  netmask : Word
  gateway : Word
  deriving DecidableEq, Repr, Inhabited

/-- A DHCP message of a server (RFC 2131): its message type (2 OFFER, 5 ACK, 6 NAK), the exchange and the client hardware
address it names, its server, and the address it gives. -/
structure DhcpReply where
  kind    : Nat
  xid     : Word
  chaddr  : BitVec 48
  server  : Word
  address : Word
  netmask : Word
  gateway : Word
  deriving DecidableEq, Repr, Inhabited

/-- An SFP28 module as its identity memory names it (R335): the bytes read over the two-wire interface, and whether it
supports 25 Gbit/s (R262). -/
structure SfpModule where
  identity   : List Byte
  supports25 : Bool
  deriving DecidableEq, Repr, Inhabited

/-- Requester classes, in the order of Table 5-1. -/
inductive ReqClass where
  | skeins | ingest | raster | porter | block | other
  deriving DecidableEq, Repr, Inhabited

/-- What the ECC of a Store read shows (R100, R101). -/
inductive Ecc where
  | clean
  | corrected (words : Nat)
  | uncorrectable
  deriving DecidableEq, Repr, Inhabited

/-- Bus error causes of Table 5-6. -/
inductive Cause where
  | decode | poison | retired | protected' | register | align | fetch | opcode | mismatch
  deriving DecidableEq, Repr, Inhabited

/-- The part of a head that failed (Table 9-4). -/
inductive HeadPart where
  | timing | hank | pipe | port
  deriving DecidableEq, Repr, Inhabited

/-- The part of a skein that failed parity (Table 7-6). -/
inductive SkeinPart where
  | registerSet | lineStore
  deriving DecidableEq, Repr, Inhabited

/-- How a background self-test ended. -/
inductive TestResult where
  | pass | fail | abandoned
  deriving DecidableEq, Repr, Inhabited

/-- How an SDI signal is carried (R129): level A or a rate without levels on one link, level B, or several links. -/
inductive SdiLink where
  | single | levelB | dual | quad
  deriving DecidableEq, Repr, Inhabited

/-- The signal an SDI input locks to (R129): the rate, 1 to 4 for 1.485, 2.97, 5.94 and 11.88 Gbit/s and their 1/1.001
variants and 0 for any other; its link; whether it is 4:2:2 10-bit; width and height of the whole frame; interlaced or
PsF; and the ST 352 payload if present. -/
structure SdiSignal where
  rateCode : Fin 5
  link     : SdiLink
  sampling : Bool
  width    : Nat
  height   : Nat
  woven    : Bool
  payload  : Option Word
  deriving DecidableEq, Repr, Inhabited

/-- The Yarow accepts the signal (R129). -/
def SdiSignal.supported (g : SdiSignal) : Bool := decide (1 ≤ g.rateCode.val) && g.link == .single && g.sampling

/-- One received SDI line: its field, 0 for the first and for progressive; its line in that field; its samples in stream
order (Cb Y Cr Y); whether its CRC holds; and the ST 352 payload ID if the line carries one. -/
structure SdiLine where
  field   : Fin 2
  line    : Nat
  samples : List (BitVec 10)
  crcOk   : Bool
  payload : Option Word
  deriving DecidableEq, Repr, Inhabited

/-- One sample row segment of an ST 2110-20 packet: row number, pixel offset, payload octets. -/
structure RowSegment where
  row    : Nat
  offset : Nat
  data   : List Byte
  deriving DecidableEq, Repr, Inhabited

/-- An ST 2110-20 packet (R130): extended sequence number, marker bit, row segments. -/
structure RtpPacket where
  seq    : Word
  marker : Bool
  rows   : List RowSegment
  deriving DecidableEq, Repr, Inhabited

/-- What a DisplayPort sink shows over AUX (R202): maximum rate code, maximum lanes, EDID bytes. -/
structure SinkCaps where
  maxRate  : Fin 4
  maxLanes : Nat
  edid     : List Byte
  deriving DecidableEq, Repr, Inhabited

/-- An E1.31 data packet for a universe (R279). -/
structure E131 where
  number     : Nat
  cid        : BitVec 128
  priority   : Nat
  sequence   : Byte
  preview    : Bool
  terminated : Bool
  startCode  : Byte
  slots      : List Byte
  deriving DecidableEq, Repr, Inhabited

/-- The stage a USB control transfer had reached at a bus reset (Table 14-7), with the request. -/
inductive UsbStage where
  | idle
  | outPartial
  | outReceived
  | inRequest
  deriving DecidableEq, Repr, Inhabited

/-- Standard requests of enumeration (R289, R309). -/
inductive EnumStep where
  | attached | dflt | addressed | configured
  deriving DecidableEq, Repr, Inhabited

/-- A power module's condition (Table 17-11). -/
inductive PsuCond where
  | delivering | noMains | faulted | absent
  deriving DecidableEq, Repr, Inhabited

/-- One rail's sample (R353): millivolts, power-good input, gate in current limit for more than 1 ms. -/
structure RailReading where
  millivolts : Nat
  powerGood  : Bool
  limiting   : Bool
  deriving DecidableEq, Repr, Inhabited

/-- The two Caravan ports (R310). -/
inductive CaravanPort where
  | east | west
  deriving DecidableEq, Repr, Inhabited

/-- Slave boards of the supervisor link (R361). -/
inductive Board where
  | output | input | network
  deriving DecidableEq, Repr, Inhabited

/-- What a Porter access that failed late was (R116, R125): its address and cause. -/
structure LateFail where
  addr  : Nat
  cause : Cause
  deriving DecidableEq, Repr, Inhabited

end Sys2Proof
end

