-- ==== Sys2Proof/Syntax.lean ====
section
/-! DEFINITION. The commands of the block: one constructor per row of spec/opcode_table.json. A command of
the form "a write of register X" carries the accessor and the value written; an event carries what the
environment shows the unit at that moment. -/

namespace Sys2Proof

inductive Instr where
  /-- REGISTER_WRITE (R59): A single-word write to a register with no row of its own is judged under R410 and either takes effect by its access type or is refused under R74. -/
  | registerWrite (acc : Accessor) (addr : Word) (value : Word)
  /-- COMMIT (R66): A write of COMMIT_CONTROL commits each named group: dirty fields become pending, admission is computed and the group becomes PENDING. -/
  | commit (acc : Accessor) (value : Word)
  /-- PATTERN_LOAD (R43): PATTERN_CONTROL COMMAND 1 loads a pattern from staging or a slot, runs the checks of Table 2-3 and applies or restitches it. -/
  | patternLoad (acc : Accessor) (source : Fin 4) (target : Fin 2)
  /-- PATTERN_PROGRAM (R43): PATTERN_CONTROL COMMAND 2 checks the staging area and copies it into the slot named by TARGET_SLOT if the checks pass. -/
  | patternProgram (acc : Accessor) (source : Fin 4) (target : Fin 2)
  /-- PATTERN_LOCK_WRITE (R48): The one accepted write of PATTERN_LOCK after reset freezes every RW-P register if it sets LOCK. -/
  | patternLockWrite (acc : Accessor) (value : Word)
  /-- KEY_LOCK_WRITE (R49): The one accepted write of KEY_LOCK after reset freezes SIG_POLICY and the owner key if it sets LOCK. -/
  | keyLockWrite (acc : Accessor) (value : Word)
  /-- OWNER_KEY_STORE (R40): The write of OWNER_KEY_Y[7] stores the whole owner key in standby memory for later loads. -/
  | ownerKeyStore (acc : Accessor) (value : Word)
  /-- BIND_OFF (R67): A head reaches its bind-off line: FC increments and every pending field of that head moves into the active set. -/
  | bindOff (h : Fin 8)
  /-- CAST_ON (R147): At the cast-on line each enabled skein latches its active set and any offered ingest buffer, and admission and restore run. -/
  | castOn (h : Fin 8)
  /-- GAUGE_BAND (R197): At each 16-line band boundary the Gauge reads the lead and sheds when it is below SHED_LOW. -/
  | gaugeBand (h : Fin 8) (band : Nat)
  /-- LINE_CLOSE (R195): One line-time before scan-out of a line, every unfinished contribution to it becomes stand-in colour. -/
  | lineClose (h : Fin 8) (line : Nat)
  /-- LINE_COMPOSED (R194): A line's last pixel passes the head stages and is written to its hank buffer slot. -/
  | lineComposed (h : Fin 8) (line : LineDone)
  /-- WITNESS_CRC_FINAL (R205): When the last active line is handed to the encoder the frame CRC becomes final and any armed compare gives MATCH or MISMATCH. -/
  | witnessCrcFinal (h : Fin 8)
  /-- WITNESS_ARM (R206): A write of ARM in WITNESS_CONTROL arms a compare for frame TAG or gives MISSED at once. -/
  | witnessArm (acc : Accessor) (h : Fin 8) (value : Word)
  /-- HEAD_FAILURE (R207): A parity or line-completeness failure switches the head's drivers off and marks it FAILED until the next load. -/
  | headFailure (h : Fin 8) (part : HeadPart)
  /-- ROUTE_POST (R80): A write of ROUTE_POST posts the staged bale to the named route, or refuses it as FULL, UNBOUND or STORE. -/
  | routePost (acc : Accessor) (value : Word)
  /-- POST_WRITTEN (R77): Once every bale write of a post is confirmed, PUT advances over the whole post in one cycle, or the post fails. -/
  | postWritten
  /-- BALE_FETCH (R83): A route's fetch of four bales from the Store returns, and a failed fetch marks the bales bad. -/
  | baleFetch (r : Fin 16)
  /-- BALE_START (R78): A consumer starts the next bale in ring order once its window has room and any fence wait is satisfied. -/
  | baleStart (r : Fin 16)
  /-- BALE_COMPLETE (R78): A bale completes; TAKE advances past completed bales, signalling fences and posting COMPLETION if asked. -/
  | baleComplete (r : Fin 16)
  /-- NOP_BALE (R84): A NOP bale completes at once with its flags honoured. -/
  | nopBale (r : Fin 16)
  /-- COMMIT_BALE (R85): The executor carries out a COMMIT bale, accepting a commit of its group mask. -/
  | commitBale (r : Fin 16)
  /-- REG_WRITE_BALE (R85): The executor makes the register writes of a REG_WRITE bale in pair order as owner writes. -/
  | regWriteBale (r : Fin 16)
  /-- ROUTE_RESET (R93): A write of ROUTE_CONTROL RESET abandons unstarted bales of the route and waits for started ones. -/
  | routeReset (acc : Accessor) (value : Word)
  /-- ROUTE_RESET_DONE (R53): When the started bales of a resetting route are done, PUT and TAKE become 0 and ROUTE_RESET is posted. -/
  | routeResetDone (r : Fin 16)
  /-- EVENT_RELEASE (R89): A write of EVENT_RELEASE advances TAKE of ROUTE[15] by the count or the occupancy. -/
  | eventRelease (acc : Accessor) (value : Word)
  /-- FENCE_COUNT_WRITE (R94): A write of FENCE_COUNT sets the fence at once and wins over a signal in the same cycle. -/
  | fenceCountWrite (acc : Accessor) (f : Fin 32) (value : Word)
  /-- STORE_READ_SERVED (R101): A Store channel serves a read, correcting single-bit errors or poisoning the block on an uncorrectable word. -/
  | storeReadServed (cls : ReqClass) (addr : Nat) (ecc : Ecc)
  /-- STORE_WRITE_SERVED (R104): A Store channel serves a write, refusing protected writes and discarding writes to retiring channels. -/
  | storeWriteServed (cls : ReqClass) (addr : Nat) (data : List Byte)
  /-- PATROL_SCRUB (R102): Patrol scrub reads the next 64-byte block and corrects it. -/
  | patrolScrub (ecc : Ecc)
  /-- STORE_SCRUB_PERIOD_WRITE (R102): A write of STORE_SCRUB_PERIOD stops scrub, starts a new sweep or applies from the next sweep. -/
  | storeScrubPeriodWrite (acc : Accessor) (value : Word)
  /-- CHANNEL_ALERT (R106): A persistent device alert or loss of training queues the channel for retirement with cause ALERT. -/
  | channelAlert (c : Fin 8)
  /-- STORE_ZERO_FILL_DONE (R108): The zero fill after a changed channel list ends; ROUTE_RESET and held events are written and INIT entries applied. -/
  | storeZeroFillDone
  /-- PORTER_GO (R115): A write of GO arms the channel's shadow, making it live at once when idle. -/
  | porterGo (acc : Accessor) (n : Fin 16)
  /-- PORTER_CLEAR (R116): A write of CLEAR stops issuing, zeroes loop counters and waits for writes in flight. -/
  | porterClear (acc : Accessor) (n : Fin 16)
  /-- PORTER_CLEAR_DONE (R116): When writes in flight have drained after CLEAR, the shadow is disarmed and the channel returns to IDLE. -/
  | porterClearDone (n : Fin 16)
  /-- PORTER_TRANSFER_DONE (R114): A transfer's write responses or read-backs return; PORTER_DONE_COUNT increments and an armed shadow becomes live. -/
  | porterTransferDone (n : Fin 16)
  /-- PORTER_BUS_ERROR (R116): A Porter access returns a bus error, stopping the channel in register mode or marking the instruction or descriptor bad. -/
  | porterBusError (n : Fin 16) (late : Option LateFail)
  /-- PORTER_HALT (R116): After writes in flight drain, a faulted channel enters HALTED, writes a class B record and posts PORTER_HALT. -/
  | porterHalt (n : Fin 16)
  /-- PROGRAM_END (R118): An END instruction completes the program and posts PORTER_DONE if asked. -/
  | programEnd (n : Fin 16)
  /-- PROGRAM_MOVE (R117): A MOVE instruction starts a copy transfer. -/
  | programMove (n : Fin 16)
  /-- PROGRAM_LOOP (R119): A LOOP instruction loads or decrements its counter and jumps to TARGET or falls through. -/
  | programLoop (n : Fin 16)
  /-- PROGRAM_WAIT (R120): A WAIT instruction holds the channel on a fence, a bind-off or TB. -/
  | programWait (n : Fin 16)
  /-- PORTER_WAIT_DONE (R120): The condition of a waiting WAIT instruction holds and the program continues. -/
  | porterWaitDone (n : Fin 16)
  /-- PROGRAM_SIGNAL (R121): A SIGNAL instruction posts a bale and/or increments a fence. -/
  | programSignal (n : Fin 16)
  /-- PROGRAM_FILL (R117): A FILL instruction starts a fill transfer. -/
  | programFill (n : Fin 16)
  /-- PROGRAM_COMPARE (R117): A COMPARE instruction compares two ranges and may end the program on mismatch. -/
  | programCompare (n : Fin 16)
  /-- PROGRAM_CHECK (R117): A CHECK instruction copies data and writes its CRC. -/
  | programCheck (n : Fin 16)
  /-- DESCRIPTOR_MOVE (R123): A list-mode 0x40 MOVE descriptor bale runs a copy transfer. -/
  | descriptorMove (n : Fin 16)
  /-- DESCRIPTOR_FILL (R123): A list-mode 0x41 FILL descriptor bale runs a fill transfer. -/
  | descriptorFill (n : Fin 16)
  /-- DESCRIPTOR_COMPARE (R123): A list-mode 0x42 COMPARE descriptor bale compares ranges, marking the bale bad on mismatch. -/
  | descriptorCompare (n : Fin 16)
  /-- DESCRIPTOR_CHECK (R123): A list-mode 0x43 CHECK descriptor bale copies data and writes its CRC. -/
  | descriptorCheck (n : Fin 16)
  /-- SDI_LINE (R129): An SDI input line is received, CRC-checked and written into the frame buffer. -/
  | sdiLine (s : Fin 4) (line : SdiLine)
  /-- ST2110_PACKET (R130): An ST 2110-20 packet is received, merged under 2022-7 and written, ending a frame on its marker. -/
  | st2110Packet (s : Fin 8) (path : Fin 2) (pkt : RtpPacket)
  /-- SOURCE_FRAME_COMPLETE (R136): The last write response of a source frame returns and the frame becomes newest unless corrupt. -/
  | sourceFrameComplete (s : Fin 12)
  /-- SOURCE_SIGNAL_LOSS (R140): An SDI source loses carrier or lock and enters HOLDING. -/
  | sourceSignalLoss (s : Fin 4)
  /-- SOURCE_PACKET_TIMEOUT (R140): A network source receiving no packet for 20 ms enters HOLDING. -/
  | sourcePacketTimeout (s : Fin 8)
  /-- SOURCE_LOST (R140): LOSS_HOLD expires without a new frame and the source enters LOST. -/
  | sourceLost (s : Fin 12)
  /-- PATH_DOWN (R132): A 2022-7 path delivering no packet for 20 ms is marked down. -/
  | pathDown (s : Fin 8) (path : Fin 2)
  /-- SRC_CONFIG_WRITE (R141): A write of SRC_CONFIG restarts the source and joins or leaves its multicast group. -/
  | srcConfigWrite (acc : Accessor) (s : Fin 12) (value : Word)
  /-- SRC_BASE_HIGH_WRITE (R141): A write of SRC_BASE_HIGH applies the base pair and restarts the source. -/
  | srcBaseHighWrite (acc : Accessor) (s : Fin 12) (value : Word)
  /-- SRC_NET_FORMAT_WRITE (R141): A write of SRC_NET_FORMAT restarts the source. -/
  | srcNetFormatWrite (acc : Accessor) (s : Fin 12) (value : Word)
  /-- SRC_NET_SIZE_WRITE (R141): A write of SRC_NET_SIZE restarts the source. -/
  | srcNetSizeWrite (acc : Accessor) (s : Fin 12) (value : Word)
  /-- IGMP_QUERY (R131): An IGMP query is answered with membership reports as RFC 3376 requires. -/
  | igmpQuery (p : Fin 2) (query : GroupQuery)
  /-- SKEIN_READ_ISSUE (R154): A skein issues a 256-byte read once it holds a skein credit and a channel slot. -/
  | skeinReadIssue (n : Fin 96)
  /-- SKEIN_READ_RETURN (R160): A skein read returns data or fails, in which case stand-in colour fills the rest of the line. -/
  | skeinReadReturn (n : Fin 96) (block : Nat)
  /-- SKEIN_PARITY_ERROR (R164): A skein parity error shows stand-in colour and queues the skein for retirement with a class C record. -/
  | skeinParityError (n : Fin 96) (part : SkeinPart) (standinBad : Bool)
  /-- NEEDLE_FAILURE (R175): A needle parity error shows stand-in colour on its skeins and queues it for retirement. -/
  | needleFailure (m : Fin 32)
  /-- NEEDLE_TEST_START (R176): A needle not in service begins a background self-test pass at its TEST_INTERVAL. -/
  | needleTestStart (m : Fin 32)
  /-- NEEDLE_TEST_DONE (R176): A self-test pass ends after 65 536 PCLK cycles, passing or retiring the needle. -/
  | needleTestDone (m : Fin 32) (pass : Bool)
  /-- NEEDLE_TEST_ABANDON (R177): A test aborted by the needle entering service drains and is recorded as abandoned. -/
  | needleTestAbandon (m : Fin 32)
  /-- LUT_PORT_DATA_WRITE (R186): A write of LUT_PORT_DATA stores an entry at INDEX and increments INDEX. -/
  | lutPortDataWrite (acc : Accessor) (h : Fin 8) (value : Word)
  /-- DP_HPD_HIGH (R202): HPD of a DisplayPort connector goes high, starting the 100 ms wait. -/
  | dpHpdHigh (p : Fin 4)
  /-- DP_SINK_READ (R202): After 100 ms of HPD high, DPCD and EDID are read and link training starts. -/
  | dpSinkRead (p : Fin 4) (sink : SinkCaps)
  /-- DP_TRAINING_DONE (R202): Link training ends usable, BANDWIDTH or FAILED. -/
  | dpTrainingDone (p : Fin 4) (steps : Nat)
  /-- DP_HPD_PULSE (R203): An HPD pulse shorter than 2 ms reads link status and retrains if lock is lost. -/
  | dpHpdPulse (p : Fin 4) (lockLost : Bool)
  /-- DP_UNPLUG (R203): HPD low for 2 ms or more is an unplug. -/
  | dpUnplug (p : Fin 4)
  /-- DP_CONFIG_WRITE (R202): A write of DP_CONFIG sets limits and retrains if DP_BPC changes. -/
  | dpConfigWrite (acc : Accessor) (p : Fin 4) (value : Word)
  /-- DP_RETRAIN (R202): A write of DP_CONFIG with RETRAIN 1 retrains the link at once. -/
  | dpRetrain (acc : Accessor) (p : Fin 4) (value : Word)
  /-- TARGET_BALE (R210): A raster TARGET bale sets the frame's target. -/
  | targetBale (c : Fin 4)
  /-- TEXTURE_BALE (R210): A raster TEXTURE bale loads a texture slot and writes its bin record. -/
  | textureBale (c : Fin 4)
  /-- DRAW_BALE (R213): A raster DRAW bale reads vertices and bins its triangles into tiles. -/
  | drawBale (c : Fin 4)
  /-- DRAW_BINNED (R210): A DRAW completes when its primitives are binned. -/
  | drawBinned (c : Fin 4)
  /-- END_FRAME_BALE (R210): A raster END_FRAME bale makes the binned tiles available for rendering. -/
  | endFrameBale (c : Fin 4)
  /-- END_FRAME_DONE (R210): END_FRAME completes when every tile is written or skipped and every response has returned. -/
  | endFrameDone (c : Fin 4)
  /-- TILE_PASS_START (R217): A core takes a tile pass, preferring context 0. -/
  | tilePassStart (k : Fin 8)
  /-- TILE_PASS_DONE (R216): A core ends a tile pass, writing or skipping a finished tile by its signature. -/
  | tilePassDone (k : Fin 8)
  /-- GROW_WAIT_EXPIRY (R219): GROW_WAIT expires, RE_FALLBACK is posted and the context continues under PARTIAL. -/
  | growWaitExpiry (c : Fin 4)
  /-- RE_BIN_GROW_WRITE (R219): A write of RE_BIN_GROW_SIZE adds a bin extent and resumes binning. -/
  | reBinGrowWrite (acc : Accessor) (c : Fin 4) (value : Word)
  /-- RASTER_CORE_FAILURE (R223): A failed core stops, its tiles re-run elsewhere and it is queued for retirement. -/
  | rasterCoreFailure (k : Fin 8)
  /-- CORE_TEST_START (R221): An idle core begins background self-test. -/
  | coreTestStart (k : Fin 8)
  /-- CORE_TEST_DONE (R221): A core self-test ends as pass, fail or abandoned. -/
  | coreTestDone (k : Fin 8) (result : TestResult)
  /-- RE_THROTTLE_UP (R224): Die temperature at 95 or 100 °C raises the throttle level. -/
  | reThrottleUp (temperature : Nat)
  /-- RE_THROTTLE_DOWN (R224): After 1 s below 90 °C the throttle level drops by one. -/
  | reThrottleDown
  /-- BE_COPY_GO (R231): GO in BE_CONTROL with OP COPY starts a register copy operation. -/
  | beCopyGo (acc : Accessor) (value : Word)
  /-- BE_FILL_GO (R231): GO in BE_CONTROL with OP FILL starts a register fill operation. -/
  | beFillGo (acc : Accessor) (value : Word)
  /-- BE_COPY_BALE (R232): A 0x30 COPY bale is taken as a block operation. -/
  | beCopyBale (r : Fin 16)
  /-- BE_FILL_BALE (R232): A 0x31 FILL bale is taken as a block operation. -/
  | beFillBale (r : Fin 16)
  /-- BE_OP_START (R234): A block operation starts once a slot is free and no in-flight span conflicts. -/
  | beOpStart
  /-- BE_DEAD_TIME_EXPIRY (R235): DEAD_TIME expires after a burst and the next burst is issued. -/
  | beDeadTimeExpiry
  /-- BE_OP_DONE (R233): A block operation completes when every write response has returned. -/
  | beOpDone (slot : Fin 4)
  /-- TB_SOURCE_SWITCH (R240): TB switches between TCLK and LFCLK at an LFCLK edge. -/
  | tbSourceSwitch
  /-- CMP_MATCH (R245): A compare channel fires on TB crossing its live value, taking its post, GPO and event actions. -/
  | cmpMatch (n : Fin 32)
  /-- CMP_CONFIG_WRITE (R244): A write of CMP_CONFIG sets the channel's actions and enable, reading its bale on enable. -/
  | cmpConfigWrite (acc : Accessor) (n : Fin 32) (value : Word)
  /-- CMP_VALUE_HIGH_WRITE (R241): A write of CMP_VALUE_HIGH applies the value pair. -/
  | cmpValueHighWrite (acc : Accessor) (n : Fin 32) (value : Word)
  /-- CMP_WRITE_LIVE (R242): A compare write becomes live in the comparator within 3 TCLK cycles. -/
  | cmpWriteLive (n : Fin 32)
  /-- CMP_BALE_ADDR_HIGH_WRITE (R246): A write of CMP_BALE_ADDR_HIGH re-reads the channel's bale. -/
  | cmpBaleAddrHighWrite (acc : Accessor) (n : Fin 32) (value : Word)
  /-- CMP_BALE_READ_DONE (R246): A channel's bale read returns, or fails with a class A record and CMP_BALE_FAULT. -/
  | cmpBaleReadDone (n : Fin 32)
  /-- GPO_PULSE_END (R248): A GPO pulse's width expires and the relay opens. -/
  | gpoPulseEnd (p : Fin 8)
  /-- CNT_WRAP (R249): A counter wraps or reloads, taking its shadow and posting CNT_WRAP at most once per ms. -/
  | cntWrap (k : Fin 8)
  /-- CNT_LOAD_WRITE (R256): A write of CNT_LOAD sets the count at once. -/
  | cntLoadWrite (acc : Accessor) (k : Fin 8) (value : Word)
  /-- GPI_INPUT_CHANGE (R253): A GPI input changes level. -/
  | gpiInputChange (p : Fin 8) (level : Bool)
  /-- GPI_FILTER_EXPIRY (R253): A FILTERED GPI has held a new level for 1 ms and GPI_STATE changes. -/
  | gpiFilterExpiry (p : Fin 8)
  /-- ETHERNET_FRAME (R265): A received frame is dispatched to Purl, the console map or ingest, or discarded and counted. -/
  | ethernetFrame (p : Fin 2) (frame : List Byte) (fcsOk : Bool)
  /-- ARP_REQUEST (R264): An ARP request for the port's address is answered. -/
  | arpRequest (p : Fin 2) (senderMac : BitVec 48) (senderIp : Word) (targetIp : Word)
  /-- ICMP_ECHO (R264): An ICMP echo request to the port is answered. -/
  | icmpEcho (p : Fin 2) (source : Word) (target : Word) (message : List Byte)
  /-- DHCP_REPLY (R264): A DHCP reply gives the port its lease. -/
  | dhcpReply (p : Fin 2) (message : DhcpExchange) (lease : DhcpLease) (server : Word)
  /-- DHCP_LEASE_EXPIRY (R286): A lease expires, the port drops its address and an owner bound through it is ended. -/
  | dhcpLeaseExpiry (p : Fin 2)
  /-- NET_CONFIG_WRITE (R262): A write of NET_CONFIG restarts the port's link. -/
  | netConfigWrite (acc : Accessor) (p : Fin 2) (value : Word)
  /-- NET_LINK (R262): A network port's link goes up or down. -/
  | netLink (p : Fin 2) (up : Bool) (speed : Nat)
  /-- CLAIM_CHALLENGE (R271): Purl CLAIM step 1 is answered with a NONCE and session, or OWNED. -/
  | claimChallenge (req : PurlReq)
  /-- CLAIM_RESPONSE (R271): Purl CLAIM step 2 checks the MAC and makes the session owner, or answers AUTH or OWNED. -/
  | claimResponse (req : PurlReq) (mac : BitVec 256)
  /-- CLAIM_SESSION_EXPIRY (R271): An offered claim session expires after 2 s. -/
  | claimSessionExpiry (session : Word)
  /-- CLAIM_LOCKOUT_END (R271): The 1 s lockout after AUTH ends for that source address. -/
  | claimLockoutEnd (addr : Word)
  /-- PURL_RELEASE (R272): Purl RELEASE ends the owner session. -/
  | purlRelease (req : PurlReq)
  /-- PURL_READ (R269): Purl READ reads consecutive registers under R59. -/
  | purlRead (req : PurlReq) (addr : Word) (count : Nat)
  /-- PURL_WRITE (R269): Purl WRITE writes consecutive registers under R59, answering REFUSED at the first refusal. -/
  | purlWrite (req : PurlReq) (addr : Word) (words : List Word)
  /-- PURL_POST (R80): Purl POST posts up to 22 bales atomically to the route in PARAM. -/
  | purlPost (req : PurlReq) (route : Nat) (bales : List Bale)
  /-- PURL_STORE_READ (R275): Purl STORE_READ reads Store bytes and appends CHECK. -/
  | purlStoreRead (req : PurlReq) (addr : Nat) (bytes : Nat)
  /-- PURL_STORE_WRITE (R275): Purl STORE_WRITE checks CHECK, writes the data and answers after every response. -/
  | purlStoreWrite (req : PurlReq) (addr : Nat) (data : List Byte) (check : Word)
  /-- PURL_CAPTURE_STORE (R276): Purl CAPTURE KIND 0 snapshots a Store range into a capture page. -/
  | purlCaptureStore (req : PurlReq) (addr : Nat) (bytes : Nat)
  /-- PURL_CAPTURE_LEDGER (R276): Purl CAPTURE KIND 1 copies a Ledger page. -/
  | purlCaptureLedger (req : PurlReq)
  /-- PURL_CAPTURE_POWER_LOG (R276): Purl CAPTURE KIND 2 copies a power-log page. -/
  | purlCapturePowerLog (req : PurlReq)
  /-- PURL_CAPTURE_RELEASE (R276): Purl CAPTURE KIND 0xFF frees the named page. -/
  | purlCaptureRelease (req : PurlReq) (page : Nat)
  /-- PURL_CAPTURE_TIMEOUT (R276): A Purl capture page unreleased for CAPTURE_TIMEOUT is discarded and counted. -/
  | purlCaptureTimeout (page : Fin 4)
  /-- OWNER_TIMEOUT (R272): OWNER_TIMEOUT seconds without a request ends the owner session. -/
  | ownerTimeout
  /-- EVENT (R278): An EVENT datagram carrying new ROUTE[15] bales is sent to a Purl owner within 100 µs. -/
  | event
  /-- E131_PACKET (R279): An E1.31 data packet updates its universe's arbitrated data and may fire triggers. -/
  | e131Packet (p : Fin 2) (pkt : E131)
  /-- E131_SOURCE_TIMEOUT (R280): A console source silent for 2.5 s is dropped. -/
  | e131SourceTimeout (u : Fin 64) (cid : BitVec 128)
  /-- READ_REG (R291): USB READ_REG reads registers before the data stage. -/
  | readReg (addr : Word) (count : Nat)
  /-- WRITE_REG (R291): USB WRITE_REG writes registers after the data stage. -/
  | writeReg (addr : Word) (words : List Word)
  /-- GET_RESULT (R292): USB GET_RESULT returns the result record. -/
  | getResult
  /-- CLAIM_NONCE (R293): USB CLAIM_NONCE returns a nonce and session. -/
  | claimNonce
  /-- USB_CLAIM (R293): USB CLAIM checks the MAC, or accepts while the service button is held, and makes the host owner. -/
  | usbClaim (mac : BitVec 256)
  /-- USB_RELEASE (R294): USB RELEASE ends the USB owner session. -/
  | usbRelease
  /-- USB_POST (R291): USB POST posts 1 to 8 bales to a route. -/
  | usbPost (route : Nat) (bales : List Bale)
  /-- USB_CAPTURE_STORE (R299): USB CAPTURE KIND 0 queues a Store snapshot page for EP1. -/
  | usbCaptureStore (addr : Nat) (bytes : Nat)
  /-- USB_CAPTURE_LEDGER (R299): USB CAPTURE KIND 1 queues a Ledger page for EP1. -/
  | usbCaptureLedger
  /-- USB_CAPTURE_POWER_LOG (R299): USB CAPTURE KIND 2 queues a power-log page for EP1. -/
  | usbCapturePowerLog
  /-- BULK_SETUP_STORE (R297): BULK_SETUP KIND 0 arms EP2 for an upload to a Store address. -/
  | bulkSetupStore (addr : Nat) (bytes : Nat)
  /-- BULK_SETUP_STAGING (R298): BULK_SETUP KIND 1 arms EP2 for an upload into staging. -/
  | bulkSetupStaging (offset : Nat) (bytes : Nat)
  /-- BULK_SETUP_SLOT (R298): BULK_SETUP KIND 2 or 3 in floor mode erases a flash slot and arms EP2 to program it. -/
  | bulkSetupSlot (slot : Fin 2) (addr : Nat) (bytes : Nat)
  /-- SLOT_ERASE_DONE (R298): The slot erase finishes and EP2 stops answering NAK. -/
  | slotEraseDone
  /-- EP2_DATA (R296): A bulk OUT packet on EP2 is written as it arrives. -/
  | ep2Data (packet : List Byte)
  /-- BULK_UPLOAD_DONE (R296): The last awaited byte is confirmed; RESULT becomes OK, CHECK is set and a slot upload is checked. -/
  | bulkUploadDone
  /-- SET_MODE_NORMAL (R304): SET_MODE 0 returns the unit to normal operation from freeze or debug hold. -/
  | setModeNormal
  /-- SET_MODE_FREEZE (R302): SET_MODE 1 enters freeze: commits are accepted but not transferred. -/
  | setModeFreeze
  /-- SET_MODE_DEBUG_HOLD (R303): SET_MODE 2 enters debug hold, stopping engines and running TB from LFCLK. -/
  | setModeDebugHold
  /-- SET_SECRET (R295): SET_SECRET stores the owner secret unless KEY_LOCK is set. -/
  | setSecret (secret : BitVec 256)
  /-- EP1_PACKET_ACK (R299): The host acknowledges a capture page packet on EP1, freeing the page after its last packet. -/
  | ep1PacketAck
  /-- USB_CAPTURE_TIMEOUT (R300): A pending EP1 page stalled for CAPTURE_TIMEOUT is discarded and counted. -/
  | usbCaptureTimeout
  /-- EP3_PACKET_ACK (R301): The host acknowledges an event bale packet on EP3. -/
  | ep3PacketAck
  /-- USB_BUS_RESET (R307): A USB bus reset discards partial requests and uploads and starts the 2 s grace. -/
  | usbBusReset (stage : UsbStage)
  /-- USB_GRACE_EXPIRY (R294): The 2 s bus-reset grace expires and the USB owner session ends. -/
  | usbGraceExpiry
  /-- VBUS_CHANGE (R294): VBUS appears, connecting the pull-up, or is lost, ending the USB owner session. -/
  | vbusChange (present : Bool)
  /-- USB_PORT_DISABLE_WRITE (R306): The write-once USB_PORT_DISABLE ends the USB session, frees its pages and schedules disconnection. -/
  | usbPortDisableWrite (acc : Accessor) (value : Word)
  /-- USB_PULLUP_REMOVAL (R306): 1 ms after the disable, the D+ pull-up is removed. -/
  | usbPullupRemoval
  /-- CALL (R317): A received CALL frame feeds election and membership and is forwarded. -/
  | call (port : CaravanPort) (frame : List Byte)
  /-- BEAT (R320): A received BEAT sets the followed lead, CFN and each lockable head's pull, and is forwarded. -/
  | beat (port : CaravanPort) (frame : List Byte)
  /-- ECHO (R316): A received ECHO is answered with ECHO_REPLY. -/
  | echo (port : CaravanPort) (frame : List Byte)
  /-- ECHO_REPLY (R316): A received ECHO_REPLY sets the port's link delay. -/
  | echoReply (port : CaravanPort) (frame : List Byte)
  /-- ECHO_TIMER (R316): Every 100 ms each Caravan port sends an ECHO. -/
  | echoTimer
  /-- CALL_TIMER (R318): A member sends a CALL every 100 µs while electing or every 10 ms otherwise. -/
  | callTimer
  /-- ELECTION_TIMER (R317): The 2 ms listen, election or wait-for-BEAT window expires and election moves on. -/
  | electionTimer
  /-- BEAT_SEND (R319): The lead sends BEAT k at line 0 of frame k − 1 of its reference head. -/
  | beatSend
  /-- LEAD_LOSS (R326): No BEAT for 3 × PERIOD unlocks heads, holds pulls and starts election. -/
  | leadLoss
  /-- MEMBER_AGEING (R318): An origin not heard for 100 ms leaves the membership table. -/
  | memberAgeing (origin : BitVec 64)
  /-- CARAVAN_LINK (R310): EAST or WEST link goes up or down. -/
  | caravanLink (port : CaravanPort) (up : Bool)
  /-- CARAVAN_BARRIER_COMMIT (R322): A non-zero write of CARAVAN_BARRIER_COMMIT arms a barrier or refuses it as LATE or FULL. -/
  | caravanBarrierCommit (acc : Accessor) (value : Word)
  /-- BARRIER_FIRE (R322): At line 0 of frame k − 1 a pending barrier accepts a COMMIT of its mask. -/
  | barrierFire
  /-- CARAVAN_BARRIER_CANCEL (R324): A write of CARAVAN_BARRIER_CANCEL frees the named slots. -/
  | caravanBarrierCancel (acc : Accessor) (value : Word)
  /-- FAN_STOP (R332): A fan below 1000 rpm for 2 s at 30 % or more is stopped and the others go to 100 %. -/
  | fanStop (f : Fin 5) (rpm : Nat)
  /-- SERVICE_BUTTON (R334): The debounced service button is pressed or released. -/
  | serviceButton (held : Bool)
  /-- SFP_MODULE_CHANGE (R335): An SFP28 module is inserted or removed. -/
  | sfpModuleChange (p : Fin 2) (module : Option SfpModule)
  /-- SFP_POWER_FAULT (R335): A module over its current limit for 1 ms has its cage supply switched off. -/
  | sfpPowerFault (p : Fin 2)
  /-- DP_PWR_FOLDBACK (R336): DP_PWR above 0.6 A for 1 ms folds back and sets DP_POWER_FAULT. -/
  | dpPwrFoldback (p : Fin 4)
  /-- DP_PWR_RETRY (R336): A folded-back DP_PWR supply retries once per second. -/
  | dpPwrRetry (p : Fin 4) (recovered : Bool)
  /-- GPO_OVERLOAD (R339): A GPO load above 0.5 A for 10 ms opens the output. -/
  | gpoOverload (p : Fin 8)
  /-- STANDBY_UP (R376): STBY_5V reaches regulation; the master supervisor reads FRAM and polls the slaves. -/
  | standbyUp (answering : BitVec 3)
  /-- STANDBY_LOST (R351): STBY_5V falls below 4.0 V, resetting the standby domain and clearing the latch. -/
  | standbyLost
  /-- START (R347): A start enables each sequenced rail at its ON_DELAY from a common start. -/
  | start
  /-- RAIL_ENABLE_TIMER (R347): A rail's ON_DELAY expires and it is enabled. -/
  | railEnableTimer (r : Fin 13)
  /-- RAIL_WINDOW_EXPIRY (R347): A rail's window closes, passing or causing a start failure. -/
  | railWindowExpiry (r : Fin 16) (reading : RailReading)
  /-- REVERSE_OFF_STEP (R349): Each 0.5 ms after a start failure the next enabled rail is switched off. -/
  | reverseOffStep
  /-- FLOOR_START (R350): 100 ms after a non-main start failure, rails 0 to 5 start alone for floor mode. -/
  | floorStart
  /-- RESET_STRETCH_END (R348): RESET_STRETCH expires and the system and board resets are released. -/
  | resetStretchEnd
  /-- GATE_CURRENT_LIMIT (R352): A gate holding its current limit for 1 ms is switched off. -/
  | gateCurrentLimit (r : Fin 16)
  /-- RAIL_SAMPLE (R353): Every 100 µs each rail is sampled and judged for warnings and faults. -/
  | railSample (readings : List RailReading)
  /-- RETRY_TIMER (R354): 50 ms after a retry switch-off the rail is enabled again. -/
  | retryTimer (r : Fin 13)
  /-- RESET_SYSTEM_TIMER (R354): 200 ms after a reset-system switch-off a full start is made. -/
  | resetSystemTimer
  /-- OFF_TABLE_STEP (R357): A rail's OFF_DELAY from the shut-down start expires and it is switched off. -/
  | offTableStep (r : Fin 16)
  /-- PSU_CHANGE (R345): A power module is lost, faults, is removed or joins. -/
  | psuChange (i : Fin 2) (cond : PsuCond)
  /-- AC_FAIL (R358): Every delivering module signals AC-fail; PFW is raised and POWER_FAIL posted. -/
  | acFail
  /-- PFW_DELAY_EXPIRY (R358): PFW_DELAY expires and the off table starts. -/
  | pfwDelayExpiry
  /-- MAINS_RETURN (R358): Mains returns, withdrawing PFW or, after 500 ms, restarting. -/
  | mainsReturn
  /-- THERMAL_WARNING (R360): Exhaust at 60 °C or die at 105 °C posts THERMAL and a class D record. -/
  | thermalWarning (temperature : Byte)
  /-- THERMAL_TRIP (R360): Exhaust held at 70 °C for 5 s or die at 115 °C for 100 ms shuts the unit down. -/
  | thermalTrip (temperature : Byte)
  /-- THERMAL_RESTART (R360): Once inlet and exhaust have cooled the main board starts into floor mode. -/
  | thermalRestart
  /-- SUPERVISOR_POLL (R361): The master sends a word to each slave at least once per millisecond. -/
  | supervisorPoll (b : Board) (command : Byte) (data : BitVec 16)
  /-- SUPERVISOR_REPLY (R362): A slave reply is checked, retried on error, and after 3 failed retries the slave is failed. -/
  | supervisorReply (b : Board) (word : Word)
  /-- SLAVE_WORD (R362): A slave receives a word and acts on it or replies ERROR. -/
  | slaveWord (b : Board) (word : Word) (edges : Nat)
  /-- SLAVE_WATCHDOG (R363): A slave with no valid word for 10 ms switches its board's rails off. -/
  | slaveWatchdog (b : Board)
  /-- CLEAR_LATCH (R351): PSV_COMMAND CLEAR_LATCH over USB clears the latch and makes a full start. -/
  | clearLatch (acc : Accessor)
  /-- CLEAR_RECORD (R365): PSV_COMMAND CLEAR_RECORD empties the first-failure record. -/
  | clearRecord (acc : Accessor)
  /-- CLEAR_COUNTERS (R368): PSV_COMMAND CLEAR_COUNTERS zeroes every rail counter. -/
  | clearCounters (acc : Accessor)
  /-- RESTART_GROUP (R355): PSV_COMMAND RESTART_GROUP restarts a board held off. -/
  | restartGroup (acc : Accessor) (board : Fin 4)
  /-- ACC_CONTROL_WRITE (R352): A write of ACC_CONTROL enables or disables accessory outputs, clearing a latch-off on 0 then 1. -/
  | accControlWrite (acc : Accessor) (value : Word)
  /-- POS_TICK (R364): Each second with 12V_MAIN up increments POS. -/
  | posTick
  /-- VCO_LOCK (R370): The VCO locks and the derived clocks start in order. -/
  | vcoLock (locked : Bool)
  /-- CLOCK_FAULT (R371): A loss of lock or a clock off by more than 0.1 % causes a warm reset. -/
  | clockFault (clock : Fin 7) (deviation : BitVec 16)
  /-- WARM_RESET (R374): A write of RESET_CONTROL with WARM_RESET and KEY 0x5A5A starts a warm reset. -/
  | warmReset (acc : Accessor) (value : Word)
  /-- BRING_UP (R376): After reset release the Yarow runs the bring-up steps of Table 18-3. -/
  | bringUp (romOk : Bool) (usbPhyOk : Bool)
  /-- STORE_TRAINING_DONE (R105): Store channels finish training and the channel list is built. -/
  | storeTrainingDone (trained : BitVec 8) (margins : List (BitVec 16))
  /-- BRING_UP_RETRY (R384): A VCO or boot ROM failure reasserts reset and retries up to three times. -/
  | bringUpRetry
  /-- LEDGER_CLEAR (R397): A write of LEDGER_CONTROL with CLEAR 1 and KEY 0x4C44 empties the Ledger. -/
  | ledgerClear (acc : Accessor) (value : Word)
  /-- LEDGER_PARITY_SCAN (R408): The Ledger's continuous check visits each entry at least once per millisecond and sets PARITY on failure. -/
  | ledgerParityScan (k : Fin 64) (fails : Bool)
  /-- PATTERN_OPERATION_FINISH (R43): A LOAD or PROGRAM started earlier, or the power-on load, finishes its checks of Table 2-3 (and for PROGRAM its slot write), then applies the pattern, begins a restitch wait, or records its result with the PATTERN event. -/
  | patternOperationFinish (result : OperationEnd)
  /-- SDI_CARRIER_LOCK (R129): An SDI input gains carrier and timing-reference lock, or detects a changed raster, and the Yarow detects rate and raster, computes the layout and writes from the next frame or refuses the source. -/
  | sdiCarrierLock (s : Fin 4) (signal : SdiSignal)
  /-- USB_ENUMERATION (R289): The host's standard control requests during enumeration move USB_STATUS STATE through default, addressed and configured, posting USB_STATE at each change. -/
  | usbEnumeration (stage : EnumStep) (highSpeed : Bool)
  /-- USB_MALFORMED_REQUEST (R290): A vendor request whose bRequest is outside Table 14-3 is answered with STALL and RESULT MALFORMED. -/
  | usbMalformedRequest (request : Byte)
  /-- DHCP_LEASE_REQUEST (R264): A port with DHCP set sends DHCP requests for a lease, and keeps requesting or renewing it under RFC 2131 timers. -/
  | dhcpLeaseRequest (p : Fin 2)
  deriving DecidableEq, Repr

end Sys2Proof
end

