-- ==== Sys2Proof/Config.lean ====
section
/-! DEFINITION. What the manual leaves to the unit, to the environment or to other standards: every constant
here is opaque, so no proof can see its value (log 2). -/

namespace Sys2Proof.Config

/-- UNIT_SERIAL, set at manufacture (R75). -/
opaque unitSerial : BitVec 64

/-- The vendor public key of the boot ROM (R40), x coordinate. -/
opaque vendorKeyX : Nat

/-- The vendor public key of the boot ROM (R40), y coordinate. -/
opaque vendorKeyY : Nat

/-- The fresh NONCE of a claim (R271), by the free counter. -/
opaque freeNonce : Nat → BitVec 256

/-- The session number of a claim (R271), by the free counter, where it is not 0 and not one used before. -/
opaque freeSession : Nat → Word

/-- The hardware address of a network port. -/
opaque portMac : Nat → BitVec 48

/-- BOOT_TAG, a random value chosen at each start (Table 15-1), by the free counter. -/
opaque freeBootTag : Nat → Word

/-- How many stand-in frames beyond the first a head shows before a new timing (R30), by the free counter. -/
opaque extraStandin : Nat → Nat

/-- ACTUAL of a witness compare that was missed, whose frame's CRC is no longer kept (R206), by the free counter. -/
opaque freeCrc : Nat → Word

/-- Other undefined results, by the free counter. -/
opaque freeWord : Nat → Word

/-- A byte the manual leaves open, by the free counter and its offset. -/
opaque freeByte : Nat → Nat → Byte

/-- Whether a write of the FRAM succeeds (R364), by the free counter: no command tells. -/
opaque framWrites : Nat → Bool

/-- A field the manual names without a value in some state: which field, and its index. -/
opaque unstated : Nat → Nat → Nat

/-- A byte of an overlapping MOVE whose destination lies above its source: `true` takes the byte a
forward copy would have put there (R126). By source, destination and offset. -/
opaque overlapForward : Nat → Nat → Nat → Bool

/-- A measured quantity no command reports: which quantity, its index, and TB at the reading. -/
opaque measured : Nat → Nat → Nat → Nat

/-- How many more write requests a Porter transfer had issued when the response of its first failing one came
(R112, R116), by the free counter. -/
opaque issuedAfter : Nat → Fin 64

/-- Built-in filter coefficient with 14 fraction bits (R172, FILTER 0): source size, destination size,
phase, tap number. -/
opaque sincTap : Nat → Nat → Nat → Nat → Int

/-- How far the accumulated needle position stands from its exact value, in units of 2^-20 (R171): source size,
destination size, offset. -/
opaque needleDrift : Nat → Nat → Nat → Int

/-- The ST 352 payload ID of an SDI output (R204), by STANDARD, FRACTIONAL, frames a second and SDI_MATRIX: the standard
states it. -/
opaque sdiPayload : Nat → Bool → Nat → Bool → Word

/-- The line CRC words of an SDI output (R204), by STANDARD, line and samples: the standards state them. -/
opaque sdiLineCrc : Nat → Nat → List Nat → List Nat

/-- The taps of a trilinear or anisotropic texture filter (R215, R216), whose levels, positions and weights the manual does
not state: filter code, ANISO_MAX, LEVELS, width, height, u and v, and the pixel's footprint as the changes of u and v to the
next pixel and to the next line; as level, texel x, texel y and weight. -/
opaque textureTaps : Nat → Nat → Nat → Nat → Nat → Rat × Rat → (Rat × Rat) × (Rat × Rat) → List (Nat × Int × Int × Rat)

/-- The value of a binary32 NaN or infinity in a vertex (R212). -/
opaque oddSingle : Word → Rat

/-- TOPOLOGY and BLEND codes of a DRAW beyond those of Table 10-1: how they act. -/
opaque oddTopology : Nat → Bool

/-- How a BLEND code beyond Table 10-1 acts: 0, 1 or 2. -/
opaque oddBlend : Nat → Fin 3

/-- The byte a luma-only target holds of R, G, B and A (R215). -/
opaque rasterLuma : Rat → Rat → Rat → Rat → Byte

/-- Which of its free buffers a frame takes (R138), by the frames the source has completed and dropped. -/
opaque bufferPick : Nat → Nat → Nat

/-- The chroma that the SDI filter takes beyond the left edge of a line (R204), by the line's first chroma and its
next: the manual does not say it. -/
opaque edgeChroma : Rat → Rat → Rat

/-- How far a head's pull moves at a BEAT, in units of 10^-9, by the head, its phase error in ns and its pull (R320): the
control law is not stated. -/
opaque pullStep : Nat → Int → Int → Fin 20001

/-- Which way it moves where R320 leaves that open. -/
opaque pullUp : Nat → Int → Int → Bool

end Sys2Proof.Config
end

