-- ==== Sys2Proof/Machine/Bits.lean ====
section
/-! DEFINITION. Bit fields, byte orders and saturating counts (R3 to R5). -/

namespace Sys2Proof.Machine

def wordOf (n : Nat) : Word := BitVec.ofNat 32 n

/-- Field of `n` bits from bit `lo` (R4). -/
def fld (w : Word) (lo n : Nat) : Nat := w.toNat / 2 ^ lo % 2 ^ n

def bitAt (w : Word) (k : Nat) : Bool := w.getLsbD k

def natBit (n k : Nat) : Bool := n / 2 ^ k % 2 = 1

/-- The bits of a list of flags, first flag in bit 0. -/
def flagBits : List Bool → Nat
  | [] => 0
  | b :: bs => b.toNat + 2 * flagBits bs

/-- `n` shifted to bit `lo`. -/
def at_ (n lo : Nat) : Nat := n * 2 ^ lo

def byteOf (n : Nat) : Byte := BitVec.ofNat 8 n

/-- `k` bytes of `n`, least significant first. -/
def leBytes : Nat → Nat → List Byte
  | 0, _ => []
  | k + 1, n => byteOf n :: leBytes k (n / 256)

/-- `k` bytes of `n`, most significant first. -/
def beBytes (k n : Nat) : List Byte := (leBytes k n).reverse

def leNat : List Byte → Nat
  | [] => 0
  | b :: bs => b.toNat + 256 * leNat bs

def beNat (bs : List Byte) : Nat := leNat bs.reverse

def slice {α : Type} (bs : List α) (off n : Nat) : List α := (bs.drop off).take n

/-- Little-endian field of `n` bytes at an offset. -/
def leAt (bs : List Byte) (off n : Nat) : Nat := leNat (slice bs off n)

/-- Big-endian field of `n` bytes at an offset. -/
def beAt (bs : List Byte) (off n : Nat) : Nat := beNat (slice bs off n)

/-- Exactly `n` bytes: cut, or filled with zeros. -/
def padTo (n : Nat) (bs : List Byte) : List Byte := (bs ++ List.replicate (n - bs.length) 0).take n

/-- Replace the bytes at an offset. -/
def patch (bs : List Byte) (off : Nat) (new : List Byte) : List Byte :=
  bs.take off ++ new ++ bs.drop (off + new.length)

/-- Two's-complement value of an `n`-bit field. -/
def signed (n x : Nat) : Int := if x < 2 ^ (n - 1) then (x : Int) else (x : Int) - 2 ^ n

/-- An integer's low `n` bits. -/
def unsigned (n : Nat) (x : Int) : Nat := (x % 2 ^ n).toNat

def max32 : Nat := 0xFFFFFFFF

/-- A 32-bit count that saturates. -/
def satInc (n : Nat) : Nat := if n < max32 then n + 1 else max32

def satIncTo (limit n : Nat) : Nat := if n < limit then n + 1 else limit

def ceilDiv (a b : Nat) : Nat := (a + b - 1) / b

def clampNat (lo hi n : Nat) : Nat := max lo (min hi n)

def clampInt (lo hi n : Int) : Int := max lo (min hi n)

/-- Stable sort by a key, rising. -/
def sortBy {α : Type} (key : α → Nat) : List α → List α
  | [] => []
  | x :: xs => insertByFirst x (sortBy key xs)
where
  insertByFirst (x : α) : List α → List α
    | [] => [x]
    | y :: ys => if key x ≤ key y then x :: y :: ys else y :: insertByFirst x ys

/-- A list without repeats, keeping the last of each. -/
def nub {α : Type} [DecidableEq α] : List α → List α
  | [] => []
  | x :: xs => if x ∈ xs then nub xs else x :: nub xs

/-- Indices of the set bits below `n`, rising. -/
def setBits (n w : Nat) : List Nat := (List.range n).filter (natBit w)

/-- Divide a byte string into pieces of `k`; `fuel` bounds their number. -/
def piecesOf {α : Type} (k : Nat) : Nat → List α → List (List α)
  | 0, _ => []
  | _, [] => []
  | fuel + 1, bs => bs.take k :: piecesOf k fuel (bs.drop k)

def pieces {α : Type} (k : Nat) (bs : List α) : List (List α) := piecesOf k bs.length bs

/-- A bit string of `n` bits, most significant first. -/
def bitsMsb (n w : Nat) : List Bool := ((List.range n).map (natBit w)).reverse

/-- The value of bits, most significant first. -/
def ofBitsMsb (bs : List Bool) : Nat := bs.foldl (fun a b => 2 * a + b.toNat) 0

end Sys2Proof.Machine
end

