-- ==== Sys2Proof/Machine/Regs.lean ====
section
/-! DEFINITION. The register space (R7, R56): every register of the manual's register tables by name, its
address formula, access type, reset value and the bits a write can change (R8, R15). -/

namespace Sys2Proof.Machine

/-- Access types of Table 0-2. -/
inductive Access where
  | ro | roL | rwI | rwF | rwP | wo
  deriving DecidableEq, Repr

/-- The registers by name (R7). -/
inductive Reg where
  | DEVICE_ID | STEPPING | UNIT_SERIAL_LOW | UNIT_SERIAL_HIGH | BOARD_PRESENT | SYSTEM_STATE | SCRATCH
  | CGROUP_SELECT | COMMIT_CONTROL | COMMIT_PENDING | CGROUP_DIRTY | COMMIT_COUNT | COMMIT_STATUS
  | COMMIT_FC | FAN_STATUS | FAN_CONTROL | CHASSIS_TEMPERATURE | FRONT_PANEL_STATUS | FRONT_PANEL_CONTROL
  | SFP_STATUS | DP_POWER_STATUS | GPO_OVERLOAD | PATTERN_STATUS | PATTERN_SERIAL_ACTIVE
  | PATTERN_BUILD_LOW | PATTERN_BUILD_HIGH | PATTERN_CONTROL | PATTERN_RESULT | SLOT_PREFERENCE
  | SLOT_STATE | PATTERN_LOCK | SIG_POLICY | KEY_LOCK | OWNER_KEY_X | OWNER_KEY_Y | ADMIT_FETCH_DEMAND
  | ADMIT_NEEDLE_DEMAND | ADMIT_PRESHED_COUNT | LEDGER_ENTRY | LEDGER_STATUS | LEDGER_OVERFLOW_COUNT
  | LEDGER_GENERATION | LEDGER_CLASS_COUNT | LEDGER_CONTROL | RETIRE_QUEUE_STATUS | RETIRE_COUNT
  | VIOLATION_ADDR | VIOLATION_INFO | VIOLATION_COUNT | ROUTE_PUT | ROUTE_TAKE | ROUTE_STATE
  | ROUTE_DROP_COUNT | ROUTE_BAD_COUNT | ROUTE_CONFIG | ROUTE_BASE_LOW | ROUTE_BASE_HIGH | BALE_STAGE
  | ROUTE_POST | POST_RESULT | ROUTE_CONTROL | EVENT_RELEASE | EVENT_LOST_COUNT | FENCE_COUNT | STORE_MAP
  | STORE_RETIRE_THRESHOLD | STORE_SCRUB_PERIOD | STORE_CHANNEL_STATE | STORE_CE_COUNT | STORE_UE_COUNT
  | STORE_LAST_ERROR_LOW | STORE_LAST_ERROR_HIGH | STORE_CLASS_INFLIGHT | PORTER_CONFIG | PORTER_SRC_LOW
  | PORTER_SRC_HIGH | PORTER_DST_LOW | PORTER_DST_HIGH | PORTER_COUNT | PORTER_CTRL | PORTER_FILL_LOW
  | PORTER_FILL_HIGH | PORTER_PROG_BASE_LOW | PORTER_PROG_BASE_HIGH | PORTER_CONTROL | PORTER_STATUS
  | PORTER_DONE_COUNT | PORTER_BAD_COUNT | PORTER_FAULT_ADDR_LOW | PORTER_FAULT_ADDR_HIGH
  | PORTER_FAULT_INFO | PORTER_PC | PORTER_CHECK_RESULT | PORTER_COMPARE_OFFSET | SRC_CONFIG | SRC_BASE_LOW
  | SRC_BASE_HIGH | SRC_GROUP | SRC_FILTER | SRC_UDP_PORT | SRC_NET_FORMAT | SRC_NET_SIZE | SRC_STATE
  | SRC_RASTER | SRC_SDI_PAYLOAD | SRC_LAYOUT | SRC_STRIDE | SRC_FRAME_COUNT | SRC_DROP_COUNT
  | SRC_REPEAT_COUNT | SRC_CORRUPT_COUNT | SRC_OVERRUN_COUNT | SRC_CRC_ERROR_COUNT | SRC_PACKET_LOSS_COUNT
  | SRC_LATE_COUNT | SRC_FORMAT_MISMATCH_COUNT | SKEIN_CONFIG | SKEIN_BASE | SKEIN_PITCH | SKEIN_SRC_SIZE
  | SKEIN_SRC_ORIGIN | SKEIN_SRC_EXTENT | SKEIN_DST_ORIGIN | SKEIN_DST_EXTENT | SKEIN_REDUCED_BASE
  | SKEIN_REDUCED_PITCH | SKEIN_STANDIN | SKEIN_STANDIN_ALPHA | SKEIN_BLEND | SKEIN_LUMA_KEY
  | SKEIN_CHROMA_KEY | SKEIN_NEEDLE | SKEIN_CSC_CONTROL | SKEIN_CSC_COEF | SKEIN_STATUS | SKEIN_ACTIVE_BASE
  | SKEIN_RUNG | SKEIN_BAD_FETCH_COUNT | SKEIN_CLOSE_COUNT | NEEDLE_STATUS | NEEDLE_LOAD
  | NEEDLE_TEST_RESULT | NEEDLE_TEST_PASS_COUNT | NEEDLE_TEST_ABANDON_COUNT | NEEDLE_HCOEF | NEEDLE_VCOEF
  | NEEDLE_TEST_CONTROL | COLOUR_CONTROL | PQ_REF | COLOUR_PARITY_COUNT | OMATRIX_COEF | LUT_PORT_ADDR
  | LUT_PORT_DATA | EDGE_WIDTH | EDGE_GAMMA | FABRIC_BACKGROUND | FABRIC_FRAME_LOAD | FABRIC_PEAK_LINE
  | CKEY_CENTRE | CKEY_RADII | HEAD_TIMING_H | HEAD_TIMING_V | HEAD_DIVIDER | HEAD_DIVIDER_FRACTION
  | HEAD_FRAME_CONTROL | GAUGE_CONTROL | HEAD_STATUS | HEAD_FC | HEAD_LINE | GAUGE_LEAD | HEAD_CLOSE_COUNT
  | GAUGE_SHED_COUNT | GAUGE_RESTORE_COUNT | PORT_SELECT | DP_CONFIG | DP_STATUS | DP_RETRAIN_COUNT
  | SDI_OUT_CONFIG | SDI_OUT_STATUS | DP_EDID | WITNESS_CONTROL | WITNESS_EXPECT | WITNESS_TAG
  | WITNESS_STATUS | WITNESS_LAST_CRC | WITNESS_LAST_FC | WITNESS_MISMATCH_COUNT | RE_CONTEXT_CONTROL
  | RE_BIN_BASE_LOW | RE_BIN_BASE_HIGH | RE_BIN_SIZE | RE_BIN_GROW_LOW | RE_BIN_GROW_HIGH
  | RE_BIN_GROW_SIZE | RE_SPILL_BASE_LOW | RE_SPILL_BASE_HIGH | RE_SPILL_SIZE | RE_CONTEXT_STATUS
  | RE_BIN_USED | RE_FRAME_COUNT | RE_TILES_WRITTEN | RE_TILES_SKIPPED | RE_PARTIAL_COUNT | RE_GROW_COUNT
  | RE_TEXEL_FAULT_COUNT | RE_STATUS | RE_CORE_STATUS | RE_CORE_PASS_COUNT | RE_TEST_CONTROL | BE_OP
  | BE_DST_BASE | BE_SRC_BASE | BE_PITCH | BE_SRC_ORIGIN | BE_EXTENT | BE_DST_ORIGIN | BE_PLANE_HEIGHT
  | BE_FILL_LOW | BE_FILL_HIGH | BE_CLIP_ORIGIN | BE_CLIP_EXTENT | BE_CONTROL | BE_DEAD_TIME | BE_STATUS
  | BE_FAULT_ADDR_LOW | BE_FAULT_ADDR_HIGH | BE_OP_COUNT | BE_BAD_COUNT | BE_BYTES_LOW | BE_BYTES_HIGH
  | TB_LOW | TB_HIGH | TB_SOURCE | CMP_VALUE_LOW | CMP_VALUE_HIGH | CMP_PERIOD | CMP_CONFIG
  | CMP_BALE_ADDR_LOW | CMP_BALE_ADDR_HIGH | CMP_NEXT_LOW | CMP_NEXT_HIGH | CMP_MATCH_COUNT
  | CMP_BALE_FAULT_COUNT | CMP_STATUS | CNT_CONFIG | CNT_RELOAD | CNT_LOAD | CNT_VALUE | CNT_STATUS
  | CNT_WRAP_COUNT | GPI_STATE | GPIO_FUNCTION | GPO_CONTROL | GPO_STATE | NET_CONFIG | NET_VLAN
  | NET_ADDRESS | NET_NETMASK | NET_GATEWAY | NET_ADDRESS_IN_USE | NET_STATUS | NET_RX_COUNT | NET_TX_COUNT
  | NET_DISCARD_COUNT | NET_FCS_ERROR_COUNT | PURL_CONFIG | PURL_OWNER_ADDRESS | PURL_OWNER_PORT
  | PURL_OWNER_SESSION | PURL_BUSY_COUNT | PURL_MALFORMED_COUNT | PURL_AUTH_FAIL_COUNT
  | PURL_DUPLICATE_COUNT | PURL_CAPTURE_DISCARD_COUNT | CONSOLE_CONTROL | CONSOLE_IGNORED_COUNT
  | CONSOLE_MAP_ENABLE | CONSOLE_TRIGGER_ENABLE | CONSOLE_UNIVERSE_STATE | CONSOLE_VALUE | USB_PORT_DISABLE
  | USB_STATUS | CAPTURE_TIMEOUT | USB_CAPTURE_DISCARD_COUNT | USB_BUS_RESET_COUNT
  | USB_PARTIAL_DISCARD_COUNT | CARAVAN_STATUS | CARAVAN_PRIORITY_LOW | CARAVAN_PRIORITY_HIGH
  | CARAVAN_LEAD_LOW | CARAVAN_LEAD_HIGH | CARAVAN_CFN | CARAVAN_LOOP | CARAVAN_LINK_DELAY
  | CARAVAN_CHECK_ERROR_COUNT | CARAVAN_LEAD_CHANGE_COUNT | CARAVAN_IGNORED_COUNT | CARAVAN_PHASE_ERROR
  | CARAVAN_BARRIER_CFN | CARAVAN_BARRIER_COMMIT | CARAVAN_BARRIER_RESULT | CARAVAN_BARRIER_PENDING
  | CARAVAN_BARRIER_CANCEL | CARAVAN_BARRIER_SLOT_CFN | CARAVAN_BARRIER_SLOT_MASK | PSV_STATUS | PSU_STATUS
  | PSV_CONTROL | PSV_COMMAND | PSV_RESULT | POS | FIRST_FAILURE | SLAVE_STATUS | ACC_CONTROL | ACC_STATUS
  | MAINS_LOSS_COUNT | START_FAIL_COUNT | SYSTEM_RESET_COUNT | PFW_COUNT | THERMAL_TRIP_COUNT | RAIL_CONFIG
  | RAIL_LEVELS | RAIL_SEQUENCE | RAIL_STATUS | RAIL_COUNT_WARN | RAIL_COUNT_FAULT | RAIL_COUNT_RETRY
  | CLOCK_STATUS | RESET_CAUSE | RESET_CONTROL | BRINGUP_STATUS | WARM_RESET_COUNT | CLOCK_MEASURE
  | BRINGUP_TIME
  deriving DecidableEq, Repr

/-- One register's entry: address base + i × stride + j × stride', for i < count and j < count'. -/
structure RegRow where
  base    : Nat
  access  : Access
  reset   : Nat
  mask    : Nat
  count   : Nat
  stride  : Nat
  count'  : Nat
  stride' : Nat
  deriving DecidableEq, Repr

/-- The register tables of R55, R75, R95, R128, R144, R167, R188, R208, R226, R238, R261, R288, R309, R330,
R343, R368, R389 and R409. -/
def Reg.row : Reg → RegRow
  | .DEVICE_ID => ⟨0, .ro, 0x59570096, 0, 1, 4, 1, 4⟩
  | .STEPPING => ⟨4, .ro, 2, 0, 1, 4, 1, 4⟩
  | .UNIT_SERIAL_LOW => ⟨8, .ro, 0, 0, 1, 4, 1, 4⟩
  | .UNIT_SERIAL_HIGH => ⟨0xc, .ro, 0, 0, 1, 4, 1, 4⟩
  | .BOARD_PRESENT => ⟨0x10, .roL, 0, 0, 1, 4, 1, 4⟩
  | .SYSTEM_STATE => ⟨0x14, .roL, 0, 0, 1, 4, 1, 4⟩
  | .SCRATCH => ⟨0x18, .rwI, 0, 0xffffffff, 1, 4, 1, 4⟩
  | .CGROUP_SELECT => ⟨0x100, .rwI, 0, 0xf, 1, 4, 1, 4⟩
  | .COMMIT_CONTROL => ⟨0x104, .rwI, 0, 0xffff, 1, 4, 1, 4⟩
  | .COMMIT_PENDING => ⟨0x108, .roL, 0, 0, 1, 4, 1, 4⟩
  | .CGROUP_DIRTY => ⟨0x10c, .roL, 0, 0, 1, 4, 1, 4⟩
  | .COMMIT_COUNT => ⟨0x110, .roL, 0, 0, 1, 4, 1, 4⟩
  | .COMMIT_STATUS => ⟨0x200, .roL, 0, 0, 16, 8, 1, 4⟩
  | .COMMIT_FC => ⟨0x204, .roL, 0, 0, 16, 8, 1, 4⟩
  | .FAN_STATUS => ⟨0x1000, .roL, 0, 0, 5, 4, 1, 4⟩
  | .FAN_CONTROL => ⟨0x1020, .rwI, 0x1e, 0x1ff, 1, 4, 1, 4⟩
  | .CHASSIS_TEMPERATURE => ⟨0x1024, .roL, 0, 0, 1, 4, 1, 4⟩
  | .FRONT_PANEL_STATUS => ⟨0x1028, .roL, 0, 0, 1, 4, 1, 4⟩
  | .FRONT_PANEL_CONTROL => ⟨0x102c, .rwI, 0, 1, 1, 4, 1, 4⟩
  | .SFP_STATUS => ⟨0x1040, .roL, 0, 0, 2, 4, 1, 4⟩
  | .DP_POWER_STATUS => ⟨0x1050, .roL, 0, 0, 1, 4, 1, 4⟩
  | .GPO_OVERLOAD => ⟨0x1054, .roL, 0, 0, 1, 4, 1, 4⟩
  | .PATTERN_STATUS => ⟨0x100000, .roL, 0, 0, 1, 4, 1, 4⟩
  | .PATTERN_SERIAL_ACTIVE => ⟨0x100004, .roL, 0, 0, 1, 4, 1, 4⟩
  | .PATTERN_BUILD_LOW => ⟨0x100008, .roL, 0, 0, 1, 4, 1, 4⟩
  | .PATTERN_BUILD_HIGH => ⟨0x10000c, .roL, 0, 0, 1, 4, 1, 4⟩
  | .PATTERN_CONTROL => ⟨0x100010, .rwI, 0, 0x7f, 1, 4, 1, 4⟩
  | .PATTERN_RESULT => ⟨0x100014, .roL, 0, 0, 1, 4, 1, 4⟩
  | .SLOT_PREFERENCE => ⟨0x100018, .rwI, 0, 1, 1, 4, 1, 4⟩
  | .SLOT_STATE => ⟨0x10001c, .roL, 0, 0, 1, 4, 1, 4⟩
  | .PATTERN_LOCK => ⟨0x100020, .wo, 0, 1, 1, 4, 1, 4⟩
  | .SIG_POLICY => ⟨0x100024, .rwP, 0, 3, 1, 4, 1, 4⟩
  | .KEY_LOCK => ⟨0x100028, .wo, 0, 1, 1, 4, 1, 4⟩
  | .OWNER_KEY_X => ⟨0x100040, .rwP, 0, 0xffffffff, 8, 4, 1, 4⟩
  | .OWNER_KEY_Y => ⟨0x100060, .rwP, 0, 0xffffffff, 8, 4, 1, 4⟩
  | .ADMIT_FETCH_DEMAND => ⟨0x100100, .roL, 0, 0, 8, 0x10, 1, 4⟩
  | .ADMIT_NEEDLE_DEMAND => ⟨0x100104, .roL, 0, 0, 8, 0x10, 1, 4⟩
  | .ADMIT_PRESHED_COUNT => ⟨0x100108, .roL, 0, 0, 8, 0x10, 1, 4⟩
  | .LEDGER_ENTRY => ⟨0x200000, .roL, 0, 0, 64, 0x20, 8, 4⟩
  | .LEDGER_STATUS => ⟨0x201000, .roL, 0, 0, 1, 4, 1, 4⟩
  | .LEDGER_OVERFLOW_COUNT => ⟨0x201004, .roL, 0, 0, 1, 4, 1, 4⟩
  | .LEDGER_GENERATION => ⟨0x201008, .roL, 0, 0, 1, 4, 1, 4⟩
  | .LEDGER_CLASS_COUNT => ⟨0x201010, .roL, 0, 0, 4, 4, 1, 4⟩
  | .LEDGER_CONTROL => ⟨0x201020, .rwI, 0, 0xffff0001, 1, 4, 1, 4⟩
  | .RETIRE_QUEUE_STATUS => ⟨0x201030, .roL, 0, 0, 1, 4, 1, 4⟩
  | .RETIRE_COUNT => ⟨0x201034, .roL, 0, 0, 1, 4, 1, 4⟩
  | .VIOLATION_ADDR => ⟨0x208000, .roL, 0, 0, 1, 4, 1, 4⟩
  | .VIOLATION_INFO => ⟨0x208004, .roL, 0, 0, 1, 4, 1, 4⟩
  | .VIOLATION_COUNT => ⟨0x208008, .roL, 0, 0, 1, 4, 1, 4⟩
  | .ROUTE_PUT => ⟨0x300000, .roL, 0, 0, 16, 0x20, 1, 4⟩
  | .ROUTE_TAKE => ⟨0x300004, .roL, 0, 0, 16, 0x20, 1, 4⟩
  | .ROUTE_STATE => ⟨0x300008, .roL, 0, 0, 16, 0x20, 1, 4⟩
  | .ROUTE_DROP_COUNT => ⟨0x30000c, .roL, 0, 0, 16, 0x20, 1, 4⟩
  | .ROUTE_BAD_COUNT => ⟨0x300010, .roL, 0, 0, 16, 0x20, 1, 4⟩
  | .ROUTE_CONFIG => ⟨0x300014, .roL, 0, 0, 16, 0x20, 1, 4⟩
  | .ROUTE_BASE_LOW => ⟨0x300018, .roL, 0, 0, 16, 0x20, 1, 4⟩
  | .ROUTE_BASE_HIGH => ⟨0x30001c, .roL, 0, 0, 16, 0x20, 1, 4⟩
  | .BALE_STAGE => ⟨0x301000, .rwI, 0, 0xffffffff, 16, 4, 1, 4⟩
  | .ROUTE_POST => ⟨0x301040, .rwI, 0, 0xf, 1, 4, 1, 4⟩
  | .POST_RESULT => ⟨0x301044, .roL, 0, 0, 1, 4, 1, 4⟩
  | .ROUTE_CONTROL => ⟨0x301048, .rwI, 0, 0x1f, 1, 4, 1, 4⟩
  | .EVENT_RELEASE => ⟨0x30104c, .rwI, 0, 0x1fff, 1, 4, 1, 4⟩
  | .EVENT_LOST_COUNT => ⟨0x301050, .roL, 0, 0, 1, 4, 1, 4⟩
  | .FENCE_COUNT => ⟨0x301100, .rwI, 0, 0xffff, 32, 4, 1, 4⟩
  | .STORE_MAP => ⟨0x400000, .roL, 0, 0, 1, 4, 1, 4⟩
  | .STORE_RETIRE_THRESHOLD => ⟨0x400004, .rwP, 0x10, 0xffff, 1, 4, 1, 4⟩
  | .STORE_SCRUB_PERIOD => ⟨0x400008, .rwI, 8, 0xff, 1, 4, 1, 4⟩
  | .STORE_CHANNEL_STATE => ⟨0x400100, .roL, 0, 0, 8, 0x20, 1, 4⟩
  | .STORE_CE_COUNT => ⟨0x400104, .roL, 0, 0, 8, 0x20, 1, 4⟩
  | .STORE_UE_COUNT => ⟨0x400108, .roL, 0, 0, 8, 0x20, 1, 4⟩
  | .STORE_LAST_ERROR_LOW => ⟨0x40010c, .roL, 0, 0, 8, 0x20, 1, 4⟩
  | .STORE_LAST_ERROR_HIGH => ⟨0x400110, .roL, 0, 0, 8, 0x20, 1, 4⟩
  | .STORE_CLASS_INFLIGHT => ⟨0x400200, .roL, 0, 0, 6, 4, 1, 4⟩
  | .PORTER_CONFIG => ⟨0x500000, .rwF, 8, 0xf, 16, 0x100, 1, 4⟩
  | .PORTER_SRC_LOW => ⟨0x500004, .rwF, 0, 0xffffffff, 16, 0x100, 1, 4⟩
  | .PORTER_SRC_HIGH => ⟨0x500008, .rwF, 0, 0xf, 16, 0x100, 1, 4⟩
  | .PORTER_DST_LOW => ⟨0x50000c, .rwF, 0, 0xffffffff, 16, 0x100, 1, 4⟩
  | .PORTER_DST_HIGH => ⟨0x500010, .rwF, 0, 0xf, 16, 0x100, 1, 4⟩
  | .PORTER_COUNT => ⟨0x500014, .rwF, 0, 0xffffffff, 16, 0x100, 1, 4⟩
  | .PORTER_CTRL => ⟨0x500018, .rwF, 0, 0x13777, 16, 0x100, 1, 4⟩
  | .PORTER_FILL_LOW => ⟨0x50001c, .rwF, 0, 0xffffffff, 16, 0x100, 1, 4⟩
  | .PORTER_FILL_HIGH => ⟨0x500020, .rwF, 0, 0xffffffff, 16, 0x100, 1, 4⟩
  | .PORTER_PROG_BASE_LOW => ⟨0x500024, .rwF, 0, 0xffffffff, 16, 0x100, 1, 4⟩
  | .PORTER_PROG_BASE_HIGH => ⟨0x500028, .rwF, 0, 0xf, 16, 0x100, 1, 4⟩
  | .PORTER_CONTROL => ⟨0x50002c, .rwI, 0, 3, 16, 0x100, 1, 4⟩
  | .PORTER_STATUS => ⟨0x500030, .roL, 0, 0, 16, 0x100, 1, 4⟩
  | .PORTER_DONE_COUNT => ⟨0x500034, .roL, 0, 0, 16, 0x100, 1, 4⟩
  | .PORTER_BAD_COUNT => ⟨0x500038, .roL, 0, 0, 16, 0x100, 1, 4⟩
  | .PORTER_FAULT_ADDR_LOW => ⟨0x50003c, .roL, 0, 0, 16, 0x100, 1, 4⟩
  | .PORTER_FAULT_ADDR_HIGH => ⟨0x500040, .roL, 0, 0, 16, 0x100, 1, 4⟩
  | .PORTER_FAULT_INFO => ⟨0x500044, .roL, 0, 0, 16, 0x100, 1, 4⟩
  | .PORTER_PC => ⟨0x500048, .roL, 0, 0, 16, 0x100, 1, 4⟩
  | .PORTER_CHECK_RESULT => ⟨0x50004c, .roL, 0, 0, 16, 0x100, 1, 4⟩
  | .PORTER_COMPARE_OFFSET => ⟨0x500050, .roL, 0, 0, 16, 0x100, 1, 4⟩
  | .SRC_CONFIG => ⟨0x600000, .rwI, 0x36, 0xffff0037, 12, 0x100, 1, 4⟩
  | .SRC_BASE_LOW => ⟨0x600004, .rwI, 0, 0xffff0000, 12, 0x100, 1, 4⟩
  | .SRC_BASE_HIGH => ⟨0x600008, .rwI, 0, 7, 12, 0x100, 1, 4⟩
  | .SRC_GROUP => ⟨0x600010, .rwI, 0, 0xffffffff, 12, 0x100, 1, 4⟩
  | .SRC_FILTER => ⟨0x600014, .rwI, 0, 0xffffffff, 12, 0x100, 1, 4⟩
  | .SRC_UDP_PORT => ⟨0x600018, .rwI, 0, 0xffff, 12, 0x100, 1, 4⟩
  | .SRC_NET_FORMAT => ⟨0x60001c, .rwI, 0, 7, 12, 0x100, 1, 4⟩
  | .SRC_NET_SIZE => ⟨0x600020, .rwI, 0, 0xffffffff, 12, 0x100, 1, 4⟩
  | .SRC_STATE => ⟨0x600040, .roL, 0, 0, 12, 0x100, 1, 4⟩
  | .SRC_RASTER => ⟨0x600044, .roL, 0, 0, 12, 0x100, 1, 4⟩
  | .SRC_SDI_PAYLOAD => ⟨0x600048, .roL, 0, 0, 12, 0x100, 1, 4⟩
  | .SRC_LAYOUT => ⟨0x60004c, .roL, 0, 0, 12, 0x100, 1, 4⟩
  | .SRC_STRIDE => ⟨0x600050, .roL, 0, 0, 12, 0x100, 1, 4⟩
  | .SRC_FRAME_COUNT => ⟨0x600060, .roL, 0, 0, 12, 0x100, 1, 4⟩
  | .SRC_DROP_COUNT => ⟨0x600064, .roL, 0, 0, 12, 0x100, 1, 4⟩
  | .SRC_REPEAT_COUNT => ⟨0x600068, .roL, 0, 0, 12, 0x100, 1, 4⟩
  | .SRC_CORRUPT_COUNT => ⟨0x60006c, .roL, 0, 0, 12, 0x100, 1, 4⟩
  | .SRC_OVERRUN_COUNT => ⟨0x600070, .roL, 0, 0, 12, 0x100, 1, 4⟩
  | .SRC_CRC_ERROR_COUNT => ⟨0x600074, .roL, 0, 0, 12, 0x100, 1, 4⟩
  | .SRC_PACKET_LOSS_COUNT => ⟨0x600078, .roL, 0, 0, 12, 0x100, 1, 4⟩
  | .SRC_LATE_COUNT => ⟨0x60007c, .roL, 0, 0, 12, 0x100, 1, 4⟩
  | .SRC_FORMAT_MISMATCH_COUNT => ⟨0x600080, .roL, 0, 0, 12, 0x100, 1, 4⟩
  | .SKEIN_CONFIG => ⟨0x700000, .rwF, 0x20000, 0xf031f71, 96, 0x1000, 1, 4⟩
  | .SKEIN_BASE => ⟨0x700004, .rwF, 0, 0x7ffffff, 96, 0x1000, 1, 4⟩
  | .SKEIN_PITCH => ⟨0x700008, .rwF, 0, 0x3ff, 96, 0x1000, 1, 4⟩
  | .SKEIN_SRC_SIZE => ⟨0x70000c, .rwF, 0, 0xffffffff, 96, 0x1000, 1, 4⟩
  | .SKEIN_SRC_ORIGIN => ⟨0x700010, .rwF, 0, 0xffffffff, 96, 0x1000, 1, 4⟩
  | .SKEIN_SRC_EXTENT => ⟨0x700014, .rwF, 0, 0xffffffff, 96, 0x1000, 1, 4⟩
  | .SKEIN_DST_ORIGIN => ⟨0x700018, .rwF, 0, 0xffffffff, 96, 0x1000, 1, 4⟩
  | .SKEIN_DST_EXTENT => ⟨0x70001c, .rwF, 0, 0xffffffff, 96, 0x1000, 1, 4⟩
  | .SKEIN_REDUCED_BASE => ⟨0x700020, .rwF, 0, 0x87ffffff, 96, 0x1000, 1, 4⟩
  | .SKEIN_REDUCED_PITCH => ⟨0x700024, .rwF, 0, 0x3ff, 96, 0x1000, 1, 4⟩
  | .SKEIN_STANDIN => ⟨0x700028, .rwF, 0, 0x3fffffff, 96, 0x1000, 1, 4⟩
  | .SKEIN_STANDIN_ALPHA => ⟨0x70002c, .rwF, 0x3ff, 0x3ff, 96, 0x1000, 1, 4⟩
  | .SKEIN_BLEND => ⟨0x700100, .rwF, 0x3ff, 0xf3ff, 96, 0x1000, 1, 4⟩
  | .SKEIN_LUMA_KEY => ⟨0x700104, .rwF, 0x1000000, 0xcfff03ff, 96, 0x1000, 1, 4⟩
  | .SKEIN_CHROMA_KEY => ⟨0x700108, .rwF, 0, 0x8000000f, 96, 0x1000, 1, 4⟩
  | .SKEIN_NEEDLE => ⟨0x70010c, .rwF, 0, 0x3031f, 96, 0x1000, 1, 4⟩
  | .SKEIN_CSC_CONTROL => ⟨0x700110, .rwF, 0, 0x17, 96, 0x1000, 1, 4⟩
  | .SKEIN_CSC_COEF => ⟨0x700140, .rwF, 0, 0xffff, 96, 0x1000, 12, 4⟩
  | .SKEIN_STATUS => ⟨0x700200, .roL, 0, 0, 96, 0x1000, 1, 4⟩
  | .SKEIN_ACTIVE_BASE => ⟨0x700204, .roL, 0, 0, 96, 0x1000, 1, 4⟩
  | .SKEIN_RUNG => ⟨0x700208, .roL, 0, 0, 96, 0x1000, 1, 4⟩
  | .SKEIN_BAD_FETCH_COUNT => ⟨0x700210, .roL, 0, 0, 96, 0x1000, 1, 4⟩
  | .SKEIN_CLOSE_COUNT => ⟨0x700214, .roL, 0, 0, 96, 0x1000, 1, 4⟩
  | .NEEDLE_STATUS => ⟨0x800000, .roL, 0, 0, 32, 0x1000, 1, 4⟩
  | .NEEDLE_LOAD => ⟨0x800004, .roL, 0, 0, 32, 0x1000, 1, 4⟩
  | .NEEDLE_TEST_RESULT => ⟨0x800008, .roL, 0, 0, 32, 0x1000, 1, 4⟩
  | .NEEDLE_TEST_PASS_COUNT => ⟨0x80000c, .roL, 0, 0, 32, 0x1000, 1, 4⟩
  | .NEEDLE_TEST_ABANDON_COUNT => ⟨0x800010, .roL, 0, 0, 32, 0x1000, 1, 4⟩
  | .NEEDLE_HCOEF => ⟨0x800400, .rwF, 0, 0xffffffff, 32, 0x1000, 256, 4⟩
  | .NEEDLE_VCOEF => ⟨0x800800, .rwF, 0, 0xffffffff, 32, 0x1000, 192, 4⟩
  | .NEEDLE_TEST_CONTROL => ⟨0x820000, .rwI, 0xa01, 0xff01, 1, 4, 1, 4⟩
  | .COLOUR_CONTROL => ⟨0x840000, .rwF, 0, 0x7377, 8, 0x10000, 1, 4⟩
  | .PQ_REF => ⟨0x840004, .rwF, 0xcb, 0x3fff, 8, 0x10000, 1, 4⟩
  | .COLOUR_PARITY_COUNT => ⟨0x840008, .roL, 0, 0, 8, 0x10000, 1, 4⟩
  | .OMATRIX_COEF => ⟨0x840040, .rwF, 0, 0xffff, 8, 0x10000, 12, 4⟩
  | .LUT_PORT_ADDR => ⟨0x840100, .rwI, 0, 0x17ffff, 8, 0x10000, 1, 4⟩
  | .LUT_PORT_DATA => ⟨0x840104, .rwI, 0, 0xffff, 8, 0x10000, 1, 4⟩
  | .EDGE_WIDTH => ⟨0x840200, .rwF, 0, 0x7ff, 8, 0x10000, 4, 8⟩
  | .EDGE_GAMMA => ⟨0x840204, .rwF, 0x233, 0xfff, 8, 0x10000, 4, 8⟩
  | .FABRIC_BACKGROUND => ⟨0x900000, .rwF, 0, 0x3fffffff, 8, 0x40, 1, 4⟩
  | .FABRIC_FRAME_LOAD => ⟨0x900004, .roL, 0, 0, 8, 0x40, 1, 4⟩
  | .FABRIC_PEAK_LINE => ⟨0x900008, .roL, 0, 0, 8, 0x40, 1, 4⟩
  | .CKEY_CENTRE => ⟨0x900400, .rwF, 0, 0xfff0fff, 16, 0x10, 1, 4⟩
  | .CKEY_RADII => ⟨0x900404, .rwF, 0, 0xfff0fff, 16, 0x10, 1, 4⟩
  | .HEAD_TIMING_H => ⟨0xa00000, .roL, 0, 0, 8, 0x100, 1, 4⟩
  | .HEAD_TIMING_V => ⟨0xa00004, .roL, 0, 0, 8, 0x100, 1, 4⟩
  | .HEAD_DIVIDER => ⟨0xa00008, .roL, 0, 0, 8, 0x100, 1, 4⟩
  | .HEAD_DIVIDER_FRACTION => ⟨0xa0000c, .roL, 0, 0, 8, 0x100, 1, 4⟩
  | .HEAD_FRAME_CONTROL => ⟨0xa00010, .rwF, 8, 0x1fff003f, 8, 0x100, 1, 4⟩
  | .GAUGE_CONTROL => ⟨0xa00014, .rwF, 0x80020c04, 0x800f1f1f, 8, 0x100, 1, 4⟩
  | .HEAD_STATUS => ⟨0xa00020, .roL, 0, 0, 8, 0x100, 1, 4⟩
  | .HEAD_FC => ⟨0xa00024, .roL, 0, 0, 8, 0x100, 1, 4⟩
  | .HEAD_LINE => ⟨0xa00028, .roL, 0, 0, 8, 0x100, 1, 4⟩
  | .GAUGE_LEAD => ⟨0xa0002c, .roL, 0, 0, 8, 0x100, 1, 4⟩
  | .HEAD_CLOSE_COUNT => ⟨0xa00030, .roL, 0, 0, 8, 0x100, 1, 4⟩
  | .GAUGE_SHED_COUNT => ⟨0xa00034, .roL, 0, 0, 8, 0x100, 1, 4⟩
  | .GAUGE_RESTORE_COUNT => ⟨0xa00038, .roL, 0, 0, 8, 0x100, 1, 4⟩
  | .PORT_SELECT => ⟨0xb00000, .rwF, 0, 0x87, 8, 4, 1, 4⟩
  | .DP_CONFIG => ⟨0xb00100, .rwI, 0x234, 0x1337, 4, 0x100, 1, 4⟩
  | .DP_STATUS => ⟨0xb00104, .roL, 0, 0, 4, 0x100, 1, 4⟩
  | .DP_RETRAIN_COUNT => ⟨0xb00108, .roL, 0, 0, 4, 0x100, 1, 4⟩
  | .SDI_OUT_CONFIG => ⟨0xb00500, .rwF, 0, 1, 4, 0x10, 1, 4⟩
  | .SDI_OUT_STATUS => ⟨0xb00504, .roL, 0, 0, 4, 0x10, 1, 4⟩
  | .DP_EDID => ⟨0xb01000, .roL, 0, 0, 4, 0x200, 128, 4⟩
  | .WITNESS_CONTROL => ⟨0xb02000, .rwI, 0, 1, 8, 0x20, 1, 4⟩
  | .WITNESS_EXPECT => ⟨0xb02004, .rwI, 0, 0xffffffff, 8, 0x20, 1, 4⟩
  | .WITNESS_TAG => ⟨0xb02008, .rwI, 0, 0xffffffff, 8, 0x20, 1, 4⟩
  | .WITNESS_STATUS => ⟨0xb0200c, .roL, 0, 0, 8, 0x20, 1, 4⟩
  | .WITNESS_LAST_CRC => ⟨0xb02010, .roL, 0, 0, 8, 0x20, 1, 4⟩
  | .WITNESS_LAST_FC => ⟨0xb02014, .roL, 0, 0, 8, 0x20, 1, 4⟩
  | .WITNESS_MISMATCH_COUNT => ⟨0xb02018, .roL, 0, 0, 8, 0x20, 1, 4⟩
  | .RE_CONTEXT_CONTROL => ⟨0xc00000, .rwI, 0x280001, 0xffff0003, 4, 0x100, 1, 4⟩
  | .RE_BIN_BASE_LOW => ⟨0xc00004, .rwI, 0, 0xfffff000, 4, 0x100, 1, 4⟩
  | .RE_BIN_BASE_HIGH => ⟨0xc00008, .rwI, 0, 7, 4, 0x100, 1, 4⟩
  | .RE_BIN_SIZE => ⟨0xc0000c, .rwI, 0, 0xffffffff, 4, 0x100, 1, 4⟩
  | .RE_BIN_GROW_LOW => ⟨0xc00010, .rwI, 0, 0xfffff000, 4, 0x100, 1, 4⟩
  | .RE_BIN_GROW_HIGH => ⟨0xc00014, .rwI, 0, 7, 4, 0x100, 1, 4⟩
  | .RE_BIN_GROW_SIZE => ⟨0xc00018, .rwI, 0, 0xffffffff, 4, 0x100, 1, 4⟩
  | .RE_SPILL_BASE_LOW => ⟨0xc0001c, .rwI, 0, 0xfffff000, 4, 0x100, 1, 4⟩
  | .RE_SPILL_BASE_HIGH => ⟨0xc00020, .rwI, 0, 7, 4, 0x100, 1, 4⟩
  | .RE_SPILL_SIZE => ⟨0xc00024, .rwI, 0, 0xffffffff, 4, 0x100, 1, 4⟩
  | .RE_CONTEXT_STATUS => ⟨0xc00040, .roL, 0, 0, 4, 0x100, 1, 4⟩
  | .RE_BIN_USED => ⟨0xc00044, .roL, 0, 0, 4, 0x100, 1, 4⟩
  | .RE_FRAME_COUNT => ⟨0xc00048, .roL, 0, 0, 4, 0x100, 1, 4⟩
  | .RE_TILES_WRITTEN => ⟨0xc0004c, .roL, 0, 0, 4, 0x100, 1, 4⟩
  | .RE_TILES_SKIPPED => ⟨0xc00050, .roL, 0, 0, 4, 0x100, 1, 4⟩
  | .RE_PARTIAL_COUNT => ⟨0xc00054, .roL, 0, 0, 4, 0x100, 1, 4⟩
  | .RE_GROW_COUNT => ⟨0xc00058, .roL, 0, 0, 4, 0x100, 1, 4⟩
  | .RE_TEXEL_FAULT_COUNT => ⟨0xc0005c, .roL, 0, 0, 4, 0x100, 1, 4⟩
  | .RE_STATUS => ⟨0xc10000, .roL, 0, 0, 1, 4, 1, 4⟩
  | .RE_CORE_STATUS => ⟨0xc10100, .roL, 0, 0, 8, 0x10, 1, 4⟩
  | .RE_CORE_PASS_COUNT => ⟨0xc10104, .roL, 0, 0, 8, 0x10, 1, 4⟩
  | .RE_TEST_CONTROL => ⟨0xc10200, .rwI, 0xa01, 0xff01, 1, 4, 1, 4⟩
  | .BE_OP => ⟨0xd00000, .rwI, 0, 0xf0771, 1, 4, 1, 4⟩
  | .BE_DST_BASE => ⟨0xd00004, .rwI, 0, 0x7ffffff, 1, 4, 1, 4⟩
  | .BE_SRC_BASE => ⟨0xd00008, .rwI, 0, 0x7ffffff, 1, 4, 1, 4⟩
  | .BE_PITCH => ⟨0xd0000c, .rwI, 0, 0xffffffff, 1, 4, 1, 4⟩
  | .BE_SRC_ORIGIN => ⟨0xd00010, .rwI, 0, 0xffffffff, 1, 4, 1, 4⟩
  | .BE_EXTENT => ⟨0xd00014, .rwI, 0, 0xffffffff, 1, 4, 1, 4⟩
  | .BE_DST_ORIGIN => ⟨0xd00018, .rwI, 0, 0xffffffff, 1, 4, 1, 4⟩
  | .BE_PLANE_HEIGHT => ⟨0xd0001c, .rwI, 0, 0xffffffff, 1, 4, 1, 4⟩
  | .BE_FILL_LOW => ⟨0xd00020, .rwI, 0, 0xffffffff, 1, 4, 1, 4⟩
  | .BE_FILL_HIGH => ⟨0xd00024, .rwI, 0, 0xffffffff, 1, 4, 1, 4⟩
  | .BE_CLIP_ORIGIN => ⟨0xd00040, .rwI, 0, 0xffffffff, 8, 8, 1, 4⟩
  | .BE_CLIP_EXTENT => ⟨0xd00044, .rwI, 0, 0xffffffff, 8, 8, 1, 4⟩
  | .BE_CONTROL => ⟨0xd00080, .rwI, 0, 3, 1, 4, 1, 4⟩
  | .BE_DEAD_TIME => ⟨0xd00084, .rwI, 0, 0x3ff, 1, 4, 1, 4⟩
  | .BE_STATUS => ⟨0xd00088, .roL, 0, 0, 1, 4, 1, 4⟩
  | .BE_FAULT_ADDR_LOW => ⟨0xd0008c, .roL, 0, 0, 1, 4, 1, 4⟩
  | .BE_FAULT_ADDR_HIGH => ⟨0xd00090, .roL, 0, 0, 1, 4, 1, 4⟩
  | .BE_OP_COUNT => ⟨0xd00094, .roL, 0, 0, 1, 4, 1, 4⟩
  | .BE_BAD_COUNT => ⟨0xd00098, .roL, 0, 0, 1, 4, 1, 4⟩
  | .BE_BYTES_LOW => ⟨0xd0009c, .roL, 0, 0, 1, 4, 1, 4⟩
  | .BE_BYTES_HIGH => ⟨0xd000a0, .roL, 0, 0, 1, 4, 1, 4⟩
  | .TB_LOW => ⟨0xe00000, .roL, 0, 0, 1, 4, 1, 4⟩
  | .TB_HIGH => ⟨0xe00004, .roL, 0, 0, 1, 4, 1, 4⟩
  | .TB_SOURCE => ⟨0xe00008, .roL, 0, 0, 1, 4, 1, 4⟩
  | .CMP_VALUE_LOW => ⟨0xe01000, .rwI, 0, 0xffffffff, 32, 0x40, 1, 4⟩
  | .CMP_VALUE_HIGH => ⟨0xe01004, .rwI, 0, 0xffffffff, 32, 0x40, 1, 4⟩
  | .CMP_PERIOD => ⟨0xe01008, .rwI, 0, 0xffffffff, 32, 0x40, 1, 4⟩
  | .CMP_CONFIG => ⟨0xe0100c, .rwI, 0, 0xffff77ff, 32, 0x40, 1, 4⟩
  | .CMP_BALE_ADDR_LOW => ⟨0xe01010, .rwI, 0, 0xffffffc0, 32, 0x40, 1, 4⟩
  | .CMP_BALE_ADDR_HIGH => ⟨0xe01014, .rwI, 0, 7, 32, 0x40, 1, 4⟩
  | .CMP_NEXT_LOW => ⟨0xe01018, .roL, 0, 0, 32, 0x40, 1, 4⟩
  | .CMP_NEXT_HIGH => ⟨0xe0101c, .roL, 0, 0, 32, 0x40, 1, 4⟩
  | .CMP_MATCH_COUNT => ⟨0xe01020, .roL, 0, 0, 32, 0x40, 1, 4⟩
  | .CMP_BALE_FAULT_COUNT => ⟨0xe01024, .roL, 0, 0, 32, 0x40, 1, 4⟩
  | .CMP_STATUS => ⟨0xe01028, .roL, 0, 0, 32, 0x40, 1, 4⟩
  | .CNT_CONFIG => ⟨0xe02000, .rwI, 0, 0x1713, 8, 0x20, 1, 4⟩
  | .CNT_RELOAD => ⟨0xe02004, .rwF, 0, 0xffffffff, 8, 0x20, 1, 4⟩
  | .CNT_LOAD => ⟨0xe02008, .rwI, 0, 0xffffffff, 8, 0x20, 1, 4⟩
  | .CNT_VALUE => ⟨0xe0200c, .roL, 0, 0, 8, 0x20, 1, 4⟩
  | .CNT_STATUS => ⟨0xe02010, .roL, 0, 0, 8, 0x20, 1, 4⟩
  | .CNT_WRAP_COUNT => ⟨0xe02014, .roL, 0, 0, 8, 0x20, 1, 4⟩
  | .GPI_STATE => ⟨0xe03000, .roL, 0, 0, 1, 4, 1, 4⟩
  | .GPIO_FUNCTION => ⟨0xe03004, .roL, 0, 0, 1, 4, 1, 4⟩
  | .GPO_CONTROL => ⟨0xe03008, .rwI, 0, 0xff, 1, 4, 1, 4⟩
  | .GPO_STATE => ⟨0xe0300c, .roL, 0, 0, 1, 4, 1, 4⟩
  | .NET_CONFIG => ⟨0xf00000, .rwI, 0x10, 0x3f, 2, 0x100, 1, 4⟩
  | .NET_VLAN => ⟨0xf00004, .rwI, 0, 0x7fff, 2, 0x100, 1, 4⟩
  | .NET_ADDRESS => ⟨0xf00008, .rwI, 0, 0xffffffff, 2, 0x100, 1, 4⟩
  | .NET_NETMASK => ⟨0xf0000c, .rwI, 0, 0xffffffff, 2, 0x100, 1, 4⟩
  | .NET_GATEWAY => ⟨0xf00010, .rwI, 0, 0xffffffff, 2, 0x100, 1, 4⟩
  | .NET_ADDRESS_IN_USE => ⟨0xf00014, .roL, 0, 0, 2, 0x100, 1, 4⟩
  | .NET_STATUS => ⟨0xf00018, .roL, 0, 0, 2, 0x100, 1, 4⟩
  | .NET_RX_COUNT => ⟨0xf0001c, .roL, 0, 0, 2, 0x100, 1, 4⟩
  | .NET_TX_COUNT => ⟨0xf00020, .roL, 0, 0, 2, 0x100, 1, 4⟩
  | .NET_DISCARD_COUNT => ⟨0xf00024, .roL, 0, 0, 2, 0x100, 1, 4⟩
  | .NET_FCS_ERROR_COUNT => ⟨0xf00028, .roL, 0, 0, 2, 0x100, 1, 4⟩
  | .PURL_CONFIG => ⟨0xf01000, .rwI, 0x5221d24, 0x3f3fffff, 1, 4, 1, 4⟩
  | .PURL_OWNER_ADDRESS => ⟨0xf01004, .roL, 0, 0, 1, 4, 1, 4⟩
  | .PURL_OWNER_PORT => ⟨0xf01008, .roL, 0, 0, 1, 4, 1, 4⟩
  | .PURL_OWNER_SESSION => ⟨0xf0100c, .roL, 0, 0, 1, 4, 1, 4⟩
  | .PURL_BUSY_COUNT => ⟨0xf01010, .roL, 0, 0, 1, 4, 1, 4⟩
  | .PURL_MALFORMED_COUNT => ⟨0xf01014, .roL, 0, 0, 1, 4, 1, 4⟩
  | .PURL_AUTH_FAIL_COUNT => ⟨0xf01018, .roL, 0, 0, 1, 4, 1, 4⟩
  | .PURL_DUPLICATE_COUNT => ⟨0xf0101c, .roL, 0, 0, 1, 4, 1, 4⟩
  | .PURL_CAPTURE_DISCARD_COUNT => ⟨0xf01020, .roL, 0, 0, 1, 4, 1, 4⟩
  | .CONSOLE_CONTROL => ⟨0xf02000, .rwI, 0, 1, 1, 4, 1, 4⟩
  | .CONSOLE_IGNORED_COUNT => ⟨0xf02004, .roL, 0, 0, 1, 4, 1, 4⟩
  | .CONSOLE_MAP_ENABLE => ⟨0xf02040, .rwI, 0, 0xffffffff, 16, 4, 1, 4⟩
  | .CONSOLE_TRIGGER_ENABLE => ⟨0xf02080, .rwI, 0, 0xffffffff, 2, 4, 1, 4⟩
  | .CONSOLE_UNIVERSE_STATE => ⟨0xf02100, .roL, 0, 0, 64, 4, 1, 4⟩
  | .CONSOLE_VALUE => ⟨0xf02400, .roL, 0, 0, 512, 4, 1, 4⟩
  | .USB_PORT_DISABLE => ⟨0x1000000, .wo, 0, 1, 1, 4, 1, 4⟩
  | .USB_STATUS => ⟨0x1000004, .roL, 0, 0, 1, 4, 1, 4⟩
  | .CAPTURE_TIMEOUT => ⟨0x1000008, .rwI, 0x64, 0xffff, 1, 4, 1, 4⟩
  | .USB_CAPTURE_DISCARD_COUNT => ⟨0x100000c, .roL, 0, 0, 1, 4, 1, 4⟩
  | .USB_BUS_RESET_COUNT => ⟨0x1000010, .roL, 0, 0, 1, 4, 1, 4⟩
  | .USB_PARTIAL_DISCARD_COUNT => ⟨0x1000014, .roL, 0, 0, 1, 4, 1, 4⟩
  | .CARAVAN_STATUS => ⟨0x1100000, .roL, 0, 0, 1, 4, 1, 4⟩
  | .CARAVAN_PRIORITY_LOW => ⟨0x1100004, .roL, 0, 0, 1, 4, 1, 4⟩
  | .CARAVAN_PRIORITY_HIGH => ⟨0x1100008, .roL, 0, 0, 1, 4, 1, 4⟩
  | .CARAVAN_LEAD_LOW => ⟨0x110000c, .roL, 0, 0, 1, 4, 1, 4⟩
  | .CARAVAN_LEAD_HIGH => ⟨0x1100010, .roL, 0, 0, 1, 4, 1, 4⟩
  | .CARAVAN_CFN => ⟨0x1100014, .roL, 0, 0, 1, 4, 1, 4⟩
  | .CARAVAN_LOOP => ⟨0x1100018, .rwF, 0xc8, 0xff, 1, 4, 1, 4⟩
  | .CARAVAN_LINK_DELAY => ⟨0x1100020, .roL, 0, 0, 2, 4, 1, 4⟩
  | .CARAVAN_CHECK_ERROR_COUNT => ⟨0x1100028, .roL, 0, 0, 1, 4, 1, 4⟩
  | .CARAVAN_LEAD_CHANGE_COUNT => ⟨0x110002c, .roL, 0, 0, 1, 4, 1, 4⟩
  | .CARAVAN_IGNORED_COUNT => ⟨0x1100030, .roL, 0, 0, 1, 4, 1, 4⟩
  | .CARAVAN_PHASE_ERROR => ⟨0x1100100, .roL, 0, 0, 8, 4, 1, 4⟩
  | .CARAVAN_BARRIER_CFN => ⟨0x1100200, .rwI, 0, 0xffffffff, 1, 4, 1, 4⟩
  | .CARAVAN_BARRIER_COMMIT => ⟨0x1100204, .rwI, 0, 0xffff, 1, 4, 1, 4⟩
  | .CARAVAN_BARRIER_RESULT => ⟨0x1100208, .roL, 0, 0, 1, 4, 1, 4⟩
  | .CARAVAN_BARRIER_PENDING => ⟨0x110020c, .roL, 0, 0, 1, 4, 1, 4⟩
  | .CARAVAN_BARRIER_CANCEL => ⟨0x1100210, .rwI, 0, 0xff, 1, 4, 1, 4⟩
  | .CARAVAN_BARRIER_SLOT_CFN => ⟨0x1100240, .roL, 0, 0, 8, 8, 1, 4⟩
  | .CARAVAN_BARRIER_SLOT_MASK => ⟨0x1100244, .roL, 0, 0, 8, 8, 1, 4⟩
  | .PSV_STATUS => ⟨0x1200000, .roL, 0, 0, 1, 4, 1, 4⟩
  | .PSU_STATUS => ⟨0x1200004, .roL, 0, 0, 2, 4, 1, 4⟩
  | .PSV_CONTROL => ⟨0x1200010, .rwP, 0x3204, 0x3fff1f, 1, 4, 1, 4⟩
  | .PSV_COMMAND => ⟨0x1200014, .rwI, 0, 0x30f, 1, 4, 1, 4⟩
  | .PSV_RESULT => ⟨0x1200018, .roL, 0, 0, 1, 4, 1, 4⟩
  | .POS => ⟨0x120001c, .roL, 0, 0, 1, 4, 1, 4⟩
  | .FIRST_FAILURE => ⟨0x1200020, .roL, 0, 0, 8, 4, 1, 4⟩
  | .SLAVE_STATUS => ⟨0x1200040, .roL, 0, 0, 3, 4, 1, 4⟩
  | .ACC_CONTROL => ⟨0x1200050, .rwI, 0, 3, 1, 4, 1, 4⟩
  | .ACC_STATUS => ⟨0x1200054, .roL, 0, 0, 1, 4, 1, 4⟩
  | .MAINS_LOSS_COUNT => ⟨0x1200060, .roL, 0, 0, 1, 4, 1, 4⟩
  | .START_FAIL_COUNT => ⟨0x1200064, .roL, 0, 0, 1, 4, 1, 4⟩
  | .SYSTEM_RESET_COUNT => ⟨0x1200068, .roL, 0, 0, 1, 4, 1, 4⟩
  | .PFW_COUNT => ⟨0x120006c, .roL, 0, 0, 1, 4, 1, 4⟩
  | .THERMAL_TRIP_COUNT => ⟨0x1200070, .roL, 0, 0, 1, 4, 1, 4⟩
  | .RAIL_CONFIG => ⟨0x1200100, .rwP, 0, 0x77, 16, 0x20, 1, 4⟩
  | .RAIL_LEVELS => ⟨0x1200104, .rwP, 0x28142814, 0xffffffff, 16, 0x20, 1, 4⟩
  | .RAIL_SEQUENCE => ⟨0x1200108, .rwP, 0, 0x3fffffff, 16, 0x20, 1, 4⟩
  | .RAIL_STATUS => ⟨0x120010c, .roL, 0, 0, 16, 0x20, 1, 4⟩
  | .RAIL_COUNT_WARN => ⟨0x1200110, .roL, 0, 0, 16, 0x20, 1, 4⟩
  | .RAIL_COUNT_FAULT => ⟨0x1200114, .roL, 0, 0, 16, 0x20, 1, 4⟩
  | .RAIL_COUNT_RETRY => ⟨0x1200118, .roL, 0, 0, 16, 0x20, 1, 4⟩
  | .CLOCK_STATUS => ⟨0x1300000, .roL, 0, 0, 1, 4, 1, 4⟩
  | .RESET_CAUSE => ⟨0x1300004, .roL, 0, 0, 1, 4, 1, 4⟩
  | .RESET_CONTROL => ⟨0x1300008, .rwI, 0, 0xffff0001, 1, 4, 1, 4⟩
  | .BRINGUP_STATUS => ⟨0x130000c, .roL, 0, 0, 1, 4, 1, 4⟩
  | .WARM_RESET_COUNT => ⟨0x1300010, .roL, 0, 0, 1, 4, 1, 4⟩
  | .CLOCK_MEASURE => ⟨0x1300020, .roL, 0, 0, 6, 4, 1, 4⟩
  | .BRINGUP_TIME => ⟨0x1300040, .roL, 0, 0, 5, 4, 1, 4⟩

/-- The registers of each 1 MiB window (R56, Table 3-1). -/
def regsIn : Nat → List Reg
  | 0 =>
    [.DEVICE_ID, .STEPPING, .UNIT_SERIAL_LOW, .UNIT_SERIAL_HIGH, .BOARD_PRESENT, .SYSTEM_STATE, .SCRATCH,
     .CGROUP_SELECT, .COMMIT_CONTROL, .COMMIT_PENDING, .CGROUP_DIRTY, .COMMIT_COUNT, .COMMIT_STATUS,
     .COMMIT_FC, .FAN_STATUS, .FAN_CONTROL, .CHASSIS_TEMPERATURE, .FRONT_PANEL_STATUS,
     .FRONT_PANEL_CONTROL, .SFP_STATUS, .DP_POWER_STATUS, .GPO_OVERLOAD]
  | 1 =>
    [.PATTERN_STATUS, .PATTERN_SERIAL_ACTIVE, .PATTERN_BUILD_LOW, .PATTERN_BUILD_HIGH, .PATTERN_CONTROL,
     .PATTERN_RESULT, .SLOT_PREFERENCE, .SLOT_STATE, .PATTERN_LOCK, .SIG_POLICY, .KEY_LOCK, .OWNER_KEY_X,
     .OWNER_KEY_Y, .ADMIT_FETCH_DEMAND, .ADMIT_NEEDLE_DEMAND, .ADMIT_PRESHED_COUNT]
  | 2 =>
    [.LEDGER_ENTRY, .LEDGER_STATUS, .LEDGER_OVERFLOW_COUNT, .LEDGER_GENERATION, .LEDGER_CLASS_COUNT,
     .LEDGER_CONTROL, .RETIRE_QUEUE_STATUS, .RETIRE_COUNT, .VIOLATION_ADDR, .VIOLATION_INFO,
     .VIOLATION_COUNT]
  | 3 =>
    [.ROUTE_PUT, .ROUTE_TAKE, .ROUTE_STATE, .ROUTE_DROP_COUNT, .ROUTE_BAD_COUNT, .ROUTE_CONFIG,
     .ROUTE_BASE_LOW, .ROUTE_BASE_HIGH, .BALE_STAGE, .ROUTE_POST, .POST_RESULT, .ROUTE_CONTROL,
     .EVENT_RELEASE, .EVENT_LOST_COUNT, .FENCE_COUNT]
  | 4 =>
    [.STORE_MAP, .STORE_RETIRE_THRESHOLD, .STORE_SCRUB_PERIOD, .STORE_CHANNEL_STATE, .STORE_CE_COUNT,
     .STORE_UE_COUNT, .STORE_LAST_ERROR_LOW, .STORE_LAST_ERROR_HIGH, .STORE_CLASS_INFLIGHT]
  | 5 =>
    [.PORTER_CONFIG, .PORTER_SRC_LOW, .PORTER_SRC_HIGH, .PORTER_DST_LOW, .PORTER_DST_HIGH, .PORTER_COUNT,
     .PORTER_CTRL, .PORTER_FILL_LOW, .PORTER_FILL_HIGH, .PORTER_PROG_BASE_LOW, .PORTER_PROG_BASE_HIGH,
     .PORTER_CONTROL, .PORTER_STATUS, .PORTER_DONE_COUNT, .PORTER_BAD_COUNT, .PORTER_FAULT_ADDR_LOW,
     .PORTER_FAULT_ADDR_HIGH, .PORTER_FAULT_INFO, .PORTER_PC, .PORTER_CHECK_RESULT, .PORTER_COMPARE_OFFSET]
  | 6 =>
    [.SRC_CONFIG, .SRC_BASE_LOW, .SRC_BASE_HIGH, .SRC_GROUP, .SRC_FILTER, .SRC_UDP_PORT, .SRC_NET_FORMAT,
     .SRC_NET_SIZE, .SRC_STATE, .SRC_RASTER, .SRC_SDI_PAYLOAD, .SRC_LAYOUT, .SRC_STRIDE, .SRC_FRAME_COUNT,
     .SRC_DROP_COUNT, .SRC_REPEAT_COUNT, .SRC_CORRUPT_COUNT, .SRC_OVERRUN_COUNT, .SRC_CRC_ERROR_COUNT,
     .SRC_PACKET_LOSS_COUNT, .SRC_LATE_COUNT, .SRC_FORMAT_MISMATCH_COUNT]
  | 7 =>
    [.SKEIN_CONFIG, .SKEIN_BASE, .SKEIN_PITCH, .SKEIN_SRC_SIZE, .SKEIN_SRC_ORIGIN, .SKEIN_SRC_EXTENT,
     .SKEIN_DST_ORIGIN, .SKEIN_DST_EXTENT, .SKEIN_REDUCED_BASE, .SKEIN_REDUCED_PITCH, .SKEIN_STANDIN,
     .SKEIN_STANDIN_ALPHA, .SKEIN_BLEND, .SKEIN_LUMA_KEY, .SKEIN_CHROMA_KEY, .SKEIN_NEEDLE,
     .SKEIN_CSC_CONTROL, .SKEIN_CSC_COEF, .SKEIN_STATUS, .SKEIN_ACTIVE_BASE, .SKEIN_RUNG,
     .SKEIN_BAD_FETCH_COUNT, .SKEIN_CLOSE_COUNT]
  | 8 =>
    [.NEEDLE_STATUS, .NEEDLE_LOAD, .NEEDLE_TEST_RESULT, .NEEDLE_TEST_PASS_COUNT,
     .NEEDLE_TEST_ABANDON_COUNT, .NEEDLE_HCOEF, .NEEDLE_VCOEF, .NEEDLE_TEST_CONTROL, .COLOUR_CONTROL,
     .PQ_REF, .COLOUR_PARITY_COUNT, .OMATRIX_COEF, .LUT_PORT_ADDR, .LUT_PORT_DATA, .EDGE_WIDTH, .EDGE_GAMMA]
  | 9 =>
    [.FABRIC_BACKGROUND, .FABRIC_FRAME_LOAD, .FABRIC_PEAK_LINE, .CKEY_CENTRE, .CKEY_RADII]
  | 10 =>
    [.HEAD_TIMING_H, .HEAD_TIMING_V, .HEAD_DIVIDER, .HEAD_DIVIDER_FRACTION, .HEAD_FRAME_CONTROL,
     .GAUGE_CONTROL, .HEAD_STATUS, .HEAD_FC, .HEAD_LINE, .GAUGE_LEAD, .HEAD_CLOSE_COUNT, .GAUGE_SHED_COUNT,
     .GAUGE_RESTORE_COUNT]
  | 11 =>
    [.PORT_SELECT, .DP_CONFIG, .DP_STATUS, .DP_RETRAIN_COUNT, .SDI_OUT_CONFIG, .SDI_OUT_STATUS, .DP_EDID,
     .WITNESS_CONTROL, .WITNESS_EXPECT, .WITNESS_TAG, .WITNESS_STATUS, .WITNESS_LAST_CRC, .WITNESS_LAST_FC,
     .WITNESS_MISMATCH_COUNT]
  | 12 =>
    [.RE_CONTEXT_CONTROL, .RE_BIN_BASE_LOW, .RE_BIN_BASE_HIGH, .RE_BIN_SIZE, .RE_BIN_GROW_LOW,
     .RE_BIN_GROW_HIGH, .RE_BIN_GROW_SIZE, .RE_SPILL_BASE_LOW, .RE_SPILL_BASE_HIGH, .RE_SPILL_SIZE,
     .RE_CONTEXT_STATUS, .RE_BIN_USED, .RE_FRAME_COUNT, .RE_TILES_WRITTEN, .RE_TILES_SKIPPED,
     .RE_PARTIAL_COUNT, .RE_GROW_COUNT, .RE_TEXEL_FAULT_COUNT, .RE_STATUS, .RE_CORE_STATUS,
     .RE_CORE_PASS_COUNT, .RE_TEST_CONTROL]
  | 13 =>
    [.BE_OP, .BE_DST_BASE, .BE_SRC_BASE, .BE_PITCH, .BE_SRC_ORIGIN, .BE_EXTENT, .BE_DST_ORIGIN,
     .BE_PLANE_HEIGHT, .BE_FILL_LOW, .BE_FILL_HIGH, .BE_CLIP_ORIGIN, .BE_CLIP_EXTENT, .BE_CONTROL,
     .BE_DEAD_TIME, .BE_STATUS, .BE_FAULT_ADDR_LOW, .BE_FAULT_ADDR_HIGH, .BE_OP_COUNT, .BE_BAD_COUNT,
     .BE_BYTES_LOW, .BE_BYTES_HIGH]
  | 14 =>
    [.TB_LOW, .TB_HIGH, .TB_SOURCE, .CMP_VALUE_LOW, .CMP_VALUE_HIGH, .CMP_PERIOD, .CMP_CONFIG,
     .CMP_BALE_ADDR_LOW, .CMP_BALE_ADDR_HIGH, .CMP_NEXT_LOW, .CMP_NEXT_HIGH, .CMP_MATCH_COUNT,
     .CMP_BALE_FAULT_COUNT, .CMP_STATUS, .CNT_CONFIG, .CNT_RELOAD, .CNT_LOAD, .CNT_VALUE, .CNT_STATUS,
     .CNT_WRAP_COUNT, .GPI_STATE, .GPIO_FUNCTION, .GPO_CONTROL, .GPO_STATE]
  | 15 =>
    [.NET_CONFIG, .NET_VLAN, .NET_ADDRESS, .NET_NETMASK, .NET_GATEWAY, .NET_ADDRESS_IN_USE, .NET_STATUS,
     .NET_RX_COUNT, .NET_TX_COUNT, .NET_DISCARD_COUNT, .NET_FCS_ERROR_COUNT, .PURL_CONFIG,
     .PURL_OWNER_ADDRESS, .PURL_OWNER_PORT, .PURL_OWNER_SESSION, .PURL_BUSY_COUNT, .PURL_MALFORMED_COUNT,
     .PURL_AUTH_FAIL_COUNT, .PURL_DUPLICATE_COUNT, .PURL_CAPTURE_DISCARD_COUNT, .CONSOLE_CONTROL,
     .CONSOLE_IGNORED_COUNT, .CONSOLE_MAP_ENABLE, .CONSOLE_TRIGGER_ENABLE, .CONSOLE_UNIVERSE_STATE,
     .CONSOLE_VALUE]
  | 16 =>
    [.USB_PORT_DISABLE, .USB_STATUS, .CAPTURE_TIMEOUT, .USB_CAPTURE_DISCARD_COUNT, .USB_BUS_RESET_COUNT,
     .USB_PARTIAL_DISCARD_COUNT]
  | 17 =>
    [.CARAVAN_STATUS, .CARAVAN_PRIORITY_LOW, .CARAVAN_PRIORITY_HIGH, .CARAVAN_LEAD_LOW, .CARAVAN_LEAD_HIGH,
     .CARAVAN_CFN, .CARAVAN_LOOP, .CARAVAN_LINK_DELAY, .CARAVAN_CHECK_ERROR_COUNT,
     .CARAVAN_LEAD_CHANGE_COUNT, .CARAVAN_IGNORED_COUNT, .CARAVAN_PHASE_ERROR, .CARAVAN_BARRIER_CFN,
     .CARAVAN_BARRIER_COMMIT, .CARAVAN_BARRIER_RESULT, .CARAVAN_BARRIER_PENDING, .CARAVAN_BARRIER_CANCEL,
     .CARAVAN_BARRIER_SLOT_CFN, .CARAVAN_BARRIER_SLOT_MASK]
  | 18 =>
    [.PSV_STATUS, .PSU_STATUS, .PSV_CONTROL, .PSV_COMMAND, .PSV_RESULT, .POS, .FIRST_FAILURE,
     .SLAVE_STATUS, .ACC_CONTROL, .ACC_STATUS, .MAINS_LOSS_COUNT, .START_FAIL_COUNT, .SYSTEM_RESET_COUNT,
     .PFW_COUNT, .THERMAL_TRIP_COUNT, .RAIL_CONFIG, .RAIL_LEVELS, .RAIL_SEQUENCE, .RAIL_STATUS,
     .RAIL_COUNT_WARN, .RAIL_COUNT_FAULT, .RAIL_COUNT_RETRY]
  | 19 =>
    [.CLOCK_STATUS, .RESET_CAUSE, .RESET_CONTROL, .BRINGUP_STATUS, .WARM_RESET_COUNT, .CLOCK_MEASURE,
     .BRINGUP_TIME]
  | _ => []

/-- The indices of `a` within a register's row. -/
def RegRow.index (r : RegRow) (a : Nat) : Option (Nat × Nat) :=
  if a < r.base then none
  else
    let d := a - r.base
    let i := if r.count = 1 then 0 else d / r.stride
    let e := d - i * r.stride
    let j := if r.count' = 1 then 0 else e / r.stride'
    if i < r.count ∧ j < r.count' ∧ e = j * r.stride' then some (i, j) else none

def findReg : List Reg → Nat → Option (Reg × Nat × Nat)
  | [], _ => none
  | r :: rs, a =>
    match r.row.index a with
    | some (i, j) => some (r, i, j)
    | none => findReg rs a

/-- The register at an address, with its indices; none where the space is unmapped (R16, R56). -/
def regAt (a : Nat) : Option (Reg × Nat × Nat) := findReg (regsIn (a / 0x100000)) a

/-- Address of a register by its indices (R7). -/
def Reg.addr (r : Reg) (i : Nat := 0) (j : Nat := 0) : Nat :=
  r.row.base + i * r.row.stride + j * r.row.stride'

/-- RAIL_CONFIG as shipped (R415, Table 17-12). -/
def railConfigReset : Nat → Nat
  | 0 => 0x33
  | 1 => 0x33
  | 2 => 0x33
  | 3 => 0x33
  | 4 => 0x33
  | 5 => 0x33
  | 6 => 0x32
  | 7 => 0x36
  | 8 => 0x36
  | 9 => 0x32
  | 10 => 0x36
  | 11 => 0x31
  | 12 => 0x36
  | 13 => 0x30
  | 14 => 0x32
  | 15 => 0x32
  | _ => 0

/-- RAIL_SEQUENCE as shipped (R415, Table 17-12); the words of rails 14 and 15 are the table's (log 6). -/
def railSequenceReset : Nat → Nat
  | 0 => 0x14081600
  | 1 => 0x70418
  | 2 => 0x6041e
  | 3 => 0x50424
  | 4 => 0x4042a
  | 5 => 0x30430
  | 6 => 0x10021236
  | 7 => 0x44a
  | 8 => 0x450
  | 9 => 0xa010c56
  | 10 => 0x464
  | 11 => 0xa010c6a
  | 12 => 0x478
  | 13 => 0x0
  | 14 => 0x14001600
  | 15 => 0x14001600
  | _ => 0

/-- Reset value of a register (R8; the identity matrices of R188; Tables 17-1 and 17-12). -/
def Reg.resetValue (r : Reg) (i j : Nat) : Word :=
  match r with
  | .SKEIN_CSC_COEF => if j = 0 ∨ j = 5 ∨ j = 10 then 0x1000 else 0
  | .OMATRIX_COEF => if j = 0 ∨ j = 5 ∨ j = 10 then 0x1000 else 0
  | .RAIL_CONFIG => BitVec.ofNat 32 (railConfigReset i)
  | .RAIL_SEQUENCE => BitVec.ofNat 32 (railSequenceReset i)
  | _ => BitVec.ofNat 32 r.row.reset

end Sys2Proof.Machine
end

