-- ==== Sys2Proof/Machine/Map.lean ====
section
/-! DEFINITION. Sparse maps in one canonical form: strictly rising keys, no entry equal to what an unlisted key
reads as. -/

namespace Sys2Proof.Machine

/-- The value at a key; `d` where the key is not listed. -/
def mapGet {α : Type} (d : α) : SMap α → Nat → α
  | [], _ => d
  | (k, v) :: m, i => if k = i then v else mapGet d m i

/-- Insert into a rising list, before the first larger key. -/
def mapInsert {α : Type} (i : Nat) (x : α) : SMap α → SMap α
  | [] => [(i, x)]
  | (k, v) :: m => if i < k then (i, x) :: (k, v) :: m else if i = k then (i, x) :: m
      else (k, v) :: mapInsert i x m

def mapErase {α : Type} (i : Nat) : SMap α → SMap α
  | [] => []
  | (k, v) :: m => if k = i then mapErase i m else (k, v) :: mapErase i m

/-- Write a key, keeping the canonical form. -/
def mapSet {α : Type} [DecidableEq α] (d : α) (m : SMap α) (i : Nat) (x : α) : SMap α :=
  if x = d then mapErase i m else mapInsert i x m

def mapUpdate {α : Type} [DecidableEq α] (d : α) (m : SMap α) (i : Nat) (f : α → α) : SMap α :=
  mapSet d m i (f (mapGet d m i))

/-- The canonical form: keys rise strictly above `lo`, and no value is the default. -/
def mapWf {α : Type} [DecidableEq α] (d : α) : SMap α → Bool
  | [] => true
  | [(_, v)] => decide (v ≠ d)
  | (k, v) :: (k', v') :: m => decide (v ≠ d) && decide (k < k') && mapWf d ((k', v') :: m)

end Sys2Proof.Machine
end

