-- ==== Sys2Proof/Machine/Types.lean ====
section
/-! DEFINITION. The records that State is made of, block by block. Plain data. -/

namespace Sys2Proof.Machine

/-! ### Pattern records (Table 2-2) -/

structure HeadRec where
  head       : Nat
  gang       : Nat
  connector  : Nat
  syncFlags  : Nat
  hActive    : Nat
  hTotal     : Nat
  vActive    : Nat
  vTotal     : Nat
  hSyncStart : Nat
  hSyncWidth : Nat
  vSyncStart : Nat
  vSyncWidth : Nat
  divN       : Nat
  /-- Bytes 21 to 23, reserved: R51 compares them too. -/
  reserved   : Nat
  divF       : Nat
  deriving DecidableEq, Repr, Inhabited

structure SkeinRec where
  skein : Nat
  head  : Nat
  stack : Nat
  flags : Nat
  deriving DecidableEq, Repr, Inhabited

structure NeedleRec where
  head : Nat
  mask : Nat
  deriving DecidableEq, Repr, Inhabited

structure ColourRec where
  head       : Nat
  stages     : Nat
  chromaKeys : Nat
  deriving DecidableEq, Repr, Inhabited

structure RouteRec where
  route     : Nat
  consumer  : Nat
  depthLog2 : Nat
  ringBase  : Nat
  deriving DecidableEq, Repr, Inhabited

structure RegionRec where
  kind : Nat
  size : Nat
  base : Nat
  deriving DecidableEq, Repr, Inhabited

structure CaravanRec where
  role     : Nat
  priority : Nat
  deriving DecidableEq, Repr, Inhabited

structure UniverseRec where
  universe'  : Nat
  paths      : Nat
  multicast  : Nat
  deriving DecidableEq, Repr, Inhabited

structure MapRec where
  universeIndex : Nat
  width         : Nat
  slot          : Nat
  skein         : Nat
  parameter     : Nat
  minimum       : Int
  maximum       : Int
  deriving DecidableEq, Repr, Inhabited

structure TriggerRec where
  universeIndex : Nat
  route         : Nat
  slot          : Nat
  threshold     : Nat
  bale          : Bale
  deriving DecidableEq, Repr, Inhabited

structure GpioRec where
  pin      : Nat
  function : Nat
  deriving DecidableEq, Repr, Inhabited

structure BudgetRec where
  head       : Nat
  fabricPix  : Nat
  fetchBytes : Nat
  needlePix  : Nat
  deriving DecidableEq, Repr, Inhabited

structure InitRec where
  addr  : Nat
  value : Word
  deriving DecidableEq, Repr, Inhabited

/-- A pattern taken apart (R33 to R37). -/
structure Pattern where
  serial    : Word
  buildId   : BitVec 64
  autoLock  : Bool
  heads     : List HeadRec
  skeins    : List SkeinRec
  needles   : List NeedleRec
  colours   : List ColourRec
  routes    : List RouteRec
  regions   : List RegionRec
  caravan   : List CaravanRec
  universes : List UniverseRec
  maps      : List MapRec
  triggers  : List TriggerRec
  gpio      : List GpioRec
  budgets   : List BudgetRec
  init      : List InitRec
  deriving DecidableEq, Repr, Inhabited

/-- The kind of a pattern operation; the codes of the PATTERN event's OPERATION are 1, 2 and 3. -/
inductive PatOpKind where
  | load | program | powerOn
  deriving DecidableEq, Repr, Inhabited

/-- A pattern operation in progress (R41, R43): source 0 staging, 1 slot A, 2 slot B. -/
structure PatOp where
  kind    : PatOpKind
  source  : Nat
  target  : Nat
  policy  : Nat
  keyX    : Nat
  keyY    : Nat
  /-- The channel list the load builds at its start (R98). -/
  map     : List Nat
  deriving DecidableEq, Repr, Inhabited

/-- A restitch waiting for bind-offs (R50). -/
structure Restitch where
  kind      : PatOpKind
  pattern   : Pattern
  source    : Nat
  /-- Heads of either pattern that have not switched. -/
  waiting   : List Nat
  /-- The sections not tied to a head have switched. -/
  switched  : Bool
  /-- The channel list of the load, when it differs from the running one (R108). -/
  newMap    : Option (List Nat)
  /-- The units that failed the load's tests (R403). -/
  check     : LoadCheck
  deriving DecidableEq, Repr, Inhabited

/-- A flash slot: the bytes programmed; bytes beyond them read 0xFF (R298). -/
structure SlotSt where
  bytes : List Byte
  deriving DecidableEq, Repr, Inhabited

structure PatternSt where
  running    : Option Pattern
  source     : Nat
  op         : Option PatOp
  restitch   : Option Restitch
  /-- A zero fill of the Store is under way (R108, R376 step 7). -/
  filling    : Bool
  code       : Nat
  sect   : Nat
  slotA      : SlotSt
  slotB      : SlotSt
  fallback   : Bool
  lockWritten    : Bool
  lock           : Bool
  keyLockWritten : Bool
  keyLock        : Bool
  deriving DecidableEq, Repr, Inhabited

/-! ### Commit groups (R65 to R75) and admission (R45 to R47) -/

/-- A commit-bound register whose shadow waits: its group (16 for INIT values of a power-on load), and the
serial of the COMMIT that made it pending, if one has. -/
structure Dirty where
  group  : Nat
  serial : Option Nat
  deriving DecidableEq, Repr, Inhabited

/-- STATE codes of COMMIT_STATUS: 0 idle, 1 PENDING, 2 DONE, 3 DISCARDED. -/
structure Group where
  state   : Nat
  /-- A COMMIT of a group without dirty fields waits on the reference head alone (R66). -/
  onRef   : Bool
  refHead : Nat
  fc      : Word
  /-- Serial of the group's last COMMIT. -/
  serial  : Nat
  /-- Some head has transferred its part of the present commit; without any, R52 records DISCARDED. -/
  carried : Bool
  deriving DecidableEq, Repr, Inhabited

/-- One enabled skein's part in the admission computation (Table 2-5): bytes at P0, needle pixels. -/
structure SkeinDemand where
  skein       : Nat
  bytes       : Nat
  wDst        : Nat
  usesNeedle  : Bool
  rank        : Nat
  floor       : Nat
  hasReduced  : Bool
  /-- Width, height and format of the ingest buffer the computation used (R46); none for a memory source
  or a source without a valid frame. -/
  source      : Option (Nat × Nat × Nat)
  deriving DecidableEq, Repr, Inhabited

/-- A head's committed demand (R45). -/
structure HeadDemand where
  skeins : List SkeinDemand
  fetch  : Nat
  needle : Nat
  deriving DecidableEq, Repr, Inhabited

structure CommitSt where
  dirty  : SMap (Option Dirty)
  groups : SMap Group
  count  : Word
  serial : Nat
  /-- Demand of the last computation, per head. -/
  demand : SMap HeadDemand
  /-- Demand that met the head's last bind-off, which the next cast-on admits. -/
  admits : SMap HeadDemand
  deriving DecidableEq, Repr, Inhabited

/-! ### The Ledger, violations and the retirement queue (03, 19) -/

structure Entry where
  source  : Nat
  cls     : Nat
  flags   : Word
  address : BitVec 64
  fc      : Word
  pos     : Word
  tb      : BitVec 64
  deriving DecidableEq, Repr, Inhabited

/-- Kinds of a retirement, in the order of R400. -/
inductive RetireKind where
  | channel | skein | needle | core
  deriving DecidableEq, Repr, Inhabited

structure Retirement where
  kind  : RetireKind
  index : Nat
  /-- Cause code of the kind's retirement event. -/
  cause : Nat
  deriving DecidableEq, Repr, Inhabited

structure LedgerSt where
  /-- The Ledger has left reset (step 6 of Table 18-3). -/
  up         : Bool
  entries    : List Entry
  badParity  : List Nat
  parity     : Bool
  overflow   : Nat
  generation : Word
  countA     : Nat
  countB     : Nat
  countC     : Nat
  countD     : Nat
  held       : List Entry
  queue      : List Retirement
  retireCount : Nat
  /-- A retirement has been carried out in this frame of the reference head (R401). -/
  retiredThisFrame : Bool
  violAddr   : Word
  violInfo   : Word
  violCount  : Nat
  deriving DecidableEq, Repr, Inhabited

/-! ### Routes (04) -/

/-- A bale fetched and not yet started; `none` when its fetch failed (R83, R86). -/
structure Fetched where
  index : Nat
  data  : Option Bale
  deriving DecidableEq, Repr, Inhabited

/-- A bale started (R78): whether it is complete, was marked bad, and has been reported; `taken` says
that its consumer has begun work on it. -/
structure Started where
  index    : Nat
  data     : Bale
  taken    : Bool
  done     : Bool
  bad      : Bool
  reported : Bool
  deriving DecidableEq, Repr, Inhabited

/-- A reset in progress: cause 0 owner, 1 restitch; bales discarded; the new binding for a restitch; and how many
restitches rebound the route while it waited. -/
structure Resetting where
  cause     : Nat
  discarded : Nat
  rebind    : Option RouteRec
  rebound   : Nat
  deriving DecidableEq, Repr, Inhabited

structure RouteSt where
  consumer  : Nat
  depthLog2 : Nat
  base      : Nat
  put       : Nat
  take      : Nat
  dropCount : Nat
  badCount  : Nat
  fetched   : List Fetched
  started   : List Started
  resetting : Option Resetting
  deriving DecidableEq, Repr, Inhabited

/-- Who posted (R79): the owner through the staged bale (by the number of its ROUTE_POST), Purl or USB; a compare channel; the console map;
a Porter channel's SIGNAL, with the fence it increments once the post is made (R121). -/
inductive Producer where
  | stage (serial : Nat)
  | purl (req : PurlReq)
  | usb
  | cmp (n : Nat)
  | console
  | porter (n : Nat) (fence : Option Nat)
  deriving DecidableEq, Repr, Inhabited

/-- A post taken by the post unit and still being written (R77, R80). -/
structure Post where
  route    : Nat
  bales    : List Bale
  producer : Producer
  deriving DecidableEq, Repr, Inhabited

structure RoutesSt where
  routes    : SMap RouteSt
  fences    : SMap (BitVec 16)
  posts     : List Post
  /-- Resets waiting for a post to their route to be written (R53, R93): route and its reset. -/
  resetWait : List (Nat × Resetting)
  /-- ROUTE_RESET events kept for the end of a zero fill (R108): route, cause and bales discarded. -/
  fillResets : List (Nat × Nat × Nat)
  postResult : Nat
  /-- Number of ROUTE_POST writes so far: POST_RESULT is that of the last (R95). -/
  stageSerial : Nat
  lostCount : Nat
  /-- Event bales held while no pattern binds ROUTE[15] (R414). -/
  held      : List Bale
  /-- The last block-engine route served (Table 4-1, in turn); none before the first, when either may be. -/
  lastBlock : Option Nat
  deriving DecidableEq, Repr, Inhabited

/-! ### The Store and the Porter (05) -/

/-- STATE codes as STORE_CHANNEL_STATE. -/
structure ChannelSt where
  state     : Nat
  cause     : Nat
  margin    : BitVec 16
  ceCount   : Nat
  ueCount   : Nat
  lastError : Nat
  /-- TB of the uncorrectable reads of the last second (R106). -/
  ueTimes   : List Nat
  deriving DecidableEq, Repr, Inhabited

structure StoreSt where
  mem       : List Host.Cell
  /-- Poisoned 64-byte blocks by block number, rising (R101). -/
  poison    : List Nat
  chanList  : List Nat
  channels  : SMap ChannelSt
  /-- Scrub: the period the sweep runs under, 0 when stopped, and the next block. -/
  scrubPeriod : Nat
  scrubNext   : Nat
  /-- The head whose skein took the last skein credit (R154). -/
  skeinTurn   : Option Nat
  deriving DecidableEq, Repr, Inhabited

/-- The live set of a Porter channel (R115). -/
structure PorterLive where
  mode        : Nat
  eventOnDone : Bool
  errStop     : Bool
  src         : Nat
  dst         : Nat
  count       : Nat
  ctrl        : Word
  fill        : List Byte
  progBase    : Nat
  deriving DecidableEq, Repr, Inhabited

/-- A bus error met (Table 5-6): address, true for a write, cause code. -/
structure BusErr where
  addr  : Nat
  write : Bool
  cause : Nat
  deriving DecidableEq, Repr, Inhabited

/-- One transfer: what Table 5-2 needs. -/
structure Transfer where
  op       : Nat
  src      : Nat
  dst      : Nat
  srcWidth : Nat
  dstWidth : Nat
  srcFixed : Bool
  dstFixed : Bool
  count    : Nat
  fill     : List Byte
  readBack : Bool
  deriving DecidableEq, Repr, Inhabited

/-- A transfer whose data has moved and whose responses are outstanding, with the program index or bale number it came
from, and the addresses at which its writes have failed. -/
structure InFlight where
  index    : Nat
  transfer : Transfer
  failed   : List Nat
  deriving DecidableEq, Repr, Inhabited

/-- What a waiting WAIT instruction awaits (R120). -/
inductive WaitFor where
  | fence (f : Nat) (value : Nat)
  | bindOff (h : Nat)
  | tb (value : Nat)
  deriving DecidableEq, Repr, Inhabited

/-- STATE codes as PORTER_STATUS: 0 IDLE, 1 RUNNING, 2 HALTED, 3 WAITING. -/
structure PorterSt where
  live      : PorterLive
  state     : Nat
  armed     : Bool
  /-- A register-mode transfer has become live and its data has not yet moved. -/
  starting  : Bool
  mismatch  : Bool
  doneCount : Word
  badCount  : Nat
  fault     : Option BusErr
  pc        : Nat
  checkResult   : Word
  compareOffset : Word
  loops     : SMap Nat
  /-- Transfers whose data has moved, oldest first, up to the last whose confirmation is outstanding. One that has
  failed stays among them, so that its further failures count no more (R122). -/
  unconfirmed : List InFlight
  /-- A bus error met and not yet handled, with the index of the instruction or bale concerned. -/
  error     : Option (Nat × BusErr)
  /-- The channel waits for writes in flight before HALTED (R116). -/
  halting   : Bool
  clearing  : Bool
  /-- A GO written together with CLEAR waits for the clear. -/
  goAfter   : Bool
  clearRecorded : Bool
  waiting   : Option WaitFor
  waitMet   : Bool
  /-- Program status: 0 clean, 1 bad instructions, 2 ended on mismatch. -/
  status    : Nat
  deriving DecidableEq, Repr, Inhabited

/-! ### Ingest (06) -/

/-- One of a source's three frame buffers: what its last complete frame is. -/
structure BufSt where
  format       : Nat
  width        : Nat
  height       : Nat
  base         : Nat
  pitch        : Nat
  reducedPitch : Nat
  reducedValid : Bool
  deriving DecidableEq, Repr, Inhabited

/-- A frame being received (R136): buffer (none when it is not written, R138); rows by number, with bit x for each pixel x
received; corruption, mismatch, reduced copy on for the whole frame, complete at the source. -/
structure FrameSt where
  buf      : Option Nat
  rows     : SMap Nat
  corrupt  : Bool
  mismatch : Bool
  reduced  : Bool
  ended    : Bool
  deriving DecidableEq, Repr, Inhabited

/-- Samples received that wait for a Store write: row, first pixel, samples in stream order. -/
structure Segment where
  row     : Nat
  offset  : Nat
  samples : List Nat
  deriving DecidableEq, Repr, Inhabited

/-- STATE and REASON codes as SRC_STATE. -/
structure SrcSt where
  state     : Nat
  reason    : Nat
  newest    : Option Nat
  /-- The newest frame becomes invalid at the next cast-on (R141). -/
  dropNewest : Bool
  /-- A head has taken the newest frame. -/
  taken     : Bool
  bufs      : SMap BufSt
  /-- Buffer held by each head (R137). -/
  holds     : SMap (Option Nat)
  frame     : Option FrameSt
  /-- The input FIFO, of 4 lines. -/
  fifo      : List Segment
  /-- The signal an SDI input has locked to. -/
  signal    : Option SdiSignal
  width     : Nat
  height    : Nat
  format    : Nat
  pitch     : Nat
  reducedPitch : Nat
  stride    : Nat
  base      : Nat
  payload   : Word
  pathA     : Bool
  pathB     : Bool
  /-- The group and the included sender that the source asked its ports to join when it was enabled (R131). -/
  joined    : Option (Word × Word)
  /-- Extended sequence numbers seen, with TB when first seen (R132). -/
  seen      : List (Word × Nat)
  /-- The last sequence number taken into the flow or given up. -/
  lastSeq   : Option Word
  /-- Packets that wait for one before them, in sequence order, with TB of arrival (R132). -/
  early     : List (RtpPacket × Nat)
  /-- A network source waits for the next frame boundary (R141). -/
  awaiting  : Bool
  /-- Sample row number of the last packet (R130). -/
  prevRow   : Nat
  frames    : Word
  drops     : Nat
  repeats   : Nat
  corrupts  : Nat
  overruns  : Nat
  crcErrors : Nat
  losses    : Nat
  lates     : Nat
  mismatches : Nat
  deriving DecidableEq, Repr, Inhabited

/-! ### Skeins (07) -/

/-- A skein's register values taken apart: shadow, active or latched. -/
structure SkeinCfg where
  enable     : Bool
  rank       : Nat
  floor      : Nat
  ingest     : Bool
  source     : Nat
  format     : Nat
  base       : Nat
  pitchUnits : Nat
  width      : Nat
  height     : Nat
  srcX       : Nat
  srcY       : Nat
  srcW       : Nat
  srcH       : Nat
  dstX       : Int
  dstY       : Int
  dstW       : Nat
  dstH       : Nat
  redValid   : Bool
  redBase    : Nat
  redPitch   : Nat
  standin    : Word
  standinAlpha : Nat
  blend      : Word
  lumaKey    : Word
  chromaKey  : Word
  needle     : Word
  cscControl : Word
  csc        : List (BitVec 16)
  deriving DecidableEq, Repr, Inhabited

/-- A skein's latch at cast-on (R147): its active set, and the buffer it reads. -/
structure Latch where
  cfg          : SkeinCfg
  /-- The source or memory buffer is valid. -/
  valid        : Bool
  format       : Nat
  base         : Nat
  pitch        : Nat
  width        : Nat
  height       : Nat
  redBase      : Nat
  redPitch     : Nat
  redValid     : Bool
  /-- The skein fetches nothing in this frame and shows stand-in colour. -/
  standinOnly  : Bool
  /-- Both stand-in and set are lost: fully transparent (R164). -/
  transparent  : Bool
  deriving DecidableEq, Repr, Inhabited

structure SkeinSt where
  retired      : Bool
  queued       : Bool
  cause        : Nat
  transparent  : Bool
  /-- Stand-in colour from this destination line on in the frame under way. -/
  standinFrom  : Option Nat
  configReason : Nat
  needle       : Option Nat
  gaugeRung    : Nat
  preshedRung  : Nat
  effRung      : Nat
  /-- Rung in use per first head line it applies to in this frame (R198): newest first. -/
  rungs        : List (Nat × Nat)
  latch        : Option Latch
  /-- 256-byte blocks asked for and not returned, oldest first: address and head line served. -/
  outstanding  : List (Nat × Nat)
  /-- Blocks held: address and bytes as last read. -/
  blocks       : List (Nat × List Byte)
  /-- Good reads of this frame: address and head line served. -/
  served       : List (Nat × Nat)
  /-- Bad reads of this frame: address and head line served. -/
  badBlocks    : List (Nat × Nat)
  /-- First head line for which no read has been issued in this frame. -/
  fetchLine    : Nat
  /-- Lines whose contribution was closed unfinished, with the first destination pixel of stand-in colour. -/
  closedLines  : List (Nat × Nat)
  /-- The set a retired skein goes on showing as stand-in colour (R164). -/
  frozen       : Option SkeinCfg
  badFetch     : Nat
  closeCount   : Nat
  badThisFrame : Bool
  deriving DecidableEq, Repr, Inhabited

/-! ### Needles and colour (08) -/

structure NeedleSt where
  retired   : Bool
  queued    : Bool
  cause     : Nat
  testing   : Bool
  /-- Test abandoned and draining (R177). -/
  draining  : Bool
  lastTest  : Nat
  passes    : Nat
  abandons  : Nat
  /-- Head whose mask this spare was taken into (R175). -/
  takenBy   : Option Nat
  load      : Nat
  skeins    : Nat
  /-- Head whose skeins the active assignment serves. -/
  serving   : Option Nat
  deriving DecidableEq, Repr, Inhabited

/-! ### Heads, ports (09) -/

/-- A composed pixel, binary16 R, G, B. -/
structure Px where
  r : Half
  g : Half
  b : Half
  deriving DecidableEq, Repr, Inhabited

/-- STATE codes as HEAD_STATUS. -/
structure HeadSt where
  state     : Nat
  fc        : Word
  line      : Nat
  bindLine  : Nat
  castLine  : Nat
  /-- The record a restitch gives the head, while stand-in frames under the old timing come before it (R30), and how many
  more of them follow the present one. -/
  nextTiming  : Option HeadRec
  standinLeft : Nat
  cfgErr    : Bool
  overbooked : Bool
  presheds  : Nat
  /-- TB of the last bind-off, for the phase of R320. -/
  bindTb    : Nat
  /-- FC of the frame latched at the last cast-on. -/
  frameFc   : Word
  /-- Connector driven at the bind-off that began the frame (chapter 9, moved port). -/
  encoder   : Option Nat
  /-- Line 0 of the present frame has begun (R323). -/
  line0Done : Bool
  /-- The head has cast on since it started. -/
  begun     : Bool
  /-- Lines of the frame cast on for that have begun scan-out. -/
  scanned   : Nat
  lead      : Nat
  minLead   : Nat
  lastMin   : Nat
  framesOk  : Nat
  shedFrame : Bool
  /-- Lines of the present frame complete in, or scanned out of, the hank buffer, with their pixels. -/
  hank      : SMap (List Px)
  closed    : List Nat
  closeCount   : Nat
  shedCount    : Nat
  restoreCount : Nat
  parityCount  : Nat
  parityThisFrame : Bool
  frameWork : Nat
  peakWork  : Nat
  lastFrameWork : Nat
  lastPeakWork  : Nat
  armed     : Bool
  expect    : Word
  tag       : Word
  result    : Nat
  mismatch  : Bool
  lastCrc   : Word
  lastFc    : Word
  mismatches : Nat
  /-- LUT entries by bank × 2^20 + table × 2^16 + index (R186). -/
  lut       : SMap Half
  /-- Frequency pull in units of 10^-9 (R320). -/
  pull      : Int
  locked    : Bool
  lockBeats : Nat
  phaseErr  : Int
  deriving DecidableEq, Repr, Inhabited

/-- STATE codes as DP_STATUS. -/
structure DpSt where
  hpd      : Bool
  state    : Nat
  lanes    : Nat
  rate     : Nat
  sink     : Option SinkCaps
  trainings : Nat
  attempts : Nat
  deriving DecidableEq, Repr, Inhabited

/-! ### The raster engine (10) -/

structure ReTarget where
  base   : Nat
  pitch  : Nat
  width  : Nat
  height : Nat
  format : Nat
  flags  : Nat
  clear  : List Half
  sigBase : Nat
  deriving DecidableEq, Repr, Inhabited

structure ReTexture where
  slot   : Nat
  format : Nat
  filter : Nat
  aniso  : Nat
  levels : Nat
  wrap   : Nat
  base   : Nat
  pitch  : Nat
  width  : Nat
  height : Nat
  deriving DecidableEq, Repr, Inhabited

/-- A vertex (R212): binary32 bits. -/
structure Vertex where
  x : Word
  y : Word
  z : Word
  u : Word
  v : Word
  r : Byte
  g : Byte
  b : Byte
  a : Byte
  deriving DecidableEq, Repr, Inhabited

/-- A binned triangle with the DRAW's blend and the texture in its slot when it was binned. -/
structure Tri where
  v0      : Vertex
  v1      : Vertex
  v2      : Vertex
  blend   : Nat
  texture : Option ReTexture
  deriving DecidableEq, Repr, Inhabited

/-- A tile of the frame under way: not finished when `passes` are left, and the core that parked it. -/
structure ReTile where
  index  : Nat
  passes : Nat
  core   : Option Nat
  parked : Bool
  deriving DecidableEq, Repr, Inhabited

structure ReContext where
  target    : Option ReTarget
  textures  : SMap (Option ReTexture)
  binBase   : Nat
  tris      : List Tri
  used      : Nat
  /-- Extents added by GROW: base and size in bytes. -/
  extents   : List (Nat × Nat)
  /-- Triangles of the present DRAW not yet binned, and whether that DRAW waits under GROW. -/
  toBin     : List Tri
  growWait  : Bool
  /-- Binning can go on once debug hold ends (R303). -/
  binStopped : Bool
  /-- Number of the DRAW bale whose triangles were taken last. -/
  drawing   : Option Nat
  partialOn : Bool
  binFull   : Bool
  /-- Tiles written partly under PARTIAL, and the depths saved with them, by pixel. -/
  partialTiles : List Nat
  depth     : SMap (Option Rat)
  rendering : Bool
  tiles     : List ReTile
  writeBad  : Bool
  texelThisFrame : Bool
  frames    : Nat
  written   : Nat
  skipped   : Nat
  partials  : Nat
  grows     : Nat
  texelFaults : Nat
  deriving DecidableEq, Repr, Inhabited

/-- STATE codes as RE_CORE_STATUS. -/
structure CoreSt where
  retired  : Bool
  queued   : Bool
  testing  : Bool
  lastTest : Nat
  context  : Nat
  /-- Context and tile of the pass under way. -/
  busy     : Option (Nat × Nat)
  lastServed : Nat
  passes   : Word
  deriving DecidableEq, Repr, Inhabited

structure RasterSt where
  contexts : SMap ReContext
  cores    : SMap CoreSt
  throttle : Nat
  deriving DecidableEq, Repr, Inhabited

/-! ### The block engine (11) -/

structure BlockOp where
  fillOp    : Bool
  transform : Nat
  format    : Nat
  dstBase   : Nat
  srcBase   : Nat
  dstPitch  : Nat
  srcPitch  : Nat
  srcX      : Nat
  srcY      : Nat
  w         : Nat
  h         : Nat
  dstX      : Nat
  dstY      : Nat
  srcPlane  : Nat
  dstPlane  : Nat
  fill      : List Byte
  clipCount : Nat
  clips     : List (Nat × Nat × Nat × Nat)
  clipList  : Nat
  /-- Route and bale number for a bale operation; none for the register path. -/
  bale      : Option (Nat × Nat)
  eventOnDone : Bool
  deriving DecidableEq, Repr, Inhabited

/-- What a destination unit receives: the bytes read at a source address, or a unit of FILL. -/
inductive UnitData
  | read (addr size : Nat)
  | fill (bytes : List Byte)
  deriving DecidableEq, Repr, Inhabited

def UnitData.size : UnitData → Nat
  | .read _ n => n
  | .fill bs => bs.length

/-- One unit that an operation moves (R227). -/
structure UnitMove where
  dst  : Nat
  data : UnitData
  deriving DecidableEq, Repr, Inhabited

/-- An operation in flight: its result so far, and the destination writes still to be issued. -/
structure BlockRun where
  op     : BlockOp
  reason : Nat
  fault  : Nat
  /-- Units not yet moved. -/
  todo   : List UnitMove
  /-- What the operation's own writes replaced where its spans intersect, `none` where that could not be read: a
  later read of its sources sees it (R236). -/
  kept   : List (Nat × Option (List Byte))
  deriving DecidableEq, Repr, Inhabited

structure BlockSt where
  /-- The register operation waiting for a slot. -/
  regWait  : Option BlockOp
  /-- Bale operations taken and waiting, oldest first. -/
  waiting  : List BlockOp
  slots    : SMap (Option BlockRun)
  regBad   : Bool
  regReason : Nat
  faultAddr : Nat
  opCount  : Nat
  badCount : Nat
  bytes    : BitVec 64
  /-- A burst has been issued and DEAD_TIME runs (R235). -/
  deadTime : Bool
  deriving DecidableEq, Repr, Inhabited

/-! ### Time base (12) -/

structure CmpSt where
  live      : BitVec 64
  period    : Word
  enable    : Bool
  valueDue  : Bool
  configDue : Bool
  /-- The value matched in the last TCLK cycle, whose firing is still to be carried out. -/
  crossed   : Option (BitVec 64)
  bale      : Option Bale
  /-- The address of a bale read that has not returned. -/
  reading   : Option Nat
  matchCount : Word
  faultCount : Nat
  holdSkip  : Nat
  deriving DecidableEq, Repr, Inhabited

structure CntSt where
  count   : Word
  down    : Bool
  /-- The reload value or TOP taken from the shadow. -/
  reload  : Word
  wraps   : Word
  /-- A wrap of the last TCLK cycle still to be counted: the reload value and direction before it. -/
  wrapFrom : Option (Word × Bool)
  lastEvent : Option Nat
  deriving DecidableEq, Repr, Inhabited

structure TimeSt where
  tb       : BitVec 64
  lfclk    : Bool
  lfAcc    : Nat
  cmp      : SMap CmpSt
  cnt      : SMap CntSt
  gpiIn    : BitVec 8
  gpiState : BitVec 8
  gpoCue   : BitVec 8
  gpoPulse : BitVec 8
  gpoTripped : BitVec 8
  deriving DecidableEq, Repr, Inhabited

/-! ### Network (13) -/

structure PortSt where
  link      : Bool
  speed     : Nat
  address   : Word
  netmask   : Word
  gateway   : Word
  leased    : Bool
  /-- The DHCP exchange under way, by its transaction identifier (RFC 2131). -/
  xid       : Option Word
  rx        : Nat
  tx        : Nat
  discards  : Nat
  fcsErrors : Nat
  deriving DecidableEq, Repr, Inhabited

/-- The owner session (R270, R293). -/
inductive Owner where
  | none
  | purl (client : Client) (session : Word)
  | usb
  deriving DecidableEq, Repr, Inhabited

/-- A challenge given (R271, R293): its session, its nonce, the secret it was started under (R295), and whether its 2 s
and its one attempt are still to come. -/
structure Offer where
  session : Word
  nonce   : BitVec 256
  secret  : BitVec 256
  live    : Bool
  deriving DecidableEq, Repr, Inhabited

/-- What the unit sends through a network port. -/
inductive NetMsg where
  | purl (client : Client) (opcode status param : Nat) (seq session : Word) (payload : List Byte)
  | arpReply (mac : BitVec 48) (ip : Word)
  | icmpReply (target : Word) (message : List Byte)
  /-- DHCPDISCOVER and DHCPREQUEST of an exchange, the latter with the address and the server asked. -/
  | dhcpDiscover (xid : Word)
  | dhcpRequest (xid address server : Word)
  | igmpJoin (group source : Word)
  | igmpLeave (group : Word)
  deriving DecidableEq, Repr, Inhabited

/-- The Main Stream Attributes of a DisplayPort output (R201): totals, active size, sync starts and widths, polarities as the
HEADS record's flags, and bits per component. -/
structure StreamAttr where
  hTotal  : Nat
  vTotal  : Nat
  hActive : Nat
  vActive : Nat
  hSync   : Nat × Nat
  vSync   : Nat × Nat
  syncFlags : Nat
  bpc     : Nat
  deriving DecidableEq, Repr, Inhabited

/-- What the unit sends: video, on a network port with its VLAN tag (VID, PCP) and DSCP (R263, R266), over USB, over
Caravan, and on the supervisor link. -/
inductive EndpointKind where
  | control
  | bulk
  | interrupt
  deriving DecidableEq, Repr, Inhabited

/-- An endpoint of Table 14-2. -/
structure UsbEndpoint where
  number    : Nat
  kind      : EndpointKind
  input     : Bool
  maxPacket : Nat
  interval  : Option Nat
  deriving DecidableEq, Repr, Inhabited

/-- The descriptor fields of Table 14-1, with the endpoints of Table 14-2. -/
structure UsbDescriptors where
  bcdUsb         : Nat
  deviceClass    : Nat
  maxPacket0     : Nat
  vendor         : Nat
  product        : Nat
  bcdDevice      : Nat
  configurations : Nat
  interfaces     : Nat
  attributes     : Nat
  maxPower       : Nat
  interfaceClass : Nat
  interfaceSubclass : Nat
  interfaceProtocol : Nat
  endpoints      : List UsbEndpoint
  manufacturer   : String
  productName    : String
  serial         : String
  deriving DecidableEq, Repr, Inhabited

inductive OutMsg where
  /-- The stream attributes of a frame on a DisplayPort connector (R201). -/
  | dpAttributes (port : Nat) (a : StreamAttr)
  /-- One active line on a DisplayPort connector: its component codes in scan order (R201). -/
  | dpLine (port line : Nat) (codes : List Nat)
  /-- The ST 352 payload ID of a frame on an SDI connector (R204). -/
  | sdiPayload (port : Nat) (payload : Word)
  /-- One active line on an SDI connector: its samples and the line CRC words (R204). -/
  | sdiOutLine (port line : Nat) (codes : List Nat) (crc : List Nat)
  | net (port : Nat) (vlan : Option (Nat × Nat)) (dscp : Nat) (m : NetMsg)
  | usbData (endpoint : Nat) (data : List Byte)
  | usbDescriptors (d : UsbDescriptors)
  | usbAck
  | usbStall
  | usbNak (endpoint : Nat)
  | caravan (port : CaravanPort) (frame : List Byte)
  | supervisor (board : Board) (word : Word)
  | slaveReply (board : Board) (word : Word)
  deriving DecidableEq, Repr, Inhabited

/-- A response kept for repeats (R274): the session's key is its client, with SESSION 0 anonymous. -/
structure Kept where
  client  : Client
  session : Word
  seq     : Word
  opcode  : Nat
  reply   : NetMsg
  deriving DecidableEq, Repr, Inhabited

/-- What a Purl request asks (Table 13-2); a WRITE says whether its payload is laid out as its COUNT asks. -/
inductive PurlBody where
  | challenge
  | claim (mac : BitVec 256)
  | release
  | read (addr count : Nat)
  | write (addr : Nat) (words : List Word) (whole : Bool)
  | post (route : Nat) (bales : List Bale)
  | storeRead (addr bytes : Nat)
  | storeWrite (addr : Nat) (data : List Byte) (check : Word)
  | captureStore (addr bytes : Nat)
  | captureLedger
  | capturePowerLog
  | captureRelease (page : Nat)
  /-- A known opcode whose payload breaks Table 13-2. -/
  | malformed (opcode : Nat)
  deriving DecidableEq, Repr, Inhabited

/-- A request in flight (R273): `begun` when it is being executed, else it waits for those before it. -/
structure Flight where
  client  : Client
  session : Word
  seq     : Word
  body    : PurlBody
  begun   : Bool
  deriving DecidableEq, Repr, Inhabited

/-- A capture page held (R276, R299). -/
structure Page where
  usb   : Bool
  bytes : Nat
  data  : List Byte
  deriving DecidableEq, Repr, Inhabited

structure ConsoleSource where
  cid      : BitVec 128
  priority : Nat
  sequence : Nat
  order    : Nat
  slots    : List Byte
  deriving DecidableEq, Repr, Inhabited

structure UniverseSt where
  sources  : List ConsoleSource
  data     : List Byte
  heard    : Bool
  deriving DecidableEq, Repr, Inhabited

structure NetSt where
  ports     : SMap PortSt
  owner     : Owner
  offers    : List Offer
  lockouts  : List Word
  kept      : List Kept
  flight    : List Flight
  pages     : SMap (Option Page)
  /-- The on-chip page buffer of R305 and R277. -/
  chipPage  : Option Page
  /-- Next ROUTE[15] bale number to send to the owner, and the event sequence (R278). -/
  eventNext : Nat
  eventSeq  : Word
  purlPort  : Nat
  busyCount : Nat
  malformedCount : Nat
  authFailCount  : Nat
  duplicateCount : Nat
  captureDiscards : Nat
  universes : SMap UniverseSt
  packetOrder : Nat
  consoleIgnored : Nat
  consoleValue : SMap Word
  /-- The owner secret, in standby memory (R271, R295). -/
  secret    : BitVec 256
  deriving DecidableEq, Repr, Inhabited

/-! ### USB (14) -/

/-- An upload armed on EP2 (R296): kind 0 Store, 1 staging, 2 slot A, 3 slot B; the address of its first byte, the bytes
awaited, the bytes written, those received of a block not yet complete, and the CRC register over what was written. -/
structure Upload where
  kind      : Nat
  base      : Nat
  remaining : Nat
  offset    : Nat
  held      : List Byte
  crc       : Nat
  erasing   : Bool
  deriving DecidableEq, Repr, Inhabited

inductive UsbMode where
  | normal | freeze | debugHold
  deriving DecidableEq, Repr, Inhabited

structure UsbSt where
  vbus      : Bool
  pullup    : Bool
  state     : Nat
  highSpeed : Bool
  grace     : Bool
  mode      : UsbMode
  disableWritten : Bool
  disabled  : Bool
  removalDue : Bool
  request   : Nat
  result    : Nat
  completed : Nat
  check     : Word
  offer     : Option Offer
  upload    : Option Upload
  /-- Page numbers queued for EP1, 4 standing for the on-chip page, and packets acknowledged of the first. -/
  queue     : List Nat
  packets   : Nat
  captureDiscards : Nat
  busResets : Nat
  partialDiscards : Nat
  deriving DecidableEq, Repr, Inhabited

/-! ### Caravan (15) -/

structure Member where
  origin : BitVec 64
  tag    : Word
  deriving DecidableEq, Repr, Inhabited

structure SeqSeen where
  origin : BitVec 64
  tag    : Word
  seq    : BitVec 16
  deriving DecidableEq, Repr, Inhabited

structure Barrier where
  cfn  : Word
  mask : BitVec 16
  deriving DecidableEq, Repr, Inhabited

/-- The last BEAT heard of an origin, at a count of TB (R327). -/
structure HeardBeat where
  origin  : BitVec 64
  tag     : Word
  tb      : Nat
  period  : Nat
  members : Nat
  deriving DecidableEq, Repr, Inhabited

/-- STATE codes as CARAVAN_STATUS; `waitingBeat` is the second window of R317. -/
structure CaravanSt where
  state     : Nat
  waitingBeat : Bool
  /-- CAUSE of the last election or change of state (Table 15-5). -/
  cause     : Nat
  priority  : BitVec 64
  best      : BitVec 64
  bestTag   : Word
  lead      : BitVec 64
  leadTag   : Word
  leadKnown : Bool
  /-- The lead's frame period in ns (R319). -/
  period    : Nat
  members   : List Member
  /-- MEMBERS of the lead's last BEAT (R318). -/
  leadMembers : Nat
  seqs      : List SeqSeen
  heard     : List HeardBeat
  seq       : BitVec 16
  cfn       : Word
  cfnSeen   : Word
  /-- CFN that the next bind-off of the reference head takes (R321). -/
  cfnNext   : Option Word
  eastLink  : Bool
  westLink  : Bool
  eastDelay : Nat
  westDelay : Nat
  duplicate : Option (BitVec 64 × Word)
  oversize  : Bool
  /-- The optical bypass is open (R311). -/
  bypassOpen : Bool
  checkErrors : Nat
  leadChanges : Nat
  ignored   : Nat
  barriers  : SMap (Option Barrier)
  barrierResult : Nat
  barrierSlot   : Nat
  deriving DecidableEq, Repr, Inhabited

/-! ### Chassis (16), power (17), clocks (18) -/

structure ChassisSt where
  fanStopped : BitVec 5
  fanRpm     : SMap Nat
  button     : Bool
  /-- The module in each SFP28 cage (R335). -/
  sfpModules : SMap (Option SfpModule)
  sfpFault   : BitVec 2
  dpFault    : BitVec 4
  deriving DecidableEq, Repr, Inhabited

/-- STATE codes as RAIL_STATUS. -/
structure RailSt where
  state    : Nat
  mv       : Nat
  pg       : Bool
  limiting : Bool
  uvRun    : Nat
  ovRun    : Nat
  uvWarnRun : Nat
  ovWarnRun : Nat
  uvWarned : Bool
  ovWarned : Bool
  retries  : Nat
  lastRetry : Nat
  uvWarn   : Nat
  uvFault  : Nat
  ovWarn   : Nat
  ovFault  : Nat
  retry    : Nat
  deriving DecidableEq, Repr, Inhabited

structure SlaveSt where
  state    : Nat
  framing  : Nat
  crc      : Nat
  retry    : Nat
  tries    : Nat
  lastWord : Word
  /-- The slave's own side: rails enabled, board reset, reply to send next, rails held off by its watchdog. -/
  rails    : BitVec 4
  inReset  : Bool
  reply    : Word
  ramp     : BitVec 6
  deriving DecidableEq, Repr, Inhabited

structure FirstFailure where
  rail  : Nat
  kind  : Nat
  board : Nat
  pos   : Word
  fc    : Word
  mv    : Nat
  phase : Nat
  deriving DecidableEq, Repr, Inhabited

/-- What follows once a switch-off in progress has ended. -/
inductive AfterOff where
  | stay
  | floorStart
  | fullStart
  | thermalStart
  | mainsStart
  deriving DecidableEq, Repr, Inhabited

/-- What the FRAM holds (Table 17-9). -/
structure Fram where
  pos       : Word
  mainsLoss : Nat
  startFail : Nat
  sysReset  : Nat
  pfwCount  : Nat
  trips     : Nat
  first     : Option FirstFailure
  rails     : SMap RailSt
  deriving DecidableEq, Repr, Inhabited

/-- STATE codes as PSV_STATUS. -/
structure PowerSt where
  standby   : Bool
  state     : Nat
  latch     : Bool
  pfw       : Bool
  mainsDown : Bool
  /-- FRAM_FAULT: the FRAM can no longer be written, and keeps this. -/
  framFault : Option Fram
  boardsOff : BitVec 3
  rails     : SMap RailSt
  slaves    : SMap SlaveSt
  psus      : SMap PsuCond
  /-- Rails still to be switched off in the reverse order of a start failure (R349). -/
  reverse   : List Nat
  /-- The off table runs (R357). -/
  offTable  : Bool
  after     : AfterOff
  thermal   : Bool
  /-- TB of the reset-system reactions of the last 60 s (R354). -/
  resets    : List Nat
  result    : Nat
  pos       : Word
  mainsLoss : Nat
  startFail : Nat
  sysReset  : Nat
  pfwCount  : Nat
  trips     : Nat
  first     : Option FirstFailure
  accLatched : BitVec 2
  heldEvents : List Bale
  heldRecords : List Entry
  lostEvents : Nat
  /-- Records beyond the 16 held in the standby domain (R398). -/
  lostRecords : Nat
  deriving DecidableEq, Repr, Inhabited

/-- `mode` is SYSTEM_STATE MODE but for debug hold: 0 bring-up, 1 floor mode, 2 service. -/
structure BootSt where
  mode      : Nat
  /-- The system reset is asserted. -/
  inReset   : Bool
  /-- The register interface has been released (step 6). -/
  regsUp    : Bool
  step      : Nat
  floorCause : Nat
  usbPhyOk  : Bool
  buttonFloor : Bool
  /-- The button was held when STBY_5V reached regulation and has not been released since (R386). -/
  buttonHeld : Bool
  cause     : Nat
  nextCause : Nat
  warmCount : Nat
  vcoLock   : Bool
  clocks    : Bool
  /-- TB of the clock faults of the last 60 s (R371). -/
  faults    : List Nat
  /-- Held in reset until a mains cycle (R371, R384). -/
  held      : Bool
  attempts  : Nat
  boardsUp  : BitVec 3
  times     : SMap Nat
  releaseTb : Nat
  bootTag   : Word
  deriving DecidableEq, Repr, Inhabited

end Sys2Proof.Machine
end

