-- ==== Sys2Proof/Machine/State.lean ====
section
/-! DEFINITION. The machine's state, its faults and refusals, and the state after reset. -/

namespace Sys2Proof.Machine

/-- Why a step may fault. -/
inductive Fault where
  /-- No command raises it: the manual gives every command an effect in every state. Safe. -/
  | unreachable
  deriving DecidableEq, Repr

/-- Why a step may be refused. -/
inductive Refusal where
  /-- Raised by the dispatch for a command whose meaning is not written. Safe: no claim can rest on it. -/
  | notModelled (mnemonic : String)
  deriving DecidableEq, Repr

/-- Everything the manual gives the unit, as plain data. Repeated units stand in sparse maps by index. -/
structure State where
  /-- What a read of each writable register returns, by address, where it differs from the reset value. -/
  regs      : SMap Word
  /-- The active values of commit-bound registers (R57), by address, where not the reset value. -/
  active    : SMap Word
  /-- What standby memory and flash hold of stored registers, by address, where not as shipped. -/
  nv        : SMap Word
  /-- Applied 64-bit values of the RW-I pairs (R62), by the address of LOW. -/
  pairs     : SMap Nat
  pat       : PatternSt
  commit    : CommitSt
  ledger    : LedgerSt
  routes    : RoutesSt
  store     : StoreSt
  porter    : SMap PorterSt
  sources   : SMap SrcSt
  skeins    : SMap SkeinSt
  needles   : SMap NeedleSt
  heads     : SMap HeadSt
  dp        : SMap DpSt
  raster    : RasterSt
  block     : BlockSt
  time      : TimeSt
  net       : NetSt
  usb       : UsbSt
  caravan   : CaravanSt
  chassis   : ChassisSt
  power     : PowerSt
  boot      : BootSt
  /-- Everything the unit has sent, oldest first (the model's own field, log 3). -/
  wire      : List OutMsg
  /-- How many free values have been taken (the model's own field, log 2). -/
  freeCount : Nat
  /-- Commands that wait, first in, first out. -/
  pending   : List Instr
  deriving DecidableEq, Repr

/-- Store contents keep the canonical form, in which an unlisted byte reads 0 (R108, R376 step 7). -/
def Memory.wf (m : List Host.Cell) : Bool := mapWf 0 m

/-- Everything held in reset and no power on: every register at its reset value, the slots erased, the
Store's zero fill as its contents (logs 4, 5, 7). DESIGN CHOICE, log 5. -/
def State.reset : State where
  regs      := []
  active    := []
  nv        := []
  pairs     := []
  pat       := default
  commit    := default
  ledger    := default
  routes    := default
  store     := default
  porter    := []
  sources   := []
  skeins    := []
  needles   := []
  heads     := []
  dp        := []
  raster    := default
  block     := default
  time      := default
  net       := default
  usb       := default
  caravan   := default
  chassis   := default
  power     := default
  boot      := { (default : BootSt) with inReset := true }
  wire      := []
  freeCount := 0
  pending   := []

end Sys2Proof.Machine
end

