-- ==== Sys2Proof/Machine/Ops.lean ====
section
/-! DEFINITION. The named operations over State that every block uses: repeated units by index, register
values, free values, frame counts, the Ledger, events and the Store. -/

namespace Sys2Proof.Machine

/-! ### Repeated units by index (R6) -/

def State.head (s : State) (i : Nat) : HeadSt := mapGet default s.heads i
def State.modHead (s : State) (i : Nat) (f : HeadSt → HeadSt) : State :=
  { s with heads := mapUpdate default s.heads i f }

def State.skein (s : State) (i : Nat) : SkeinSt := mapGet default s.skeins i
def State.modSkein (s : State) (i : Nat) (f : SkeinSt → SkeinSt) : State :=
  { s with skeins := mapUpdate default s.skeins i f }

def State.needle (s : State) (i : Nat) : NeedleSt := mapGet default s.needles i
def State.modNeedle (s : State) (i : Nat) (f : NeedleSt → NeedleSt) : State :=
  { s with needles := mapUpdate default s.needles i f }

def State.source (s : State) (i : Nat) : SrcSt := mapGet default s.sources i
def State.modSource (s : State) (i : Nat) (f : SrcSt → SrcSt) : State :=
  { s with sources := mapUpdate default s.sources i f }

def State.porterCh (s : State) (i : Nat) : PorterSt := mapGet default s.porter i
def State.modPorter (s : State) (i : Nat) (f : PorterSt → PorterSt) : State :=
  { s with porter := mapUpdate default s.porter i f }

def State.dpPort (s : State) (i : Nat) : DpSt := mapGet default s.dp i
def State.modDp (s : State) (i : Nat) (f : DpSt → DpSt) : State :=
  { s with dp := mapUpdate default s.dp i f }

def State.route (s : State) (i : Nat) : RouteSt := mapGet default s.routes.routes i
def State.modRoute (s : State) (i : Nat) (f : RouteSt → RouteSt) : State :=
  { s with routes := { s.routes with routes := mapUpdate default s.routes.routes i f } }

def State.channel (s : State) (i : Nat) : ChannelSt := mapGet default s.store.channels i
def State.modChannel (s : State) (i : Nat) (f : ChannelSt → ChannelSt) : State :=
  { s with store := { s.store with channels := mapUpdate default s.store.channels i f } }

def State.context (s : State) (i : Nat) : ReContext := mapGet default s.raster.contexts i
def State.modContext (s : State) (i : Nat) (f : ReContext → ReContext) : State :=
  { s with raster := { s.raster with contexts := mapUpdate default s.raster.contexts i f } }

def State.core (s : State) (i : Nat) : CoreSt := mapGet default s.raster.cores i
def State.modCore (s : State) (i : Nat) (f : CoreSt → CoreSt) : State :=
  { s with raster := { s.raster with cores := mapUpdate default s.raster.cores i f } }

def State.cmp (s : State) (i : Nat) : CmpSt := mapGet default s.time.cmp i
def State.modCmp (s : State) (i : Nat) (f : CmpSt → CmpSt) : State :=
  { s with time := { s.time with cmp := mapUpdate default s.time.cmp i f } }

def State.cnt (s : State) (i : Nat) : CntSt := mapGet default s.time.cnt i
def State.modCnt (s : State) (i : Nat) (f : CntSt → CntSt) : State :=
  { s with time := { s.time with cnt := mapUpdate default s.time.cnt i f } }

def State.netPort (s : State) (i : Nat) : PortSt := mapGet default s.net.ports i
def State.modPort (s : State) (i : Nat) (f : PortSt → PortSt) : State :=
  { s with net := { s.net with ports := mapUpdate default s.net.ports i f } }

def State.rail (s : State) (i : Nat) : RailSt := mapGet default s.power.rails i
def State.modRail (s : State) (i : Nat) (f : RailSt → RailSt) : State :=
  { s with power := { s.power with rails := mapUpdate default s.power.rails i f } }

def State.slave (s : State) (i : Nat) : SlaveSt := mapGet default s.power.slaves i
def State.modSlave (s : State) (i : Nat) (f : SlaveSt → SlaveSt) : State :=
  { s with power := { s.power with slaves := mapUpdate default s.power.slaves i f } }

/-! ### Porter transfers in flight (R114, R122) -/

def InFlight.open' (q : InFlight) : Bool := q.failed.isEmpty

/-- Once nothing is outstanding, nothing is kept. -/
def settleFlight (l : List InFlight) : List InFlight := if l.any (·.open') then l else []

/-- Every earlier transfer is confirmed or has failed. -/
def PorterSt.confirmed (p : PorterSt) : Bool := !p.unconfirmed.any (·.open')

/-- Writes may be in flight, or requests still go out. -/
def PorterSt.busy (p : PorterSt) : Bool := !p.confirmed || p.error.isSome || p.halting || p.starting

/-! ### Register values -/

/-- What a read of a writable register returns (Table 0-2). -/
def State.reg (s : State) (r : Reg) (i : Nat := 0) (j : Nat := 0) : Word :=
  mapGet (r.resetValue i j) s.regs (r.addr i j)

def State.setReg (s : State) (r : Reg) (i j : Nat) (v : Word) : State :=
  { s with regs := mapSet (r.resetValue i j) s.regs (r.addr i j) v }

/-- The active value of a commit-bound register (R57, R67). -/
def State.act (s : State) (r : Reg) (i : Nat := 0) (j : Nat := 0) : Word :=
  mapGet (r.resetValue i j) s.active (r.addr i j)

def State.setAct (s : State) (r : Reg) (i j : Nat) (v : Word) : State :=
  { s with active := mapSet (r.resetValue i j) s.active (r.addr i j) v }

/-- The stored copy of a register kept in standby memory or flash. -/
def State.stored (s : State) (r : Reg) (i : Nat := 0) (j : Nat := 0) : Word :=
  mapGet (r.resetValue i j) s.nv (r.addr i j)

def State.setStored (s : State) (r : Reg) (i j : Nat) (v : Word) : State :=
  { s with nv := mapSet (r.resetValue i j) s.nv (r.addr i j) v }

/-- Applied value of a 64-bit RW-I pair, by its LOW register (R62). -/
def State.pair (s : State) (low : Reg) (i : Nat := 0) : Nat := mapGet 0 s.pairs (low.addr i)

def State.setPair (s : State) (low : Reg) (i : Nat) (v : Nat) : State :=
  { s with pairs := mapSet 0 s.pairs (low.addr i) v }

/-! ### Free values and what is sent -/

/-- Take one free value: the counter that names it, and the state with the counter advanced (log 2). -/
def State.takeFree (s : State) : Nat × State := (s.freeCount, { s with freeCount := s.freeCount + 1 })

def State.send (s : State) (m : OutMsg) : State := { s with wire := s.wire ++ [m] }

/-! ### Pattern, modes and frame counts -/

/-- The pattern in force; all empty while none runs. -/
def State.pattern (s : State) : Pattern := s.pat.running.getD default

def Pattern.head? (p : Pattern) (h : Nat) : Option HeadRec := p.heads.find? (fun r => r.head == h)

/-- Present heads, rising (R58): a ganged pair counts by its lower head. -/
def Pattern.present (p : Pattern) : List Nat := (List.range 8).filter (fun h => (p.head? h).isSome)

def Pattern.skein? (p : Pattern) (n : Nat) : Option SkeinRec := p.skeins.find? (fun r => r.skein == n)

/-- The skeins of a head, bottom of the stack first. -/
def Pattern.stack (p : Pattern) (h : Nat) : List Nat :=
  (sortBy (·.stack) (p.skeins.filter (fun r => r.head == h))).map (·.skein)

def Pattern.needleMask (p : Pattern) (h : Nat) : Nat :=
  ((p.needles.find? (fun r => r.head == h)).map (·.mask)).getD 0

/-- The reference head (R58); 0 while no pattern names one. -/
def State.refHead (s : State) : Nat := s.pattern.present.headD 0

/-- Debug hold is in force (R303). DEDUCED, log 120. -/
def State.holding (s : State) : Bool := s.usb.mode == .debugHold

/-- SYSTEM_STATE MODE: 0 bring-up, 1 floor mode, 2 service, 3 debug hold (R75). -/
def State.mode (s : State) : Nat := if s.holding then 3 else s.boot.mode

/-- An owner session holds the unit (R61). -/
def State.owned (s : State) : Bool := s.net.owner != .none

/-- The FC of a head, or of the reference head (R91, R394). -/
def State.fcOf (s : State) (head : Option Nat) : Word := (s.head (head.getD s.refHead)).fc

/-! ### The Ledger (19) -/

def classA : Nat := 1
def classB : Nat := 2
def classC : Nat := 3
def classD : Nat := 4

/-- DETAIL of a record: fields of 8 or 16 bits in order from bit 0 (R393), as (width, value). -/
def detailBits : List (Nat × Nat) → Nat
  | [] => 0
  | (n, v) :: rest => v % 2 ^ n + 2 ^ n * detailBits rest

/-- What the supervisor's memory would write to the FRAM. -/
def PowerSt.toFram (p : PowerSt) : Fram :=
  ⟨p.pos, p.mainsLoss, p.startFail, p.sysReset, p.pfwCount, p.trips, p.first, p.rails⟩

/-- What the FRAM holds: the counts and the record, or since FRAM_FAULT those of the last write that succeeded. -/
def PowerSt.fram (p : PowerSt) : Fram := p.framFault.getD p.toFram

def mkEntry (s : State) (source cls detail addr : Nat) (head : Option Nat) (secondary : Bool) : Entry where
  source  := source
  cls     := cls
  flags   := wordOf (detail % 2 ^ 24 + (if secondary then 2 ^ 31 else 0))
  address := BitVec.ofNat 64 addr
  fc      := s.fcOf head
  pos     := s.power.pos
  tb      := s.time.tb

/-- Count a record in its class count, which saturates (R396). -/
def LedgerSt.countClass (l : LedgerSt) (cls : Nat) : LedgerSt :=
  match cls with
  | 1 => { l with countA := satInc l.countA }
  | 2 => { l with countB := satInc l.countB }
  | 3 => { l with countC := satInc l.countC }
  | _ => { l with countD := satInc l.countD }

/-- Write one record: kept while fewer than 64 are held (R396), held on chip before step 6 (R398).
The Bool says that this record filled the Ledger. -/
def LedgerSt.write (l : LedgerSt) (e : Entry) : LedgerSt × Bool :=
  if l.up = false then
    if l.held.length < 16 then ({ l with held := l.held ++ [{ e with flags := e.flags ||| 0x40000000 }] }, false)
    else ({ l.countClass e.cls with overflow := satInc l.overflow }, false)
  else if l.entries.length < 64 then
    ({ l.countClass e.cls with entries := l.entries ++ [e] }, l.entries.length + 1 == 64)
  else ({ l.countClass e.cls with overflow := satInc l.overflow }, false)

def ledgerWrite (s : State) (e : Entry) : State × Bool :=
  ({ s with ledger := (s.ledger.write e).1 }, (s.ledger.write e).2)

/-! ### The Store (05): address decode, reads and writes -/

/-- Bytes the Store spans (R97). -/
def State.storeSpan (s : State) : Nat := 0x100000000 * s.store.chanList.length

/-- The channel an address decodes to (R97); none is a decode error. -/
def State.channelOf (s : State) (a : Nat) : Option Nat :=
  if a < s.storeSpan then s.store.chanList[(a / 256) % s.store.chanList.length]? else none

/-- Base of the staging area: the top 4 MiB of the Store as mapped (R97). -/
def State.stagingBase (s : State) : Nat := 0x400000 * (1024 * s.store.chanList.length - 1)

/-- A channel whose retirement is queued or carried out (R107). -/
def State.channelGone (s : State) (c : Nat) : Bool := (s.channel c).state == 3 || (s.channel c).state == 5

/-- Cause codes of Table 5-6. -/
def causeDecode : Nat := 1
def causePoison : Nat := 2
def causeRetired : Nat := 3
def causeProtected : Nat := 4
def causeRegister : Nat := 5
def causeAlign : Nat := 6
def causeFetch : Nat := 7
def causeOpcode : Nat := 8
def causeMismatch : Nat := 9

/-- The accesses a byte range makes, one per 64-byte block: first address and length (R101). -/
def blockSpans : Nat → Nat → Nat → List (Nat × Nat)
  | 0, _, _ => []
  | fuel + 1, a, n =>
    if n = 0 then []
    else
      let k := min n (64 - a % 64)
      (a, k) :: blockSpans fuel (a + k) (n - k)

def spansOf (a n : Nat) : List (Nat × Nat) := blockSpans (n / 64 + 2) a n

/-- Why a read of a block would fail (R97, R101, R107). -/
def State.readFault (s : State) (a : Nat) : Option Nat :=
  match s.channelOf a with
  | none => some causeDecode
  | some c => if s.channelGone c || s.store.poison.contains (a / 64) then some causePoison else none

/-- Bytes of the Store; an unlisted byte reads 0. -/
def memBytes (m : List Host.Cell) (a : Nat) : Nat → List Byte
  | 0 => []
  | n + 1 => mapGet 0 m a :: memBytes m (a + 1) n

def memWrite (m : List Host.Cell) (a : Nat) : List Byte → List Host.Cell
  | [] => m
  | b :: bs => memWrite (mapSet 0 m a b) (a + 1) bs

/-- Read bytes of the Store: the bytes, or the first failing address and cause. -/
def State.storeRead (s : State) (a n : Nat) : Except (Nat × Nat) (List Byte) :=
  match (spansOf a n).findSome? (fun sp => (s.readFault sp.1).map (fun c => (sp.1, c))) with
  | some e => .error e
  | none => .ok (memBytes s.store.mem a n)

/-- A route-ring region of the running pattern covers some byte of the range (R99). -/
def State.inRingRegion (s : State) (a n : Nat) : Bool :=
  s.pattern.regions.any (fun r => r.kind == 4 && a < r.base + 0x10000 * r.size && r.base < a + n)

/-- A LOAD or PROGRAM is reading the staging area (R99). -/
def State.stagingBusy (s : State) : Bool :=
  match s.pat.op with
  | some op => op.source == 0
  | none => false

/-- Why a write to one block would fail (R97, R99, R107). `ring` marks the writes that route rings admit. A protected write
to a channel queued or pending retirement is PROTECTED. DESIGN CHOICE, log 137. -/
def State.writeFault (s : State) (ring : Bool) (a n : Nat) : Option Nat :=
  match s.channelOf a with
  | none => some causeDecode
  | some c =>
    if ring = false ∧ s.inRingRegion a n = true then some causeProtected
    else if s.stagingBusy = true ∧ s.stagingBase < a + n then some causeProtected
    else if s.channelGone c then some causeRetired
    else none

/-- Write one block's bytes: a whole block clears its poison (R101). -/
def State.putBlock (s : State) (a : Nat) (bs : List Byte) : State :=
  { s with store := { s.store with
      mem := memWrite s.store.mem a bs
      poison := if bs.length = 64 then s.store.poison.filter (· ≠ a / 64) else s.store.poison } }

/-- Write bytes block by block; every block that may be written is (R99), and the first failure is
reported. With `stop`, nothing is issued after a failure. -/
def State.writeSpans (ring stop : Bool) : List (Nat × Nat) → List Byte → State → Option (Nat × Nat) →
    State × Option (Nat × Nat)
  | [], _, s, f => (s, f)
  | (a, n) :: rest, bs, s, f =>
    match s.writeFault ring a n with
    | some c =>
      if stop then (s, some (a, c))
      else State.writeSpans ring stop rest (bs.drop n) s (f.orElse fun _ => some (a, c))
    | none => State.writeSpans ring stop rest (bs.drop n) (s.putBlock a (bs.take n)) f

/-- A Store write: the state after it, and the first failing address and cause. -/
def State.storeWrite (s : State) (a : Nat) (bs : List Byte) (ring : Bool := false) (stop : Bool := false) :
    State × Option (Nat × Nat) :=
  State.writeSpans ring stop (spansOf a bs.length) bs s none

/-! ### Events (R89 to R91, R414) -/

/-- An event bale (Table 4-4); head 0xFF takes the FC of the reference head. -/
def eventBale (s : State) (code tag head : Nat) (detail : List Byte) : Bale :=
  [byteOf code, 0] ++ leBytes 2 tag ++ [byteOf head, 0, 0, 0] ++ leBytes 8 s.time.tb.toNat ++
  leBytes 4 (s.fcOf (if head < 8 then some head else none)).toNat ++ [0, 0, 0, 0] ++ padTo 40 detail

def RouteSt.occupancy (r : RouteSt) : Nat := (r.put + 65536 - r.take) % 65536

def RouteSt.depth (r : RouteSt) : Nat := 2 ^ r.depthLog2

/-- Address of bale number i (R76). -/
def RouteSt.slotAddr (r : RouteSt) (i : Nat) : Nat := r.base + i % r.depth * 64

/-- A pattern binds ROUTE[15], and no zero fill is under way (R414, R108). -/
def State.outbound (s : State) : Bool := (s.route 15).consumer == 7 && !s.pat.filling

def State.loseEvent (s : State) : State :=
  { s with routes := { s.routes with lostCount := satInc s.routes.lostCount } }

/-- Write a bale at PUT of ROUTE[15]; a failed write loses the event (R77). -/
def State.writeOutbound (s : State) (b : Bale) : State :=
  match s.storeWrite ((s.route 15).slotAddr (s.route 15).put) b true with
  | (s', none) => s'.modRoute 15 (fun r => { r with put := (r.put + 1) % 65536 })
  | (s', some _) => s'.loseEvent

/-- Put an event bale out. The Bool says that an OVERFLOW was written in its place (R90). One free slot is one free slot,
also after a release: the next event is then another OVERFLOW. DESIGN CHOICE, log 127. -/
def State.emit (s : State) (b : Bale) : State × Bool :=
  if s.outbound = false then
    if s.routes.held.length < 16 then
      ({ s with routes := { s.routes with held := s.routes.held ++ [b] } }, false)
    else (s.loseEvent, false)
  else
    match (s.route 15).depth - (s.route 15).occupancy with
    | 0 => (s.loseEvent, false)
    | 1 => ((s.writeOutbound (eventBale s 0x85 0 0xFF [])).loseEvent, true)
    | _ => (s.writeOutbound b, false)

/-- Post a ready event bale, with the record an OVERFLOW makes (R90) and the LEDGER event that record
may make (R406). -/
def State.postBale (s : State) (b : Bale) : State :=
  match s.emit b with
  | (s1, false) => s1
  | (s1, true) =>
    match ledgerWrite s1 (mkEntry s1 0x03 classA 0 15 none false) with
    | (s2, false) => s2
    | (s2, true) => s2.loseEvent

/-- Post an event (R91). -/
def State.event (s : State) (code : Nat) (detail : List Byte) (head : Nat := 0xFF) (tag : Nat := 0) : State :=
  s.postBale (eventBale s code tag head detail)

/-- The LEDGER event (R406). -/
def State.ledgerEvent (s : State) (full : Nat) : State :=
  s.event 0xFD ([byteOf full, 0, 0, 0] ++ leBytes 4 s.ledger.generation.toNat)

def State.record' (s : State) (e : Entry) : State :=
  match ledgerWrite s e with
  | (s1, false) => s1
  | (s1, true) => s1.ledgerEvent 1

/-- Write a Ledger record (R391 to R396). -/
def State.record (s : State) (source cls : Nat) (detail : List (Nat × Nat)) (addr : Nat)
    (head : Option Nat := none) (secondary : Bool := false) : State :=
  s.record' (mkEntry s source cls (detailBits detail) addr head secondary)

end Sys2Proof.Machine
end

