-- ==== Sys2Proof/Machine/Operands.lean ====
section
/-! DEFINITION. Register values and formats taken apart: what each block reads from its registers. -/

namespace Sys2Proof.Machine

/-! ### Pixel formats (Table 7-1, R150) -/

/-- Bytes of a stored row of `w` pixels; for the two-plane formats one row of a plane (log 9). -/
def rowBytes (fmt w : Nat) : Nat :=
  match fmt with
  | 0 => 4 * w
  | 1 => 4 * w
  | 2 => 8 * w
  | 3 => 2 * w
  | 4 => 16 * ceilDiv w 6
  | 5 => w
  | 6 => 2 * w
  | _ => w

/-- Line bytes as the budget counts them (R149): 1.5W and 3W for the two-plane formats, rounded up. -/
def lineBytes (fmt w : Nat) : Nat :=
  match fmt with
  | 5 => ceilDiv (3 * w) 2
  | 6 => 3 * w
  | _ => rowBytes fmt w

def twoPlane (fmt : Nat) : Bool := fmt == 5 || fmt == 6

/-- End of a buffer with its chroma plane (R150). -/
def bufferEnd (fmt base pitch h : Nat) : Nat :=
  base + pitch * h + (if twoPlane fmt then pitch * ceilDiv h 2 else 0)

def half (n : Nat) : Nat := ceilDiv n 2

/-! ### Skeins (R167, R188) -/

/-- A skein's registers taken apart; `g` gives a register's shadow, or its active value. -/
def skeinCfgOf (g : Reg → Nat → Word) : SkeinCfg where
  enable     := bitAt (g .SKEIN_CONFIG 0) 0
  rank       := fld (g .SKEIN_CONFIG 0) 24 4
  floor      := min 2 (fld (g .SKEIN_CONFIG 0) 16 2)
  ingest     := bitAt (g .SKEIN_CONFIG 0) 12
  source     := fld (g .SKEIN_CONFIG 0) 8 4
  format     := fld (g .SKEIN_CONFIG 0) 4 3
  base       := 256 * fld (g .SKEIN_BASE 0) 0 27
  pitchUnits := fld (g .SKEIN_PITCH 0) 0 10
  width      := fld (g .SKEIN_SRC_SIZE 0) 0 16
  height     := fld (g .SKEIN_SRC_SIZE 0) 16 16
  srcX       := fld (g .SKEIN_SRC_ORIGIN 0) 0 16
  srcY       := fld (g .SKEIN_SRC_ORIGIN 0) 16 16
  srcW       := fld (g .SKEIN_SRC_EXTENT 0) 0 16
  srcH       := fld (g .SKEIN_SRC_EXTENT 0) 16 16
  dstX       := signed 16 (fld (g .SKEIN_DST_ORIGIN 0) 0 16)
  dstY       := signed 16 (fld (g .SKEIN_DST_ORIGIN 0) 16 16)
  dstW       := fld (g .SKEIN_DST_EXTENT 0) 0 16
  dstH       := fld (g .SKEIN_DST_EXTENT 0) 16 16
  redValid   := bitAt (g .SKEIN_REDUCED_BASE 0) 31
  redBase    := 256 * fld (g .SKEIN_REDUCED_BASE 0) 0 27
  redPitch   := 256 * fld (g .SKEIN_REDUCED_PITCH 0) 0 10
  standin    := g .SKEIN_STANDIN 0
  standinAlpha := fld (g .SKEIN_STANDIN_ALPHA 0) 0 10
  blend      := g .SKEIN_BLEND 0
  lumaKey    := g .SKEIN_LUMA_KEY 0
  chromaKey  := g .SKEIN_CHROMA_KEY 0
  needle     := g .SKEIN_NEEDLE 0
  cscControl := g .SKEIN_CSC_CONTROL 0
  csc        := (List.range 12).map (fun k => (g .SKEIN_CSC_COEF k).truncate 16)

def State.skeinShadow (s : State) (n : Nat) : SkeinCfg := skeinCfgOf (fun r k => s.reg r n k)
def State.skeinActive (s : State) (n : Nat) : SkeinCfg := skeinCfgOf (fun r k => s.act r n k)

/-- REQUEST of SKEIN_NEEDLE: 0 none, 1 any, 2 the needle in INDEX; 3 acts as 1 (R188). -/
def SkeinCfg.request (c : SkeinCfg) : Nat := if fld c.needle 8 2 = 3 then 1 else fld c.needle 8 2

def SkeinCfg.needleIndex (c : SkeinCfg) : Nat := fld c.needle 0 5

/-- FILTER: 0 built-in, 1 bilinear, 2 custom; 3 acts as 0 (R172). -/
def SkeinCfg.filter (c : SkeinCfg) : Nat := if fld c.needle 16 2 = 3 then 0 else fld c.needle 16 2

/-- The pattern requires a needle for the skein (Table 2-2). -/
def Pattern.needleRequired (p : Pattern) (n : Nat) : Bool :=
  match p.skein? n with
  | some r => natBit r.flags 0
  | none => false

/-- The skein uses a needle (R173): it requests one, or the pattern requires it. -/
def State.usesNeedle (s : State) (n : Nat) (c : SkeinCfg) : Bool := c.request != 0 || s.pattern.needleRequired n

/-- The reduced rectangle of R155. -/
def reducedRect (x y w h : Nat) : Nat × Nat × Nat × Nat :=
  (x / 2, y / 2, half (x + w) - x / 2, half (y + h) - y / 2)

/-- A rectangle's extent clipped to a raster (R46, R162): what is left of `w` from `x`. -/
def clipExtent (x w limit : Nat) : Nat := min (x + w) limit - x

/-! ### Sources (R139, R144) -/

/-- The newest frame's buffer, when the source has a valid one (R139, R140). -/
def SrcSt.newestBuf (q : SrcSt) : Option (Nat × BufSt) :=
  match q.newest with
  | some k => some (k, mapGet default q.bufs k)
  | none => none

/-! ### Heads (R193, R197, R208) -/

/-- The bind-off and cast-on lines a frame uses, and FRAME_CONFIG_ERR (R193). -/
def frameLines (vActive vTotal : Nat) (control : Word) : Nat × Nat × Bool :=
  let lead := clampNat 4 32 (fld control 0 6)
  let line := if fld control 16 13 = 0 then vActive else fld control 16 13
  if line < vActive ∨ vTotal ≤ line + lead then
    (vActive, vTotal - min lead (vTotal - vActive - 1), true)
  else (line, vTotal - lead, false)

def headGanged (r : HeadRec) : Bool := r.gang == 1

/-- Pixel rate in Hz, exactly (R44, R192). -/
def pixelRate (r : HeadRec) : Rat :=
  let f : Rat := 4800000000 / ((r.divN : Rat) + (r.divF : Rat) / 4294967296)
  if headGanged r then 4 * f else 2 * f

/-- Line rate in Hz. -/
def lineRate (r : HeadRec) : Rat := pixelRate r / (r.hTotal : Rat)

structure GaugeCfg where
  enable        : Bool
  restoreFrames : Nat
  restoreHigh   : Nat
  shedLow       : Nat
  deriving DecidableEq, Repr

/-- GAUGE_CONTROL taken apart: 0 frames act as 1, lines above 15 act as 15, and a ganged pair halves its
line thresholds, rounded down (R197, R208). -/
def gaugeCfg (w : Word) (ganged : Bool) : GaugeCfg where
  enable        := bitAt w 31
  restoreFrames := max 1 (fld w 16 4)
  restoreHigh   := min 15 (fld w 8 5) / (if ganged then 2 else 1)
  shedLow       := min 15 (fld w 0 5) / (if ganged then 2 else 1)

/-- The largest lead: lines complete ahead of the line scanning out (R194). -/
def maxLead (ganged : Bool) : Nat := if ganged then 7 else 15

/-- The head a port or record names, as the pattern presents it: the lower head for an upper one (R192). -/
def Pattern.owner? (p : Pattern) (h : Nat) : Option HeadRec :=
  match p.head? h with
  | some r => some r
  | none =>
    match p.head? (h - 1) with
    | some r => if h % 2 = 1 ∧ headGanged r then some r else none
    | none => none

/-- A head is the upper one of a ganged pair. -/
def Pattern.gangUpper (p : Pattern) (h : Nat) : Bool := (p.head? h).isNone && (p.owner? h).isSome

/-- A present head works: it has not failed (R32, R207). -/
def State.headWorks (s : State) (h : Nat) : Bool :=
  match s.pattern.owner? h with
  | some r => (s.head r.head).state != 4
  | none => false

/-- PORT_SELECT taken apart. -/
def portHead (w : Word) : Nat := fld w 0 3
def portEnable (w : Word) : Bool := bitAt w 7

/-- The head that drives connector c: enabled, present, working, and not already taken by a lower port (R200). -/
def State.portDriver (s : State) (c : Nat) : Option Nat :=
  let w := s.act .PORT_SELECT c
  if portEnable w = false ∨ s.headWorks (portHead w) = false then none
  else if (List.range c).any (fun d => portEnable (s.act .PORT_SELECT d) &&
      portHead (s.act .PORT_SELECT d) == portHead w) then none
  else some (portHead w)

/-- The connector a head drives. -/
def State.headPort (s : State) (h : Nat) : Option Nat := (List.range 8).find? (fun c => s.portDriver c == some h)

end Sys2Proof.Machine
end

