-- ==== Sys2Proof/Machine/Reply.lean ====
section
/-! DEFINITION. Answers to requests: Purl responses with their kept copies (R267, R274), and the USB result
record (R291, R292). -/

namespace Sys2Proof.Machine

/-! Status codes of Tables 13-3 and R292. -/

def stOk : Nat := 0x00
def stBusy : Nat := 0x01
def stChallenge : Nat := 0x02
def stMalformed : Nat := 0x03
def stVersion : Nat := 0x04
def stOpcode : Nat := 0x05
def stNotOwner : Nat := 0x06
def stAuth : Nat := 0x07
def stOwned : Nat := 0x08
def stRefused : Nat := 0x09
def stFull : Nat := 0x0A
def stUnbound : Nat := 0x0B
def stCheck : Nat := 0x0C
def stStore : Nat := 0x0D
def stSession : Nat := 0x0E
def stIncomplete : Nat := 0x0F
def stFloor : Nat := 0x10
def stNoRegion : Nat := 0x11

/-- VLAN tag a port sends with (R263). -/
def State.vlanTag (s : State) (p : Nat) : Option (Nat × Nat) :=
  if bitAt (s.reg .NET_CONFIG p) 5 then some (fld (s.reg .NET_VLAN p) 0 12, fld (s.reg .NET_VLAN p) 12 3) else none

/-- Send a frame through a network port; sent frames are counted (R288). -/
def State.sendNet (s : State) (p dscp : Nat) (m : NetMsg) : State :=
  (s.send (.net p (s.vlanTag p) dscp m)).modPort p (fun q => { q with tx := satInc q.tx })

/-- The address a port holds: static, or leased under DHCP; 0 for none (R264). -/
def State.addressOf (s : State) (p : Nat) : Word :=
  if bitAt (s.reg .NET_CONFIG p) 4 then (if (s.netPort p).leased then (s.netPort p).address else 0)
  else s.reg .NET_ADDRESS p

/-- A port answers and sends: its link is up and it holds an address (R264). -/
def State.netReady (s : State) (p : Nat) : Bool := (s.netPort p).link && s.addressOf p != 0

/-! Opcodes of Table 13-2. -/

def opClaim : Nat := 0x01
def opRelease : Nat := 0x02
def opRead : Nat := 0x03
def opWrite : Nat := 0x04
def opPost : Nat := 0x05
def opStoreRead : Nat := 0x06
def opStoreWrite : Nat := 0x07
def opCapture : Nat := 0x08
def opEvent : Nat := 0x09

/-- A request's OPCODE. -/
def PurlBody.opcode : PurlBody → Nat
  | .challenge => opClaim
  | .claim _ => opClaim
  | .release => opRelease
  | .read _ _ => opRead
  | .write _ _ _ => opWrite
  | .post _ _ => opPost
  | .storeRead _ _ => opStoreRead
  | .storeWrite _ _ _ => opStoreWrite
  | .captureStore _ _ => opCapture
  | .captureLedger => opCapture
  | .capturePowerLog => opCapture
  | .captureRelease _ => opCapture
  | .malformed op => op

/-- PARAM of its response: the route of a POST, otherwise 0 (Table 13-1). -/
def PurlBody.param : PurlBody → Nat
  | .post route _ => route
  | _ => 0

/-- Requests belong to one session: one SESSION from one address and UDP port, and for a SESSION other than 0 one network
port, to which the session is bound (R270). -/
def sameSession (c : Client) (sess : Word) (c' : Client) (sess' : Word) : Bool :=
  sess == sess' && c.addr == c'.addr && c.port == c'.port && (sess == 0 || c.net == c'.net)

/-- Keep the newest 16 responses of a session (R274). DEDUCED, log 54. -/
def keepReply (kept : List Kept) (k : Kept) : List Kept :=
  let mine := kept.filter (fun x => sameSession x.client x.session k.client k.session)
  let rest := kept.filter (fun x => !sameSession x.client x.session k.client k.session)
  rest ++ (mine ++ [k]).drop (mine.length + 1 - 16)

/-- Send a Purl datagram with PURL_DSCP; a port without a valid address sends none (R264, R266). -/
def State.sendPurl (s : State) (p : Nat) (m : NetMsg) : State :=
  if s.netReady p then s.sendNet p (fld (s.reg .PURL_CONFIG) 16 6) m else s

/-- The request in flight that a client's SESSION, SEQUENCE and OPCODE name (R274). -/
def Flight.names (f : Flight) (req : PurlReq) (opcode : Nat) : Bool :=
  sameSession f.client f.session req.client req.session && f.seq == req.seq && f.body.opcode == opcode

/-- Answer a Purl request (R267, R269). `executed` responses are kept for repeats (R274); `session` is the
header's SESSION, which the answer to CLAIM step 1 replaces (R271). -/
def State.purlReply (s : State) (req : PurlReq) (opcode status : Nat) (payload : List Byte)
    (executed : Bool := true) (session : Option Word := none) (param : Nat := 0) : State :=
  let m := NetMsg.purl req.client opcode status param req.seq (session.getD req.session) payload
  let s1 := s.sendPurl req.client.net m
  let kept := if executed then keepReply s.net.kept ⟨req.client, req.session, req.seq, opcode, m⟩ else s.net.kept
  { s1 with net := { s1.net with kept := kept, flight := s.net.flight.eraseP (fun f => f.names req opcode) } }

/-- Replace the USB result record (Table 14-4). -/
def State.usbRecord (s : State) (request result completed : Nat) : State :=
  { s with usb := { s.usb with request := request, result := result, completed := completed } }

/-- Finish a USB request: a result other than OK is answered with STALL (R291, R292). DEDUCED, log 72. -/
def State.usbFinish (s : State) (request result : Nat) (completed : Nat := 0) : State :=
  (s.usbRecord request result completed).send (if result = stOk then .usbAck else .usbStall)

end Sys2Proof.Machine
end

