-- ==== Sys2Proof/Machine/Routes.lean ====
section
/-! DEFINITION. Routes, the post unit and fences (04): posting, fetching, starting and completing bales, bad
bales, and route resets. -/

namespace Sys2Proof.Machine

/-! ### Bale fields (Table 4-2) -/

def baleOpcode (b : Bale) : Nat := leAt b 0 1
def baleFlag (b : Bale) (k : Nat) : Bool := natBit (leAt b 1 1) k
def baleTag (b : Bale) : Nat := leAt b 2 2
def baleFence (b : Bale) : Nat := leAt b 4 1
def baleWaitValue (b : Bale) : Nat := leAt b 6 2
def flagFenceWait : Nat := 0
def flagFenceSignal : Nat := 1
def flagEventOnDone : Nat := 2

/-! ### Consumers (Table 4-1) -/

inductive Consumer where
  | unbound
  | raster (c : Nat)
  | block
  | executor
  | outbound
  | porter (n : Nat)
  deriving DecidableEq, Repr

def consumerOf (code : Nat) : Consumer :=
  if 1 ≤ code ∧ code ≤ 4 then .raster (code - 1)
  else if code = 5 then .block
  else if code = 6 then .executor
  else if code = 7 then .outbound
  else if 0x10 ≤ code ∧ code ≤ 0x1F then .porter (code - 0x10)
  else .unbound

def State.consumer (s : State) (r : Nat) : Consumer := consumerOf (s.route r).consumer

/-- The route bound to a consumer. -/
def State.routeFor (s : State) (c : Consumer) : Option Nat := (List.range 16).find? (fun r => s.consumer r == c)

/-- The route carries bales to a consumer. -/
def State.inbound (s : State) (r : Nat) : Bool :=
  match s.consumer r with
  | .unbound => false
  | .outbound => false
  | _ => true

/-! ### Posting (R77 to R81) -/

def postPosted : Nat := 1
def postFull : Nat := 2
def postUnbound : Nat := 3
def postStore : Nat := 4

/-- Slots of a route that bales posted and not yet written will take (R80). -/
def State.postsAhead (s : State) (r : Nat) : Nat :=
  ((s.routes.posts.filter (fun p => p.route == r)).map (fun p => p.bales.length)).foldl (· + ·) 0

def State.routeBusyReset (s : State) (r : Nat) : Bool :=
  (s.route r).resetting.isSome || s.routes.resetWait.any (fun w => w.1 == r)

/-- How the post unit answers a post of n bales (R80, R93): POST_RESULT's codes. -/
def State.postStatus (s : State) (r n : Nat) : Nat :=
  if s.inbound r = false then postUnbound
  else if s.routeBusyReset r = true ∨ (s.route r).depth < (s.route r).occupancy + s.postsAhead r + n then postFull
  else postPosted

/-- Producer codes of POST_DROPPED (Table 4-5). -/
def producerCode : Producer → Nat
  | .cmp n => n
  | .console => 0x40
  | .porter n _ => 0x50 + n
  | .stage _ => 0xFF
  | .purl _ => 0xFF
  | .usb => 0xFF

def producerInternal : Producer → Bool
  | .cmp _ => true
  | .console => true
  | .porter _ _ => true
  | .stage _ => false
  | .purl _ => false
  | .usb => false

/-- An internal bale lost (R80): counted, reported and recorded. -/
def State.dropPost (s : State) (r : Nat) (b : Bale) (producer : Nat) : State :=
  (((s.modRoute r (fun q => { q with dropCount := satInc q.dropCount })).event 0x86
    ([byteOf r, byteOf producer] ++ leBytes 2 (baleTag b)) 0xFF (baleTag b))).record 0x03 classA [] r

/-- Present a post to the post unit: accepted posts wait to be written (R80). -/
def State.acceptPost (s : State) (r : Nat) (bales : List Bale) (p : Producer) : State × Nat :=
  match s.postStatus r bales.length with
  | 1 => ({ s with routes := { s.routes with posts := s.routes.posts ++ [⟨r, bales, p⟩] } }, postPosted)
  | st => (s, st)

/-! Fence counts (R87) -/

def State.fence (s : State) (f : Nat) : Nat := (mapGet (0 : BitVec 16) s.routes.fences f).toNat

def State.setFence (s : State) (f v : Nat) : State :=
  { s with routes := { s.routes with fences := mapSet 0 s.routes.fences f (BitVec.ofNat 16 v) } }

def State.signalFence (s : State) (f : Nat) : State := s.setFence f (s.fence f + 1)

/-- A post by a producer of the unit's own (R79, R80). A SIGNAL whose post is refused still increments its fence. -/
def State.postInternal (s : State) (r : Nat) (b : Bale) (p : Producer) : State :=
  match s.acceptPost r [b] p with
  | (s', 1) => s'
  | (s', _) =>
    let s1 := s'.dropPost r b (producerCode p)
    match p with
    | .porter _ (some f) => s1.signalFence f
    | _ => s1

/-- Write a post's bales from bale number i; the Bool says that every write was confirmed (R77). -/
def State.writeBales (s : State) (r i : Nat) : List Bale → State × Bool
  | [] => (s, true)
  | b :: bs =>
    match s.storeWrite ((s.route r).slotAddr i) b true with
    | (s', none) => State.writeBales s' r (i + 1) bs
    | (s', some _) => ((State.writeBales s' r (i + 1) bs).1, false)

/-- Tell the producer how its post ended (R77, R95, R269, R291). POST_RESULT answers the last ROUTE_POST only. -/
def State.finishPost (s : State) (p : Post) (ok : Bool) : State :=
  match p.producer with
  | .stage n =>
    if n = s.routes.stageSerial
    then { s with routes := { s.routes with postResult := if ok then postPosted else postStore } } else s
  | .purl req =>
    if ok then s.purlReply req opPost stOk (beBytes 2 (s.route p.route).put) true none p.route
    else s.purlReply req opPost stStore [] true none p.route
  | .usb => s.usbFinish 0x07 (if ok then stOk else stStore)
  | .cmp n => if ok then s else s.dropPost p.route (p.bales.headD []) n
  | .console => if ok then s else s.dropPost p.route (p.bales.headD []) 0x40
  | .porter n f =>
    let s1 := if ok then s else s.dropPost p.route (p.bales.headD []) (0x50 + n)
    match f with
    | some k => s1.signalFence k
    | none => s1

/-! ### Route reset (R53, R93, R108) -/

/-- The ROUTE_RESET events of a reset, as cause and bales discarded: its own, and one more for each restitch that
rebound the route while it waited, whose bales the first has counted. DEDUCED, log 132. -/
def Resetting.events (z : Resetting) : List (Nat × Nat) := (z.cause, z.discarded) :: List.replicate z.rebound (1, 0)

def State.resetEvent (r : Nat) (s : State) (e : Nat × Nat) : State :=
  s.event 0x82 ([byteOf r, byteOf e.1] ++ leBytes 2 e.2)

/-- The reset's last step: indices to 0, the new binding if any, and the ROUTE_RESET event, which a zero
fill keeps back (R108). -/
def State.finishReset (s : State) (r : Nat) (z : Resetting) : State :=
  let s1 := s.modRoute r (fun q => match z.rebind with
    | none => { q with put := 0, take := 0, fetched := [], started := [], resetting := none }
    | some b => { q with put := 0, take := 0, fetched := [], started := [], resetting := none,
                         consumer := b.consumer, depthLog2 := b.depthLog2, base := b.ringBase })
  let s1 := if r = 15 then { s1 with net := { s1.net with eventNext := 0 } } else s1
  if s1.pat.filling then
    { s1 with routes := { s1.routes with fillResets := s1.routes.fillResets ++ z.events.map (fun e => (r, e)) } }
  else z.events.foldl (State.resetEvent r) s1

/-- Begin a reset: bales not started are abandoned, started ones run to their end (R93). -/
def State.beginReset (s : State) (r : Nat) (cause : Nat) (rebind : Option RouteRec) (rebound : Nat := 0) : State :=
  let q := s.route r
  let z : Resetting := ⟨cause, q.occupancy - q.started.length, rebind, rebound⟩
  if q.started.isEmpty then s.finishReset r z
  else s.modRoute r (fun q => { q with fetched := [], resetting := some z })

/-- A restitch's new binding and its own ROUTE_RESET join a reset still waiting (R53). -/
def Resetting.rebindTo (z : Resetting) (b : RouteRec) : Resetting := { z with rebind := some b, rebound := z.rebound + 1 }

def State.rebindWaiting (s : State) (r : Nat) (b : RouteRec) : State :=
  let s1 := s.modRoute r (fun q => { q with resetting := q.resetting.map (·.rebindTo b) })
  let waits := s1.routes.resetWait.map (fun w => if w.1 = r then (w.1, w.2.rebindTo b) else w)
  { s1 with routes := { s1.routes with resetWait := waits } }

/-- Reset a route at once, or after the post being written to it (R80, R93). A further reset of a route
whose reset waits is absorbed. -/
def State.resetRoute (s : State) (r : Nat) (cause : Nat) (rebind : Option RouteRec) : State :=
  if s.routeBusyReset r then
    match rebind with
    | none => s
    | some b => s.rebindWaiting r b
  else if s.routes.posts.any (fun p => p.route == r) then
    { s with routes := { s.routes with resetWait := s.routes.resetWait ++ [(r, ⟨cause, 0, rebind, 0⟩)] } }
  else s.beginReset r cause rebind

/-- Carry out a reset that waited for a post, once no post to the route is left (R93). -/
def State.releaseReset (s : State) (r : Nat) : State :=
  if s.routes.posts.any (fun p => p.route == r) then s
  else
    match s.routes.resetWait.find? (fun w => w.1 == r) with
    | none => s
    | some w =>
      let s1 := { s with routes := { s.routes with resetWait := s.routes.resetWait.filter (fun x => x.1 ≠ r) } }
      s1.beginReset r w.2.cause w.2.rebind w.2.rebound

/-- The oldest accepted post is written: PUT advances over all of it, or it fails as a whole (R77). -/
def State.writePost (s : State) : State :=
  match s.routes.posts with
  | [] => s
  | p :: rest =>
    let s1 := { s with routes := { s.routes with posts := rest } }
    match s1.writeBales p.route (s1.route p.route).put p.bales with
    | (s2, ok) =>
      let s3 := if ok
        then s2.modRoute p.route (fun q => { q with put := (q.put + p.bales.length) % 65536 })
        else s2
      (s3.finishPost p ok).releaseReset p.route

/-! ### Fetch (R83) -/

/-- The next bale number to fetch. -/
def RouteSt.nextFetch (q : RouteSt) : Nat := (q.take + q.started.length + q.fetched.length) % 65536

/-- Bales not yet fetched. -/
def RouteSt.unfetched (q : RouteSt) : Nat := q.occupancy - (q.started.length + q.fetched.length)

def State.fetchOne (s : State) (r : Nat) : State :=
  let q := s.route r
  let i := q.nextFetch
  let data := match s.storeRead (q.slotAddr i) 64 with
    | .ok b => some b
    | .error _ => none
  s.modRoute r (fun q => { q with fetched := q.fetched ++ [⟨i, data⟩] })

def State.fetchMany (s : State) (r : Nat) : Nat → State
  | 0 => s
  | n + 1 => State.fetchMany (s.fetchOne r) r n

/-- One fetch of the rest of a 256-byte unit, while no more than 8 bales wait (R83). A reset stops it once it has taken
effect, which a post being written puts off (R93). -/
def State.fetchRoute (s : State) (r : Nat) : State :=
  let q := s.route r
  let n := min (4 - q.nextFetch % q.depth % 4) q.unfetched
  if s.inbound r = false ∨ q.resetting.isSome = true ∨ 8 < q.fetched.length + n then s else s.fetchMany r n

/-! ### Completion, fences and bad bales (R78, R86, R87) -/

/-- The wait of R87 is met. -/
def State.fenceMet (s : State) (f value : Nat) : Bool := (s.fence f + 65536 - value) % 65536 < 32768

/-- COMPLETION for every complete bale that asks for it and has not had it. -/
def State.reportDone (s : State) (r : Nat) : List Started → State
  | [] => s
  | b :: bs =>
    let s1 := if b.done && !b.reported && baleFlag b.data flagEventOnDone
      then s.event 0x83 ([byteOf r, byteOf b.bad.toNat] ++ leBytes 2 b.index) 0xFF (baleTag b.data) else s
    State.reportDone s1 r bs

/-- TAKE passes complete bales in ring order, signalling their fences. -/
def State.passDone (s : State) (r : Nat) : List Started → State
  | [] => s
  | b :: bs =>
    if b.done then
      let s1 := s.modRoute r (fun q => { q with take := (q.take + 1) % 65536, started := bs })
      let s2 := if baleFlag b.data flagFenceSignal && decide (baleFence b.data < 32)
        then s1.signalFence (baleFence b.data) else s1
      State.passDone s2 r bs
    else s

/-- Completed bales are reported and passed (R78). -/
def State.completeBales (s : State) (r : Nat) : State :=
  let s1 := s.reportDone r (s.route r).started
  let mark := fun (b : Started) => { b with reported := b.reported || b.done }
  let s2 := s1.modRoute r (fun q => { q with started := q.started.map mark })
  s2.passDone r (s2.route r).started

/-- A started bale's place in its route's list is updated. -/
def State.modStarted (s : State) (r i : Nat) (f : Started → Started) : State :=
  s.modRoute r (fun q => { q with started := q.started.map (fun b => if b.index = i then f b else b) })

def State.finishBale (s : State) (r i : Nat) (bad : Bool) : State :=
  s.modStarted r i (fun b => { b with done := true, bad := bad })

/-- The count and the BALE_FAULT event of a bad bale (R86). -/
def State.baleFault (s : State) (r i : Nat) (opcode : Byte) (tag reason : Nat) : State :=
  (s.modRoute r (fun q => { q with badCount := satInc q.badCount })).event 0x84
    ([byteOf r, opcode] ++ leBytes 2 i ++ [byteOf reason]) 0xFF tag

/-- Mark a bale bad (R86): BAD in the Store when its fetch succeeded, the count and BALE_FAULT. The caller
writes the one record. A bale that could not be fetched has no TAG to give, and its OPCODE is a free value. DESIGN
CHOICE, log 129. -/
def State.markBad (s : State) (r i : Nat) (data : Option Bale) (reason : Nat) : State :=
  match data with
  | none =>
    let (k, s1) := s.takeFree
    s1.baleFault r i (Config.freeByte k 0) 0 reason
  | some b =>
    (s.storeWrite ((s.route r).slotAddr i + 1) [byteOf (leAt b 1 1) ||| 8] true).1.baleFault r i
      (byteOf (baleOpcode b)) (baleTag b) reason

/-- A record whose address field the manual does not name: a free value (log 2). -/
def State.recordOpen (s : State) (source cls : Nat) (detail : List (Nat × Nat)) (head : Option Nat := none)
    (secondary : Bool := false) : State :=
  let (k, s1) := s.takeFree
  s1.record source cls detail (Config.freeWord k).toNat head secondary

/-- The record of a bale its consumer refuses (R86). The executor's bales are recorded by the routes with
their number. Raster and block records are given where their address field is known. -/
def State.refuseRecord (s : State) (r i reason : Nat) : State :=
  match s.consumer r with
  | .raster _ => s.recordOpen 0x0D classA []
  | .block => ({ s with block := { s.block with badCount := satInc s.block.badCount } }).recordOpen 0x0F classA []
  | .porter n =>
    (s.modPorter n (fun p => { p with badCount := satInc p.badCount })).recordOpen 0x05 classA [(8, n), (8, reason)]
  | _ => s.record 0x03 classA [] i

/-- Mark a started bale bad and complete, with the consumer's record. -/
def State.refuseBale (s : State) (r : Nat) (b : Started) (reason : Nat) : State :=
  ((s.markBad r b.index (some b.data) reason).refuseRecord r b.index reason).finishBale r b.index true

/-! ### Start (R78, R83, R87) -/

/-- Why a consumer refuses an opcode (R86, R123, Tables 10-3 and 11-4). -/
def opcodeReason (c : Consumer) (op : Nat) : Option Nat :=
  if op = 0 then none
  else
    match c with
    | .raster _ => if 0x20 ≤ op ∧ op ≤ 0x23 then none else some 1
    | .block => if op = 0x30 ∨ op = 0x31 then none else some 1
    | .executor => if op = 1 ∨ op = 2 then none else some 1
    | .porter _ => if 0x40 ≤ op ∧ op ≤ 0x43 then none else some causeOpcode
    | _ => none

def State.openCount (s : State) (r : Nat) : Nat := ((s.route r).started.filter (fun b => !b.done)).length

def State.blockRoutes (s : State) : List Nat := (List.range 16).filter (fun r => s.consumer r == .block)

/-- Operations the block engine has in flight (R233). -/
def State.blockInFlight (s : State) : Nat := (s.block.slots.filter (fun p => p.2.isSome)).length

/-- The operation in a slot of the block engine (R233). -/
def State.slotAt (s : State) (k : Nat) : Option BlockRun := mapGet none s.block.slots k

/-- The register operation is in a slot. -/
def State.regOpRunning (s : State) : Bool :=
  (List.range 4).any (fun k => match s.slotAt k with
    | some r => r.op.bale.isNone
    | none => false)

/-- The register operation is waiting or running (R231). -/
def State.regOpBusy (s : State) : Bool := s.block.regWait.isSome || s.regOpRunning

/-- A range lies inside one raster bin region of the pattern (R226); an empty range lies anywhere. -/
def State.inRasterBin (s : State) (a n : Nat) : Bool :=
  n == 0 || s.pattern.regions.any (fun r => r.kind == 3 && decide (r.base ≤ a) && decide (a + n ≤ r.base + 0x10000 * r.size))

/-- A context's bin memory lies outside the raster bin regions: that of its frame, or before a TARGET that of its
registers (R226). -/
def State.binInvalid (s : State) (c : Nat) : Bool :=
  let k := s.context c
  !(if k.target.isSome then s.inRasterBin k.binBase (4096 * (s.reg .RE_BIN_SIZE c).toNat)
    else s.inRasterBin (s.pair .RE_BIN_BASE_LOW c) (4096 * (s.reg .RE_BIN_SIZE c).toNat))

/-- A context waits in an END_FRAME or a GROW wait, and starts nothing after it (R210, R219). -/
def State.contextBusy (s : State) (c : Nat) : Bool := (s.context c).rendering || (s.context c).growWait

/-- The consumer has room and takes bales now: its window (Table 4-1, and R233 for the slots that the register
operation and both routes share), its mode and its enable. -/
def State.consumerReady (s : State) (r : Nat) : Bool :=
  if s.holding then false
  else
    match s.consumer r with
    | .raster c => bitAt (s.reg .RE_CONTEXT_CONTROL c) 0 && !s.binInvalid c && !s.contextBusy c &&
        !(s.route r).started.any (fun b => !b.done && baleOpcode b.data == 0x23) && decide (s.openCount r < 16)
    | .block => decide ((s.blockRoutes.map s.openCount).foldl (· + ·) (if s.regOpBusy then 1 else 0) < 4)
    | .executor => decide (s.openCount r < 1)
    | .porter n => (s.porterCh n).live.mode == 3 && fld (s.reg .PORTER_CONFIG n) 0 2 == 3 &&
        (s.porterCh n).state != 2 && !(s.porterCh n).clearing &&
        decide (s.openCount r < 16)
    | _ => false

/-- The next fetched bale waits on a fence (ROUTE_STATE 2). -/
def State.fenceWaiting (s : State) (r : Nat) : Bool :=
  match (s.route r).fetched with
  | ⟨_, some b⟩ :: _ => baleFlag b flagFenceWait && decide (baleFence b < 32) &&
      !s.fenceMet (baleFence b) (baleWaitValue b)
  | _ => false

/-- The block engine takes from its routes in turn (Table 4-1, R233): another of its routes with a bale
ready comes before r. Before the first turn either route may go. DESIGN CHOICE, log 130. -/
def State.otherTurn (s : State) (r : Nat) : Bool :=
  s.consumer r == .block && s.routes.lastBlock == some r &&
    s.blockRoutes.any (fun q => q != r && !(s.route q).fetched.isEmpty && !s.fenceWaiting q)

/-- A bale the route marks bad before any consumer sees it (R86): FETCH 0xFF or FENCE 0xFE. -/
def State.routeBad (s : State) (r : Nat) (f : Fetched) (reason : Nat) : State :=
  let s1 := s.modRoute r (fun q => { q with
    fetched := q.fetched.tail
    started := q.started ++ [⟨f.index, f.data.getD [], true, true, true, f.data.isNone⟩] })
  (s1.markBad r f.index f.data reason).record 0x03 classA [] f.index

/-- Start the next bale of a route, or mark it bad; nothing of it in debug hold (R303). -/
def State.startBale (s : State) (r : Nat) : State :=
  if (s.route r).resetting.isSome || s.holding then s
  else
    match (s.route r).fetched with
    | [] => s
    | f :: _ =>
      match f.data with
      | none => s.routeBad r f 0xFF
      | some b =>
        if (baleFlag b flagFenceWait || baleFlag b flagFenceSignal) && decide (31 < baleFence b) then s.routeBad r f 0xFE
        else if s.fenceWaiting r || !s.consumerReady r || s.otherTurn r then s
        else
          let st : Started := ⟨f.index, b, false, false, false, false⟩
          let s1 := s.modRoute r (fun q => { q with fetched := q.fetched.tail, started := q.started ++ [st] })
          let s2 := if s.consumer r == .block then { s1 with routes := { s1.routes with lastBlock := some r } } else s1
          match opcodeReason (s.consumer r) (baleOpcode b) with
          | some reason => s2.refuseBale r st reason
          | none => s2

/-- The oldest started bale that its consumer has not taken, when its opcode is `op`. -/
def State.nextStarted (s : State) (r op : Nat) : Option Started :=
  match (s.route r).started.find? (fun b => !b.done && !b.taken) with
  | some b => if baleOpcode b.data = op then some b else none
  | none => none

end Sys2Proof.Machine
end

