-- ==== Sys2Proof/Machine/Block.lean ====
section
/-! DEFINITION. The block engine (11): commands, checks, transforms, clipping, scheduling and bursts. -/

namespace Sys2Proof.Machine

/-! ### Formats (R228, R229, Table 11-2) -/

/-- Granule of a format in pixels and lines. -/
def granule (fmt : Nat) : Nat × Nat :=
  match fmt with
  | 3 => (2, 1)
  | 4 => (6, 1)
  | 5 => (2, 2)
  | 6 => (2, 2)
  | _ => (1, 1)

/-- One plane as the engine moves it: unit width and height in pixels, and the unit's bytes. -/
structure BePlane where
  uw     : Nat
  uh     : Nat
  bytes  : Nat
  chroma : Bool
  deriving DecidableEq, Repr

def bePlanes (fmt : Nat) : List BePlane :=
  match fmt with
  | 0 => [⟨1, 1, 4, false⟩]
  | 1 => [⟨1, 1, 4, false⟩]
  | 2 => [⟨1, 1, 8, false⟩]
  | 3 => [⟨2, 1, 4, false⟩]
  | 4 => [⟨6, 1, 16, false⟩]
  | 5 => [⟨2, 1, 2, false⟩, ⟨2, 2, 2, true⟩]
  | 6 => [⟨2, 1, 4, false⟩, ⟨2, 2, 4, true⟩]
  | _ => [⟨1, 1, 1, false⟩]

/-- A unit's bytes of FILL (R228). -/
def fillUnit (fmt : Nat) (p : BePlane) (fill : List Byte) : List Byte :=
  let n := leNat fill
  let y := n % 1024
  let cb := n / 1024 % 1024
  let cr := n / 1048576 % 1024
  let w := fun (a b c : Nat) => leBytes 4 (a + 1024 * b + 1048576 * c)
  match fmt with
  | 3 => [byteOf cb, byteOf y, byteOf cr, byteOf y]
  | 4 => w cb y cr ++ w y cb y ++ w cr y cb ++ w y cr y
  | 5 => if p.chroma then [byteOf cb, byteOf cr] else [byteOf y, byteOf y]
  | 6 => if p.chroma then leBytes 2 (cb * 64) ++ leBytes 2 (cr * 64) else leBytes 2 (y * 64) ++ leBytes 2 (y * 64)
  | _ => fill.take p.bytes

/-- Transforms that turn a W × H extent into H × W. -/
def swaps (t : Nat) : Bool := t == 1 || t == 3 || t == 6 || t == 7

/-- Table 11-1: where the unit at (i, j) of a W × H extent goes. -/
def transformed (t w h i j : Nat) : Nat × Nat :=
  match t with
  | 1 => (h - 1 - j, i)
  | 2 => (w - 1 - i, h - 1 - j)
  | 3 => (j, w - 1 - i)
  | 4 => (w - 1 - i, j)
  | 5 => (i, h - 1 - j)
  | 6 => (j, i)
  | 7 => (h - 1 - j, w - 1 - i)
  | _ => (i, j)

/-- FILL ignores TRANSFORM (R227). -/
def BlockOp.turn (o : BlockOp) : Nat := if o.fillOp then 0 else o.transform

def BlockOp.dstW (o : BlockOp) : Nat := if swaps o.turn then o.h else o.w
def BlockOp.dstH (o : BlockOp) : Nat := if swaps o.turn then o.w else o.h

/-- Address of a unit, by its column and row in units. -/
def unitAddr (base pitch planeH : Nat) (p : BePlane) (ux uy : Nat) : Nat :=
  base + (if p.chroma then 256 * pitch * planeH else 0) + 256 * pitch * uy + p.bytes * ux

/-- The span of a buffer access: first byte, and the byte after the last (R234). -/
def spanOfRect (fmt base pitch planeH x y w h : Nat) : Nat × Nat :=
  let ends := (bePlanes fmt).map (fun p =>
    unitAddr base pitch planeH p ((x + w) / p.uw - 1) ((y + h) / p.uh - 1) + p.bytes)
  let starts := (bePlanes fmt).map (fun p => unitAddr base pitch planeH p (x / p.uw) (y / p.uh))
  (starts.foldl min (starts.headD 0), ends.foldl max 0)

def BlockOp.srcSpan (o : BlockOp) : Nat × Nat := spanOfRect o.format o.srcBase o.srcPitch o.srcPlane o.srcX o.srcY o.w o.h
def BlockOp.dstSpan (o : BlockOp) : Nat × Nat :=
  spanOfRect o.format o.dstBase o.dstPitch o.dstPlane o.dstX o.dstY o.dstW o.dstH

def meets (a b : Nat × Nat) : Bool := decide (a.1 < b.2) && decide (b.1 < a.2)

/-! ### Checks (R237, Table 11-4) -/

def transformAllowed (fmt t : Nat) : Bool :=
  if 3 ≤ fmt ∧ fmt ≤ 6 then t == 0 || t == 5 else decide (t ≤ 7)

def BlockOp.aligned (o : BlockOp) : Bool :=
  let (gx, gy) := granule o.format
  let ok := fun (g n : Nat) => decide (n % g = 0)
  ok gx o.dstX && ok gy o.dstY && ok gx o.w && ok gy o.h && decide (o.dstBase % 256 = 0) &&
  (o.fillOp || (ok gx o.srcX && ok gy o.srcY && decide (o.srcBase % 256 = 0)))

def pitchOk (fmt pitch x w : Nat) : Bool := pitch != 0 && decide (lineBytes fmt (x + w) ≤ 256 * pitch)

/-- The first reason of codes 2 to 7 that applies; 0 when none does. CLIP reading is judged by the caller.
DEDUCED, log 30. -/
def BlockOp.checkReason (o : BlockOp) (span : Nat) (clipBad : Bool) : Nat :=
  if 7 < o.format ∨ (o.fillOp = false ∧ transformAllowed o.format o.transform = false) then 2
  else if o.aligned = false then 3
  else if pitchOk o.format o.dstPitch o.dstX o.dstW = false ∨
      (o.fillOp = false ∧ pitchOk o.format o.srcPitch o.srcX o.w = false) then 4
  else if o.w = 0 ∨ 8192 < o.w ∨ o.h = 0 ∨ 8192 < o.h ∨ span < o.dstSpan.2 ∨ (o.fillOp = false ∧ span < o.srcSpan.2) then 5
  else if 8 < o.clipCount ∨ clipBad = true then 6
  else if o.fillOp = false ∧ o.transform ≠ 0 ∧ meets o.srcSpan o.dstSpan = true then 7
  else 0

/-! ### Clipping (R230) -/

/-- A destination granule holding pixel (x, y) has a pixel inside a clip rectangle. -/
def BlockOp.inClip (o : BlockOp) (clips : List (Nat × Nat × Nat × Nat)) (x y : Nat) : Bool :=
  let (gx, gy) := granule o.format
  let x0 := x / gx * gx
  let y0 := y / gy * gy
  o.clipCount == 0 || clips.any (fun (cx, cy, cw, ch) =>
    decide (x0 < cx + cw) && decide (cx < x0 + gx) && decide (y0 < cy + ch) && decide (cy < y0 + gy) &&
    cw != 0 && ch != 0)

/-- The clip list of a bale operation: entries, or the failing address (R232). -/
def State.clipsOf (s : State) (o : BlockOp) : Except Nat (List (Nat × Nat × Nat × Nat)) :=
  match o.bale with
  | none => .ok (o.clips.take o.clipCount)
  | some _ =>
    if o.clipCount = 0 ∨ 8 < o.clipCount then .ok []
    else
      match s.storeRead o.clipList (8 * o.clipCount) with
      | .ok bs => .ok ((List.range o.clipCount).map (fun k =>
          (leAt bs (8 * k) 2, leAt bs (8 * k + 2) 2, leAt bs (8 * k + 4) 2, leAt bs (8 * k + 6) 2)))
      | .error e => .error e.1

/-! ### Moving data (R227, R235, R237) -/

/-- The move that ends in the destination of the unit at column i and row j of the source (R227). -/
def BlockOp.unitMove (o : BlockOp) (p : BePlane) (i j : Nat) : UnitMove :=
  let (di, dj) := transformed o.turn (o.w / p.uw) (o.h / p.uh) i j
  ⟨unitAddr o.dstBase o.dstPitch o.dstPlane p (o.dstX / p.uw + di) (o.dstY / p.uh + dj),
    if o.fillOp then .fill (fillUnit o.format p o.fill)
    else .read (unitAddr o.srcBase o.srcPitch o.srcPlane p (o.srcX / p.uw + i) (o.srcY / p.uh + j)) p.bytes⟩

/-- The units of one plane that clipping leaves, in source order. -/
def BlockOp.units (o : BlockOp) (clips : List (Nat × Nat × Nat × Nat)) (p : BePlane) : List (Nat × Nat) :=
  let w := o.w / p.uw
  let h := o.h / p.uh
  (List.range h).flatMap (fun j => (List.range w).filterMap (fun i =>
    let d := transformed o.turn w h i j
    if o.inClip clips (o.dstX + d.1 * p.uw) (o.dstY + d.2 * p.uh) then some (i, j) else none))

/-- The units an operation moves, in the order of their destinations. -/
def BlockOp.moves (o : BlockOp) (clips : List (Nat × Nat × Nat × Nat)) : List UnitMove :=
  sortBy UnitMove.dst ((bePlanes o.format).flatMap (fun p => (o.units clips p).map (fun q => o.unitMove p q.1 q.2)))

/-- An operation starts: its checks, and the reading of its clip list; its units wait for their bursts (R232, R237). A
failing address that the manual does not name is a free value. DEDUCED, log 29. -/
def State.runBlock (s0 : State) (o : BlockOp) : BlockRun × State :=
  let (free, s) := s0.takeFree
  let clips := s.clipsOf o
  let clipBad := match clips with
    | .ok _ => false
    | .error _ => true
  let reason := o.checkReason s.storeSpan clipBad
  match reason, clips with
  | 0, .ok cl => (⟨o, 0, 0, o.moves cl, []⟩, s)
  | 6, .error a => (⟨o, 6, if 8 < o.clipCount then (Config.freeWord free).toNat else a, [], []⟩, s)
  | _, _ => (⟨o, reason, (Config.freeWord free).toNat, [], []⟩, s)

/-- The first failure of an operation is the one it reports (R237). -/
def BlockRun.fails (r : BlockRun) (reason fault : Nat) : BlockRun :=
  if r.reason = 0 then { r with reason := reason, fault := fault } else r

/-- The operation reads where it also writes, which only TRANSFORM 0 allows (R236). -/
def BlockOp.overlaps (o : BlockOp) : Bool := !o.fillOp && meets o.srcSpan o.dstSpan

/-- The largest unit of the operation's format. -/
def BlockOp.unitBytes (o : BlockOp) : Nat := ((bePlanes o.format).map BePlane.bytes).foldl max 0

/-- Bytes read at `a`, as they were before the operation's own writes; `none` where those could not be read. -/
def BlockRun.asBefore (r : BlockRun) (a : Nat) (bs : List Byte) : Option (List Byte) :=
  r.kept.foldl (fun acc k => acc.bind (fun bs =>
    if meets (a, a + bs.length) (k.1, k.1 + r.op.unitBytes) then
      k.2.map (fun old => (List.range bs.length).map (fun i =>
        if k.1 ≤ a + i then (old[a + i - k.1]?).getD (bs.getD i 0) else bs.getD i 0))
    else some bs)) (some bs)

/-- What a unit receives, or the address whose read failed. -/
def State.unitData (s : State) (r : BlockRun) : UnitData → Except Nat (List Byte)
  | .fill bs => .ok bs
  | .read a n =>
    match s.storeRead a n with
    | .error e => .error e.1
    | .ok bs =>
      match r.asBefore a bs with
      | some old => .ok old
      | none => .error a

/-- Bytes of a write that land in the Store. -/
def State.landing (s : State) (a n : Nat) : Nat :=
  sumOf ((spansOf a n).map (fun sp => if (s.writeFault false sp.1 sp.2).isNone then sp.2 else 0))
where
  sumOf (l : List Nat) : Nat := l.foldl (· + ·) 0

/-- Move one unit: a failing read leaves its destination unwritten, a failing write loses its bytes (R237). -/
def State.moveUnit (s : State) (m : UnitMove) (r : BlockRun) : State × BlockRun :=
  match s.unitData r m.data with
  | .error a => (s, r.fails 9 a)
  | .ok bs =>
    let old := match s.storeRead m.dst bs.length with
      | .ok x => some x
      | .error _ => none
    let r1 := if r.op.overlaps then { r with kept := (m.dst, old) :: r.kept } else r
    let (s1, e) := s.storeWrite m.dst bs
    ({ s1 with block := { s1.block with bytes := s1.block.bytes + BitVec.ofNat 64 (s.landing m.dst bs.length) } },
      match e with
      | some e => r1.fails 0xA e.1
      | none => r1)

/-- Move units until `room` bytes of destination data have gone; returns the run with what is left (R235, R237). -/
def State.burst : List UnitMove → Nat → State → BlockRun → State × BlockRun
  | [], _, s, r => (s, { r with todo := [] })
  | m :: rest, room, s, r =>
    if room < m.data.size then (s, { r with todo := m :: rest })
    else
      let (s1, r1) := s.moveUnit m r
      State.burst rest (room - m.data.size) s1 r1

def State.setSlot (s : State) (k : Nat) (r : Option BlockRun) : State :=
  { s with block := { s.block with slots := mapSet none s.block.slots k r } }

def State.deadTimeSet (s : State) : Bool := fld (s.reg .BE_DEAD_TIME) 0 10 != 0

/-- One burst of the operation in a slot, after which DEAD_TIME runs. -/
def State.burstSlot (s : State) (k : Nat) : State :=
  match s.slotAt k with
  | none => s
  | some r =>
    let (s1, r1) := State.burst r.todo 4096 s r
    let s2 := s1.setSlot k (some r1)
    { s2 with block := { s2.block with deadTime := s2.deadTimeSet } }

/-- Bursts issue while no DEAD_TIME runs, the lowest slot with units left first. DEDUCED, log 29. -/
def State.issueBursts : Nat → State → State
  | 0, s => s
  | fuel + 1, s =>
    if s.block.deadTime ∨ s.holding = true then s
    else
      match (List.range 4).find? (fun k => match s.slotAt k with
        | some r => !r.todo.isEmpty
        | none => false) with
      | none => s
      | some k => State.issueBursts fuel (s.burstSlot k)

/-- Units left in all slots. -/
def State.blockTodo (s : State) : Nat := sumBy (fun p => match p.2 with
  | some r => r.todo.length
  | none => 0) s.block.slots
where
  sumBy {α : Type} (f : α → Nat) (l : List α) : Nat := l.foldl (fun a x => a + f x) 0

def State.drive (s : State) : State := State.issueBursts (s.blockTodo + 1) s

/-! ### Taking and scheduling (R231 to R234) -/

/-- The register command as it stands (R231, R238). -/
def State.regOp (s : State) (fillOp : Bool) (done : Bool) : BlockOp where
  fillOp    := fillOp
  transform := fld (s.reg .BE_OP) 4 3
  format    := fld (s.reg .BE_OP) 8 3
  dstBase   := 256 * fld (s.reg .BE_DST_BASE) 0 27
  srcBase   := 256 * fld (s.reg .BE_SRC_BASE) 0 27
  dstPitch  := fld (s.reg .BE_PITCH) 0 16
  srcPitch  := fld (s.reg .BE_PITCH) 16 16
  srcX      := fld (s.reg .BE_SRC_ORIGIN) 0 16
  srcY      := fld (s.reg .BE_SRC_ORIGIN) 16 16
  w         := fld (s.reg .BE_EXTENT) 0 16
  h         := fld (s.reg .BE_EXTENT) 16 16
  dstX      := fld (s.reg .BE_DST_ORIGIN) 0 16
  dstY      := fld (s.reg .BE_DST_ORIGIN) 16 16
  srcPlane  := fld (s.reg .BE_PLANE_HEIGHT) 16 16
  dstPlane  := fld (s.reg .BE_PLANE_HEIGHT) 0 16
  fill      := leBytes 8 (s.pair .BE_FILL_LOW)
  clipCount := fld (s.reg .BE_OP) 16 4
  clips     := (List.range 8).map (fun k =>
    (fld (s.reg .BE_CLIP_ORIGIN k) 0 16, fld (s.reg .BE_CLIP_ORIGIN k) 16 16,
     fld (s.reg .BE_CLIP_EXTENT k) 0 16, fld (s.reg .BE_CLIP_EXTENT k) 16 16))
  clipList  := 0
  bale      := none
  eventOnDone := done

/-- A bale's operation (Table 11-3). -/
def baleOp (fillOp : Bool) (r i : Nat) (b : Bale) : BlockOp where
  fillOp    := fillOp
  transform := leAt b 0x1D 1
  format    := leAt b 0x1C 1
  dstBase   := leAt b 0x08 8
  srcBase   := leAt b 0x10 8
  dstPitch  := leAt b 0x18 2
  srcPitch  := leAt b 0x1A 2
  srcX      := leAt b 0x20 2
  srcY      := leAt b 0x22 2
  w         := leAt b 0x24 2
  h         := leAt b 0x26 2
  dstX      := leAt b 0x28 2
  dstY      := leAt b 0x2A 2
  srcPlane  := leAt b 0x2C 2
  dstPlane  := leAt b 0x2E 2
  fill      := slice b 0x10 8
  clipCount := leAt b 0x1E 1
  clips     := []
  clipList  := leAt b 0x30 8
  bale      := some (r, i)
  eventOnDone := false

/-- An accepted write of BE_CONTROL (R231). -/
def State.wroteBeControl (s : State) (v : Word) : State :=
  if bitAt v 0 = false ∨ s.regOpBusy = true then s
  else { s with block := { s.block with regWait := some (s.regOp (bitAt (s.reg .BE_OP) 0) (bitAt v 1)) } }

/-- Take a bale of one opcode from route r. -/
def State.takeBlockBale (s : State) (r op : Nat) (fillOp : Bool) : State :=
  if s.consumer r ≠ .block ∨ s.holding = true then s
  else
    match s.nextStarted r op with
    | none => s
    | some b =>
      let s1 := s.modStarted r b.index (fun x => { x with taken := true })
      { s1 with block := { s1.block with waiting := s1.block.waiting ++ [baleOp fillOp r b.index b.data] } }

/-- The operation must wait for one in flight (R234). -/
def State.mustWait (s : State) (o : BlockOp) : Bool :=
  s.block.slots.any (fun p => match p.2 with
    | none => false
    | some r => meets o.dstSpan r.op.dstSpan ||
        (!o.fillOp && meets o.srcSpan r.op.dstSpan) || (!r.op.fillOp && meets o.dstSpan r.op.srcSpan))

/-- The operation that starts next: a waiting register operation first, then the oldest of a route that need
not wait (R233, R234). -/
def State.nextOp (s : State) : Option BlockOp :=
  let reg := match s.block.regWait with
    | some o => if s.mustWait o then none else some o
    | none => none
  reg.orElse (fun _ => s.block.waiting.find? (fun o => !s.mustWait o &&
    ((s.block.waiting.find? (fun p => p.bale.map (·.1) == o.bale.map (·.1))).map (·.bale) == some o.bale)))

/-- BE_OP_START. -/
def State.startOp (s : State) : State :=
  if s.holding then s
  else
    match s.nextOp, (List.range 4).find? (fun k => (s.slotAt k).isNone) with
    | some o, some k =>
      let (r, s1) := s.runBlock o
      let s2 := { s1 with block := { s1.block with
        regWait := if o.bale.isNone then none else s1.block.regWait
        waiting := if o.bale.isNone then s1.block.waiting else s1.block.waiting.filter (fun p => p.bale != o.bale) } }
      (s2.setSlot k (some r)).drive
    | _, _ => s

/-- BE_DEAD_TIME_EXPIRY: the next burst is issued (R235). -/
def State.deadTimeEnd (s : State) : State :=
  ({ s with block := { s.block with deadTime := false } }).drive

/-- The record of a bad operation, and its count (R237). -/
def State.blockBad (s : State) (r : BlockRun) : State :=
  let s1 := { s with block := { s.block with badCount := satInc s.block.badCount } }
  match r.op.bale with
  | none =>
    let s2 := { s1 with block := { s1.block with regBad := true, regReason := r.reason, faultAddr := r.fault } }
    s2.record 0x0F classA [] r.fault
  | some (route, i) =>
    match (s1.route route).started.find? (fun b => b.index == i) with
    | some b => ((s1.markBad route i (some b.data) r.reason).record 0x0F classA [] r.fault).finishBale route i true
    | none => s1.record 0x0F classA [] r.fault

/-- An operation ends clean. -/
def State.blockClean (s : State) (r : BlockRun) : State :=
  match r.op.bale with
  | none => { s with block := { s.block with regBad := false, regReason := 0 } }
  | some (route, i) => s.finishBale route i false

/-- BE_OP_DONE: every write response has returned (R233). Marking its bale bad is a Store request, which debug hold puts off
(R303). DESIGN CHOICE, log 152. -/
def State.opDone (s : State) (k : Nat) : State :=
  match s.slotAt k with
  | none => s
  | some r =>
    if r.todo.isEmpty = false ∨ s.holding = true ∧ r.reason ≠ 0 ∧ r.op.bale.isSome = true then s
    else
      let s1 := s.setSlot k none
      let s2 := { s1 with block := { s1.block with opCount := satInc s1.block.opCount } }
      let s3 := if r.reason = 0 then s2.blockClean r else s2.blockBad r
      if r.op.bale.isNone && r.op.eventOnDone then
        s3.event 0xC8 ([byteOf r.reason, 0, 0, 0] ++ leBytes 4 s3.block.opCount)
      else s3

/-! ### Meanings -/

/-- BE_COPY_BALE (R232). -/
def execBeCopyBale (r : Fin 16) (s : State) : Host.Outcome State Fault Refusal := .next (s.takeBlockBale r 0x30 false)

/-- BE_FILL_BALE (R232). -/
def execBeFillBale (r : Fin 16) (s : State) : Host.Outcome State Fault Refusal := .next (s.takeBlockBale r 0x31 true)

/-- BE_OP_START (R234). -/
def execBeOpStart (s : State) : Host.Outcome State Fault Refusal := .next s.startOp

/-- BE_DEAD_TIME_EXPIRY (R235). -/
def execBeDeadTimeExpiry (s : State) : Host.Outcome State Fault Refusal := .next s.deadTimeEnd

/-- BE_OP_DONE (R233). -/
def execBeOpDone (slot : Fin 4) (s : State) : Host.Outcome State Fault Refusal := .next (s.opDone slot)

end Sys2Proof.Machine
end

