-- ==== Sys2Proof/Machine/Commit.lean ====
section
/-! DEFINITION. Commit groups (R57, R58, R65 to R72), the admission computation (R45 to R47) and the bind-off
transfer (R67, R69). -/

namespace Sys2Proof.Machine

/-! ### Needles in masks (R173, R175) -/

/-- The needle is in head h's effective mask: its NEEDLES mask and spares taken in, minus retired needles. -/
def State.inEffMask (s : State) (h m : Nat) : Bool :=
  (natBit (s.pattern.needleMask h) m || (s.needle m).takenBy == some h) && !(s.needle m).retired

/-- The head whose effective mask holds a needle. -/
def State.needleHead (s : State) (m : Nat) : Option Nat := s.pattern.present.find? (fun h => s.inEffMask h m)

/-! ### The head a commit-bound register belongs to (R57, R58) -/

/-- RW-F registers of the skein, needle, fabric, head and port blocks (Table 3-1). -/
def commitBound (r : Reg) : Bool :=
  r.row.access == .rwF && decide (7 ≤ r.row.base / 0x100000) && decide (r.row.base / 0x100000 ≤ 0xB)

/-- The reference head, when any head is present. -/
def State.refHead? (s : State) : Option Nat := s.pattern.present.head?

def State.presentHead (s : State) (h : Nat) : Option Nat := (s.pattern.head? h).map (·.head)

/-- The lower head of a working head named by a port, else the reference head (R58, R200). -/
def State.workingOrRef (s : State) (h : Nat) : Option Nat :=
  if s.headWorks h then (s.pattern.owner? h).map (·.head) else s.refHead?

/-- The head at whose bind-off a commit-bound register takes effect; none for a field of an absent head (R72). A skein that
no record assigns belongs to no head, so to the reference head (R58). DEDUCED, log 121. -/
def State.commitHead (s : State) (r : Reg) (i : Nat) : Option Nat :=
  match r with
  | .NEEDLE_HCOEF => named (s.needleHead i)
  | .NEEDLE_VCOEF => named (s.needleHead i)
  | .COLOUR_CONTROL => s.presentHead i
  | .PQ_REF => s.presentHead i
  | .OMATRIX_COEF => s.presentHead i
  | .EDGE_WIDTH => s.presentHead i
  | .EDGE_GAMMA => s.presentHead i
  | .FABRIC_BACKGROUND => s.presentHead i
  | .HEAD_FRAME_CONTROL => s.presentHead i
  | .GAUGE_CONTROL => s.presentHead i
  | .CKEY_CENTRE => named ((s.pattern.colours.find? (fun c => natBit c.chromaKeys i)).map (·.head))
  | .CKEY_RADII => named ((s.pattern.colours.find? (fun c => natBit c.chromaKeys i)).map (·.head))
  | .PORT_SELECT =>
    if portEnable (s.reg .PORT_SELECT i) then s.workingOrRef (portHead (s.reg .PORT_SELECT i)) else s.refHead?
  | .SDI_OUT_CONFIG =>
    named (s.portDriver (4 + i))
  | _ =>
    match s.pattern.skein? i with
    | some q => s.presentHead q.head
    | none => s.refHead?
where
  /-- A head that another setting names, or the reference head while it names none that works. -/
  named (h : Option Nat) : Option Nat :=
    match h with
    | some h => s.workingOrRef h
    | none => s.refHead?

/-- The head of the register at an address. -/
def State.headOfAddr (s : State) (a : Nat) : Option Nat :=
  match regAt a with
  | some (r, i, _) => s.commitHead r i
  | none => none

/-! ### Admission (R45 to R47) -/

/-- One skein's part in the computation (Table 2-5, R46); none when it is disabled or retired. -/
def State.skeinDemand (s : State) (n : Nat) (c : SkeinCfg) : Option SkeinDemand :=
  let uses := s.usesNeedle n c
  let mk (bytes w : Nat) (red : Bool) (src : Option (Nat × Nat × Nat)) : SkeinDemand :=
    ⟨n, bytes, w, uses, c.rank, c.floor, red && uses, src⟩
  let bytes (fmt w h : Nat) : Nat := lineBytes fmt w * max 1 (ceilDiv h (max 1 c.dstH))
  if c.enable = false ∨ (s.skein n).retired = true then none
  else if c.ingest then
    let q := s.source c.source
    match if c.source < 12 then q.newestBuf else none with
    | none => some (mk 0 0 false none)
    | some (_, b) =>
      some (mk (bytes b.format (clipExtent c.srcX c.srcW q.width) (clipExtent c.srcY c.srcH q.height)) c.dstW
        b.reducedValid (some (b.width, b.height, b.format)))
  else some (mk (bytes c.format c.srcW c.srcH) c.dstW c.redValid none)

/-- Fetch bytes of a skein at a rung (Table 2-5). -/
def SkeinDemand.fetchAt (d : SkeinDemand) (rung : Nat) : Nat :=
  match rung with
  | 0 => d.bytes
  | 1 => ceilDiv d.bytes 2
  | 2 => ceilDiv d.bytes 4
  | _ => 0

/-- Needle pixels of a skein at a rung (Table 2-5). -/
def SkeinDemand.needleAt (d : SkeinDemand) (rung : Nat) : Nat :=
  match rung with
  | 0 => if d.usesNeedle then d.wDst else 0
  | 1 => if d.usesNeedle then d.wDst else 0
  | 2 => d.wDst
  | _ => 0

def sumBy {α : Type} (f : α → Nat) (l : List α) : Nat := l.foldl (fun a x => a + f x) 0

/-- A head's demand at P0, from its skeins' shadow or active values (R45). -/
def State.headDemand (s : State) (cfg : Nat → SkeinCfg) (h : Nat) : HeadDemand :=
  let l := (s.pattern.stack h).filterMap (fun n => s.skeinDemand n (cfg n))
  ⟨l, sumBy (fun d => d.fetchAt 0) l, sumBy (fun d => d.needleAt 0) l⟩

/-- The admission computation: every head's demand from the shadow values (R45). -/
def State.admission (s : State) : State :=
  let d := s.pattern.present.foldl
    (fun m h => mapSet default m h (s.headDemand s.skeinShadow h)) ([] : SMap HeadDemand)
  { s with commit := { s.commit with demand := d } }

/-- One head's demand computed again from the active values, with its pre-shed rungs due at the next or
present cast-on (R46, R284). The last COMMIT's figures stand in the registers. -/
def State.readmit (s : State) (h : Nat) : State :=
  { s with commit := { s.commit with admits := mapSet default s.commit.admits h (s.headDemand s.skeinActive h) } }

/-- The rung after r (R47, R198): from the floor, or from P1 without a valid reduced copy, straight to P3. -/
def nextRung (floor : Nat) (hasReduced : Bool) (r : Nat) : Nat :=
  if r = floor ∨ (r = 1 ∧ hasReduced = false) then 3 else min 3 (r + 1)

/-- The skein that pre-shedding lowers next: the highest rank that can be lowered, ties to the higher index. -/
def shedChoice (l : List (SkeinDemand × Nat)) : Option Nat :=
  l.foldl (fun best x =>
    if 3 ≤ x.2 then best
    else
      match best with
      | none => some x.1.skein
      | some n =>
        match l.find? (fun y => y.1.skein == n) with
        | some y => if y.1.rank < x.1.rank ∨ (y.1.rank = x.1.rank ∧ y.1.skein < x.1.skein)
            then some x.1.skein else best
        | none => best) none

/-- Lower rungs until both demands fit (R47). Returns the rungs and the number of steps. -/
def preShed (fetch needle : Nat) : Nat → List (SkeinDemand × Nat) → Nat → List (SkeinDemand × Nat) × Nat
  | 0, l, k => (l, k)
  | fuel + 1, l, k =>
    if sumBy (fun x => x.1.fetchAt x.2) l ≤ fetch ∧ sumBy (fun x => x.1.needleAt x.2) l ≤ needle then (l, k)
    else
      match shedChoice l with
      | none => (l, k)
      | some n =>
        preShed fetch needle fuel
          (l.map (fun x => if x.1.skein = n then (x.1, nextRung x.1.floor x.1.hasReduced x.2) else x)) (k + 1)

def Pattern.budget (p : Pattern) (h : Nat) : BudgetRec := (p.budgets.find? (fun b => b.head == h)).getD default

/-- A head's committed demand exceeds its budget figures (R47). -/
def HeadDemand.exceeds (d : HeadDemand) (b : BudgetRec) : Bool :=
  decide (b.fetchBytes < d.fetch) || decide (b.needlePix < d.needle)

/-! ### Groups -/

def State.group (s : State) (g : Nat) : Group := mapGet default s.commit.groups g

def State.setGroup (s : State) (g : Nat) (x : Group) : State :=
  { s with commit := { s.commit with groups := mapSet default s.commit.groups g x } }

def State.dirtyAt (s : State) (a : Nat) : Option Dirty := mapGet none s.commit.dirty a

def State.setDirty (s : State) (a : Nat) (d : Option Dirty) : State :=
  { s with commit := { s.commit with dirty := mapSet none s.commit.dirty a d } }

/-- Addresses of the fields pending in group g. -/
def State.pendingIn (s : State) (g : Nat) : List Nat :=
  (s.commit.dirty.filter (fun p => match p.2 with
    | some d => d.group == g && d.serial.isSome
    | none => false)).map (·.1)

/-- Addresses of the fields dirty in group g and not pending (CGROUP_DIRTY). -/
def State.dirtyIn (s : State) (g : Nat) : List Nat :=
  (s.commit.dirty.filter (fun p => match p.2 with
    | some d => d.group == g && d.serial.isNone
    | none => false)).map (·.1)

def dedup (l : List Nat) : List Nat := l.foldr (fun x acc => if acc.contains x then acc else x :: acc) []

/-- The heads that own fields pending in group g (HEADS_WAITING, R75). -/
def State.ownersOf (s : State) (g : Nat) : List Nat := dedup ((s.pendingIn g).filterMap s.headOfAddr)

/-- The heads that group g waits for: those that own its pending fields as they stand, and the reference head of a COMMIT
without fields (R66, R67). A field whose head fails while it is pending so waits for the reference head (R58). -/
def State.waitingOf (s : State) (g : Nat) : List Nat :=
  if (s.group g).onRef then dedup ((s.group g).refHead :: s.ownersOf g) else s.ownersOf g

/-- Group g is PENDING and waits for head h. -/
def State.groupAwaits (s : State) (h g : Nat) : Bool := (s.group g).state == 1 && (s.waitingOf g).contains h

/-- A group none of whose heads waits reaches its final state, with the FC of its reference head (R52, R67). -/
def State.settleGroup (s : State) (g : Nat) : State :=
  let x := s.group g
  if x.state = 1 ∧ (s.waitingOf g).isEmpty = true then
    s.setGroup g { x with state := if x.carried then 2 else 3, fc := (s.head x.refHead).fc }
  else s

/-- A field has left the commit of a PENDING group (R65). The manual does not say how a group ends that waits for no head
any more: it becomes DONE at once, and no COMMIT_DONE event is posted. DESIGN CHOICE, log 122. -/
def State.leaveGroup (s : State) (g : Nat) : State :=
  if (s.group g).state = 1 ∧ (s.waitingOf g).isEmpty = true then
    (s.setGroup g { s.group g with carried := true }).settleGroup g
  else s

/-- A write to a commit-bound register: the shadow value, tagged with the selected group (R65). A write to
a head that still waits in a PENDING group joins that commit, and admission runs again (R69). Which COMMIT such a
write counts for in MERGED is not stated: the group's latest. DESIGN CHOICE, log 123. -/
def State.tagWrite (s : State) (r : Reg) (i j : Nat) (v : Word) : State :=
  let a := r.addr i j
  let s1 := s.setReg r i j v
  let g := fld (s.reg .CGROUP_SELECT) 0 4
  let joins := match s1.commitHead r i with
    | some h => s1.groupAwaits h g
    | none => false
  let s2 := s1.setDirty a (some ⟨g, if joins then some (s.group g).serial else none⟩)
  let s3 := match s.dirtyAt a with
    | some d => if d.serial.isSome then s2.leaveGroup d.group else s2
    | none => s2
  if joins then s3.admission else s3

/-- Accept a COMMIT of one group (R66, R69, R72). -/
def State.commitGroup (s : State) (g : Nat) : State :=
  let serial := s.commit.serial + 1
  let s0 := { s with commit := { s.commit with serial := serial, count := s.commit.count + 1 } }
  let fields := s0.dirtyIn g
  let owned := fields.any (fun a => (s0.headOfAddr a).isSome)
  let s1 := fields.foldl (fun s a => s.setDirty a
    (match s0.headOfAddr a with
     | some _ => some ⟨g, some serial⟩
     | none => none)) s0
  let x := s0.group g
  s1.setGroup g { x with
    state := 1
    onRef := if x.state = 1 then x.onRef else !owned
    refHead := s0.refHead
    serial := serial
    carried := if x.state = 1 then x.carried else false }

/-- A COMMIT of every group of a mask, in one BCLK cycle, with one admission computation (R66). -/
def State.commitMask (s : State) (mask : Nat) : State :=
  match setBits 16 mask with
  | [] => s
  | gs => (gs.foldl State.commitGroup s).admission

/-! ### The bind-off transfer (R67, R69, R70) -/

/-- Fields that head h's transfer carries: address and COMMIT serial, per group. -/
def State.carriedBy (s : State) (h : Nat) : List (Nat × Dirty) :=
  s.commit.dirty.filterMap (fun p => match p.2 with
    | some d => if d.serial.isSome && s.headOfAddr p.1 == some h then some (p.1, d) else none
    | none => none)

def State.activate (s : State) (a : Nat) : State :=
  match regAt a with
  | some (r, i, j) => (s.setAct r i j (s.reg r i j)).setDirty a none
  | none => s

/-- MERGED of a transfer: the COMMITs whose fields it carries, minus one (R69). -/
def mergedOf (l : List (Nat × Dirty)) (g : Nat) : Nat :=
  (dedup (l.filterMap (fun p => if p.2.group = g then p.2.serial else none))).length - 1

/-- Head h's part of group g has been transferred or discarded: the group waits no more for h. -/
def State.leaveHead (s : State) (h g : Nat) (moved : Bool) : State :=
  let x := s.group g
  (s.setGroup g { x with onRef := x.onRef && x.refHead != h, carried := x.carried || moved }).settleGroup g

/-- One group's part of head h's transfer, after its fields have moved (R67, R70). -/
def State.transferGroup (carried : List (Nat × Dirty)) (h : Nat) (s : State) (g : Nat) : State :=
  (s.leaveHead h g true).event 0x80 [byteOf g, byteOf (mergedOf carried g)] h

/-- The groups that wait for head h. -/
def State.groupsAwaiting (s : State) (h : Nat) : List Nat := (List.range 16).filter (s.groupAwaits h)

/-- The transfer at head h's bind-off: every pending field of h becomes active, and the demand last computed
becomes the one the next cast-on admits (R47). -/
def State.transfer (s : State) (h : Nat) : State :=
  let carried := s.carriedBy h
  let groups := s.groupsAwaiting h
  let s1 := carried.foldl (fun s p => s.activate p.1) s
  let admits := mapSet default s1.commit.admits h (mapGet default s1.commit.demand h)
  let s2 := if groups.isEmpty then s1 else { s1 with commit := { s1.commit with admits := admits } }
  groups.foldl (State.transferGroup carried h) s2

/-- A restitch discards what would have taken effect on head h at its switch (R52): shadow values return to
the active ones, and groups lose h. -/
def State.discardHead (s : State) (h : Nat) : State :=
  let carried := s.carriedBy h
  let groups := s.groupsAwaiting h
  let s1 := carried.foldl (fun s p => match regAt p.1 with
    | some (r, i, j) => (s.setReg r i j (s.act r i j)).setDirty p.1 none
    | none => s) s
  groups.foldl (fun s g => s.leaveHead h g false) s1

end Sys2Proof.Machine
end

