-- ==== Sys2Proof/Machine/Ingest.lean ====
section
/-! DEFINITION. Ingest and frame synchronisation (06). -/

namespace Sys2Proof.Machine

/-! ### State and layout (R133, R134) -/

def srcDisabled : Nat := 0
def srcSearching : Nat := 1
def srcLocked : Nat := 2
def srcHolding : Nat := 3
def srcLost : Nat := 4
def srcRefused : Nat := 5

/-- Enter a state, posting SOURCE_STATE on a change (R143). -/
def State.setSrcState (s : State) (i st reason : Nat) : State :=
  if (s.source i).state = st ∧ (s.source i).reason = reason then s
  else (s.modSource i (fun q => { q with state := st, reason := reason })).event 0xA8
    [byteOf i, byteOf st, byteOf reason]

def srcEnabled (w : Word) : Bool := bitAt w 0
def srcReduced (w : Word) : Bool := bitAt w 1
def srcDiscards (w : Word) : Bool := bitAt w 2
/-- A network source takes a path. -/
def srcPath (w : Word) (path : Nat) : Bool := bitAt w (4 + path)
def srcLossHold (w : Word) : Nat := fld w 16 16

def roundTo (unit n : Nat) : Nat := ceilDiv n unit * unit

def pitchOf (fmt w : Nat) : Nat := roundTo 256 (rowBytes fmt w)

def strideOf (fmt w h : Nat) : Nat := roundTo 0x10000 (pitchOf fmt w * h + pitchOf fmt (half w) * half h)

/-- Stored format of a network flow (Table 6-2). -/
def netFormat (w : Word) : Nat :=
  if bitAt w 0 then (if bitAt w 1 then 1 else 0) else (if bitAt w 1 then 4 else 3)

/-- What a source's layout is computed from: format and raster, or why it is refused; none while nothing is
known of the signal. -/
def State.srcShape (s : State) (i : Nat) : Option (Except Nat (Nat × Nat × Nat)) :=
  if i < 4 then
    match (s.source i).signal with
    | none => none
    | some g => if g.supported then some (.ok (4, g.width, g.height)) else some (.error 1)
  else
    let w := fld (s.reg .SRC_NET_SIZE i) 0 16
    let h := fld (s.reg .SRC_NET_SIZE i) 16 16
    if w = 0 ∨ 7680 < w ∨ h = 0 ∨ 4320 < h then some (.error 1)
    else some (.ok (netFormat (s.reg .SRC_NET_FORMAT i), w, h))

def State.srcBase (s : State) (i : Nat) : Nat := s.pair .SRC_BASE_LOW i

/-- The three buffers lie inside one source-buffer region (R134). -/
def State.layoutFits (s : State) (base stride : Nat) : Bool :=
  s.pattern.regions.any (fun r => r.kind == 1 && decide (r.base ≤ base) &&
    decide (base + 3 * stride ≤ r.base + 0x10000 * r.size))

/-- The frame in progress is discarded, and with it one whose last writes are not yet confirmed (R140, R141). -/
def State.discardFrame (s : State) (i : Nat) : State :=
  s.modSource i (fun q => { q with frame := none, fifo := [], early := [], awaiting := decide (4 ≤ i), prevRow := 0 })

/-- A source is refused (R129, R134): it writes no more. -/
def State.refuseSource (s : State) (i reason : Nat) : State := (s.discardFrame i).setSrcState i srcRefused reason

/-- Judge an enabled source's layout (R134, R141): it is refused, or its layout stands. -/
def State.evaluate (s : State) (i : Nat) : State :=
  let leave (s : State) : State :=
    if (s.source i).state = srcDisabled ∨ (s.source i).state = srcRefused then s.setSrcState i srcSearching 0 else s
  match s.srcShape i with
  | none => leave s
  | some (.error reason) => s.refuseSource i reason
  | some (.ok (fmt, w, h)) =>
    let stride := strideOf fmt w h
    let s1 := s.modSource i (fun q => { q with
      format := fmt, width := w, height := h, pitch := pitchOf fmt w, reducedPitch := pitchOf fmt (half w),
      stride := stride, base := s.srcBase i })
    if s.layoutFits (s.srcBase i) stride then leave s1 else s1.refuseSource i 2

/-- Every enabled source is judged again under the regions of a new pattern (R134). -/
def State.reSource (s : State) : State :=
  (List.range 12).foldl (fun s i => if srcEnabled (s.reg .SRC_CONFIG i) then s.evaluate i else s) s

/-! ### Paths (R132, R143) -/

def State.pathUp (s : State) (i path : Nat) : Bool := if path = 0 then (s.source i).pathA else (s.source i).pathB

def State.setPath (s : State) (i path : Nat) (up : Bool) : State :=
  if s.pathUp i path = up then s
  else
    (s.modSource i (fun q => if path = 0 then { q with pathA := up } else { q with pathB := up })).event 0xA9
      [byteOf i, byteOf path, byteOf up.toNat]

/-! ### Multicast (R131) -/

def isMulticast (a : Word) : Bool := fld a 28 4 == 14

/-- What source i joins when it is enabled: a multicast group and its included sender. -/
def State.wantedGroup (s : State) (i : Nat) : Option (Word × Word) :=
  if decide (4 ≤ i) && srcEnabled (s.reg .SRC_CONFIG i) && isMulticast (s.reg .SRC_GROUP i)
  then some (s.reg .SRC_GROUP i, s.reg .SRC_FILTER i) else none

/-- Source groups a port is asked to join: group and included sender, lower source first. -/
def State.askedGroups (s : State) (p : Nat) : List (Word × Word) :=
  nub ((List.range 12).filterMap (fun i => if srcPath (s.reg .SRC_CONFIG i) p then (s.source i).joined else none))

/-- Source groups a port holds: those of its first 8 group addresses. -/
def State.srcGroups (s : State) (p : Nat) : List (Word × Word) :=
  let held := (nub ((s.askedGroups p).map (·.1))).take 8
  (s.askedGroups p).filter (fun g => held.contains g.1)

/-- Send an IGMPv3 message through a port (R131, R266). -/
def State.igmp (s : State) (p : Nat) (m : NetMsg) : State := if s.netReady p then s.sendNet p 48 m else s

/-- Reports for the groups that a change of a source's settings joins and leaves. A group that another source still needs is
not left. -/
def State.regroup (s old : State) : State :=
  (List.range 2).foldl (fun s p =>
    let was := old.srcGroups p
    let now := s.srcGroups p
    let gone := (nub (was.map (·.1))).filter (fun g => !(now.map (·.1)).contains g)
    let s1 := gone.foldl (fun s g => s.igmp p (.igmpLeave g)) s
    (now.filter (fun g => !was.contains g)).foldl (fun s g => s.igmp p (.igmpJoin g.1 g.2)) s1) s

/-! ### Writing samples (R133, R135, R142) -/

/-- Bits that samples in stream order take in a stored row, from the first sample index: for packed 10-bit, three
samples to a word. -/
def patch10 (words : List Nat) (first : Nat) : List Nat → Nat → List Nat
  | [], _ => words
  | v :: vs, t =>
    let k := t / 3 - first
    let sh := 10 * (t % 3)
    let w := words.getD k 0
    patch10 (words.set k (w - w / 2 ^ sh % 1024 * 2 ^ sh + v % 1024 * 2 ^ sh)) first vs (t + 1)

/-- The bytes a run of samples writes into a stored row: offset and bytes (Table 6-2, Table 7-1). -/
def State.segmentBytes (s : State) (fmt rowAddr off : Nat) (samples : List Nat) : Nat × List Byte :=
  match fmt with
  | 4 =>
    let t := 2 * off
    let first := t / 3
    let n := (t + samples.length + 2) / 3 - first
    let old := (pieces 4 (memBytes s.store.mem (rowAddr + 4 * first) (4 * n))).map leNat
    (4 * first, (patch10 old first samples t).flatMap (leBytes 4))
  | 3 => (2 * off, samples.map byteOf)
  | 0 => (4 * off, (pieces 3 samples).flatMap (fun p => p.map byteOf ++ [255]))
  | _ => (4 * off, (pieces 3 samples).flatMap (fun p =>
      leBytes 4 (p.getD 0 0 % 1024 + p.getD 1 0 % 1024 * 2 ^ 10 + p.getD 2 0 % 1024 * 2 ^ 20 + 3 * 2 ^ 30)))

/-- Samples per pixel in stream order. -/
def perPixel (fmt : Nat) : Nat := if fmt = 3 ∨ fmt = 4 then 2 else 3

def bufAddr (q : SrcSt) (k : Nat) : Nat := q.base + k * q.stride

/-- Mark the frame in progress. -/
def State.modFrame (s : State) (i : Nat) (f : FrameSt → FrameSt) : State :=
  s.modSource i (fun q => { q with frame := q.frame.map f })

/-- An ingest write: a failure makes the frame corrupt (R136). -/
def State.ingestWrite (s : State) (i a : Nat) (bs : List Byte) : State :=
  match s.storeWrite a bs with
  | (s', none) => s'
  | (s', some _) => s'.modFrame i (fun f => { f with corrupt := true })

/-- Stored samples of a row, in stream order; RGB as three components a pixel. -/
def State.rowSamples (s : State) (fmt rowAddr w : Nat) : List Nat :=
  match fmt with
  | 4 => (((pieces 4 (memBytes s.store.mem rowAddr (4 * ceilDiv (2 * w) 3))).map leNat).flatMap
      (fun x => [x % 1024, x / 1024 % 1024, x / 1048576 % 1024])).take (2 * w)
  | 3 => (memBytes s.store.mem rowAddr (2 * w)).map (·.toNat)
  | 0 => (pieces 4 (memBytes s.store.mem rowAddr (4 * w))).flatMap (fun p => (p.take 3).map (·.toNat))
  | _ => ((pieces 4 (memBytes s.store.mem rowAddr (4 * w))).map leNat).flatMap
      (fun x => [x % 1024, x / 1024 % 1024, x / 1048576 % 1024])

/-- The average of samples, rounded half up. -/
def mean (l : List Nat) : Nat := (2 * l.foldl (· + ·) 0 + l.length) / (2 * l.length)

/-- The reduced row of two full rows of w pixels (R135): 4:2:2 chroma over the block of its even pixel.
DEDUCED, log 119. -/
def reduceRows (fmt w : Nat) (a b : List Nat) : List Nat :=
  let n := half w
  if fmt = 3 ∨ fmt = 4 then
    let y := fun (r : List Nat) (x : Nat) => r.getD (2 * min x (w - 1) + 1) 0
    let c := fun (r : List Nat) (x which : Nat) => r.getD (4 * (min x (w - 1) / 2) + which) 0
    (List.range n).flatMap (fun x =>
      let luma := mean [y a (2 * x), y a (2 * x + 1), y b (2 * x), y b (2 * x + 1)]
      let even := x - x % 2
      let chroma := mean [c a (2 * even) (2 * (x % 2)), c b (2 * even) (2 * (x % 2))]
      [chroma, luma])
  else
    let v := fun (r : List Nat) (x k : Nat) => r.getD (3 * min x (w - 1) + k) 0
    (List.range n).flatMap (fun x => [0, 1, 2].map (fun k =>
      mean [v a (2 * x) k, v a (2 * x + 1) k, v b (2 * x) k, v b (2 * x + 1) k]))

/-- Every pixel of a row of w has come. -/
def FrameSt.rowFull (f : FrameSt) (w r : Nat) : Bool := mapGet 0 f.rows r == 2 ^ w - 1

/-- Write the reduced row that a received row completes. -/
def State.writeReduced (s : State) (i k row : Nat) : State :=
  let q := s.source i
  match q.frame with
  | none => s
  | some f =>
    let top := row - row % 2
    let bottom := min (top + 1) (q.height - 1)
    let full := fun (r : Nat) => f.rowFull q.width r
    if f.reduced = false ∨ (full top && full bottom) = false then s
    else
      let base := bufAddr q k
      let a := s.rowSamples q.format (base + q.pitch * top) q.width
      let b := s.rowSamples q.format (base + q.pitch * bottom) q.width
      let addr := base + q.pitch * q.height + q.reducedPitch * (top / 2)
      let (off, bytes) := s.segmentBytes q.format addr 0 (reduceRows q.format q.width a b)
      s.ingestWrite i (addr + off) bytes

/-- Write one run of samples of the frame in progress, cut at the configured raster (R142). -/
def State.writeSegment (s : State) (i : Nat) (g : Segment) : State :=
  let q := s.source i
  let pixels := g.samples.length / perPixel q.format
  let kept := min pixels (q.width - g.offset)
  let fits := decide (g.row < q.height) && decide (g.offset + pixels ≤ q.width)
  let s1 := if fits ∨ i < 4 then s else s.modFrame i (fun f => { f with mismatch := true })
  if q.height ≤ g.row ∨ kept = 0 then s1
  else
    let got := (2 ^ kept - 1) * 2 ^ g.offset
    let s2 := s1.modFrame i (fun f => { f with rows := mapSet 0 f.rows g.row ((mapGet 0 f.rows g.row).lor got) })
    match (s2.source i).frame with
    | some f =>
      match f.buf with
      | none => s2
      | some k =>
        let addr := bufAddr q k + q.pitch * g.row
        let (off, bytes) := s2.segmentBytes q.format addr g.offset (g.samples.take (kept * perPixel q.format))
        (s2.ingestWrite i (addr + off) bytes).writeReduced i k g.row
    | none => s2

/-- Samples the FIFO holds. -/
def fifoLoad (l : List Segment) : Nat := sumBy (fun g => g.samples.length) l

/-- Take received samples: written at once, or held in the 4-line FIFO while ingest may start no write (R303).
DEDUCED, log 18. -/
def State.takeSegment (s : State) (i : Nat) (g : Segment) : State :=
  if s.holding = false then s.writeSegment i g
  else
    let q := s.source i
    if fifoLoad q.fifo + g.samples.length ≤ 4 * q.width * perPixel q.format then
      s.modSource i (fun q => { q with fifo := q.fifo ++ [g] })
    else
      (s.modFrame i (fun f => { f with corrupt := true })).modSource i (fun q => { q with overruns := satInc q.overruns })

/-- Write what the FIFO holds, once ingest may. -/
def State.drainFifo (s : State) (i : Nat) : State :=
  if s.holding then s
  else (s.source i).fifo.foldl (fun s g => s.writeSegment i g) (s.modSource i (fun q => { q with fifo := [] }))

/-! ### Frames (R136, R138) -/

def SrcSt.held (q : SrcSt) (k : Nat) : Bool := q.holds.any (fun p => p.2 == some k)

/-- A buffer that is neither the newest nor held (R138): any of them, by a free value (DESIGN CHOICE, log 12). -/
def SrcSt.freeBuf (q : SrcSt) : Option Nat :=
  let free := (List.range 3).filter (fun k => q.newest != some k && !q.held k)
  free[Config.bufferPick q.frames.toNat q.drops % free.length]?

/-- Every row has come in full. -/
def FrameSt.whole (f : FrameSt) (w h : Nat) : Bool := (List.range h).all (f.rowFull w)

/-- The frame in progress ends; every configured row must have come in full (R142). -/
def State.endFrame (s : State) (i : Nat) : State :=
  let q := s.source i
  s.modFrame i (fun f => { f with ended := true, mismatch := f.mismatch || (decide (4 ≤ i) && !f.whole q.width q.height) })

/-- The newest frame is replaced; one that no head has taken counts as a drop (R138). -/
def SrcSt.becomeNewest (q : SrcSt) (k : Nat) (f : FrameSt) : SrcSt :=
  let dropped := q.newest.isSome && !q.taken
  { q with
    newest := some k, taken := false, dropNewest := false
    drops := if dropped then satInc q.drops else q.drops
    bufs := mapSet default q.bufs k ⟨q.format, q.width, q.height, bufAddr q k, q.pitch, q.reducedPitch, f.reduced⟩ }

/-- The frame in progress has been written: its counts, and whether it becomes the newest (R136). One that does not match
its configured size or format leaves the source's state (R142), and any other one returns it to LOCKED (R140). -/
def State.finishFrame (s : State) (i : Nat) : State :=
  match (s.source i).frame with
  | none => s
  | some f =>
    if f.ended = false ∨ s.holding = true then s
    else
      let bad := f.corrupt || f.mismatch
      let s1 := s.modSource i (fun q => { q with
        frame := none
        corrupts := if bad then satInc q.corrupts else q.corrupts
        mismatches := if f.mismatch then satInc q.mismatches else q.mismatches })
      match f.buf with
      | none => s1
      | some k =>
        let s2 := s1.modSource i (fun q => { q with frames := q.frames + 1 })
        let s3 := if bad = true ∧ srcDiscards (s.reg .SRC_CONFIG i) = true then s2
          else s2.modSource i (fun q => q.becomeNewest k f)
        if f.mismatch = true ∨ (s3.source i).state = srcRefused ∨ (s3.source i).state = srcDisabled then s3
        else s3.setSrcState i srcLocked 0

/-- A frame begins: its buffer is chosen, or it is a drop (R138). A frame ended before it completes first.
DEDUCED, log 118. -/
def State.beginFrame (s : State) (i : Nat) : State :=
  let s1 := s.finishFrame i
  let b := (s1.source i).freeBuf
  s1.modSource i (fun q => { q with
    frame := some ⟨b, [], false, false, srcReduced (s.reg .SRC_CONFIG i), false⟩, awaiting := false
    drops := if b.isNone then satInc q.drops else q.drops })

/-! ### SDI (R129) -/

/-- The source receives: enabled, and with a layout. -/
def State.srcRuns (s : State) (i : Nat) : Bool :=
  srcEnabled (s.reg .SRC_CONFIG i) && (s.source i).state != srcRefused && (s.source i).state != srcDisabled

/-- The row of the whole frame that a line of a field is: the two fields of an interlaced or PsF signal are woven, the first
on the even rows. DEDUCED, log 139. -/
def sdiRow (g : SdiSignal) (l : SdiLine) : Nat := if g.woven then 2 * l.line + l.field.val else l.line

/-- The line is the frame's last: of its second field when there are two. -/
def sdiLast (g : SdiSignal) (l : SdiLine) : Bool :=
  if g.woven then l.field.val == 1 && decide (g.height ≤ sdiRow g l + 2) else decide (g.height ≤ l.line + 1)

/-- A line's samples enter the frame in progress, and the last line ends it. -/
def State.lineIn (s : State) (i : Nat) (g : SdiSignal) (l : SdiLine) : State :=
  match (s.source i).frame with
  | none => s
  | some f =>
    if f.ended then s
    else
      let s1 := if l.crcOk then s else s.modFrame i (fun f => { f with corrupt := true })
      let s2 := s1.takeSegment i ⟨sdiRow g l, 0, l.samples.map (·.toNat)⟩
      if sdiLast g l then s2.endFrame i else s2

def State.sdiLine (s : State) (i : Nat) (l : SdiLine) : State :=
  let s0 := match l.payload with
    | some w => s.modSource i (fun q => { q with payload := w })
    | none => s
  match (s.source i).signal with
  | none => s0
  | some g =>
    if s.srcRuns i = false then s0
    else
      let s1 := if l.crcOk then s0 else s0.modSource i (fun q => { q with crcErrors := satInc q.crcErrors })
      let s2 := s1.drainFifo i
      (if sdiRow g l = 0 then s2.beginFrame i else s2).lineIn i g l

def State.sdiLock (s : State) (i : Nat) (g : SdiSignal) : State :=
  let s1 := (s.modSource i (fun q => { q with signal := some g, payload := g.payload.getD 0 })).discardFrame i
  if srcEnabled (s.reg .SRC_CONFIG i) then s1.evaluate i else s1

/-! ### ST 2110 (R130, R132, R142) -/

/-- Octets and samples of a pixel group (ST 2110-20). -/
def groupOctets (fmt : Nat) : Nat :=
  match fmt with
  | 3 => 4
  | 4 => 5
  | 0 => 3
  | _ => 15

/-- Ten-bit samples of octets, most significant bit first. -/
def tenBits (bs : List Byte) : List Nat :=
  (pieces 5 bs).flatMap (fun g => (pieces 10 (bitsMsb 40 (beNat g))).map ofBitsMsb)

def payloadSamples (fmt : Nat) (bs : List Byte) : List Nat :=
  if fmt = 0 ∨ fmt = 3 then bs.map (·.toNat) else tenBits bs

/-- Octets of a block of block packing. -/
def packBlock : Nat := 180

/-- A packet's payload is whole (R142): pixel groups in every row segment, and under block packing blocks of 180 octets in
every packet but a frame's last. PRESUMED, log 138. -/
def packetWhole (p : RtpPacket) (fmt : Nat) (block : Bool) : Bool :=
  p.rows.all (fun r => r.data.length % groupOctets fmt == 0) &&
    (!block || p.marker || sumBy (fun r => r.data.length) p.rows % packBlock == 0)

/-- The sequence number's state under 2022-7: new, a second copy, or late (R132). -/
def State.seqSeen (s : State) (i : Nat) (seq : Word) : Option Bool :=
  ((s.source i).seen.find? (fun p => p.1 == seq)).map (fun p => decide (p.2 + 1000000 < s.time.tb.toNat))

/-- A packet enters the frame in progress. -/
def State.packetRows (s : State) (i : Nat) (p : RtpPacket) : State :=
  let fmt := (s.source i).format
  if packetWhole p fmt (bitAt (s.reg .SRC_NET_FORMAT i) 2) = false then s.modFrame i (fun f => { f with mismatch := true })
  else p.rows.foldl (fun s r => s.takeSegment i ⟨r.row, r.offset, payloadSamples fmt r.data⟩) s

/-- Sample row number and pixel offset of a packet, by its first segment. -/
def packetStart (p : RtpPacket) (prev : Nat) : Nat × Nat := (p.rows.head?.map (fun r => (r.row, r.offset))).getD (prev, 1)

/-- A packet's samples enter the frame in progress, and a marker ends it. -/
def State.packetIn (s : State) (i : Nat) (p : RtpPacket) : State :=
  let s1 := s.packetRows i p
  if p.marker then s1.endFrame i else s1

/-- The next packet of the merged flow in sequence order (R130, R132). Packets missing before it are counted, and make a
frame corrupt: the one in progress, unless the packet begins the next and that one has come in full. A source that
waits for a frame boundary takes the packet after a marker, one of a lower row, or the first of row 0. -/
def State.takePacket (s : State) (i : Nat) (p : RtpPacket) : State :=
  let q := s.source i
  let gap := (q.lastSeq.map (fun l => (p.seq - l - 1).toNat)).getD 0
  let (row, off) := packetStart p q.prevRow
  let lower := decide (row < q.prevRow)
  let s1 := s.modSource i (fun q => { q with
    lastSeq := some p.seq, losses := min max32 (q.losses + gap)
    prevRow := (p.rows.getLast?.map (·.row)).getD q.prevRow })
  let lose := fun (s : State) => if gap = 0 then s else s.modFrame i (fun f => { f with corrupt := true })
  if q.awaiting && !lower && !(row == 0 && off == 0) then s1.modSource i (fun q => { q with awaiting := !p.marker })
  else
    match q.frame with
    | some f =>
      if f.ended then (lose (s1.beginFrame i)).packetIn i p
      else if lower then
        if f.whole q.width q.height then (lose ((s1.endFrame i).beginFrame i)).packetIn i p
        else (((lose s1).endFrame i).beginFrame i).packetIn i p
      else (lose s1).packetIn i p
    | none => (lose (s1.beginFrame i)).packetIn i p

/-- Packets enter the flow while the next in sequence is there, or the ones before it can come no more: 10 ms after its
arrival (R132), or, with `force`, at once. -/
def State.releasePackets (i : Nat) (force : Bool) : Nat → State → State
  | 0, s => s
  | n + 1, s =>
    match (s.source i).early with
    | [] => s
    | (p, t) :: rest =>
      let next := (s.source i).lastSeq.all (fun l => p.seq == l + 1)
      if next || force || decide (t + 1000000 < s.time.tb.toNat) then
        State.releasePackets i force n ((s.modSource i (fun q => { q with early := rest })).takePacket i p)
      else s

/-- What waits in the flow goes on, where it may. -/
def State.settleFlow (s : State) (i : Nat) (force : Bool) : State := State.releasePackets i force (s.source i).early.length s

/-- The packet belongs to a part of the flow already taken or given up. -/
def SrcSt.past (q : SrcSt) (seq : Word) : Bool :=
  match q.lastSeq with
  | some l => decide (2147483648 ≤ (seq - l - 1).toNat)
  | none => false

/-- A new packet is noted as seen; numbers half the range back are forgotten. -/
def SrcSt.note (q : SrcSt) (seq : Word) (now : Nat) : SrcSt :=
  let l := q.lastSeq.getD seq
  { q with seen := (seq, now) :: q.seen.filter (fun e =>
      decide ((l - e.1).toNat < 2147483648) || decide ((e.1 - l).toNat < 1073741824)) }

/-- A new packet takes its place in sequence order. -/
def SrcSt.wait (q : SrcSt) (p : RtpPacket) (now : Nat) : SrcSt :=
  let l := q.lastSeq.getD (p.seq - 1)
  { q with early := sortBy (fun e => (e.1.seq - l - 1).toNat) (q.early ++ [(p, now)]) }

/-- ST2110_PACKET: a packet on a path (R130, R132). -/
def State.netPacket (s : State) (i path : Nat) (p : RtpPacket) : State :=
  if s.srcRuns i = false ∨ srcPath (s.reg .SRC_CONFIG i) path = false then s
  else
    let s1 := ((s.setPath i path true).drainFifo i).settleFlow i false
    let now := s1.time.tb.toNat
    match s1.seqSeen i p.seq with
    | some true => s1.modSource i (fun q => { q with lates := satInc q.lates })
    | some false => s1
    | none =>
      let s2 := s1.modSource i (fun q => q.note p.seq now)
      if (s1.source i).past p.seq then s2
      else (s2.modSource i (fun q => q.wait p now)).settleFlow i false

/-- The last write response of a frame returns (R136, R140). A flow on one path has no second copy to wait for.
DESIGN CHOICE, log 140. -/
def State.completeFrame (s : State) (i : Nat) : State :=
  ((s.drainFifo i).settleFlow i (fld (s.reg .SRC_CONFIG i) 4 2 != 3)).finishFrame i

/-! ### Loss (R140, R143) -/

/-- An enabled source that delivers nothing enters HOLDING, with its record (R140, R143): one that was LOCKED, or that
searched with a signal. DEDUCED, log 141. -/
def State.sourceStops (s : State) (i : Nat) : State :=
  let s1 := (s.modSource i (fun q => { q with signal := none })).discardFrame i
  let had := decide (4 ≤ i) || (s.source i).signal.isSome
  if (s.source i).state = srcLocked ∨ (s.source i).state = srcSearching ∧ had = true then
    (s1.setSrcState i srcHolding 0).recordOpen 0x06 classA [(8, i)]
  else s1

def State.sourceLost (s : State) (i : Nat) : State :=
  if (s.source i).state = srcHolding ∧ srcLossHold (s.reg .SRC_CONFIG i) ≠ 0 then
    (s.modSource i (fun q => { q with newest := none })).setSrcState i srcLost 0
  else s

def State.pathDown (s : State) (i path : Nat) : State :=
  if s.pathUp i path = false then s
  else
    let s1 := s.setPath i path false
    if fld (s.reg .SRC_CONFIG i) 4 2 = 3 then s1.recordOpen 0x06 classA [(8, i)] else s1

/-! ### Register writes (R141) -/

/-- A write that takes effect under R141. -/
def State.restartSource (s : State) (i : Nat) : State :=
  let w := s.reg .SRC_CONFIG i
  let s1 := (s.discardFrame i).modSource i (fun q => { q with dropNewest := q.dropNewest || q.newest.isSome,
                                                              lastSeq := none, seen := [] })
  let s2 := (List.range 2).foldl (fun s p =>
    if srcEnabled w && srcPath w p && decide (4 ≤ i) then s else s.setPath i p false) s1
  if srcEnabled w then s2.evaluate i else s2.setSrcState i srcDisabled 0

/-- A write of SRC_CONFIG, which also joins and leaves the source's group (R131, R141). -/
def State.wroteSrcConfig (s old : State) (i : Nat) : State :=
  ((s.restartSource i).modSource i (fun q => { q with joined := s.wantedGroup i })).regroup old

/-- A write of a network setting has no effect on an SDI source (R144). -/
def State.wroteSrcNet (s : State) (i : Nat) : State := if i < 4 then s else s.restartSource i

/-! ### Offering (R137, R138, R139) -/

/-- A source offers head h its newest frame at a cast-on, and the head holds that buffer. -/
def State.offer (s : State) (h i : Nat) : State :=
  s.modSource i (fun q0 =>
    let q := if q0.dropNewest then { q0 with newest := none, dropNewest := false } else q0
    let again := q.newest.isSome && mapGet none q.holds h == q.newest
    { q with
      holds := mapSet none q.holds h q.newest
      taken := q.taken || q.newest.isSome
      repeats := if again then satInc q.repeats else q.repeats })

/-- A head gives up its hold on a source it no longer reads. -/
def State.unhold (s : State) (h i : Nat) : State :=
  s.modSource i (fun q => { q with holds := mapSet none q.holds h none })

/-- One cast-on of head h, for the sources its skeins read. -/
def State.offers (s : State) (h : Nat) (reads : List Nat) : State :=
  (List.range 12).foldl (fun s i => if reads.contains i then s.offer h i else s.unhold h i) s

/-! ### Meanings -/

/-- SDI_LINE (R129). -/
def execSdiLine (i : Fin 4) (line : SdiLine) (s : State) : Host.Outcome State Fault Refusal := .next (s.sdiLine i line)

/-- SDI_CARRIER_LOCK (R129). -/
def execSdiCarrierLock (i : Fin 4) (signal : SdiSignal) (s : State) : Host.Outcome State Fault Refusal :=
  .next (s.sdiLock i signal)

/-- ST2110_PACKET (R130): flow s is SRC[s + 4]. -/
def execSt2110Packet (i : Fin 8) (path : Fin 2) (pkt : RtpPacket) (s : State) : Host.Outcome State Fault Refusal :=
  .next (s.netPacket (i + 4) path pkt)

/-- SOURCE_FRAME_COMPLETE (R136). -/
def execSourceFrameComplete (i : Fin 12) (s : State) : Host.Outcome State Fault Refusal := .next (s.completeFrame i)

/-- SOURCE_SIGNAL_LOSS (R140). -/
def execSourceSignalLoss (i : Fin 4) (s : State) : Host.Outcome State Fault Refusal := .next (s.sourceStops i)

/-- SOURCE_PACKET_TIMEOUT (R140). -/
def execSourcePacketTimeout (i : Fin 8) (s : State) : Host.Outcome State Fault Refusal := .next (s.sourceStops (i + 4))

/-- SOURCE_LOST (R140). -/
def execSourceLost (i : Fin 12) (s : State) : Host.Outcome State Fault Refusal := .next (s.sourceLost i)

/-- PATH_DOWN (R132). -/
def execPathDown (i : Fin 8) (path : Fin 2) (s : State) : Host.Outcome State Fault Refusal :=
  .next (s.pathDown (i + 4) path)

end Sys2Proof.Machine
end

