-- ==== Sys2Proof/Machine/Net.lean ====
section
/-! DEFINITION. Network ports, the owner session and the console map (13), all but Purl requests. -/

namespace Sys2Proof.Machine

/-! ### The owner session (R271, R272, R287) -/

/-- UDP port that Purl is served on: PURL_PORT, held while an owner session lasts. DEDUCED, log 37. -/
def State.purlPortInUse (s : State) : Nat := if s.owned then s.net.purlPort else fld (s.reg .PURL_CONFIG) 0 16

/-- CHANGE codes of the OWNER event. -/
def ownerClaimed : Nat := 1
def ownerReleased : Nat := 2
def ownerTimedOut : Nat := 3
def ownerLeaseLost : Nat := 4

/-- DEDUCED, log 36. -/
def State.ownerEvent (s : State) (change path address : Nat) : State :=
  s.event 0xD8 ([byteOf change, byteOf path, 0, 0] ++ leBytes 4 address)

/-- Bales of ROUTE[15] that no EVENT or EP3 packet has carried start at TAKE when an owner claims (R89). -/
def State.beginOwner (s : State) (o : Owner) : State :=
  { s with net := { s.net with owner := o, purlPort := fld (s.reg .PURL_CONFIG) 0 16 } }

/-- End a Purl owner session, if there is one; a timeout or lease loss is recorded (R272, R286, R287). -/
def State.endPurlOwner (s : State) (change : Nat) : State :=
  match s.net.owner with
  | .purl c _ =>
    let s1 := ({ s with net := { s.net with owner := .none } }).ownerEvent change 0 c.addr.toNat
    if change = ownerReleased then s1 else s1.record 0x11 classB [(8, change)] c.addr.toNat
  | _ => s

/-! ### Ports (R262 to R264, R286) -/

/-- The network block is out of reset. -/
def State.netUp (s : State) : Bool := s.boot.regsUp

/-- Cages and accessory pins are live in service and debug hold only (Table 16-6). -/
def State.pinsLive (s : State) : Bool := decide (2 ≤ s.mode)

/-- The module in a cage (R335). -/
def State.sfpModule (s : State) (p : Nat) : Option SfpModule := mapGet none s.chassis.sfpModules p

/-- A cage's supply is on: a module stands in it, its fault has not switched the supply off, and the pins are live (R335,
Table 16-6). -/
def State.sfpOn (s : State) (p : Nat) : Bool :=
  (s.sfpModule p).isSome && !s.chassis.sfpFault.getLsbD p && s.pinsLive && s.boot.boardsUp.getLsbD 2

/-- SPEED's choice: 10 Gbit/s, 25 Gbit/s, or 25 Gbit/s when the module supports it (R262). -/
def State.speedChosen (s : State) (p : Nat) : Nat :=
  match fld (s.reg .NET_CONFIG p) 0 2 with
  | 1 => 1
  | 2 => 2
  | _ => if (s.sfpModule p).any (·.supports25) then 2 else 1

/-- A link can come up: the transmitter is on, and the module has the speed chosen (R262, R335). -/
def State.linkable (s : State) (p : Nat) : Bool :=
  s.sfpOn p && (s.speedChosen p != 2 || (s.sfpModule p).any (·.supports25))

/-- TX_DISABLE and RATE_SELECT as the unit drives them (R335): the transmitter is on with the cage's supply, and the rate is
that of the speed chosen. DEDUCED, log 149. -/
def State.sfpDrive (s : State) (p : Nat) : Bool × Bool := (!s.sfpOn p, s.sfpOn p && s.speedChosen p == 2)

/-- FEC in use: none at 10 Gbit/s or without a link (R262, R288). -/
def State.fecInUse (s : State) (p : Nat) : Nat :=
  if (s.netPort p).link && (s.netPort p).speed == 2 then fld (s.reg .NET_CONFIG p) 2 2 % 3 else 0

/-- A link that changes posts its event, with the speed it has or had; a link down is recorded (Tables 13-7, 13-8). -/
def State.linkEvent (s : State) (p : Nat) (up : Bool) (speed : Nat) : State :=
  let s1 := s.event 0xD9 [byteOf p, byteOf up.toNat, byteOf speed]
  if up then s1 else s1.record 0x12 classA [(8, p)] 0

/-- Multicast group of a universe, by ANSI E1.31 (log 8). -/
def universeGroup (n : Nat) : Word := wordOf (0xEFFF0000 + n)

/-- Console groups that a pattern needs on a port. -/
def Pattern.consoleGroups (u : Pattern) (p : Nat) : List Word :=
  (u.universes.filter (fun r => r.multicast == 1 && natBit r.paths p)).map (fun r => universeGroup r.universe')

/-- Every group a port has joined, with the included sender. -/
def State.groupsOf (s : State) (p : Nat) : List (Word × Word) :=
  s.srcGroups p ++ (s.pattern.consoleGroups p).map (fun g => (g, 0))

/-- A port that becomes ready joins its groups (R131, R279). -/
def State.settleJoins (s old : State) (p : Nat) : State :=
  if s.netReady p && !old.netReady p then (s.groupsOf p).foldl (fun s g => s.igmp p (.igmpJoin g.1 g.2)) s else s

/-- A port that held an address and holds none has lost it (Table 13-7). -/
def State.settleAddress (s old : State) (p : Nat) : State :=
  if old.addressOf p != 0 && s.addressOf p == 0 then s.record 0x12 classA [(8, p)] 0 else s

/-- A port's link goes up, at the speed chosen, or down. -/
def State.setLink (s : State) (p : Nat) (up : Bool) : State :=
  if (s.netPort p).link = up then s
  else
    let speed := if up then s.speedChosen p else (s.netPort p).speed
    ((s.modPort p (fun q => { q with link := up, speed := if up then speed else 0 })).linkEvent p up speed).settleJoins s p

/-- A port holds no lease and no exchange of DHCP any more. -/
def PortSt.noLease (q : PortSt) : PortSt :=
  { q with leased := false, address := 0, netmask := 0, gateway := 0, xid := none }

/-- An accepted write of NET_CONFIG over `before` restarts the link (R288); clearing DHCP drops a lease. DEDUCED, log 150. -/
def State.wroteNetConfig (s before : State) (p : Nat) (v : Word) : State :=
  let s1 := s.setLink p false
  (if bitAt v 4 then s1 else s1.modPort p PortSt.noLease).settleAddress before p

/-- An accepted write of NET_ADDRESS over `before` takes effect at once while DHCP is clear (R288). -/
def State.wroteNetAddress (s before : State) (p : Nat) : State := (s.settleJoins before p).settleAddress before p

def State.dhcpOn (s : State) (p : Nat) : Bool := bitAt (s.reg .NET_CONFIG p) 4

/-- A port runs its DHCP client. -/
def State.dhcpRuns (s : State) (p : Nat) : Bool := s.dhcpOn p && (s.netPort p).link && s.netUp

/-- The port drops its leased address; an owner bound through it is ended (R286, Table 13-7). -/
def State.dropLease (s : State) (p : Nat) : State :=
  let s1 := (s.modPort p PortSt.noLease).record 0x12 classA [(8, p)] 0
  match s1.net.owner with
  | .purl c _ => if c.net = p then s1.endPurlOwner ownerLeaseLost else s1
  | _ => s1

/-- DHCP_LEASE_EXPIRY (R286). -/
def State.dhcpExpiry (s : State) (p : Nat) : State :=
  if s.dhcpOn p && (s.netPort p).leased then s.dropLease p else s

/-- A port asks for a lease, or asks to renew the one it holds, under a new transaction identifier, a free value
(RFC 2131). DEDUCED, log 77. -/
def State.dhcpAsk (s : State) (p : Nat) : State :=
  if s.dhcpRuns p then
    let (k, s1) := s.takeFree
    let x := Config.freeWord k
    let q := s.netPort p
    (s1.modPort p (fun q => { q with xid := some x })).sendNet p 0
      (if q.leased then .dhcpRequest x q.address 0 else .dhcpDiscover x)
  else s

def State.netDiscard (s : State) (p : Nat) : State := s.modPort p (fun q => { q with discards := satInc q.discards })

/-- A server's message for the port's own exchange: an OFFER is asked for, an ACK gives the lease, and a NAK ends the
exchange and any lease; any other is discarded (RFC 2131). DEDUCED, log 77. -/
def State.dhcpTake (s : State) (p : Nat) (r : DhcpReply) : State :=
  let q := s.netPort p
  if s.dhcpRuns p = false ∨ q.xid ≠ some r.xid ∨ r.chaddr ≠ Config.portMac p then s.netDiscard p
  else if r.kind = 2 ∧ q.leased = false then s.sendNet p 0 (.dhcpRequest r.xid r.address r.server)
  else if r.kind = 5 then
    (s.modPort p (fun q => { q with
      leased := true, address := r.address, netmask := r.netmask, gateway := r.gateway, xid := none })).settleJoins s p
  else if r.kind = 6 then (if q.leased then s.dropLease p else s.modPort p PortSt.noLease)
  else s.netDiscard p

/-- ARP_REQUEST (R264). -/
def State.arp (s : State) (p : Nat) (mac : BitVec 48) (ip target : Word) : State :=
  if s.netReady p && s.netUp && target == s.addressOf p then s.sendNet p 0 (.arpReply mac ip) else s

/-- ICMP_ECHO (R264): identifier, sequence and data of the request come back; a request whose datagram would pass an IP MTU
of 1500 fits no frame that the port receives or sends (R262). -/
def State.icmp (s : State) (p : Nat) (source target : Word) (message : List Byte) : State :=
  if s.netReady p && s.netUp && target == s.addressOf p && decide (24 + message.length ≤ 1500)
  then s.sendNet p 0 (.icmpReply source message) else s

/-! ### Console groups (R279, R131) -/

/-- Reports for the groups that a new CONSOLE section joins and leaves; a group that a source needs is not left. -/
def State.regroupConsole (s : State) (old new : Pattern) : State :=
  (List.range 2).foldl (fun s p =>
    let was := old.consoleGroups p
    let now := new.consoleGroups p
    let keep := (s.srcGroups p).map (·.1)
    let s1 := (was.filter (fun g => !now.contains g && !keep.contains g)).foldl (fun s g => s.igmp p (.igmpLeave g)) s
    (now.filter (fun g => !was.contains g)).foldl (fun s g => s.igmp p (.igmpJoin g 0)) s1) s

/-- The memberships that answer a query (RFC 3376): all of them; those of a group; or, of the senders that a query of a
group and its senders lists, those that the group includes, which are all of them when it excludes none. -/
def queryAnswers (groups : List (Word × Word)) (group : Option Word) (senders : List Word) : List (Word × Word) :=
  match group with
  | none => groups
  | some q =>
    let own := groups.filter (fun g => g.1 == q)
    if senders.isEmpty then own
    else nub (own.flatMap (fun g => (senders.filter (fun x => g.2 == 0 || g.2 == x)).map (fun x => (q, x))))

/-- IGMP_QUERY (R131): a general query, or one for a group, or for some senders of it. -/
def State.igmpAnswer (s : State) (p : Nat) (group : Option Word) (senders : List Word) : State :=
  if s.netUp = false then s
  else (queryAnswers (s.groupsOf p) group senders).foldl (fun s g => s.igmp p (.igmpJoin g.1 g.2)) s

/-! ### Universes (R279, R280) -/

def State.universe' (s : State) (u : Nat) : UniverseSt := mapGet default s.net.universes u

def State.setUniverse (s : State) (u : Nat) (x : UniverseSt) : State :=
  { s with net := { s.net with universes := mapSet default s.net.universes u x } }

def State.consoleIgnore (s : State) : State :=
  { s with net := { s.net with consoleIgnored := satInc s.net.consoleIgnored } }

/-- Priority of the winning sources: 0, its reset value, before any packet; a universe that has lost its sources leaves it
unstated (log 2). DESIGN CHOICE, log 116. -/
def UniverseSt.priority (x : UniverseSt) (u : Nat) : Nat :=
  if x.sources.isEmpty then (if x.heard then Config.unstated 1 u % 256 else 0) else x.sources.foldl (fun a q => max a q.priority) 0

/-- CONSOLE_UNIVERSE_STATE STATE. -/
def State.universeState (s : State) (u : Nat) : Nat :=
  if s.pattern.universes.length ≤ u then 0
  else if (s.universe' u).heard = false then 1
  else if (s.universe' u).sources.isEmpty then 3 else 2

/-- The slot data of the latest packet among the sources of the highest priority; the last data without any. -/
def UniverseSt.arbitrate (x : UniverseSt) : UniverseSt :=
  let top := x.sources.foldl (fun a q => max a q.priority) 0
  let best := x.sources.foldl (fun (b : Option ConsoleSource) q =>
    if q.priority ≠ top then b
    else
      match b with
      | none => some q
      | some y => if y.order < q.order then some q else b) none
  match best with
  | none => x
  | some q => { x with data := q.slots }

/-- DEDUCED, log 35. -/
def slotOf (data : List Byte) (slot : Nat) : Nat := (data.getD (slot - 1) 0).toNat

/-! ### Triggers (R285) -/

def State.triggerOn (s : State) (t : Nat) : Bool :=
  bitAt (s.reg .CONSOLE_CONTROL) 0 && bitAt (s.reg .CONSOLE_TRIGGER_ENABLE (t / 32)) (t % 32)

/-- Fire the triggers of universe u whose slot rises to THRESHOLD, in trigger order. -/
def State.fireTriggers (s : State) (u : Nat) (old new : List Byte) : State :=
  (s.pattern.triggers.zipIdx).foldl (fun s t =>
    let r := t.1
    if r.universeIndex = u ∧ s.triggerOn t.2 = true ∧ slotOf old r.slot < r.threshold ∧ r.threshold ≤ slotOf new r.slot
    then s.postInternal r.route r.bale .console else s) s

/-- A universe's sources have changed: arbitration, its event, and triggers. -/
def State.updateUniverse (s : State) (u : Nat) (x : UniverseSt) : State :=
  let old := (s.universe' u).data
  let y := x.arbitrate
  let s1 := s.setUniverse u y
  let s2 := if s.universeState u = s1.universeState u then s1
    else s1.event 0xDA [byteOf u, byteOf (s1.universeState u), byteOf (y.priority u)]
  s2.fireTriggers u old y.data

/-- The sequence check of ANSI E1.31: a packet up to 20 behind the last is discarded (log 8). -/
def staleSequence (last new : Nat) : Bool :=
  let d := signed 8 ((new + 256 - last) % 256)
  decide (d ≤ 0) && decide (-20 < d)

/-- One accepted packet for universe u. -/
def State.takeConsole (s : State) (u : Nat) (k : E131) : State :=
  let x := s.universe' u
  let order := s.net.packetOrder + 1
  let src : ConsoleSource := ⟨k.cid, k.priority, k.sequence.toNat, order, padTo 512 k.slots⟩
  let s1 := { s with net := { s.net with packetOrder := order } }
  match x.sources.find? (fun q => q.cid == k.cid) with
  | some q =>
    if staleSequence q.sequence k.sequence.toNat then s
    else if k.terminated then s1.updateUniverse u { x with sources := x.sources.filter (fun q => q.cid != k.cid) }
    else s1.updateUniverse u { x with sources := x.sources.map (fun q => if q.cid = k.cid then src else q) }
  | none =>
    if 4 ≤ x.sources.length then s.consoleIgnore
    else if k.terminated then s
    else s1.updateUniverse u { x with sources := x.sources ++ [src], heard := true }

/-- E131_PACKET (R279, R280). DEDUCED, log 33. -/
def State.e131 (s : State) (k : E131) : State :=
  if s.netUp = false then s
  else
    match s.pattern.universes.findIdx? (fun r => r.universe' == k.number) with
    | none => s.consoleIgnore
    | some u => if k.preview || k.startCode != 0 || decide (200 < k.priority) then s.consoleIgnore else s.takeConsole u k

/-- E131_SOURCE_TIMEOUT (R280). -/
def State.e131Timeout (s : State) (u : Nat) (cid : BitVec 128) : State :=
  let x := s.universe' u
  if x.sources.any (fun q => q.cid == cid) then
    s.updateUniverse u { x with sources := x.sources.filter (fun q => q.cid != cid) }
  else s

/-! ### Map entries (R282 to R284) -/

/-- Register, low bit, width and range of a console parameter's field (Table 13-5). -/
def consoleField (param : Nat) : Reg × Nat × Nat × Int × Int :=
  match param with
  | 0 => (.SKEIN_BLEND, 0, 10, 0, 1023)
  | 1 => (.SKEIN_DST_ORIGIN, 0, 16, -32768, 32767)
  | 2 => (.SKEIN_DST_ORIGIN, 16, 16, -32768, 32767)
  | 3 => (.SKEIN_DST_EXTENT, 0, 16, 1, 16384)
  | 4 => (.SKEIN_DST_EXTENT, 16, 16, 1, 16384)
  | 5 => (.SKEIN_LUMA_KEY, 0, 10, 0, 1023)
  | 6 => (.SKEIN_STANDIN, 0, 10, 0, 1023)
  | 7 => (.SKEIN_STANDIN, 10, 10, 0, 1023)
  | 8 => (.SKEIN_STANDIN, 20, 10, 0, 1023)
  | _ => (.SKEIN_STANDIN_ALPHA, 0, 10, 0, 1023)

/-- Nearest integer, halves away from zero. -/
def roundAway (n d : Int) : Int := if 0 ≤ n then (2 * n + d) / (2 * d) else -((2 * (-n) + d) / (2 * d))

/-- A map entry's value (R282). -/
def MapRec.value (m : MapRec) (data : List Byte) : Int :=
  let d := if m.width = 2 then 256 * slotOf data m.slot + slotOf data (m.slot + 1) else slotOf data m.slot
  let full : Int := if m.width = 2 then 65535 else 255
  let (_, _, _, lo, hi) := consoleField m.parameter
  clampInt lo hi (roundAway (m.minimum * full + (m.maximum - m.minimum) * (d : Int)) full)

/-- Replace a field of a word. -/
def putField (w : Word) (lo n v : Nat) : Word := w - wordOf (fld w lo n * 2 ^ lo) + wordOf (v % 2 ^ n * 2 ^ lo)

def State.mapOn (s : State) (k : Nat) : Bool :=
  bitAt (s.reg .CONSOLE_CONTROL) 0 && bitAt (s.reg .CONSOLE_MAP_ENABLE (k / 32)) (k % 32)

/-- Apply one map entry to the active field (R283). -/
def State.applyMapEntry (s : State) (k : Nat) (m : MapRec) : State :=
  let v := m.value (s.universe' m.universeIndex).data
  let (r, lo, w, _, _) := consoleField m.parameter
  let s1 := s.setAct r m.skein 0 (putField (s.act r m.skein) lo w (unsigned w v))
  { s1 with net := { s1.net with consoleValue := mapSet 0 s1.net.consoleValue k (wordOf (unsigned 32 v)) } }

/-- The console values of head h's skeins, and the admission they may call for (R283, R284). -/
def State.consoleApply (s : State) (h : Nat) : State :=
  let mine := (s.pattern.maps.zipIdx).filter (fun m =>
    s.mapOn m.2 && ((s.pattern.skein? m.1.skein).map (·.head)) == some h)
  let s1 := mine.foldl (fun s m => s.applyMapEntry m.2 m.1) s
  let moved := mine.any (fun m => (s.skeinActive m.1.skein).enable &&
    s.act .SKEIN_DST_EXTENT m.1.skein != s1.act .SKEIN_DST_EXTENT m.1.skein)
  if moved then s1.readmit h else s1

/-! ### Meanings -/

/-- ARP_REQUEST (R264). -/
def execArpRequest (p : Fin 2) (senderMac : BitVec 48) (senderIp targetIp : Word) (s : State) :
    Host.Outcome State Fault Refusal := .next (s.arp p senderMac senderIp targetIp)

/-- ICMP_ECHO (R264). -/
def execIcmpEcho (p : Fin 2) (source target : Word) (message : List Byte) (s : State) :
    Host.Outcome State Fault Refusal := .next (s.icmp p source target message)

/-- A server's message, put together from the operands of its command. -/
def dhcpReplyOf (m : DhcpExchange) (l : DhcpLease) (server : Word) : DhcpReply :=
  ⟨m.kind, m.xid, m.chaddr, server, l.address, l.netmask, l.gateway⟩

/-- DHCP_REPLY (R264). -/
def execDhcpReply (p : Fin 2) (message : DhcpExchange) (lease : DhcpLease) (server : Word) (s : State) :
    Host.Outcome State Fault Refusal :=
  .next (s.dhcpTake p (dhcpReplyOf message lease server))

/-- DHCP_LEASE_EXPIRY (R286). -/
def execDhcpLeaseExpiry (p : Fin 2) (s : State) : Host.Outcome State Fault Refusal := .next (s.dhcpExpiry p)

/-- DHCP_LEASE_REQUEST (R264). -/
def execDhcpLeaseRequest (p : Fin 2) (s : State) : Host.Outcome State Fault Refusal := .next (s.dhcpAsk p)

/-- NET_LINK (R262): a link comes up over a module whose cage is supplied, at a speed that the module has and at which the
far end runs, since nothing is negotiated. -/
def execNetLink (p : Fin 2) (up : Bool) (speed : Nat) (s : State) : Host.Outcome State Fault Refusal :=
  .next (if s.netUp && (!up || s.linkable p && speed == s.speedChosen p) then s.setLink p up else s)

/-- IGMP_QUERY (R131). -/
def execIgmpQuery (p : Fin 2) (query : GroupQuery) (s : State) : Host.Outcome State Fault Refusal :=
  .next (s.igmpAnswer p query.group query.senders)

/-- OWNER_TIMEOUT (R272). -/
def execOwnerTimeout (s : State) : Host.Outcome State Fault Refusal := .next (s.endPurlOwner ownerTimedOut)

/-- E131_PACKET (R279). -/
def execE131Packet (p : Fin 2) (pkt : E131) (s : State) : Host.Outcome State Fault Refusal :=
  .next (if s.netReady p then s.e131 pkt else s)

/-- E131_SOURCE_TIMEOUT (R280). -/
def execE131SourceTimeout (u : Fin 64) (cid : BitVec 128) (s : State) : Host.Outcome State Fault Refusal :=
  .next (s.e131Timeout u cid)

end Sys2Proof.Machine
end

