-- ==== Sys2Proof/Machine/Time.lean ====
section
/-! DEFINITION. The time base, compare channels, counters and GPIO (12). -/

namespace Sys2Proof.Machine

/-! ### GPIO (R248, R252, R253) -/

/-- Function code of pin p, 0 to 7 GPI and 8 to 15 GPO; a pin with no record takes 0. -/
def Pattern.gpioFn (p : Pattern) (pin : Nat) : Nat :=
  ((p.gpio.find? (fun g => g.pin == pin)).map (·.function)).getD 0

/-- The relay drive of GPO[p] (Table 12-3): every relay is open in reset, standby and floor mode (R382, Table 16-6). -/
def State.gpoDriven (s : State) (p : Nat) : Bool :=
  match s.pattern.gpioFn (8 + p) with
  | 0 => decide (2 ≤ s.mode) && bitAt (s.reg .GPO_CONTROL) p
  | 1 => decide (2 ≤ s.mode) && s.time.gpoCue.getLsbD p
  | 2 => s.mode == 2
  | _ => false

def setBit8 (w : BitVec 8) (p : Nat) (b : Bool) : BitVec 8 :=
  if b then w ||| BitVec.ofNat 8 (2 ^ p) else w &&& ~~~ (BitVec.ofNat 8 (2 ^ p))

/-- A drive that changed ends its overload protection (R339). -/
def State.settleGpo (s old : State) : State :=
  let keep := flagBits ((List.range 8).map (fun p => s.gpoDriven p == old.gpoDriven p))
  { s with time := { s.time with gpoTripped := s.time.gpoTripped &&& BitVec.ofNat 8 keep } }

/-- Drive a CUE pin: 1 close, 2 open, 3 toggle, 4 pulse; any other pin or action has no effect (R248). -/
def State.gpoAction (s : State) (p action : Nat) : State :=
  if s.pattern.gpioFn (8 + p) ≠ 1 then s
  else
    let t := s.time
    match action with
    | 1 => { s with time := { t with gpoCue := setBit8 t.gpoCue p true } }
    | 2 => { s with time := { t with gpoCue := setBit8 t.gpoCue p false } }
    | 3 => { s with time := { t with gpoCue := setBit8 t.gpoCue p (!t.gpoCue.getLsbD p) } }
    | 4 => { s with time := { t with gpoCue := setBit8 t.gpoCue p true, gpoPulse := setBit8 t.gpoPulse p true } }
    | _ => s

/-- The pulse's own opening, at its set time (R248). -/
def State.pulseEnd (s : State) (p : Nat) : State :=
  if s.time.gpoPulse.getLsbD p then
    let t := s.time
    { s with time := { t with gpoCue := setBit8 t.gpoCue p false, gpoPulse := setBit8 t.gpoPulse p false } }
  else s

/-- The level of GPI[p] after its function's filter. -/
def State.gpiLevel (s : State) (p : Nat) : Bool := s.time.gpiState.getLsbD p

/-- An input changes; a RAW pin follows at once, a FILTERED one after its time (R253). In reset the input stage is
disabled (Table 16-6). -/
def State.gpiChange (s : State) (p : Nat) (level : Bool) : State :=
  let t := { s.time with gpiIn := setBit8 s.time.gpiIn p level }
  if s.boot.regsUp = false ∨ s.pattern.gpioFn p = 1 then { s with time := t }
  else { s with time := { t with gpiState := setBit8 t.gpiState p level } }

def State.gpiExpiry (s : State) (p : Nat) : State :=
  if s.boot.regsUp then { s with time := { s.time with gpiState := setBit8 s.time.gpiState p (s.time.gpiIn.getLsbD p) } }
  else s

/-- A new pattern's GPIO section takes effect: a GPO whose code changes opens and then follows its new
function, and a GPI read RAW follows its input (chapter 12, restitch edge). -/
def State.gpioSwitch (s : State) (new : Pattern) : State :=
  let keep := BitVec.ofNat 8 (flagBits ((List.range 8).map
    (fun p => s.pattern.gpioFn (8 + p) == new.gpioFn (8 + p))))
  let raw := BitVec.ofNat 8 (flagBits ((List.range 8).map (fun p => new.gpioFn p != 1)))
  let t := s.time
  { s with time := { t with
      gpoCue := t.gpoCue &&& keep
      gpoPulse := t.gpoPulse &&& keep
      gpiState := (t.gpiState &&& ~~~ raw) ||| (t.gpiIn &&& raw) } }

/-! ### Compare channels (R241 to R247) -/

def cmpPost (w : Word) : Bool := bitAt w 2
def cmpEvent (w : Word) : Bool := bitAt w 3
def cmpRoute (w : Word) : Nat := fld w 4 4
def cmpPin (w : Word) : Nat := fld w 8 3
def cmpAction (w : Word) : Nat := fld w 12 3

/-- Compare channels act in bring-up and service alone (R241, R258). -/
def State.cmpActive (s : State) : Bool := s.mode == 0 || s.mode == 2

/-- Begin a read of the bale; `fresh` drops the copy held, which is of another address or enabling (R246). -/
def State.readCmpBale (s : State) (n : Nat) (fresh : Bool) : State :=
  let a := s.pair .CMP_BALE_ADDR_LOW n
  s.modCmp n (fun c => { c with reading := some a, bale := if fresh then none else c.bale })

/-- The bale of a firing: with POST the copy held is posted, then read anew; a firing without a copy is a bale fault,
whether POST is set or not (R246, R247). -/
def State.cmpHandOver (s : State) (n : Nat) : State :=
  let w := s.reg .CMP_CONFIG n
  match (s.cmp n).bale with
  | some b => if cmpPost w then (s.postInternal (cmpRoute w) b (.cmp n)).readCmpBale n false else s
  | none => s.modCmp n (fun c => { c with faultCount := satInc c.faultCount })

/-- The actions of one firing at value v (R245). -/
def State.cmpFire (s : State) (n : Nat) (v : BitVec 64) : State :=
  let w := s.reg .CMP_CONFIG n
  let s1 := (s.modCmp n (fun c => { c with matchCount := c.matchCount + 1 })).cmpHandOver n
  let s2 := s1.gpoAction (cmpPin w) (cmpAction w)
  if cmpEvent w then s2.event 0xD1 ([byteOf n, 0, 0, 0, 0, 0, 0, 0] ++ leBytes 8 v.toNat) else s2

/-- Bring a periodic value above TB (R244). -/
def aboveTb (v period tb : Nat) : Nat := if period = 0 ∨ tb < v then v else v + ((tb - v) / period + 1) * period

/-- ENABLE becomes live at 1 with CATCH_UP and a value not above TB (R244). -/
def State.catchUp (s : State) (n : Nat) : State :=
  let s1 := if s.cmpActive then s.cmpFire n (s.cmp n).live else s
  s1.modCmp n (fun c => { c with live := BitVec.ofNat 64 (aboveTb c.live.toNat c.period.toNat s1.time.tb.toNat) })

/-- What was written becomes live in the comparator (R242). It takes the place of a periodic add of the same TCLK cycle
(R255). -/
def State.cmpLive (s : State) (n : Nat) : State :=
  let w := s.reg .CMP_CONFIG n
  let v := BitVec.ofNat 64 (s.pair .CMP_VALUE_LOW n)
  let rose := (s.cmp n).configDue && bitAt w 0 && !(s.cmp n).enable
  let p := s.reg .CMP_PERIOD n
  let s1 := s.modCmp n (fun c =>
    let d := if c.valueDue then { c with live := v, valueDue := false } else c
    if d.configDue then { d with enable := bitAt w 0, period := p, configDue := false } else d)
  if rose && bitAt w 1 && decide ((s1.cmp n).live.toNat ≤ s1.time.tb.toNat) then s1.catchUp n else s1

/-- The read of the bale returns (R246, R260). -/
def State.cmpBaleRead (s : State) (n : Nat) : State :=
  match (s.cmp n).reading with
  | none => s
  | some a =>
    match s.storeRead a 64 with
    | .ok b => s.modCmp n (fun c => { c with reading := none, bale := some b })
    | .error e =>
      ((s.modCmp n (fun c => { c with reading := none, bale := none })).event 0xD2
        ([byteOf n, byteOf e.2, 0, 0, 0, 0, 0, 0] ++ leBytes 8 a)).record 0x10 classA [] a

/-! Effects of accepted register writes (R244, R246). -/

def State.wroteCmpConfig (s : State) (n : Nat) (old v : Word) : State :=
  let s1 := s.modCmp n (fun c => { c with configDue := true })
  if bitAt v 0 && !bitAt old 0 then s1.readCmpBale n true else s1

def State.wroteCmpPeriod (s : State) (n : Nat) : State := s.modCmp n (fun c => { c with configDue := true })

def State.wroteCmpValue (s : State) (n : Nat) : State := s.modCmp n (fun c => { c with valueDue := true })

def State.wroteCmpBale (s : State) (n : Nat) : State := s.readCmpBale n true

/-! ### Counters (R249 to R252) -/

def cntMode (w : Word) : Nat := fld w 0 2

/-- A gated counter's gate is open (R252). -/
def State.gateOpen (s : State) (w : Word) : Bool := s.gpiLevel (fld w 8 3) == bitAt w 12

/-- One TCLK cycle of the symmetric mode, and whether it wraps (Table 12-2). -/
def symStep (c : CntSt) (shadow : Word) : CntSt × Bool :=
  let n := c.count.toNat
  let top := c.reload.toNat
  let up : CntSt × Bool :=
    if n = 0 ∧ top = 0 then ({ c with reload := shadow, down := false }, false)
    else if n < top then ({ c with count := c.count + 1, down := n + 1 == top }, n + 1 == top)
    else if n = 1 then ({ c with count := 0, down := false, reload := shadow }, true)
    else ({ c with count := c.count - 1, down := true }, false)
  if c.down = true ∧ n ≠ 0 then
    if n = 1 then ({ c with count := 0, down := false, reload := shadow }, true)
    else ({ c with count := c.count - 1 }, false)
  else up

/-- One TCLK cycle of a counter (Table 12-2). -/
def cntStep (c : CntSt) (mode : Nat) (gate : Bool) (shadow : Word) : CntSt × Bool :=
  match mode with
  | 1 => symStep c shadow
  | 2 => if c.count = 0 then ({ c with count := shadow, reload := shadow }, true)
      else ({ c with count := c.count - 1 }, false)
  | 3 => if gate then ({ c with count := c.count + 1 }, c.count == 0xFFFFFFFF) else (c, false)
  | _ => (c, false)

def State.cntNext (s : State) (k : Nat) : CntSt × Bool :=
  let w := s.reg .CNT_CONFIG k
  cntStep (s.cnt k) (cntMode w) (s.gateOpen w) (s.reg .CNT_RELOAD k)

/-- A wrap: counted, and posted at most once in a millisecond (R251). -/
def State.cntWrapped (s : State) (k : Nat) (c : CntSt) : State :=
  let d := { c with wraps := c.wraps + 1 }
  let due := match c.lastEvent with
    | none => true
    | some t => decide (t + 100000 ≤ s.time.tb.toNat)
  if bitAt (s.reg .CNT_CONFIG k) 4 && due then
    (s.modCnt k (fun _ => { d with lastEvent := some s.time.tb.toNat })).event 0xD0
      ([byteOf k, 0, 0, 0] ++ leBytes 4 d.wraps.toNat)
  else s.modCnt k (fun _ => d)

/-- One TCLK cycle of counter k; its wrap is left to be counted (R249). DEDUCED, log 15. -/
def State.cntTick (s : State) (k : Nat) : State :=
  match s.cntNext k with
  | (c, true) => s.modCnt k (fun old => { c with wrapFrom := some (old.reload, old.down) })
  | (c, false) => s.modCnt k (fun _ => c)

/-- Count a wrap that no CNT_WRAP has counted. -/
def State.cntWrap (s : State) (k : Nat) : State :=
  match (s.cnt k).wrapFrom with
  | none => s
  | some _ => s.cntWrapped k { s.cnt k with wrapFrom := none }

/-! ### The time base (R239, R240) -/

/-- TB's source in the present state (Table 12-1): LFCLK in standby and debug hold. -/
def State.wantsLfclk (s : State) : Bool := s.holding || !s.boot.clocks

/-- Switch to the source the state calls for; a fraction left over is discarded. -/
def State.switchSource (s : State) : State :=
  if s.power.standby = false ∨ s.time.lfclk = s.wantsLfclk then s
  else { s with time := { s.time with lfclk := s.wantsLfclk, lfAcc := 0 } }

/-- The step of one tick, and the accumulator after it (Table 12-1). On LFCLK with TCLK called for a tick is a TCLK cycle
before the LFCLK edge of the switch, in which TB holds; on TCLK that has stopped TB holds too (R240). DEDUCED, log 1. -/
def State.tbStep (s : State) : Nat × Nat :=
  if s.time.lfclk then
    if s.wantsLfclk then (3051 + (s.time.lfAcc + 97) / 128, (s.time.lfAcc + 97) % 128) else (0, s.time.lfAcc)
  else (s.boot.clocks.toNat, 0)

/-- TB stepping by d crosses v, counting round the wrap (R241, R257). -/
def crosses (tb : BitVec 64) (d : Nat) (v : BitVec 64) : Bool :=
  decide (1 ≤ (v - tb).toNat) && decide ((v - tb).toNat ≤ d)

/-- Crossings of v, v + period, … in a step of d from tb. -/
def crossings (tb : BitVec 64) (d : Nat) (v : BitVec 64) (period : Nat) : Nat :=
  if crosses tb d v = false then 0 else if period = 0 then 1 else (d - (v - tb).toNat) / period + 1

/-- A channel's part in a step of TB: a crossing to fire, the periodic add falling in its cycle, or one skipped in
debug hold (R241, R243, R258). -/
def State.judgeCmp (s : State) (d : Nat) (n : Nat) : State :=
  let c := s.cmp n
  if c.enable = false then s
  else if s.holding then
    let k := crossings s.time.tb d c.live c.period.toNat
    s.modCmp n (fun c => { c with holdSkip := min 0xFFFF (c.holdSkip + k)
                                  live := c.live + BitVec.ofNat 64 (k * c.period.toNat) })
  else if s.cmpActive && crosses s.time.tb d c.live then
    s.modCmp n (fun c => { c with crossed := some c.live, live := c.live + c.period.setWidth 64 })
  else s

/-- Fire a crossing that no CMP_MATCH has carried out. DEDUCED, log 14. -/
def State.cmpMatch (s : State) (n : Nat) : State :=
  match (s.cmp n).crossed with
  | none => s
  | some v => (s.modCmp n (fun c => { c with crossed := none })).cmpFire n v

/-- The crossings of the channels below n are carried out, in channel order (R259). -/
def State.fireBelow (s : State) (n : Nat) : State := ((List.range n).foldl State.cmpMatch s).settleGpo s

/-- Whatever the last TCLK cycle left is carried out: crossings fire, then wraps are counted. -/
def State.settleCycle (s : State) : State := (List.range 8).foldl State.cntWrap (s.fireBelow 32)

/-- One tick of the source (log 1): what the last cycle left is carried out, counters advance on TCLK but in debug hold
(R258), and TB steps. Nothing runs before standby power (R239). -/
def State.tick (s : State) : State :=
  if s.power.standby = false then s
  else
    let s1 := s.settleCycle
    let s2 := if s1.wantsLfclk then s1 else (List.range 8).foldl State.cntTick s1
    let (d, acc) := s2.tbStep
    let s3 := (List.range 32).foldl (fun s n => s.judgeCmp d n) s2
    { s3 with time := { s3.time with tb := s3.time.tb + BitVec.ofNat 64 d, lfAcc := acc } }

/-! ### Meanings -/

/-- TB_SOURCE_SWITCH (R240). -/
def execTbSourceSwitch (s : State) : Host.Outcome State Fault Refusal := .next s.switchSource

/-- CMP_MATCH (R245): the firing of a crossing, after those of lower channels in the same TCLK cycle (R259); without one
the channel does nothing. -/
def execCmpMatch (n : Fin 32) (s : State) : Host.Outcome State Fault Refusal := .next (s.fireBelow (n + 1))

/-- CMP_WRITE_LIVE (R242). -/
def execCmpWriteLive (n : Fin 32) (s : State) : Host.Outcome State Fault Refusal :=
  .next ((s.cmpLive n).settleGpo s)

/-- CMP_BALE_READ_DONE (R246). -/
def execCmpBaleReadDone (n : Fin 32) (s : State) : Host.Outcome State Fault Refusal := .next (s.cmpBaleRead n)

/-- GPO_PULSE_END (R248). -/
def execGpoPulseEnd (p : Fin 8) (s : State) : Host.Outcome State Fault Refusal :=
  .next ((s.pulseEnd p).settleGpo s)

/-- CNT_WRAP (R249, R251): the wrap of counter k in its last TCLK cycle is counted; without one nothing happens. -/
def execCntWrap (k : Fin 8) (s : State) : Host.Outcome State Fault Refusal := .next (s.cntWrap k)

/-- GPI_INPUT_CHANGE (R253). -/
def execGpiInputChange (p : Fin 8) (level : Bool) (s : State) : Host.Outcome State Fault Refusal :=
  .next (s.gpiChange p level)

/-- GPI_FILTER_EXPIRY (R253). -/
def execGpiFilterExpiry (p : Fin 8) (s : State) : Host.Outcome State Fault Refusal := .next (s.gpiExpiry p)

end Sys2Proof.Machine
end

