-- ==== Sys2Proof/Machine/Chassis.lean ====
section
/-! DEFINITION. Chassis (16): fans, service button, SFP cages, DisplayPort power, GPO protection. -/

namespace Sys2Proof.Machine

def State.modChassis (s : State) (f : ChassisSt → ChassisSt) : State := { s with chassis := f s.chassis }

def setBit (n : Nat) (w : BitVec n) (p : Nat) (b : Bool) : BitVec n :=
  if b then w ||| BitVec.ofNat n (2 ^ p) else w &&& ~~~(BitVec.ofNat n (2 ^ p))

/-- A fan's tachometer has read a speed for 2 s: below 1000 rpm the fan is stopped, else it runs (R332, R342). A stopped fan
that runs again is reported by the same command. DEDUCED, log 101. -/
def State.fanSpeed (s : State) (f rpm : Nat) : State :=
  let stopped := decide (rpm < 1000)
  let s1 := s.modChassis (fun c => { c with
    fanStopped := setBit 5 c.fanStopped f stopped, fanRpm := mapSet 0 c.fanRpm f rpm })
  if s.chassis.fanStopped.getLsbD f = stopped then s1
  else
    let s2 := s1.event 0xF0 [byteOf f, byteOf stopped.toNat]
    if stopped then s2.record 0x15 classD [(16, rpm)] f else s2

/-- The service button (R334, R386). -/
def State.button (s : State) (held : Bool) : State :=
  let s1 := s.modChassis (fun c => { c with button := held })
  { s1 with boot := { s1.boot with buttonHeld := s1.boot.buttonHeld && held } }

/-- A module goes in, and its identity is read, or out; removal clears a power fault and drops the link (R335). A module
goes into an empty cage only. -/
def State.sfpChange (s : State) (p : Nat) (m : Option SfpModule) : State :=
  if (s.sfpModule p).isSome = m.isSome then s
  else
    let s1 := s.modChassis (fun c => { c with
      sfpModules := mapSet none c.sfpModules p m, sfpFault := setBit 2 c.sfpFault p (c.sfpFault.getLsbD p && m.isSome) })
    let s2 := s1.event 0xF1 [byteOf p, byteOf m.isSome.toNat]
    if m.isSome then s2 else s2.setLink p false

/-- A module over its current limit: its cage supply goes off until it is removed (R335). -/
def State.sfpOvercurrent (s : State) (p : Nat) : State :=
  if (s.sfpModule p).isSome && !s.chassis.sfpFault.getLsbD p then
    let s1 := s.modChassis (fun c => { c with sfpFault := setBit 2 c.sfpFault p true })
    ((s1.event 0xF1 [byteOf p, 2]).record 0x16 classA [] p).setLink p false
  else s

/-- DP_PWR folds back (R336). -/
def State.dpFoldback (s : State) (p : Nat) : State :=
  if s.chassis.dpFault.getLsbD p then s
  else
    let s1 := s.modChassis (fun c => { c with dpFault := setBit 4 c.dpFault p true })
    (s1.event 0xF2 [byteOf p, 1]).record 0x17 classA [] p

/-- A retry of a folded-back supply, which recovers or folds back again (R336). -/
def State.dpRetryPower (s : State) (p : Nat) (recovered : Bool) : State :=
  if s.chassis.dpFault.getLsbD p && recovered then
    (s.modChassis (fun c => { c with dpFault := setBit 4 c.dpFault p false })).event 0xF2 [byteOf p, 0]
  else s

/-- A closed output opens by its own protection, until its drive next changes (R339). -/
def State.gpoTrip (s : State) (p : Nat) : State :=
  if s.gpoDriven p && !s.time.gpoTripped.getLsbD p then
    let s1 := { s with time := { s.time with gpoTripped := setBit8 s.time.gpoTripped p true } }
    (s1.event 0xF3 [byteOf p]).record 0x18 classA [] p
  else s

/-- FAN_STOP (R332, R342). -/
def execFanStop (f : Fin 5) (rpm : Nat) (s : State) : Host.Outcome State Fault Refusal := .next (s.fanSpeed f rpm)

/-- SERVICE_BUTTON (R334). -/
def execServiceButton (held : Bool) (s : State) : Host.Outcome State Fault Refusal := .next (s.button held)

/-- SFP_MODULE_CHANGE (R335). -/
def execSfpModuleChange (p : Fin 2) (module : Option SfpModule) (s : State) : Host.Outcome State Fault Refusal :=
  .next (s.sfpChange p module)

/-- SFP_POWER_FAULT (R335). -/
def execSfpPowerFault (p : Fin 2) (s : State) : Host.Outcome State Fault Refusal := .next (s.sfpOvercurrent p)

/-- DP_PWR_FOLDBACK (R336). -/
def execDpPwrFoldback (p : Fin 4) (s : State) : Host.Outcome State Fault Refusal := .next (s.dpFoldback p)

/-- DP_PWR_RETRY (R336). -/
def execDpPwrRetry (p : Fin 4) (recovered : Bool) (s : State) : Host.Outcome State Fault Refusal :=
  .next (s.dpRetryPower p recovered)

/-- GPO_OVERLOAD (R339). -/
def execGpoOverload (p : Fin 8) (s : State) : Host.Outcome State Fault Refusal := .next (s.gpoTrip p)

end Sys2Proof.Machine
end

