-- ==== Sys2Proof/Machine/Hash.lean ====
section
/-! DEFINITION. Checks and signatures: CRC-32 (R34), CRC-32C (R218), CRC-8 (R362), SHA-256 and HMAC (FIPS
180-4, RFC 2104), ECDSA verification on P-256 (FIPS 186-4). PRESUMED: the cited standards' own algorithms (log 8). -/

namespace Sys2Proof.Machine

/-! ### Cyclic redundancy checks -/

/-- One bit of a reflected CRC register. -/
def crcBit (poly c : Nat) : Nat := if c % 2 = 1 then (c / 2).xor poly else c / 2

def crcByte (poly c : Nat) (b : Byte) : Nat :=
  (List.range 8).foldl (fun c _ => crcBit poly c) (c.xor b.toNat)

def crcReflected (poly : Nat) (bs : List Byte) : Nat :=
  (bs.foldl (crcByte poly) 0xFFFFFFFF).xor 0xFFFFFFFF

/-- CRC-32 of R34: 0x04C1_1DB7 reflected. -/
def crc32 (bs : List Byte) : Nat := crcReflected 0xEDB88320 bs

/-- CRC-32C of R218: 0x1EDC_6F41 reflected. -/
def crc32c (bs : List Byte) : Nat := crcReflected 0x82F63B78 bs

/-- CRC-8 of polynomial 0x07 from 0x00, most significant bit first (Table 17-6). -/
def crc8 (bits : List Bool) : Nat :=
  bits.foldl (fun c b => if natBit c 7 == b then c * 2 % 256 else (c * 2 % 256).xor 0x07) 0

/-! ### SHA-256 -/

/-- The round constants of FIPS 180-4: the first 32 fractional bits of the cube roots of the first 64 primes, eight
words in one number, the first uppermost. -/
def shaRows : List Nat :=
  [0x428a2f9871374491b5c0fbcfe9b5dba53956c25b59f111f1923f82a4ab1c5ed5,
   0xd807aa9812835b01243185be550c7dc372be5d7480deb1fe9bdc06a7c19bf174,
   0xe49b69c1efbe47860fc19dc6240ca1cc2de92c6f4a7484aa5cb0a9dc76f988da,
   0x983e5152a831c66db00327c8bf597fc7c6e00bf3d5a7914706ca635114292967,
   0x27b70a852e1b21384d2c6dfc53380d13650a7354766a0abb81c2c92e92722c85,
   0xa2bfe8a1a81a664bc24b8b70c76c51a3d192e819d6990624f40e3585106aa070,
   0x19a4c1161e376c082748774c34b0bcb5391c0cb34ed8aa4a5b9cca4f682e6ff3,
   0x748f82ee78a5636f84c878148cc7020890befffaa4506cebbef9a3f7c67178f2]

/-- Round constant by round constant. -/
def shaK : List Nat := shaRows.flatMap (fun r => (pieces 4 (beBytes 32 r)).map beNat)

def shaInit : List Word :=
  [0x6a09e667, 0xbb67ae85, 0x3c6ef372, 0xa54ff53a, 0x510e527f, 0x9b05688c, 0x1f83d9ab, 0x5be0cd19]

/-- The message schedule, newest word first, from 16 words to 64. -/
def shaExpand : Nat → List Word → List Word
  | 0, w => w
  | n + 1, w =>
    let w2 := w.getD 1 0
    let w15 := w.getD 14 0
    let s0 := w15.rotateRight 7 ^^^ w15.rotateRight 18 ^^^ (w15 >>> 3)
    let s1 := w2.rotateRight 17 ^^^ w2.rotateRight 19 ^^^ (w2 >>> 10)
    shaExpand n ((w.getD 15 0 + s0 + w.getD 6 0 + s1) :: w)

def shaRound (v : List Word) (kw : Word × Word) : List Word :=
  match v with
  | [a, b, c, d, e, f, g, h] =>
    let s1 := e.rotateRight 6 ^^^ e.rotateRight 11 ^^^ e.rotateRight 25
    let ch := (e &&& f) ^^^ (~~~e &&& g)
    let t1 := h + s1 + ch + kw.1 + kw.2
    let s0 := a.rotateRight 2 ^^^ a.rotateRight 13 ^^^ a.rotateRight 22
    let maj := (a &&& b) ^^^ (a &&& c) ^^^ (b &&& c)
    [t1 + (s0 + maj), a, b, c, d + t1, e, f, g]
  | other => other

def shaBlock (v : List Word) (block : List Byte) : List Word :=
  let w := (shaExpand 48 ((pieces 4 block).map (fun p => wordOf (beNat p))).reverse).reverse
  let r := ((shaK.map wordOf).zip w).foldl shaRound v
  (v.zip r).map (fun p => p.1 + p.2)

def sha256 (m : List Byte) : List Byte :=
  let padded := m ++ [0x80] ++ List.replicate ((119 - m.length % 64) % 64) 0 ++ beBytes 8 (m.length * 8)
  ((pieces 64 padded).foldl shaBlock shaInit).flatMap (fun w => beBytes 4 w.toNat)

/-- HMAC-SHA-256 with a key of at most 64 bytes. -/
def hmacSha256 (key m : List Byte) : List Byte :=
  let k := padTo 64 key
  sha256 (k.map (· ^^^ 0x5C) ++ sha256 (k.map (· ^^^ 0x36) ++ m))

/-! ### ECDSA on P-256 -/

def p256P : Nat := 0xffffffff00000001000000000000000000000000ffffffffffffffffffffffff
def p256N : Nat := 0xffffffff00000000ffffffffffffffffbce6faada7179e84f3b9cac2fc632551
def p256B : Nat := 0x5ac635d8aa3a93e7b3ebbd55769886bc651d06b0cc53b0f63bce3c3e27d2604b
def p256G : Nat × Nat :=
  (0x6b17d1f2e12c4247f8bce6e563a440f277037d812deb33a0f4a13945d898c296,
   0x4fe342e2fe1a7f9b8ee7eb4a7c0f9e162bce33576b315ececbb6406837bf51f5)

/-- `b` to the power of the bits `e` modulo `m`. -/
def powBits (m b : Nat) : List Bool → Nat → Nat
  | [], acc => acc
  | e :: es, acc => powBits m b es (if e then acc * acc % m * b % m else acc * acc % m)

/-- Inverse modulo a 256-bit prime. -/
def invMod (m b : Nat) : Nat := powBits m (b % m) (bitsMsb 256 (m - 2)) 1

def subMod (m a b : Nat) : Nat := (a + (m - b % m)) % m

/-- A point of the curve; none is the point at infinity. -/
abbrev EcPoint := Option (Nat × Nat)

def ecAdd (a b : EcPoint) : EcPoint :=
  match a, b with
  | none, q => q
  | q, none => q
  | some (x1, y1), some (x2, y2) =>
    if x1 = x2 ∧ (y1 + y2) % p256P = 0 then none
    else
      let l := if x1 = x2
        then subMod p256P (3 * x1 * x1) 3 * invMod p256P (2 * y1) % p256P
        else subMod p256P y2 y1 * invMod p256P (subMod p256P x2 x1) % p256P
      let x3 := subMod p256P (subMod p256P (l * l) x1) x2
      some (x3, subMod p256P (l * subMod p256P x1 x3) y1)

def ecMul (k : Nat) (q : EcPoint) : EcPoint :=
  (bitsMsb 256 k).foldl (fun acc b => if b then ecAdd (ecAdd acc acc) q else ecAdd acc acc) none

def ecOnCurve (x y : Nat) : Bool :=
  x < p256P && y < p256P && y * y % p256P == subMod p256P (x * x * x + p256B) (3 * x)

/-- Verification of (r, s) by the key (x, y) over a digest. -/
def ecdsaVerify (x y : Nat) (digest : List Byte) (r s : Nat) : Bool :=
  if r = 0 ∨ s = 0 ∨ r ≥ p256N ∨ s ≥ p256N ∨ ecOnCurve x y = false then false
  else
    let w := invMod p256N s
    let e := beNat digest
    match ecAdd (ecMul (e * w % p256N) (some p256G)) (ecMul (r * w % p256N) (some (x, y))) with
    | none => false
    | some (px, _) => px % p256N = r

end Sys2Proof.Machine
end

