-- ==== Sys2Proof/Machine/PatternCheck.lean ====
section
/-! DEFINITION. The pattern's byte format and the checks of Table 2-3, steps 1 to 6 (R33 to R44, R82, R99, R181,
R190, R191, R253, R281, R411 to R413). -/

namespace Sys2Proof.Machine

/-! ### Result codes (Table 2-3) -/

def patOk : Nat := 0x00
def patHeader : Nat := 0x01
def patTable : Nat := 0x02
def patCrc : Nat := 0x03
def patSignature : Nat := 0x04
def patStructure : Nat := 0x05
def patBudget : Nat := 0x06
def patBusy : Nat := 0x07
def patEmpty : Nat := 0x08
def patFlash : Nat := 0x09
def patRead : Nat := 0x0A

/-- SECTION where no section is named (R413). -/
def noSection : Nat := 0xFF

/-- A failed check: result code and section. -/
abbrev PatFail := Nat × Nat

/-- Reads of a pattern's source: bytes at an offset, none when the read fails (R412). -/
abbrev PatReader := Nat → Nat → Option (List Byte)

def readOr (rd : PatReader) (off n : Nat) : Except PatFail (List Byte) :=
  match rd off n with
  | some bs => .ok bs
  | none => .error (patRead, noSection)

/-- Fail with a code when a condition does not hold. -/
def need (c : Bool) (code sec : Nat) : Except PatFail Unit := if c then .ok () else .error (code, sec)

/-! ### Step 1 (R33, Table 2-1) -/

def manifestOk (m : List Byte) : Bool :=
  leAt m 0x00 4 == 0x59575054 && leAt m 0x04 2 == 1 && leAt m 0x0C 4 == 0x59570096 && decide (leAt m 0x10 1 ≤ 2) &&
  decide (leAt m 0x08 4 % 64 = 0) && decide (leAt m 0x08 4 ≤ 0x400000) && decide (leAt m 0x24 4 % 64 = 0) &&
  leAt m 0x08 4 == leAt m 0x24 4 + 192

/-! ### Step 2 (R33, R35, R281) -/

/-- One entry of the section table. -/
structure SecEntry where
  type    : Nat
  offset  : Nat
  length  : Nat
  records : Nat
  deriving DecidableEq, Repr

def secEntry (bs : List Byte) : SecEntry := ⟨leAt bs 0 2, leAt bs 4 4, leAt bs 8 4, leAt bs 12 4⟩

/-- Record size of a section type (Table 2-2); CONSOLE has its own format. -/
def recordSize (type : Nat) : Option Nat := [none, some 32, some 4, some 8, some 4, some 16, some 16, some 4, none, some 2, some 16, some 8].getD type none

def consoleType : Nat := 8
def budgetType : Nat := 10

/-- LENGTH against RECORDS; for CONSOLE by its own header. -/
def lengthOk (rd : PatReader) (e : SecEntry) : Except PatFail Bool :=
  match recordSize e.type with
  | some n => .ok (e.length == e.records * n)
  | none =>
    if e.length < 16 then .ok false
    else
      match readOr rd e.offset 16 with
      | .error f => .error f
      | .ok h =>
        let u := leAt h 0 2
        let m := leAt h 2 2
        let t := leAt h 4 2
        .ok (e.length == 16 + 8 * u + 16 * m + 72 * t && e.records == u + m + t)

def overlaps (a b : SecEntry) : Bool :=
  a.length != 0 && b.length != 0 && decide (a.offset < b.offset + b.length) && decide (b.offset < a.offset + a.length)

/-- Check entries from index i; `before` are those already passed. Of two entries that clash the later fails. -/
def checkEntries (rd : PatReader) (tableEnd sig : Nat) (before : List SecEntry) (i : Nat) : List SecEntry → Except PatFail Unit
  | [] => .ok ()
  | e :: es =>
    let known := decide (1 ≤ e.type) && decide (e.type ≤ 11) && !before.any (fun b => b.type == e.type)
    let placed := decide (e.offset % 64 = 0) && decide (tableEnd ≤ e.offset) && decide (e.offset + e.length ≤ sig)
    if known = false ∨ placed = false then .error (patTable, i)
    else
      match lengthOk rd e with
      | .error f => .error f
      | .ok false => .error (patTable, i)
      | .ok true =>
        if before.any (fun b => overlaps b e) then .error (patTable, i)
        else checkEntries rd tableEnd sig (before ++ [e]) (i + 1) es

def mandatoryTypes : List Nat := [1, 2, 3, 5, 6, 10]

/-- Steps 1 and 2: the manifest and the section table. -/
def checkTable (rd : PatReader) : Except PatFail (List Byte × List SecEntry) := do
  let m ← readOr rd 0 64
  need (manifestOk m) patHeader noSection
  let count := leAt m 0x06 2
  need (decide (6 ≤ count) && decide (count ≤ 11)) patTable noSection
  let t ← readOr rd 64 (16 * count)
  let es := (pieces 16 t).map secEntry
  checkEntries rd (64 + 16 * count) (leAt m 0x24 4) [] 0 es
  need (mandatoryTypes.all (fun k => es.any (fun e => e.type == k))) patTable noSection
  .ok (m, es)

/-! ### Steps 3 and 4 (R34, R39, R40) -/

/-- The signature block's form (R39). -/
def sigBlockOk (b : List Byte) : Bool :=
  let zero := fun (off n : Nat) => (slice b off n).all (· == 0)
  let count := leAt b 0 1
  let kind := fun (k : Nat) => leAt b (4 + 68 * k) 1
  let entry := fun (k : Nat) => (kind k == 1 || kind k == 2) && zero (5 + 68 * k) 3
  (count == 1 || count == 2) && zero 1 3 && zero 140 52 && entry 0 &&
  (if count = 1 then zero 72 68 else entry 1 && kind 0 != kind 1)

/-- Every signature present verifies, and the policy has those it asks for (R40). -/
def signaturesOk (b digest : List Byte) (policy keyX keyY : Nat) : Bool :=
  let n := leAt b 0 1
  let kind := fun (k : Nat) => leAt b (4 + 68 * k) 1
  let verifies := fun (k : Nat) =>
    let x := if kind k = 1 then Config.vendorKeyX else keyX
    let y := if kind k = 1 then Config.vendorKeyY else keyY
    (kind k == 1 || keyX != 0 || keyY != 0) &&
      ecdsaVerify x y digest (beAt b (8 + 68 * k) 32) (beAt b (40 + 68 * k) 32)
  let has := fun (w : Nat) => (List.range n).any (fun k => kind k == w)
  (List.range n).all verifies &&
  (match policy with
    | 1 => has 1
    | 2 => has 2
    | 3 => has 1 && has 2
    | _ => true)

/-- Steps 1 to 4: the manifest, the section table and the signed bytes. -/
def checkSigned (rd : PatReader) (policy keyX keyY : Nat) : Except PatFail (List Byte × List SecEntry × List Byte) := do
  let (m, es) ← checkTable rd
  let sig := leAt m 0x24 4
  let body ← readOr rd 0 sig
  need (crc32 (patch body 0x20 [0, 0, 0, 0]) == leAt m 0x20 4) patCrc noSection
  let block ← readOr rd sig 192
  need (sigBlockOk block && signaturesOk block (sha256 body) policy keyX keyY) patSignature noSection
  .ok (m, es, body)

/-! ### The pattern taken apart (Tables 2-2 and 13-4) -/

def headRec (b : List Byte) : HeadRec where
  head       := leAt b 0 1
  gang       := leAt b 1 1
  connector  := leAt b 2 1
  syncFlags  := leAt b 3 1
  hActive    := leAt b 4 2
  hTotal     := leAt b 6 2
  vActive    := leAt b 8 2
  vTotal     := leAt b 10 2
  hSyncStart := leAt b 12 2
  hSyncWidth := leAt b 14 2
  vSyncStart := leAt b 16 2
  vSyncWidth := leAt b 18 2
  divN       := leAt b 20 1
  reserved   := leAt b 21 3
  divF       := leAt b 24 4

/-- Bytes of the section of a type. -/
def sectionBytes (body : List Byte) (es : List SecEntry) (type : Nat) : List Byte :=
  match es.find? (fun e => e.type == type) with
  | some e => slice body e.offset e.length
  | none => []

def parsePattern (m : List Byte) (es : List SecEntry) (body : List Byte) : Pattern :=
  let sec := sectionBytes body es
  let con := sec consoleType
  let u := leAt con 0 2
  let n := leAt con 2 2
  let mapAt := 16 + 8 * u
  let trigAt := mapAt + 16 * n
  { serial    := wordOf (leAt m 0x14 4)
    buildId   := BitVec.ofNat 64 (leAt m 0x18 8)
    autoLock  := natBit (leAt m 0x11 1) 0
    heads     := (pieces 32 (sec 1)).map headRec
    skeins    := (pieces 4 (sec 2)).map (fun b => ⟨leAt b 0 1, leAt b 1 1, leAt b 2 1, leAt b 3 1⟩)
    needles   := (pieces 8 (sec 3)).map (fun b => ⟨leAt b 0 1, leAt b 4 4⟩)
    colours   := (pieces 4 (sec 4)).map (fun b => ⟨leAt b 0 1, leAt b 1 1, leAt b 2 2⟩)
    routes    := (pieces 16 (sec 5)).map (fun b => ⟨leAt b 0 1, leAt b 1 1, leAt b 2 1, leAt b 8 8⟩)
    regions   := (pieces 16 (sec 6)).map (fun b => ⟨leAt b 0 1, leAt b 4 4, leAt b 8 8⟩)
    caravan   := (pieces 4 (sec 7)).map (fun b => ⟨leAt b 0 1, leAt b 1 1⟩)
    universes := (pieces 8 (slice con 16 (8 * u))).map (fun b => ⟨leAt b 0 2, leAt b 2 1, leAt b 3 1⟩)
    maps      := (pieces 16 (slice con mapAt (16 * n))).map (fun b =>
      ⟨leAt b 0 1, leAt b 1 1, leAt b 2 2, leAt b 4 1, leAt b 5 1, signed 32 (leAt b 8 4), signed 32 (leAt b 12 4)⟩)
    triggers  := (pieces 72 (con.drop trigAt)).map (fun b =>
      ⟨leAt b 0 1, leAt b 1 1, leAt b 2 2, leAt b 4 1, slice b 8 64⟩)
    gpio      := (pieces 2 (sec 9)).map (fun b => ⟨leAt b 0 1, leAt b 1 1⟩)
    budgets   := (pieces 16 (sec 10)).map (fun b => ⟨leAt b 0 1, leAt b 4 4, leAt b 8 4, leAt b 12 4⟩)
    init      := (pieces 8 (sec 11)).map (fun b => ⟨leAt b 0 4, wordOf (leAt b 4 4)⟩) }

/-! ### Step 5 (R411) -/

/-- No value occurs twice. -/
def distinct (l : List Nat) : Bool := (nub l).length == l.length

/-- Ranges (base, size) do not overlap. -/
def disjointRanges : List (Nat × Nat) → Bool
  | [] => true
  | (a, n) :: rest => rest.all (fun r => decide (a + n ≤ r.1) || decide (r.1 + r.2 ≤ a)) && disjointRanges rest

/-- Masks share no bit. -/
def disjointMasks : List Nat → Bool
  | [] => true
  | m :: rest => rest.all (fun n => m.land n == 0) && disjointMasks rest

/-- Table 9-1. -/
def timingOk (r : HeadRec) : Bool :=
  let g := headGanged r
  let step := if g then 4 else 2
  decide (8 ≤ r.divN) && decide (pixelRate r ≤ (if g then 1200000000 else 600000000)) &&
  decide ((if g then 128 else 64) ≤ r.hActive) && decide (r.hActive ≤ (if g then 8192 else 4096)) &&
  decide (r.hActive % step = 0) && decide (r.hTotal ≤ 16384) && decide (r.hTotal % step = 0) &&
  decide (r.hActive + (if g then 32 else 16) ≤ r.hTotal) && decide (16 ≤ r.vActive) &&
  decide (r.vActive + 5 ≤ r.vTotal) && decide (r.vTotal ≤ 8192) &&
  decide (r.hSyncStart + r.hSyncWidth ≤ r.hTotal) && decide (r.vSyncStart + r.vSyncWidth ≤ r.vTotal)

def Pattern.hasHead (p : Pattern) (h : Nat) : Bool := p.heads.any (fun r => r.head == h)

def headsOk (p : Pattern) : Bool :=
  distinct (p.heads.map (·.head)) && p.heads.all (fun r =>
    decide (r.head ≤ 7) && decide (r.gang ≤ 1) && (r.gang == 0 || (decide (r.head % 2 = 0) && !p.hasHead (r.head + 1))) &&
    (decide (r.connector ≤ 7) || r.connector == 0xFF) && timingOk r)

def skeinsOk (p : Pattern) : Bool :=
  distinct (p.skeins.map (·.skein)) && distinct (p.skeins.map (fun r => 256 * r.head + r.stack)) &&
  p.skeins.all (fun r => decide (r.skein ≤ 95) && p.hasHead r.head)

def needlesOk (p : Pattern) : Bool :=
  distinct (p.needles.map (·.head)) && p.needles.all (fun r => p.hasHead r.head) && disjointMasks (p.needles.map (·.mask))

def coloursOk (p : Pattern) : Bool :=
  distinct (p.colours.map (·.head)) && p.colours.all (fun r => p.hasHead r.head) &&
  disjointMasks (p.colours.map (·.chromaKeys))

/-- Codes of Table 4-1. -/
def consumerKnown (c : Nat) : Bool := decide (c ≤ 7) || (decide (0x10 ≤ c) && decide (c ≤ 0x1F))

def ringSize (r : RouteRec) : Nat := 64 * 2 ^ r.depthLog2

/-- R82, R99. -/
def routesOk (p : Pattern) : Bool :=
  let bound := p.routes.filter (fun r => r.consumer != 0)
  let single := (p.routes.map (·.consumer)).filter (fun c => (decide (1 ≤ c) && decide (c ≤ 4)) || decide (0x10 ≤ c))
  distinct (p.routes.map (·.route)) && p.routes.all (fun r => decide (r.route ≤ 15) && consumerKnown r.consumer &&
    (r.route == 15) == (r.consumer == 7)) &&
  p.routes.any (fun r => r.route == 15) &&
  decide ((p.routes.filter (fun r => r.consumer == 6)).length ≤ 1) &&
  decide ((p.routes.filter (fun r => r.consumer == 5)).length ≤ 2) && distinct single &&
  bound.all (fun r => decide (6 ≤ r.depthLog2) && decide (r.depthLog2 ≤ 12) && decide (r.ringBase % 4096 = 0) &&
    p.regions.any (fun q => q.kind == 4 && decide (q.base ≤ r.ringBase) &&
      decide (r.ringBase + ringSize r ≤ q.base + 0x10000 * q.size))) &&
  disjointRanges (bound.map (fun r => (r.ringBase, ringSize r)))

/-- `span` is the Store's size under the channel list the load builds. -/
def storeOk (p : Pattern) (span : Nat) : Bool :=
  decide (p.regions.length ≤ 64) && p.regions.all (fun r => decide (1 ≤ r.kind) && decide (r.kind ≤ 5) &&
    decide (1 ≤ r.size) && decide (r.base % 0x10000 = 0) && decide (r.base + 0x10000 * r.size + 0x400000 ≤ span)) &&
  disjointRanges (p.regions.map (fun r => (r.base, 0x10000 * r.size)))

def caravanOk (p : Pattern) : Bool := p.caravan.length == 1 && p.caravan.all (fun r => decide (r.role ≤ 1))

/-- R281. -/
def consoleOk (p : Pattern) : Bool :=
  let u := p.universes.length
  decide (1 ≤ u) && decide (u ≤ 64) && decide (p.maps.length ≤ 512) && decide (p.triggers.length ≤ 64) &&
  distinct (p.universes.map (·.universe')) && p.universes.all (fun r => decide (1 ≤ r.universe') &&
    decide (r.universe' ≤ 63999) && decide (1 ≤ r.paths) && decide (r.paths ≤ 3) && decide (r.multicast ≤ 1)) &&
  p.maps.all (fun m => decide (m.universeIndex < u) && decide (1 ≤ m.width) && decide (m.width ≤ 2) &&
    decide (1 ≤ m.slot) && decide (m.slot + m.width ≤ 513) && (p.skein? m.skein).isSome && decide (m.parameter ≤ 9)) &&
  p.triggers.all (fun t => decide (t.universeIndex < u) && decide (t.route ≤ 15) && decide (1 ≤ t.slot) &&
    decide (t.slot ≤ 512))

/-- R253, Table 12-3. -/
def gpioOk (p : Pattern) : Bool :=
  distinct (p.gpio.map (·.pin)) && p.gpio.all (fun g => decide (g.pin ≤ 15) &&
    decide (g.function ≤ (if g.pin < 8 then 1 else 2)))

def budgetRecsOk (p : Pattern) : Bool :=
  distinct (p.budgets.map (·.head)) && p.budgets.all (fun b => p.hasHead b.head) &&
  p.heads.all (fun r => p.budgets.any (fun b => b.head == r.head))

def keyRegister (r : Reg) : Bool := r == .SIG_POLICY || r == .OWNER_KEY_X || r == .OWNER_KEY_Y

/-- R36, R37. -/
def initOk (p : Pattern) : Bool :=
  p.init.all (fun e => match regAt e.addr with
    | some (r, _, _) => (r.row.access == .rwI || r.row.access == .rwF || r.row.access == .rwP) && !keyRegister r
    | none => false)

/-- Step 5 for one section (R411). -/
def sectionOk (p : Pattern) (span type : Nat) : Bool :=
  match type with
  | 1 => headsOk p
  | 2 => skeinsOk p
  | 3 => needlesOk p
  | 4 => coloursOk p
  | 5 => routesOk p
  | 6 => storeOk p span
  | 7 => caravanOk p
  | 8 => consoleOk p
  | 9 => gpioOk p
  | 10 => budgetRecsOk p
  | _ => initOk p

/-! ### Step 6 (R44, R191) -/

def Pattern.member (p : Pattern) : Bool := p.caravan.any (fun r => r.role == 1)

/-- Line rate in Table 2-4, 200 ppm high for a member (R191). -/
def Pattern.budgetRate (p : Pattern) (r : HeadRec) : Rat := if p.member then lineRate r * 10002 / 10000 else lineRate r

def sumRat (l : List Rat) : Rat := l.foldl (· + ·) 0

/-- Table 2-4. -/
def budgetOk (p : Pattern) (channels : Nat) : Bool :=
  let figures := fun (r : HeadRec) => (p.budgets.find? (fun b => b.head == r.head)).getD default
  p.heads.all (fun r =>
    decide ((p.skeins.filter (fun q => q.head == r.head)).length * r.hActive ≤ (figures r).fabricPix) &&
    decide (((figures r).needlePix : Rat) * p.budgetRate r ≤ (((setBits 32 (p.needleMask r.head)).length * 800000000 : Nat) : Rat))) &&
  decide (sumRat (p.heads.map (fun r => ((figures r).fabricPix : Rat) * p.budgetRate r)) ≤ 51200000000) &&
  decide (sumRat (p.heads.map (fun r => ((figures r).fetchBytes : Rat) * p.budgetRate r)) ≤
    ((32000000000 * channels : Nat) : Rat))

/-! ### All steps -/

/-- Index of an entry whose section fails a test. -/
def firstFailing (f : Nat → Bool) : Nat → List SecEntry → Option Nat
  | _, [] => none
  | i, e :: es => if f e.type then firstFailing f (i + 1) es else some i

/-- Steps 1 to 6 of Table 2-3, for the channel list the load builds. -/
def checkPattern (rd : PatReader) (policy keyX keyY channels : Nat) : Except PatFail Pattern := do
  let (m, es, body) ← checkSigned rd policy keyX keyY
  let p := parsePattern m es body
  match firstFailing (sectionOk p (0x100000000 * channels)) 0 es with
  | some i => .error (patStructure, i)
  | none =>
    if budgetOk p channels then .ok p
    else .error (patBudget, (es.findIdx? (fun e => e.type == budgetType)).getD noSection)

/-! ### An operation's checks, and the flash slots (R41 to R43, R383, R412) -/

/-- Reads of a slot: bytes beyond those programmed read 0xFF. -/
def slotReader (q : SlotSt) : PatReader := fun off n =>
  let bs := slice q.bytes off n
  some (bs ++ List.replicate (n - bs.length) 0xFF)

/-- Reads of an operation's source. -/
def State.patternReader (s : State) (op : PatOp) (flashOk : Bool) : PatReader :=
  match op.source with
  | 0 => fun off n =>
    match s.storeRead (s.stagingBase + off) n with
    | .ok b => some b
    | .error _ => none
  | 1 => if flashOk then slotReader s.pat.slotA else fun _ _ => none
  | _ => if flashOk then slotReader s.pat.slotB else fun _ _ => none

/-- A slot holds no pattern: it is erased. -/
def SlotSt.erased (q : SlotSt) : Bool := q.bytes.all (· == 0xFF)

def State.sourceErased (s : State) (op : PatOp) (flashOk : Bool) : Bool :=
  flashOk && (match op.source with
    | 0 => false
    | 1 => s.pat.slotA.erased
    | _ => s.pat.slotB.erased)

/-- What floor mode refuses (R43, R383). -/
def State.floorRefuses (s : State) (op : PatOp) : Bool :=
  s.boot.mode == 1 && op.kind != .powerOn &&
    (op.kind == .program || op.source == 0 || decide (op.map.length < 2) || !(s.boot.floorCause == 1 || s.boot.floorCause == 2))

/-- Steps 1 to 6 of Table 2-3. -/
def State.patternOutcome (s : State) (op : PatOp) (flashOk : Bool) : Except PatFail Pattern :=
  if s.floorRefuses op then .error (patStructure, noSection)
  else if s.sourceErased op flashOk then .error (patEmpty, noSection)
  else checkPattern (s.patternReader op flashOk) op.policy op.keyX op.keyY op.map.length

/-- Bytes of the staging area. -/
def stagingSize : Nat := 0x400000

/-- The bytes that PROGRAM copies: the whole staging area (R43). -/
def State.stagedBytes (s : State) : List Byte := memBytes s.store.mem s.stagingBase stagingSize

/-- Every byte of the staging area can be read: it lies on every mapped channel (R97, R412). -/
def State.stagingReadable (s : State) : Bool :=
  !s.store.chanList.isEmpty && s.store.chanList.all (fun c => !s.channelGone c) &&
    s.store.poison.all (fun b => decide (64 * b + 64 ≤ s.stagingBase) || decide (s.stagingBase + stagingSize ≤ 64 * b))

def State.setFlash (s : State) (target : Nat) (bs : List Byte) : State :=
  if target = 1 then { s with pat := { s.pat with slotA := ⟨bs⟩ } } else { s with pat := { s.pat with slotB := ⟨bs⟩ } }

/-- Free bytes, from an offset (log 2). -/
def freeBytes (k : Nat) : Nat → Nat → List Byte
  | _, 0 => []
  | off, n + 1 => Config.freeByte k off :: freeBytes k (off + 1) n

/-- A slot after a write that did not end: free values that hold no pattern (log 2). DESIGN CHOICE, log 84. -/
def State.spoilSlot (s : State) (target : Nat) : State :=
  let (k, s1) := s.takeFree
  let first := Config.freeByte k 0
  s1.setFlash target ((if first = 0x54 then 0 else first) :: freeBytes k 1 (stagingSize - 1))

/-- A reset or a loss of power that meets a PROGRAM whose checks pass leaves its slot invalid (chapter 02, edges).
DESIGN CHOICE, log 84. -/
def State.breakProgram (s : State) : State :=
  match s.pat.op with
  | none => s
  | some op =>
    if op.kind = .program then
      match s.patternOutcome op true with
      | .ok _ => s.spoilSlot op.target
      | .error _ => s
    else s

end Sys2Proof.Machine
end

