-- ==== Sys2Proof/Machine/Num.lean ====
section
/-! DEFINITION. Exact arithmetic over the number formats: binary16 and binary32 by their exact values (R170, R212),
rounding to the nearest binary16 with ties to even, and square roots. -/

namespace Sys2Proof.Machine

/-- Stands for an infinity: larger than every finite result of a stage, and still so after any scaling by a
non-zero coefficient (log 10). -/
def halfInf : Rat := 18446744073709551616

def pow2 (e : Int) : Rat := if 0 ≤ e then ((2 ^ e.toNat : Nat) : Rat) else 1 / ((2 ^ (-e).toNat : Nat) : Rat)

/-- The exact value of a binary16; a NaN is 0 (R170). -/
def halfVal (h : Half) : Rat :=
  let e := h.toNat / 1024 % 32
  let m := h.toNat % 1024
  let a : Rat :=
    if e = 31 then (if m = 0 then halfInf else 0)
    else if e = 0 then (m : Rat) * pow2 (-24)
    else ((1024 + m : Nat) : Rat) * pow2 ((e : Int) - 25)
  if h.getLsbD 15 then -a else a

/-- Nearest integer to a non-negative rational, ties to even. -/
def roundEven (q : Rat) : Nat :=
  let f := q.floor.toNat
  let r := q - (f : Rat)
  if r < 1 / 2 then f else if 1 / 2 < r then f + 1 else f + f % 2

/-- Nearest integer to a non-negative rational, halves up (R201, R204). -/
def roundUp (q : Rat) : Nat := (q + 1 / 2).floor.toNat

/-- The power of two at or below a positive rational. -/
def ratLog2 (q : Rat) : Int :=
  let e : Int := (Nat.log2 q.num.toNat : Int) - (Nat.log2 q.den : Int)
  if pow2 e ≤ q then e else e - 1

/-- The nearest binary16, ties to even (R170). -/
def halfOf (q : Rat) : Half :=
  let a := if q < 0 then -q else q
  let bits : Nat :=
    if a = 0 then 0
    else
      let e := ratLog2 a
      if e < -14 then roundEven (a * pow2 24)
      else if 15 < e then 0x7C00
      else min 0x7C00 ((e + 15).toNat * 1024 + roundEven (a * pow2 (10 - e)) - 1024)
  BitVec.ofNat 16 (bits + (if q < 0 ∧ bits ≠ 0 then 0x8000 else 0))

/-- A value as a stage leaves it: rounded to binary16. -/
def rnd (q : Rat) : Rat := halfVal (halfOf q)

def clampRat (lo hi q : Rat) : Rat := if q < lo then lo else if hi < q then hi else q

/-- A square root at 40 fraction bits. -/
def ratSqrt (q : Rat) : Rat := (Nat.sqrt (q * pow2 80).floor.toNat : Rat) * pow2 (-40)

/-- The greatest r below 2^n for which `ok` holds, where `ok` holds below some bound and not above it; bit by bit from n. -/
def greatest (ok : Nat → Bool) : Nat → Nat → Nat
  | 0, r => r
  | n + 1, r => greatest ok n (if ok (r + 2 ^ n) then r + 2 ^ n else r)

/-- x to the power p/q for x from 0 to 1, at 60 fraction bits: the greatest r with (r / 2^60)^q ≤ x^p. -/
def ratPower (x : Rat) (p q : Nat) : Rat :=
  let a := x.num.toNat ^ p * 2 ^ (60 * q)
  let b := x.den ^ p
  (greatest (fun r => decide (r ^ q * b ≤ a)) 61 0 : Nat) * pow2 (-60)

/-- The first 30 terms of 2 artanh z, within 10^-28 for z up to 1/3. -/
def artanhTwice (z : Rat) : Rat :=
  ((List.range 30).foldl (fun (a : Rat × Rat) i => (a.1 + a.2 / ((2 * i + 1 : Nat) : Rat), a.2 * z * z)) ((0 : Rat), 2 * z)).1

/-- The natural logarithm of a positive rational. -/
def ratLn (x : Rat) : Rat :=
  let e := ratLog2 x
  let m := x / pow2 e
  (e : Rat) * artanhTwice (1 / 3) + artanhTwice ((m - 1) / (m + 1))

/-- The exact value of a binary32; none where it is a NaN or an infinity. -/
def singleVal (w : Word) : Option Rat :=
  let e := fld w 23 8
  let m := fld w 0 23
  let a : Rat := if e = 0 then (m : Rat) * pow2 (-149) else ((8388608 + m : Nat) : Rat) * pow2 ((e : Int) - 150)
  if e = 255 then none else some (if bitAt w 31 then -a else a)

end Sys2Proof.Machine
end

