-- ==== Sys2Proof/Machine/Skein.lean ====
section
/-! DEFINITION. Skeins (07): the configuration check, the cast-on latch, which blocks a line needs at each rung,
reads issued and returned, and parity errors. -/

namespace Sys2Proof.Machine

/-! ### The configuration check (R151) -/

/-- Rules 0x2 to 0x5 for a memory source; the lowest failing code, or 0. Line bytes are those of Table 7-1 (R149). -/
def memoryReason (span : Nat) (c : SkeinCfg) : Nat :=
  let pitch := 256 * c.pitchUnits
  if pitch = 0 ∨ pitch < lineBytes c.format c.width ∨
      (c.redValid = true ∧ c.redPitch < lineBytes c.format (half c.width)) then 0x2
  else if c.width = 0 ∨ 8192 < c.width ∨ c.height = 0 ∨ 8192 < c.height then 0x3
  else if c.srcW = 0 ∨ c.srcH = 0 ∨ c.width < c.srcX + c.srcW ∨ c.height < c.srcY + c.srcH then 0x4
  else if span < bufferEnd c.format c.base pitch c.height ∨
      (c.redValid = true ∧ span < bufferEnd c.format c.redBase c.redPitch (half c.height)) then 0x5
  else 0

/-- Ratio from 1/8 to 16 (Table 7-2, code 7). -/
def ratioOk (src dst : Nat) : Bool := src != 0 && decide (src ≤ 8 * dst) && decide (dst ≤ 16 * src)

/-- Rules 0x7 to 0x9; `fmt` is the format that rule 0x8 judges, if known. -/
def shapeReason (c : SkeinCfg) (fmt : Option Nat) : Nat :=
  if (ratioOk c.srcW c.dstW && ratioOk c.srcH c.dstH) = false then 0x7
  else
    let f := fmt.getD 0
    if (3 ≤ f ∧ f ≤ 6 ∧ (c.srcX % 2 = 1 ∨ c.srcW % 2 = 1)) ∨
        ((f = 5 ∨ f = 6) ∧ (c.srcY % 2 = 1 ∨ c.srcH % 2 = 1)) then 0x8
    else if c.ingest = true ∧ 11 < c.source then 0x9
    else 0

/-- A skein that needs a needle has none: it scales, or its head's effective mask is empty (R151, R175). -/
def State.needleReason (s : State) (n h : Nat) (c : SkeinCfg) : Bool :=
  (s.skein n).needle.isNone &&
    ((c.srcW != c.dstW || c.srcH != c.dstH) ||
     (s.usesNeedle n c && !(List.range 32).any (fun m => s.inEffMask h m)))

/-- The format the alignment rule judges: the skein's own, or that of its source's newest frame. -/
def State.judgedFormat (s : State) (c : SkeinCfg) : Option Nat :=
  if c.ingest then ((s.source c.source).newestBuf).map (fun b => b.2.format) else some c.format

/-- The lowest failing code of Table 7-2, or 0. -/
def State.configReason (s : State) (n h : Nat) (c : SkeinCfg) : Nat :=
  let m := if c.ingest then 0 else memoryReason s.storeSpan c
  if m ≠ 0 then m else if s.needleReason n h c then 0x6 else shapeReason c (s.judgedFormat c)

/-- Judge a skein at its head's bind-off, with the event on a change (R151, R166). -/
def State.judgeSkein (s : State) (h n : Nat) : State :=
  let c := s.skeinActive n
  if c.enable = false ∨ (s.skein n).retired = true then s
  else
    let r := s.configReason n h c
    if r = (s.skein n).configReason then s
    else (s.modSkein n (fun k => { k with configReason := r })).event 0xB1 [byteOf n, byteOf r] h

/-! ### The latch (R147, R148, R162) -/

def latchOf (c : SkeinCfg) (q : SrcSt) (fetches : Bool) (transparent : Bool) : Latch :=
  let mem : Latch := {
    cfg := c, valid := true, format := c.format, base := c.base, pitch := 256 * c.pitchUnits,
    width := c.width, height := c.height, redBase := c.redBase, redPitch := c.redPitch,
    redValid := c.redValid, standinOnly := !fetches, transparent := transparent }
  if c.ingest then
    match q.newestBuf with
    | some (_, b) =>
      { mem with format := b.format, base := b.base, pitch := b.pitch, width := b.width, height := b.height,
                 redBase := b.base + b.pitch * b.height, redPitch := b.reducedPitch, redValid := b.reducedValid }
    | none => { mem with valid := false, base := 0, redValid := false, standinOnly := true }
  else mem

/-- A skein's needle has failed and awaits its remap (R175). -/
def State.needleDown (s : State) (n : Nat) : Bool :=
  match (s.skein n).needle with
  | some m => (s.needle m).queued || (s.needle m).retired
  | none => false

/-- The skein fetches in the frame being latched; otherwise it shows stand-in colour all through it. -/
def State.fetches (s : State) (h n : Nat) : Bool :=
  (s.head h).state == 2 && (s.skein n).configReason == 0 && !(s.skein n).queued && !(s.skein n).retired &&
    !s.needleDown n

/-- The set a skein latches: a retired one keeps the set it retired with (R164). -/
def State.latchSet (s : State) (n : Nat) : SkeinCfg :=
  if (s.skein n).retired then (s.skein n).frozen.getD (s.skeinActive n) else s.skeinActive n

/-- Latch one skein at its head's cast-on. Reads still outstanding serve no line of the new frame (R161). -/
def State.latchSkein (s : State) (h n : Nat) : State :=
  let c := s.latchSet n
  let f := s.fetches h n
  let l := latchOf c (s.source c.source) f (s.skein n).transparent
  s.modSkein n (fun k => { k with
    latch := if c.enable then some { l with redValid := l.redValid && k.needle.isSome } else none
    outstanding := k.outstanding.map (fun o => (o.1, 65536))
    blocks := [], served := [], badBlocks := [], closedLines := [], standinFrom := none, fetchLine := 0
    badThisFrame := false })

/-! ### Rungs (R155, R163, R198) -/

/-- The rung a skein shows now. -/
def State.rungNow (s : State) (n : Nat) : Nat :=
  match (s.skein n).latch with
  | none => 3
  | some l => if l.standinOnly then 3 else if (s.skein n).gaugeRung = 2 ∧ l.redValid = false then 3
      else (s.skein n).gaugeRung

/-- The rung in use for a head line. -/
def SkeinSt.rungAt (k : SkeinSt) (line : Nat) : Nat :=
  match k.rungs.find? (fun r => decide (r.1 ≤ line)) with
  | some r => r.2
  | none => 3

/-! ### What a line needs (R153, R155, R171) -/

/-- The source a skein reads at a rung: buffer, rectangle origin, the clipped size that taps stay in, the row
step, and the size that scaling uses. -/
structure Geo where
  fmt    : Nat
  base   : Nat
  pitch  : Nat
  bufH   : Nat
  x      : Nat
  y      : Nat
  w      : Nat
  h      : Nat
  step   : Nat
  scaleW : Nat
  scaleH : Nat
  deriving DecidableEq, Repr

/-- Table 7-3. -/
def geoOf (l : Latch) (rung : Nat) : Geo :=
  let c := l.cfg
  let w := clipExtent c.srcX c.srcW l.width
  let h := clipExtent c.srcY c.srcH l.height
  match rung with
  | 0 => ⟨l.format, l.base, l.pitch, l.height, c.srcX, c.srcY, w, h, 1, c.srcW, c.srcH⟩
  | 1 => ⟨l.format, l.base, l.pitch, l.height, c.srcX, c.srcY, w, half h, 2, c.srcW, half c.srcH⟩
  | _ =>
    let r := reducedRect c.srcX c.srcY w h
    let o := reducedRect c.srcX c.srcY c.srcW c.srcH
    ⟨l.format, l.redBase, l.redPitch, half l.height, r.1, r.2.1, r.2.2.1, r.2.2.2, 1, o.2.2.1, o.2.2.2⟩

/-- Needle position in units of 2^-20: the whole part and the phase, 64 becoming phase 0 of the next (R171). -/
def needlePos (src dst x : Nat) : Int × Nat :=
  let num : Int := ((2 * x + 1 : Nat) : Int) * (src : Int) * 1048576 - (dst : Int) * 1048576
  let den : Int := 2 * (dst : Int)
  let exact := num / den
  let drift := if num % den = 0 then 0 else clampInt (-((x : Int) + 1)) ((x : Int) + 1) (Config.needleDrift src dst x)
  let s := exact + drift
  let i := s / 1048576
  let p := ((s % 1048576) * 64 + 524288) / 1048576
  if p = 64 then (i + 1, 0) else (i, p.toNat)

/-- Signed 16-bit tap of a coefficient word. -/
def tapOf (w : Word) (odd : Bool) : Rat := ((signed 16 (fld w (if odd then 16 else 0) 16) : Int) : Rat) / 16384

/-- A needle's taps along one axis: source offset and weight (R171, R172). `src` is the size scaled at the rung, and `full`
the skein's own, whose ratio sets the built-in filter. DESIGN CHOICE, log 92. -/
def State.taps (s : State) (filter m : Nat) (horizontal : Bool) (full src dst x : Nat) : List (Int × Rat) :=
  let (i, p) := needlePos src dst x
  let count := if horizontal then 8 else 6
  let before : Int := if horizontal then 3 else 2
  match filter with
  | 1 => if p = 0 then [(i, 1)] else [(i, (64 - (p : Rat)) / 64), (i + 1, (p : Rat) / 64)]
  | 2 => (List.range count).map (fun (t : Nat) =>
      (i - before + (t : Int), if horizontal then tapOf (s.act .NEEDLE_HCOEF m (4 * p + t / 2)) (t % 2 == 1)
        else tapOf (s.act .NEEDLE_VCOEF m (3 * p + t / 2)) (t % 2 == 1)))
  | _ =>
    if p = 0 ∧ full ≤ dst then [(i, 1)]
    else
      let centre := if horizontal then 3 else 2
      let others := ((List.range count).filter (· ≠ centre)).map (fun (t : Nat) => (t, Config.sincTap full dst p t))
      let sum := others.foldl (fun a o => a + o.2) (0 : Int)
      (List.range count).map (fun (t : Nat) =>
        (i - before + (t : Int),
          (((if t = centre then 16384 - sum else Config.sincTap full dst p t) : Int) : Rat) / 16384))

def clampTap (n : Nat) (i : Int) : Nat := if i < 0 then 0 else min i.toNat (n - 1)

/-- The vertical taps of a destination line, as lines of the rectangle and weights. -/
def State.vTaps (s : State) (k : SkeinSt) (l : Latch) (g : Geo) (j : Nat) : List (Nat × Rat) :=
  match k.needle with
  | none => [(if g.step = 2 then j / 2 else j, 1)]
  | some m => (s.taps l.cfg.filter m false l.cfg.srcH g.scaleH l.cfg.dstH j).map (fun t => (clampTap g.h t.1, t.2))

/-- Buffer row of a line of the rectangle. -/
def Geo.row (g : Geo) (i : Nat) : Nat := g.y + g.step * i

/-- The chroma rows a luma row interpolates between, with weights: chroma is centred between two luma lines, and
the outermost is repeated (R169). -/
def Geo.chromaRows (g : Geo) (row : Nat) : List (Nat × Rat) :=
  let lo := g.y / 2
  let hi := (g.y + g.step * (g.h - 1)) / 2
  let near := row / 2
  let far := if row % 2 = 0 then near - 1 else near + 1
  let far' := if row % 2 = 0 ∧ near = 0 then 0 else far
  [(near, 3 / 4), (clampNat lo hi far', 1 / 4)]

/-- First and last byte of the rectangle within a row. -/
def Geo.span (g : Geo) : Nat × Nat :=
  let x1 := g.x + g.w
  match g.fmt with
  | 0 => (4 * g.x, 4 * x1 - 1)
  | 1 => (4 * g.x, 4 * x1 - 1)
  | 2 => (8 * g.x, 8 * x1 - 1)
  | 3 => (2 * g.x, 2 * x1 - 1)
  | 4 => (2 * g.x / 3 * 4, (2 * x1 - 1) / 3 * 4 + 3)
  | 6 => (2 * g.x, 2 * x1 - 1)
  | _ => (g.x, x1 - 1)

/-- The 256-byte blocks that cover the rectangle in the row at an address (R153). -/
def Geo.rowBlocks (g : Geo) (rowAddr : Nat) : List Nat :=
  let a := (rowAddr + g.span.1) / 256
  let b := (rowAddr + g.span.2) / 256
  (List.range (b + 1 - a)).map (fun i => 256 * (a + i))

def Geo.lumaAddr (g : Geo) (row : Nat) : Nat := g.base + g.pitch * row
def Geo.chromaAddr (g : Geo) (row : Nat) : Nat := g.base + g.pitch * g.bufH + g.pitch * row

/-- Destination line j maps outside the latched frame (R162). -/
def Geo.lineOutside (g : Geo) (dstH j : Nat) : Bool := decide (g.h = 0) || decide (2 * dstH * g.h ≤ (2 * j + 1) * g.scaleH)

def Geo.pixelOutside (g : Geo) (dstW i : Nat) : Bool := decide (g.w = 0) || decide (2 * dstW * g.w ≤ (2 * i + 1) * g.scaleW)

/-- The blocks a destination line depends on. -/
def State.blocksFor (s : State) (k : SkeinSt) (l : Latch) (g : Geo) (j : Nat) : List Nat :=
  if g.lineOutside l.cfg.dstH j ∨ g.w = 0 then []
  else
    let rows := (s.vTaps k l g j).map (fun t => g.row t.1)
    let luma := rows.flatMap (fun r => g.rowBlocks (g.lumaAddr r))
    let chroma := if twoPlane g.fmt
      then (rows.flatMap (fun r => (g.chromaRows r).map (·.1))).flatMap (fun r => g.rowBlocks (g.chromaAddr r))
      else []
    dedup (luma ++ chroma)

/-- How many source lines a destination line fetches (R153). -/
def fetchCount (src dst : Nat) : Nat := if src ≤ dst then 1 else ceilDiv src dst

/-- The lines of the rectangle that a destination line fetches, whatever is held: as many as R153 says, ending at the last
one its filter uses; at P1 the even ones among them (R155). DEDUCED, log 142. -/
def State.windowLines (s : State) (k : SkeinSt) (l : Latch) (g : Geo) (j : Nat) : List Nat :=
  let top := (s.vTaps k l g j).foldl (fun a t => max a t.1) 0
  if g.step = 2 then
    let n := fetchCount l.cfg.srcH l.cfg.dstH
    ((List.range n).filter (fun i => decide (i ≤ 2 * top + 1) && (2 * top + 1 - i) % 2 == 0)).map (fun i => (2 * top + 1 - i) / 2)
  else ((List.range (fetchCount g.scaleH l.cfg.dstH)).filter (fun i => decide (i ≤ top))).map (fun i => top - i)

/-- The blocks of the lines a destination line fetches: a chroma line comes with every second luma line (R153). -/
def State.windowBlocks (s : State) (k : SkeinSt) (l : Latch) (g : Geo) (j : Nat) : List Nat :=
  if g.lineOutside l.cfg.dstH j ∨ g.w = 0 then []
  else
    let rows := (s.windowLines k l g j).map g.row
    let chroma := if twoPlane g.fmt then (rows.filter (· % 2 = 0)).flatMap (fun r => g.rowBlocks (g.chromaAddr (r / 2))) else []
    dedup (rows.flatMap (fun r => g.rowBlocks (g.lumaAddr r)) ++ chroma)

/-- The skein's rectangle covers a head line inside the active width (R152). -/
def Latch.covers (l : Latch) (r : HeadRec) (line : Nat) : Bool :=
  decide (l.cfg.dstY ≤ (line : Int)) && decide ((line : Int) < l.cfg.dstY + l.cfg.dstH) && decide (line < r.vActive) &&
    decide (l.cfg.dstX < (r.hActive : Int)) && decide (0 < l.cfg.dstX + l.cfg.dstW)

def Latch.offset (l : Latch) (line : Nat) : Nat := ((line : Int) - l.cfg.dstY).toNat

/-- A line's contribution is fetched, not stand-in colour. -/
def SkeinSt.fetchesLine (k : SkeinSt) (l : Latch) (line : Nat) : Bool :=
  !l.standinOnly && decide (k.rungAt line < 3) &&
    (match k.standinFrom with
     | some from' => decide (line < from')
     | none => true) && !k.closedLines.any (fun c => c.1 == line)

/-- The block has come back for the line, good or bad. -/
def SkeinSt.answered (k : SkeinSt) (a line : Nat) : Bool := k.served.contains (a, line) || k.badBlocks.contains (a, line)

/-- Blocks a line still waits for (R153): those outside its fetched lines that its filter needs and the skein does not
hold, and those of its fetched lines. -/
def State.waitsFor (s : State) (n line : Nat) : List Nat × List Nat :=
  let k := s.skein n
  match k.latch with
  | none => ([], [])
  | some l =>
    if k.fetchesLine l line = false then ([], [])
    else
      let g := geoOf l (k.rungAt line)
      let window := s.windowBlocks k l g (l.offset line)
      ((s.blocksFor k l g (l.offset line)).filter (fun a =>
        !window.contains a && !k.blocks.any (fun b => b.1 == a) && !k.badBlocks.contains (a, line)),
       window.filter (fun a => !k.answered a line))

def State.missingFor (s : State) (n line : Nat) : List Nat := (s.waitsFor n line).1 ++ (s.waitsFor n line).2

/-! ### Reads (R153, R154, R160, R161) -/

/-- First line of the frame not yet complete in the hank buffer. -/
def State.composeNext (s : State) (h : Nat) : Nat :=
  ((List.range ((s.head h).hank.length + 1)).find? (fun y => !(s.head h).hank.any (fun p => p.1 == y))).getD 0

/-- Lines a skein may fetch for: up to 8 ahead of composition, within the hank buffer's free space. -/
def State.fetchWindow (s : State) (r : HeadRec) : List Nat :=
  let y := s.composeNext r.head
  let hd := s.head r.head
  let top := if hd.line < r.vActive then hd.line + maxLead (headGanged r) else maxLead (headGanged r)
  (List.range 9).map (· + y) |>.filter (fun l => decide (l ≤ top) && decide (l < r.vActive))

/-- The next read of a skein: block and head line. -/
def State.nextRead (s : State) (n : Nat) : Option (Nat × Nat) :=
  match s.pattern.skein? n with
  | none => none
  | some q =>
    match s.pattern.head? q.head, (s.skein n).latch with
    | some r, some l =>
      (s.fetchWindow r).findSome? (fun y =>
        if l.covers r y then
          let out := (s.skein n).outstanding
          let w := s.waitsFor n y
          (w.1.filter (fun a => !out.any (fun o => o.1 == a && o.2 != 65536)) ++
            w.2.filter (fun a => !out.contains (a, y))).head?.map (fun a => (a, y))
        else none)
    | _, _ => none

/-- Skein credits in use, of the 512 (R23). -/
def State.creditsUsed (s : State) : Nat := sumBy (fun p => p.2.outstanding.length) s.skeins

/-- A skein slot is free in the Store channel that an address decodes to: 64 to a channel (Table 5-1). -/
def State.slotFor (s : State) (a : Nat) : Bool :=
  match s.channelOf a with
  | none => true
  | some c => decide (sumBy (fun p => (p.2.outstanding.filter (fun o => s.channelOf o.1 == some c)).length) s.skeins < 64)

/-- The read a skein waits for a credit to make: at most 32 are outstanding (R154). -/
def State.waitingRead (s : State) (n : Nat) : Option (Nat × Nat) :=
  if 32 ≤ (s.skein n).outstanding.length then none else (s.nextRead n).filter (fun p => s.slotFor p.1)

/-- The skein of a head that goes next: the earliest line served, and within a line the bottom skein (R154). -/
def State.firstSkein (s : State) (h : Nat) : Option Nat :=
  ((s.pattern.stack h).foldl (fun best n =>
    match s.waitingRead n, best with
    | none, _ => best
    | some p, none => some (n, p.2)
    | some p, some b => if p.2 < b.2 then some (n, p.2) else best) none).map (·.1)

/-- It is a head's turn to take a credit: of the heads whose skeins wait, it comes next after the head served last. Any head
may be the first of all. DESIGN CHOICE, log 143. -/
def State.headTurn (s : State) (h : Nat) : Bool :=
  match s.store.skeinTurn with
  | none => true
  | some last => ((List.range 8).map (fun i => (last + 1 + i) % 8)).find? (fun k => (s.firstSkein k).isSome) == some h

/-- SKEIN_READ_ISSUE (R154): nothing is issued out of turn. -/
def State.issueRead (s : State) (n : Nat) : State :=
  match s.pattern.skein? n, s.waitingRead n with
  | some q, some (a, y) =>
    if 512 ≤ s.creditsUsed ∨ s.firstSkein q.head ≠ some n ∨ s.headTurn q.head = false then s
    else
      let s1 := { s with store := { s.store with skeinTurn := some q.head } }
      s1.modSkein n (fun k => { k with outstanding := k.outstanding ++ [(a, y)], fetchLine := max k.fetchLine (y + 1) })
  | _, _ => s

/-- A bad read: counted, and recorded once a frame (R160, R166). The line it served shows stand-in colour, and the next line
that needs the block fetches it again. -/
def State.badRead (s : State) (n a y : Nat) (e : Nat × Nat) : State :=
  let first := !(s.skein n).badThisFrame
  let s1 := s.modSkein n (fun k => { k with
    badFetch := satInc k.badFetch, badThisFrame := true
    blocks := if y = 65536 then k.blocks else k.blocks.filter (fun b => b.1 != a)
    badBlocks := if k.closedLines.any (fun c => c.1 == y) ∨ y = 65536 then k.badBlocks else (a, y) :: k.badBlocks })
  if first then s1.record 0x07 classA [(8, n), (8, e.2)] e.1 ((s.pattern.skein? n).map (·.head)) else s1

/-- SKEIN_READ_RETURN (R160): the outstanding read at an index returns. Data for a closed line is discarded (R161). -/
def State.returnRead (s : State) (n i : Nat) : State :=
  match (s.skein n).outstanding[i]? with
  | none => s
  | some (a, y) =>
    let s1 := s.modSkein n (fun k => { k with outstanding := k.outstanding.eraseIdx i })
    match s1.storeRead a 256 with
    | .error e => s1.badRead n a y e
    | .ok b =>
      if y = 65536 ∨ (s1.skein n).closedLines.any (fun c => c.1 == y) = true then s1
      else s1.modSkein n (fun k => { k with
        blocks := (a, b) :: k.blocks.filter (fun c => c.1 != a), served := (a, y) :: k.served })

/-! ### Parity (R164, R399, R400) -/

/-- Enter a unit in the retirement queue: at most once (R400). -/
def State.enqueue (s : State) (kind : RetireKind) (i cause : Nat) : State :=
  { s with ledger := { s.ledger with queue := s.ledger.queue ++ [⟨kind, i, cause⟩] } }

/-- SKEIN_PARITY_ERROR (R164): causes 1 register set, 2 line store. A unit already retired or queued is recorded as
secondary and nothing more (R399). -/
def State.skeinParity (s : State) (n cause : Nat) (standinBad : Bool) : State :=
  let k := s.skein n
  let h := (s.pattern.skein? n).map (·.head)
  if k.retired ∨ k.queued then s.record 0x07 classC [(8, n), (8, cause)] 0 h true
  else
    let from' := s.composeNext (h.getD 0)
    let s1 := s.modSkein n (fun k => { k with
      queued := true, cause := cause, standinFrom := some from', transparent := standinBad
      latch := k.latch.map (fun l => { l with transparent := standinBad }) })
    (s1.record 0x07 classC [(8, n), (8, cause)] 0 h).enqueue .skein n cause

def partCause : SkeinPart → Nat
  | .registerSet => 1
  | .lineStore => 2

/-! ### Meanings -/

/-- SKEIN_READ_ISSUE (R154). -/
def execSkeinReadIssue (n : Fin 96) (s : State) : Host.Outcome State Fault Refusal := .next (s.issueRead n)

/-- SKEIN_READ_RETURN (R160). -/
def execSkeinReadReturn (n : Fin 96) (block : Nat) (s : State) : Host.Outcome State Fault Refusal :=
  .next (s.returnRead n block)

/-- SKEIN_PARITY_ERROR (R164). -/
def execSkeinParityError (n : Fin 96) (part : SkeinPart) (standinBad : Bool) (s : State) :
    Host.Outcome State Fault Refusal := .next (s.skeinParity n (partCause part) standinBad)

end Sys2Proof.Machine
end

