-- ==== Sys2Proof/Machine/Compose.lean ====
section
/-! DEFINITION. The compose fabric (08): unpacking, scaling, keys, input conversion, blending and the head stages,
with every stage rounded to binary16 (R168 to R185). -/

namespace Sys2Proof.Machine

/-- Components of one pixel: c0, c1, c2 and alpha. -/
structure Sample where
  c0 : Rat
  c1 : Rat
  c2 : Rat
  a  : Rat
  deriving DecidableEq, Repr

def Sample.map (f : Rat → Rat) (p : Sample) : Sample := ⟨f p.c0, f p.c1, f p.c2, f p.a⟩
def Sample.scale (w : Rat) (p : Sample) : Sample := p.map (w * ·)
def Sample.add (p q : Sample) : Sample := ⟨p.c0 + q.c0, p.c1 + q.c1, p.c2 + q.c2, p.a + q.a⟩

/-! ### Unpack (R149, R169) -/

/-- An n-bit value v as v / (2^n − 1). -/
def norm (n v : Nat) : Rat := (v : Rat) / ((2 ^ n - 1 : Nat) : Rat)

/-- Little-endian value of `n` bytes at an address, through a byte reader that may lack some. -/
def readLe (rd : Nat → Option Byte) (a : Nat) : Nat → Option Nat
  | 0 => some 0
  | n + 1 =>
    match rd a, readLe rd (a + 1) n with
    | some b, some v => some (b.toNat + 256 * v)
    | _, _ => none

/-- Sample t of a packed 10-bit row: three to a 32-bit word (Table 7-1, code 4). -/
def sample10 (rd : Nat → Option Byte) (row t : Nat) : Option Nat :=
  (readLe rd (row + 4 * (t / 3)) 4).map (fun w => w / 2 ^ (10 * (t % 3)) % 1024)

/-- A component of a 4:2:2 row at pair k: `which` 0 Cb, 1 first Y, 2 Cr, 3 second Y. -/
def sample422 (rd : Nat → Option Byte) (fmt row k which : Nat) : Option Rat :=
  if fmt = 3 then (readLe rd (row + 4 * k + [0, 1, 2, 3].getD which 0) 1).map (norm 8)
  else (sample10 rd row (4 * k + which)).map (norm 10)

def avg2 (x y : Option Rat) : Option Rat :=
  match x, y with
  | some a, some b => some ((a + b) / 2)
  | _, _ => none

/-- Chroma of a 4:2:2 row at column x: co-sited with even pixels, the last sample repeated at the edge. -/
def chroma422 (rd : Nat → Option Byte) (g : Geo) (row x which : Nat) : Option Rat :=
  let k := x / 2
  let next := min (k + 1) ((g.x + g.w - 1) / 2)
  if x % 2 = 0 then sample422 rd g.fmt row k which
  else avg2 (sample422 rd g.fmt row k which) (sample422 rd g.fmt row next which)

/-- A sample of a two-plane format, 8 or 10 bits. -/
def plane (rd : Nat → Option Byte) (fmt a i : Nat) : Option Rat :=
  if fmt = 5 then (readLe rd (a + i) 1).map (norm 8)
  else (readLe rd (a + 2 * i) 2).map (fun v => norm 10 (v / 64))

/-- Chroma of a two-plane format in one chroma row, at column x. -/
def chroma420 (rd : Nat → Option Byte) (g : Geo) (crow x which : Nat) : Option Rat :=
  let a := g.chromaAddr crow
  let k := x / 2
  let next := min (k + 1) ((g.x + g.w - 1) / 2)
  if x % 2 = 0 then plane rd g.fmt a (2 * k + which)
  else avg2 (plane rd g.fmt a (2 * k + which)) (plane rd g.fmt a (2 * next + which))

/-- A weighted sum of values that may be missing. -/
def wsum : List (Option Rat × Rat) → Option Rat
  | [] => some 0
  | (v, w) :: rest =>
    match v, wsum rest with
    | some x, some y => some (w * x + y)
    | _, _ => none

def sampleOf (c0 c1 c2 a : Option Rat) : Option Sample :=
  match c0, c1, c2, a with
  | some w, some x, some y, some z => some ⟨w, x, y, z⟩
  | _, _, _, _ => none

/-- Stage 1 of Table 8-1: the pixel at buffer row and column. -/
def unpack (rd : Nat → Option Byte) (g : Geo) (row x : Nat) : Option Sample :=
  let a := g.lumaAddr row
  let comp := fun (k : Nat) => (readLe rd (a + 4 * x + k) 1).map (norm 8)
  let word := readLe rd (a + 4 * x) 4
  let ten := fun (k : Nat) => word.map (fun w => norm 10 (w / 2 ^ (10 * k) % 1024))
  let hf := fun (k : Nat) => (readLe rd (a + 8 * x + 2 * k) 2).map (fun v => halfVal (BitVec.ofNat 16 v))
  let vertical := fun (which : Nat) => wsum ((g.chromaRows row).map (fun t => (chroma420 rd g t.1 x which, t.2)))
  let raw : Option Sample :=
    match g.fmt with
    | 0 => sampleOf (comp 0) (comp 1) (comp 2) (comp 3)
    | 1 => sampleOf (ten 0) (ten 1) (ten 2) (word.map (fun w => (w / 2 ^ 30 : Nat) / 3))
    | 2 => sampleOf (hf 0) (hf 1) (hf 2) (hf 3)
    | 3 => sampleOf (sample422 rd 3 a (x / 2) (2 * (x % 2) + 1)) (chroma422 rd g a x 0) (chroma422 rd g a x 2) (some 1)
    | 4 => sampleOf (sample422 rd 4 a (x / 2) (2 * (x % 2) + 1)) (chroma422 rd g a x 0) (chroma422 rd g a x 2) (some 1)
    | 7 => (readLe rd (a + x) 1).map (fun v => ⟨norm 8 v, norm 8 v, norm 8 v, 1⟩)
    | _ => sampleOf (plane rd g.fmt a x) (vertical 0) (vertical 1) (some 1)
  raw.map (Sample.map rnd)

/-! ### Scale (R171, R172) -/

def weighted : List (Option Sample × Rat) → Option Sample
  | [] => some ⟨0, 0, 0, 0⟩
  | (v, w) :: rest =>
    match v, weighted rest with
    | some x, some y => some ((x.scale w).add y)
    | _, _ => none

/-- The horizontal taps of destination pixel i. -/
def State.hTaps (s : State) (k : SkeinSt) (l : Latch) (g : Geo) (i : Nat) : List (Nat × Rat) :=
  match k.needle with
  | none => [(i, 1)]
  | some m => (s.taps l.cfg.filter m true l.cfg.srcW g.scaleW l.cfg.dstW i).map (fun t => (clampTap g.w t.1, t.2))

/-- Stages 1 and 2 for one destination pixel: none where a byte it depends on is missing. -/
def State.scaled (s : State) (rd : Nat → Option Byte) (k : SkeinSt) (l : Latch) (g : Geo) (j i : Nat) : Option Sample :=
  let hs := s.hTaps k l g i
  let rows := (s.vTaps k l g j).map (fun v =>
    (weighted (hs.map (fun t => (unpack rd g (g.row v.1) (g.x + t.1), t.2))), v.2))
  (weighted rows).map (Sample.map rnd)

/-! ### Keys and input conversion (R178 to R181) -/

def isYcc (fmt : Nat) : Bool := decide (3 ≤ fmt) && decide (fmt ≤ 6)

/-- Bits per sample of a YCbCr format. -/
def yccBits (fmt : Nat) : Nat := if fmt = 4 ∨ fmt = 6 then 10 else 8

/-- Centred chroma or luma of R178 from a normalised value. -/
def rangeY (fmt : Nat) (full : Bool) (u : Rat) : Rat :=
  let n := yccBits fmt
  if full then u
  else (u * ((2 ^ n - 1 : Nat) : Rat) - 16 * (2 ^ (n - 8) : Nat)) / (219 * (2 ^ (n - 8) : Nat))

def rangeC (fmt : Nat) (full : Bool) (u : Rat) : Rat :=
  let n := yccBits fmt
  if full then u - 1 / 2
  else (u * ((2 ^ n - 1 : Nat) : Rat) - 128 * (2 ^ (n - 8) : Nat)) / (224 * (2 ^ (n - 8) : Nat))

/-- (c0, c1, c2) of R178. -/
def centred (fmt : Nat) (full : Bool) (p : Sample) : Sample :=
  if isYcc fmt then ⟨rangeY fmt full p.c0, rangeC fmt full p.c1, rangeC fmt full p.c2, p.a⟩ else p

/-- K of R179. -/
def lumaOf (fmt : Nat) (p : Sample) : Rat :=
  if isYcc fmt ∨ fmt = 7 then p.c0
  else 2126 / 10000 * p.c0 + 7152 / 10000 * p.c1 + 722 / 10000 * p.c2

def lumaKey (w : Word) (fmt : Nat) (p : Sample) : Rat :=
  if bitAt w 31 = false then 1
  else
    let k := clampRat 0 1 ((lumaOf fmt p - (fld w 0 10 : Rat) / 1023) * ((fld w 16 12 : Rat) / 256))
    rnd (if bitAt w 30 then 1 - k else k)

/-- k_chroma from the chroma distance (R180). -/
def chromaGain (inner outer : Nat) (d : Rat) : Rat :=
  let i : Rat := (inner : Rat) / 2048
  let o : Rat := (outer : Rat) / 2048
  if outer ≤ inner then (if d < i then 0 else 1) else clampRat 0 1 ((d - i) / (o - i))

def State.chromaKey (s : State) (h : Nat) (w : Word) (fmt : Nat) (full : Bool) (p : Sample) : Rat :=
  let u := fld w 0 4
  let mask := ((s.pattern.colours.find? (fun c => c.head == h)).map (·.chromaKeys)).getD 0
  if bitAt w 31 = false ∨ natBit mask u = false then 1
  else
    let c := centred fmt full p
    let k := lumaOf fmt p
    let cb := if isYcc fmt then c.c1 else (p.c2 - k) / (18556 / 10000)
    let cr := if isYcc fmt then c.c2 else (p.c0 - k) / (15748 / 10000)
    let centre := s.act .CKEY_CENTRE u
    let db := cb - ((signed 12 (fld centre 0 12) : Int) : Rat) / 2048
    let dr := cr - ((signed 12 (fld centre 16 12) : Int) : Rat) / 2048
    let radii := s.act .CKEY_RADII u
    rnd (chromaGain (fld radii 0 12) (fld radii 16 12) (ratSqrt (db * db + dr * dr)))

/-- Coefficients of a matrix selection in units of 2^-12 (Table 8-3), row by row. -/
def presetMatrix (sel : Nat) (ycc : Bool) : List Int :=
  let identity : List Int := [4096, 0, 0, 0, 0, 4096, 0, 0, 0, 0, 4096, 0]
  let bt709 : List Int := [4096, 0, 6450, 0, 4096, -767, -1917, 0, 4096, 7601, 0, 0]
  let bt2020 : List Int := [4096, 0, 6040, 0, 4096, -674, -2340, 0, 4096, 7706, 0, 0]
  match sel with
  | 0 => if ycc then bt709 else identity
  | 1 => bt709
  | 2 => bt2020
  | 3 => bt2020
  | _ => identity

def SkeinCfg.matrix (c : SkeinCfg) (fmt : Nat) : List Int :=
  if fld c.cscControl 0 3 = 7 then c.csc.map (fun k => signed 16 k.toNat) else presetMatrix (fld c.cscControl 0 3) (isYcc fmt)

/-- One row of M × (c0, c1, c2, 1), coefficients with 12 fraction bits. -/
def matrixRow (m : List Int) (row : Nat) (x y z : Rat) : Rat :=
  (((m.getD (4 * row) 0 : Int) : Rat) * x + ((m.getD (4 * row + 1) 0 : Int) : Rat) * y +
    ((m.getD (4 * row + 2) 0 : Int) : Rat) * z + ((m.getD (4 * row + 3) 0 : Int) : Rat)) / 4096

/-- Stage 5: conversion and clamp (R170, R178). -/
def convert (c : SkeinCfg) (fmt : Nat) (p : Sample) : Sample :=
  let q := centred fmt (bitAt c.cscControl 4) p
  let m := c.matrix fmt
  let colour := fun (row : Nat) => clampRat 0 65504 (rnd (matrixRow m row q.c0 q.c1 q.c2))
  ⟨colour 0, colour 1, colour 2, clampRat 0 1 p.a⟩

/-! ### Blending (R182) -/

/-- A layer pixel at stage 6: colour, alpha, the product of the keys, and whether it is stand-in colour. -/
structure LayerPx where
  s       : Sample
  k       : Rat
  standin : Bool
  deriving DecidableEq, Repr

def standinPx (c : SkeinCfg) : LayerPx :=
  ⟨⟨rnd (norm 10 (fld c.standin 0 10)), rnd (norm 10 (fld c.standin 10 10)), rnd (norm 10 (fld c.standin 20 10)),
    rnd (norm 10 c.standinAlpha)⟩, 1, true⟩

def absRat (x : Rat) : Rat := if x < 0 then -x else x

/-- Table 8-4 on one component. -/
def blendOne (mode : Nat) (a su d : Rat) : Rat :=
  match mode with
  | 1 => d + a * su
  | 2 => d + a * (su * d - d)
  | 3 => d + a * (su + d - su * d - d)
  | 4 => d + a * (absRat (su - d) - d)
  | _ => d + a * (su - d)

/-- Blend a layer pixel onto the colour composed so far. -/
def blend (w : Word) (p : LayerPx) (d : Sample) : Sample :=
  let mode := fld w 12 3
  let premult := bitAt w 15 && !p.standin
  let gain := p.k * (fld w 0 10 : Rat) / 1023
  let a := p.s.a * gain
  let above := mode = 0 ∨ 4 < mode
  let one := fun (src dst : Rat) =>
    let su := if premult then (if p.s.a = 0 then 0 else src / p.s.a) else src
    let v := if premult = true ∧ above then src * gain + dst * (1 - a) else blendOne mode a su dst
    clampRat 0 65504 (rnd v)
  ⟨one p.s.c0 d.c0, one p.s.c1 d.c1, one p.s.c2 d.c2, 1⟩

/-! ### A skein's contribution to a line -/

/-- A byte a skein holds for a head line: none where the line's own read of its block was bad (R160). -/
def SkeinSt.byteAt (k : SkeinSt) (line a : Nat) : Option Byte :=
  if k.badBlocks.contains (256 * (a / 256), line) then none
  else
    match k.blocks.find? (fun b => b.1 == 256 * (a / 256)) with
    | some b => b.2[a % 256]?
    | none => none

/-- Stages 1 to 5 for one destination pixel, in line `j` of the destination rectangle, which is `line` of the head. -/
def State.layerPixel (s : State) (h : Nat) (k : SkeinSt) (l : Latch) (g : Geo) (line j i : Nat) : Option LayerPx :=
  (s.scaled (k.byteAt line) k l g j i).map (fun p =>
    ⟨convert l.cfg g.fmt p, lumaKey l.cfg.lumaKey g.fmt p *
      s.chromaKey h l.cfg.chromaKey g.fmt (bitAt l.cfg.cscControl 4) p, false⟩)

/-- Fetched pixels of a line from offset i on, with stand-in colour from the first that depends on a missing byte
(R160), and on every pixel outside the latched frame (R162). -/
def State.fetchedFrom (s : State) (h : Nat) (k : SkeinSt) (l : Latch) (g : Geo) (line j limit : Nat) : Nat → Nat → List LayerPx
  | 0, _ => []
  | n + 1, i =>
    if limit ≤ i then List.replicate (n + 1) (standinPx l.cfg)
    else if g.pixelOutside l.cfg.dstW i then standinPx l.cfg :: State.fetchedFrom s h k l g line j limit n (i + 1)
    else
      match s.layerPixel h k l g line j i with
      | some p => p :: State.fetchedFrom s h k l g line j limit n (i + 1)
      | none => List.replicate (n + 1) (standinPx l.cfg)

/-- First and count of the destination offsets inside the active width. -/
def Latch.visible (l : Latch) (r : HeadRec) : Nat × Nat :=
  let first := (-l.cfg.dstX).toNat
  let last := min (l.cfg.dstW : Int) ((r.hActive : Int) - l.cfg.dstX)
  (first, (last - first).toNat)

/-- A skein's pixels on a head line: first head column and the pixels. -/
def State.contribution (s : State) (r : HeadRec) (n line : Nat) : Nat × List LayerPx :=
  let k := s.skein n
  match k.latch with
  | none => (0, [])
  | some l =>
    if l.covers r line = false ∨ l.transparent = true then (0, [])
    else
      let (first, count) := l.visible r
      let col := ((first : Int) + l.cfg.dstX).toNat
      let rung := k.rungAt line
      let g := geoOf l rung
      let j := l.offset line
      let alive := !l.standinOnly && decide (rung < 3) && (match k.standinFrom with
        | some from' => decide (line < from')
        | none => true)
      let limit := match k.closedLines.find? (fun c => c.1 == line) with
        | some c => c.2
        | none => l.cfg.dstW
      if alive = false ∨ g.lineOutside l.cfg.dstH j = true then (col, List.replicate count (standinPx l.cfg))
      else (col, s.fetchedFrom r.head k l g line j limit count first)

/-- Blend a run of pixels onto a line, from a column on. -/
def blendRun (w : Word) : Nat → List LayerPx → List Sample → List Sample
  | _, [], line => line
  | _, _, [] => []
  | 0, p :: ps, d :: ds => blend w p d :: blendRun w 0 ps ds
  | c + 1, ps, d :: ds => d :: blendRun w c ps ds

def background (w : Word) : Sample :=
  ⟨rnd (norm 10 (fld w 0 10)), rnd (norm 10 (fld w 10 10)), rnd (norm 10 (fld w 20 10)), 1⟩

/-- The composed line before the head stages, bottom skein first (R182). -/
def State.composeLine (s : State) (r : HeadRec) (line : Nat) : List Sample :=
  (s.pattern.stack r.head).foldl (fun d n =>
    let c := s.contribution r n line
    match (s.skein n).latch with
    | some l => blendRun l.cfg.blend c.1 c.2 d
    | none => d) (List.replicate r.hActive (background (s.act .FABRIC_BACKGROUND r.head)))

/-- Layer-pixels of fabric work in a line (R183). -/
def State.lineWork (s : State) (r : HeadRec) (line : Nat) : Nat :=
  sumBy (fun n => match (s.skein n).latch with
    | some l => if l.covers r line then (l.visible r).2 else 0
    | none => 0) (s.pattern.stack r.head)

/-! ### Head stages (R184, R185) -/

/-- Stages present on a head; a head with no COLOUR record has every one. -/
def Pattern.stage (p : Pattern) (h k : Nat) : Bool :=
  match p.colours.find? (fun c => c.head == h) with
  | some c => natBit c.stages k
  | none => true

def lutKey (bank table index : Nat) : Nat := 2 ^ 20 * bank + 2 ^ 16 * table + index

def HeadSt.lutAt (hd : HeadSt) (bank table index : Nat) : Rat := halfVal (mapGet 0 hd.lut (lutKey bank table index))

/-- Where a component falls in a 1D LUT: the entry at or below it, and the fraction beyond. -/
def lut1At (domain : Nat) (v : Rat) : Nat × Rat :=
  let top : Rat := (2 ^ min 6 domain : Nat)
  let x := clampRat 0 top v / top * 4095
  let i := min 4094 x.floor.toNat
  (i, x - (i : Rat))

/-- 1D LUT on one component. -/
def lut1 (hd : HeadSt) (bank table domain : Nat) (v : Rat) : Rat :=
  let (i, f) := lut1At domain v
  let a := hd.lutAt bank table i
  let b := hd.lutAt bank table (i + 1)
  rnd (a + f * (b - a))

/-- 1D LUT of a bank on a pixel. -/
def lut1All (hd : HeadSt) (bank domain : Nat) (p : Sample) : Sample :=
  ⟨lut1 hd bank 0 domain p.c0, lut1 hd bank 1 domain p.c1, lut1 hd bank 2 domain p.c2, 1⟩

/-- The entries that the 1D LUT of a bank reads for a pixel. -/
def lut1Reads (bank domain : Nat) (p : Sample) : List Nat :=
  [(0, p.c0), (1, p.c1), (2, p.c2)].flatMap (fun t =>
    let i := (lut1At domain t.2).1
    [lutKey bank t.1 i, lutKey bank t.1 (i + 1)])

/-- The corners of the tetrahedron that holds a point, as index steps and weights: axes by falling fraction. -/
def tetra (fr fg fb : Rat) : List (Nat × Rat) :=
  let steps := fun (x y z : Nat × Rat) =>
    [(0, 1 - x.2), (x.1, x.2 - y.2), (x.1 + y.1, y.2 - z.2), (x.1 + y.1 + z.1, z.2)]
  let r := (1, fr)
  let g := (33, fg)
  let b := (1089, fb)
  if fg ≤ fr then
    if fb ≤ fg then steps r g b else if fb ≤ fr then steps r b g else steps b r g
  else
    if fb ≤ fr then steps g r b else if fb ≤ fg then steps g b r else steps b g r

/-- The entries of a 3D LUT that a pixel is interpolated from, with their weights. -/
def lut3At (p : Sample) : List (Nat × Rat) :=
  let at' := fun (v : Rat) =>
    let x := clampRat 0 1 v * 32
    let i := min 31 x.floor.toNat
    (i, x - (i : Rat))
  let (ri, rf) := at' p.c0
  let (gi, gf) := at' p.c1
  let (bi, bf) := at' p.c2
  (tetra rf gf bf).map (fun c => (ri + 33 * gi + 1089 * bi + c.1, c.2))

/-- 3D LUT (Table 8-5). -/
def lut3 (hd : HeadSt) (bank : Nat) (p : Sample) : Sample :=
  let corners := lut3At p
  let out := fun (table : Nat) => rnd (corners.foldl (fun a c => a + c.2 * hd.lutAt bank table c.1) 0)
  ⟨out 3, out 4, out 5, 1⟩

/-- The entries that the 3D LUT of a bank reads for a pixel. -/
def lut3Reads (bank : Nat) (p : Sample) : List Nat :=
  (lut3At p).flatMap (fun c => [lutKey bank 3 c.1, lutKey bank 4 c.1, lutKey bank 5 c.1])

def State.omatrix (s : State) (h : Nat) : List Int :=
  (List.range 12).map (fun k => signed 16 (fld (s.act .OMATRIX_COEF h k) 0 16))

/-- SMPTE ST 2084 inverse EOTF: the code value of a luminance from 0 to 10 000 cd/m². The constants are that standard's,
which R14 and Table 8-5 cite. PRESUMED, log 144. -/
def pqInverseEotf (l : Rat) : Rat :=
  let y := ratPower (l / 10000) 2610 16384
  ratPower ((3424 / 4096 + 2413 / 128 * y) / (1 + 2392 / 128 * y)) 2523 32

/-- ITU-R BT.2100 HLG OETF of a value from 0 to 1, with the constants of that recommendation. PRESUMED, log 144. -/
def hlgOetf (e : Rat) : Rat :=
  if e ≤ 1 / 12 then ratSqrt (3 * e)
  else 17883277 / 100000000 * ratLn (12 * e - 28466892 / 100000000) + 55991073 / 100000000

/-- Transfer encoding of one component (Table 8-5). -/
def encode1 (te ref : Nat) (v : Rat) : Rat :=
  match te with
  | 1 => rnd (pqInverseEotf (clampRat 0 10000 (v * ((clampNat 1 10000 ref : Nat) : Rat))))
  | 2 => rnd (hlgOetf (clampRat 0 1 v))
  | _ => clampRat 0 1 v

/-- Edge gain at distance d from an edge: a power of 1/γ, with γ in units of 1/256 (R185). -/
def edgeGain (width gamma : Nat) (d : Nat) : Rat :=
  let w := min 1024 width
  let g := clampNat 0x100 0x400 gamma
  if w ≤ d then 1
  else
    let t : Rat := ((2 * d + 1 : Nat) : Rat) / ((2 * w : Nat) : Rat)
    ratPower t 256 g

def State.edge (s : State) (r : HeadRec) (x y : Nat) : Rat :=
  let gain := fun (e d : Nat) => edgeGain (fld (s.act .EDGE_WIDTH r.head e) 0 11) (fld (s.act .EDGE_GAMMA r.head e) 0 12) d
  gain 0 x * gain 1 (r.hActive - 1 - x) * gain 2 y * gain 3 (r.vActive - 1 - y)

/-- The entries that fail parity among those a stage reads. -/
def lutFails (bad reads : List Nat) : List Nat := bad.filter reads.contains

/-- The first two head stages on one pixel (Table 8-5), and the entries that failed parity: such an entry passes its input
through its stage (R187). -/
def State.lutStages (s : State) (h : Nat) (bad : List Nat) (p : Sample) : Sample × List Nat :=
  let hd := s.head h
  let w := s.act .COLOUR_CONTROL h
  let on := fun (k bit : Nat) => s.pattern.stage h k && bitAt w bit
  let f1 := if on 0 0 then lutFails bad (lut1Reads (fld w 8 1) (fld w 12 3) p) else []
  let p1 := if on 0 0 && f1.isEmpty then lut1All hd (fld w 8 1) (fld w 12 3) p else p
  let f3 := if on 1 1 then lutFails bad (lut3Reads (fld w 9 1) p1) else []
  let p2 := if on 1 1 && f3.isEmpty then lut3 hd (fld w 9 1) p1 else p1
  (p2, f1 ++ f3)

/-- The head stages on one pixel, in the order of Table 8-5, from the output of the look-up tables. -/
def State.headStages (s : State) (r : HeadRec) (line x : Nat) (p2 : Sample) : Sample :=
  let h := r.head
  let w := s.act .COLOUR_CONTROL h
  let on := fun (k bit : Nat) => s.pattern.stage h k && bitAt w bit
  let m := s.omatrix h
  let p3 : Sample := if on 2 2
    then ⟨rnd (matrixRow m 0 p2.c0 p2.c1 p2.c2), rnd (matrixRow m 1 p2.c0 p2.c1 p2.c2),
          rnd (matrixRow m 2 p2.c0 p2.c1 p2.c2), 1⟩
    else p2
  let p4 := if s.pattern.stage h 3 then p3.map (encode1 (fld w 4 2) (fld (s.act .PQ_REF h) 0 14)) else p3
  if on 4 6 then (p4.scale (s.edge r x line)).map rnd else p4

def toPx (p : Sample) : Px := ⟨halfOf p.c0, halfOf p.c1, halfOf p.c2⟩

/-- A whole line as it enters the hank buffer, and the look-up table entries whose reads failed parity, in scan order. -/
def State.hankLine (s : State) (r : HeadRec) (line : Nat) (bad : List Nat) : List Px × List Nat :=
  let ps := (s.composeLine r line).map (s.lutStages r.head bad)
  (ps.zipIdx.map (fun p => toPx (s.headStages r line p.2 p.1.1)), ps.flatMap (·.2))

/-! ### Link codes (R201, R204, R205) -/

def unitClamp (h : Half) : Rat := clampRat 0 1 (halfVal h)

/-- A DisplayPort component at a bit depth. -/
def dpCode (bpc : Nat) (h : Half) : Nat := roundUp (unitClamp h * ((2 ^ bpc - 1 : Nat) : Rat))

/-- Luma weights of R204: BT.709, or BT.2020 when selected. -/
def sdiWeights (bt2020 : Bool) : Rat × Rat := if bt2020 then (2627 / 10000, 593 / 10000) else (2126 / 10000, 722 / 10000)

/-- Y, Cb and Cr of a pixel before rounding, in 10-bit narrow range. -/
def sdiYcc (bt2020 : Bool) (p : Px) : Rat × Rat × Rat :=
  let (kr, kb) := sdiWeights bt2020
  let r := unitClamp p.r
  let g := unitClamp p.g
  let b := unitClamp p.b
  let y := kr * r + (1 - kr - kb) * g + kb * b
  (64 + 876 * y, 512 + 896 * ((b - y) / (2 * (1 - kb))), 512 + 896 * ((r - y) / (2 * (1 - kr))))

/-- The SDI samples of a line: Cb, Y0, Cr, Y1 per pixel pair, chroma filtered 1/4, 1/2, 1/4 on even pixels, the
chroma beyond its left edge a free value (DESIGN CHOICE, log 11). -/
def sdiCoded (bt2020 : Bool) (ps : List Px) : List Nat :=
  let v := ps.map (sdiYcc bt2020)
  let at' := fun (i : Nat) => v.getD (min i (v.length - 1)) (64, 512, 512)
  (List.range (ps.length / 2)).flatMap (fun k =>
    let a := at' (2 * k - 1)
    let b := at' (2 * k)
    let c := at' (2 * k + 1)
    let before := fun (x y z : Rat) => if k = 0 then Config.edgeChroma y z else x
    let f := fun (x y z : Rat) => roundUp (before x y z / 4 + y / 2 + z / 4)
    [f a.2.1 b.2.1 c.2.1, roundUp b.1, f a.2.2 b.2.2 c.2.2, roundUp c.1])

/-- Sample codes of a line in the order of R205: an SDI connector, else DisplayPort at its depth. -/
def State.witnessCodes (s : State) (encoder : Option Nat) (ps : List Px) : List Nat :=
  match encoder with
  | some c =>
    if 4 ≤ c then sdiCoded (bitAt (s.act .SDI_OUT_CONFIG (c - 4)) 0) ps
    else
      let bpc := [6, 8, 10, 10].getD (fld (s.reg .DP_CONFIG c) 8 2) 10
      ps.flatMap (fun p => [dpCode bpc p.r, dpCode bpc p.g, dpCode bpc p.b])
  | none => ps.flatMap (fun p => [dpCode 10 p.r, dpCode 10 p.g, dpCode 10 p.b])

end Sys2Proof.Machine
end

