-- ==== Sys2Proof/Machine/Ports.lean ====
section
/-! DEFINITION. The crossbar and the output ports (R200 to R204). -/

namespace Sys2Proof.Machine

/-! ### What a port carries -/

/-- The raster a port sees of a head: for a pair, half of it (R192). -/
structure PortRaster where
  hActive : Nat
  hTotal  : Nat
  vActive : Nat
  vTotal  : Nat
  rate    : Rat
  deriving DecidableEq, Repr

def State.portRaster (s : State) (h : Nat) : Option PortRaster :=
  (s.pattern.owner? h).map (fun r =>
    let d := if headGanged r then 2 else 1
    ⟨r.hActive / d, r.hTotal / d, r.vActive, r.vTotal, pixelRate r / (d : Nat)⟩)

/-- An enabled port names a head that a lower enabled port names too (R200). -/
def State.portConflict (s : State) (c : Nat) : Bool :=
  portEnable (s.act .PORT_SELECT c) && (List.range c).any (fun d => portEnable (s.act .PORT_SELECT d) &&
    portHead (s.act .PORT_SELECT d) == portHead (s.act .PORT_SELECT c))

/-- The output board is held off or not yet released, with every connector in its reset state (R356, R377). -/
def State.outputOff (s : State) : Bool := !s.boot.boardsUp.getLsbD 0

/-- The head a connector sends, while the output board is up. -/
def State.portUse (s : State) (c : Nat) : Option Nat := if s.outputOff then none else s.portDriver c

/-! ### SDI (R204) -/

/-- Table 9-3: active, total, pixel rate, standard, and whether the 1/1.001 rate is in the table. -/
def sdiTable : List (Nat × Nat × Nat × Nat × Nat × Nat × Bool) :=
  [(1920, 2750, 1080, 1125, 74250000, 1, true), (1920, 2640, 1080, 1125, 74250000, 1, false),
   (1920, 2200, 1080, 1125, 74250000, 1, true), (1920, 2640, 1080, 1125, 148500000, 2, false),
   (1920, 2200, 1080, 1125, 148500000, 2, true), (3840, 5500, 2160, 2250, 297000000, 3, true),
   (3840, 5280, 2160, 2250, 297000000, 3, false), (3840, 4400, 2160, 2250, 297000000, 3, true)] ++
  [(3840, 5280, 2160, 2250, 594000000, 4, false), (3840, 4400, 2160, 2250, 594000000, 4, true)]

/-- A rate lies within 250 ppm of a nominal one. -/
def within250ppm (rate nominal : Rat) : Bool :=
  decide (absRat (rate - nominal) * 1000000 ≤ 250 * nominal)

/-- STANDARD and FRACTIONAL of a raster that Table 9-3 holds. -/
def sdiStandard (p : PortRaster) : Option (Nat × Bool) :=
  sdiTable.findSome? (fun (ha, ht, va, vt, hz, std, frac) =>
    if p.hActive ≠ ha ∨ p.hTotal ≠ ht ∨ p.vActive ≠ va ∨ p.vTotal ≠ vt then none
    else if within250ppm p.rate (hz : Nat) then some (std, false)
    else if frac && within250ppm p.rate ((hz : Nat) * 1000 / 1001) then some (std, true)
    else none)

/-- SDI_OUT_STATUS: state, standard and fractional flag. -/
def State.sdiStatus (s : State) (q : Nat) : Nat × Nat × Bool :=
  if s.outputOff then (0, 0, false)
  else if s.portConflict (4 + q) then (3, 0, false)
  else
    match (s.portDriver (4 + q)).bind s.portRaster with
    | none => (0, 0, false)
    | some p =>
      match sdiStandard p with
      | some (std, frac) => (1, std, frac)
      | none => (2, 0, false)

/-! ### DisplayPort (R201 to R203) -/

/-- STATE of DP_STATUS. -/
def State.dpState (s : State) (p : Nat) : Nat :=
  if s.outputOff then 7 else if s.portConflict p then 6 else if (s.portDriver p).isNone then 7 else (s.dpPort p).state

/-- What PORT_STATE reports of connector c: state, lanes and rate. -/
def State.portShow (s : State) (c : Nat) : Nat × Nat × Nat :=
  if c < 4 then
    if (s.portUse c).isNone then (s.dpState c, 0, 0) else (s.dpState c, (s.dpPort c).lanes, (s.dpPort c).rate)
  else ((s.sdiStatus (c - 4)).1, 0, 0)

/-- Trainings started: DP_RETRAIN_COUNT leaves the first out, and saturates at 0xFFFF_FFFF (R208). -/
def countTraining (n : Nat) : Nat := min 4294967296 (n + 1)

/-- A link that the crossbar drops, that it brings a sink already read, or that must train again for a new raster (R203, chapter 9 edges). -/
def State.routeDp (s old : State) (p : Nat) : State :=
  let was := (old.portUse p).bind old.portRaster
  let now := (s.portUse p).bind s.portRaster
  if was = now then s
  else
    match now with
    | some _ =>
      if (s.dpPort p).sink.isSome then
        s.modDp p (fun d => { d with state := 2, lanes := 0, rate := 0, trainings := countTraining d.trainings, attempts := 0 })
      else s
    | none => s.modDp p (fun d => { d with state := 0, lanes := 0, rate := 0 })

/-- The record of a port that cannot send: reason as its status code (Table 9-4, log 13). -/
def State.portRecord (s : State) (c reason : Nat) : State :=
  s.record 0x0C classA [(8, c), (8, reason)] 0 (s.portDriver c)

/-- Report one port's change since an earlier state (Tables 9-4 and 9-5). -/
def State.reportPort (old : State) (s : State) (c : Nat) : State :=
  let (st, lanes, rate) := s.portShow c
  if old.portShow c = s.portShow c then s
  else
    let s1 := s.event 0x94 [byteOf c, byteOf st, byteOf lanes, byteOf rate] ((s.portDriver c).getD 0xFF)
    let failing := if c < 4 then st == 4 || st == 5 else st == 2
    if failing && (old.portShow c).1 != st then s1.portRecord c st else s1

/-- Carry the crossbar's changes since an earlier state to the links, and report them. -/
def State.settlePorts (s old : State) : State :=
  let s1 := (List.range 4).foldl (fun s p => s.routeDp old p) s
  (List.range 8).foldl (State.reportPort old) s1

/-- Lanes and rate code limits of DP_CONFIG (R208). -/
def dpMaxLanes (w : Word) : Nat := if fld w 0 3 = 1 ∨ fld w 0 3 = 2 then fld w 0 3 else 4
def dpMaxRate (w : Word) : Nat := fld w 4 2
def dpBpc (w : Word) : Nat := [6, 8, 10, 10].getD (fld w 8 2) 10

/-- Link rate of a code, in bit/s. -/
def dpRate (code : Nat) : Nat := [1620000000, 2700000000, 5400000000, 8100000000].getD code 8100000000

/-- The link carries the raster (R202). -/
def dpUsable (lanes code bpc : Nat) (rate : Rat) : Bool :=
  decide (rate * 3 * (bpc : Nat) * 10002 / 10000 ≤ (lanes * dpRate code : Nat) * 8 / 10)

/-- Start a training (R202, R203). -/
def State.startTraining (s : State) (p attempts : Nat) : State :=
  s.modDp p (fun d => { d with
    state := 2, lanes := 0, rate := 0, attempts := attempts, trainings := countTraining d.trainings })

/-- DP_SINK_READ: the sink is read, and training starts where the port is driven; STATE passes through reading (R202). -/
def State.sinkRead (s : State) (p : Nat) (sink : SinkCaps) : State :=
  if (s.dpPort p).hpd = false ∨ s.outputOff = true ∨ (s.dpPort p).sink.isSome = true then s
  else
    let known := some { sink with edid := sink.edid.take 512 }
    if (s.portUse p).isNone then s.modDp p (fun d => { d with sink := known })
    else
      let s1 := s.modDp p (fun d => { d with state := 1, sink := known })
      let s2 := s1.settlePorts s
      (s2.startTraining p 0).settlePorts s2

/-- A link has 1, 2 or 4 lanes (R201). -/
def laneCount (n : Nat) : Nat := if 4 ≤ n then 4 else if 2 ≤ n then 2 else 1

/-- The rates and lanes a training tries in turn: each failure lowers the rate, and at 1.62 Gbit/s halves the lanes
(R202). -/
def trainSteps (rate lanes : Nat) : List (Nat × Nat) :=
  (List.range (rate + 1)).map (fun i => (rate - i, lanes)) ++
    ([2, 1].filter (fun n => decide (n < lanes))).map (fun n => (0, n))

/-- Where a training of a link starts: the lower of the port's and the sink's rate and lanes (R202). -/
def State.trainStart (s : State) (p : Nat) : Nat × Nat :=
  let w := s.reg .DP_CONFIG p
  let top := ((s.dpPort p).sink.map (fun (k : SinkCaps) => (k.maxRate.val, k.maxLanes))).getD (0, 1)
  (min (dpMaxRate w) top.1, min (dpMaxLanes w) (laneCount top.2))

/-- DP_TRAINING_DONE, after that many steps down; past the last, at one lane and 1.62 Gbit/s, it has failed (R202, R203). -/
def State.trainingDone (s : State) (p steps : Nat) : State :=
  let d := s.dpPort p
  if d.state ≠ 2 then s
  else
    let s1 := match (trainSteps (s.trainStart p).1 (s.trainStart p).2)[steps]? with
      | none =>
        if 1 ≤ d.attempts ∧ d.attempts < 3 then s.startTraining p (d.attempts + 1)
        else s.modDp p (fun d => { d with state := 5, lanes := 0, rate := 0 })
      | some (code, n) =>
        let need := (((s.portUse p).bind s.portRaster).map PortRaster.rate).getD 0
        s.modDp p (fun d => { d with
          state := if dpUsable n code (dpBpc (s.reg .DP_CONFIG p)) need then 3 else 4, lanes := n, rate := code })
    s1.settlePorts s

/-- DP_HPD_PULSE: a trained link that lost lock trains again, up to 3 attempts (R203). -/
def State.hpdPulse (s : State) (p : Nat) (lockLost : Bool) : State :=
  let d := s.dpPort p
  if d.hpd && lockLost && (d.state == 3 || d.state == 4) then (s.startTraining p 1).settlePorts s else s

def State.unplug (s : State) (p : Nat) : State :=
  (s.modDp p (fun d => { d with hpd := false, state := 0, lanes := 0, rate := 0, sink := none, attempts := 0 })).settlePorts s

/-- A write of DP_CONFIG: RETRAIN, or a change of bits per component, trains a link that has read its sink. -/
def State.wroteDpConfig (s : State) (p : Nat) (old v : Word) : State :=
  if (bitAt v 12 || dpBpc old != dpBpc v) && decide (2 ≤ (s.dpPort p).state) && (s.portUse p).isSome
  then (s.startTraining p 0).settlePorts s else s

/-! ### What leaves a connector (R18, R192, R201, R204) -/

/-- The lines a head hands to its encoder: its half of a pair's lines (R192). -/
def witnessLine (r : HeadRec) (h : Nat) (px : List Px) : List Px :=
  if headGanged r then (if h = r.head then px.take (r.hActive / 2) else px.drop (r.hActive / 2)) else px

/-- The stream attributes of a head's raster at a port: those of a half for a pair. -/
def streamAttr (r : HeadRec) (bpc : Nat) : StreamAttr :=
  let d := if headGanged r then 2 else 1
  { hTotal := r.hTotal / d, vTotal := r.vTotal, hActive := r.hActive / d, vActive := r.vActive
    hSync := (r.hSyncStart / d, r.hSyncWidth / d), vSync := (r.vSyncStart, r.vSyncWidth), syncFlags := r.syncFlags, bpc := bpc }

/-- Frames a second of a raster, to the nearest whole one. -/
def PortRaster.frames (p : PortRaster) : Nat := roundUp (p.rate / ((p.hTotal * p.vTotal : Nat) : Rat))

/-- One line to one connector that head h drives: what precedes line 0 of a frame, then the line. A DisplayPort link that is
not usable discards it (R203), and an SDI port that does not send has its drivers off (R204). DESIGN CHOICE, log 145. -/
def State.sendLine (s : State) (r : HeadRec) (h c line : Nat) (px : List Px) : State :=
  let codes := s.witnessCodes (some c) (witnessLine r h px)
  if c < 4 then
    if s.dpState c ≠ 3 then s
    else
      let s1 := if line = 0 then s.send (.dpAttributes c (streamAttr r (dpBpc (s.reg .DP_CONFIG c)))) else s
      s1.send (.dpLine c line codes)
  else
    match s.sdiStatus (c - 4), s.portRaster h with
    | (1, std, frac), some p =>
      let matrix := bitAt (s.act .SDI_OUT_CONFIG (c - 4)) 0
      let s1 := if line = 0 then s.send (.sdiPayload c (Config.sdiPayload std frac p.frames matrix)) else s
      s1.send (.sdiOutLine c line codes (Config.sdiLineCrc std line codes))
    | _, _ => s

/-- One line of a head, or of a pair, to the connectors it drives (R18, R192). -/
def State.sendLines (s : State) (r : HeadRec) (line : Nat) (px : List Px) : State :=
  (List.range 8).foldl (fun s c =>
    match s.portUse c with
    | some h => if h = r.head ∨ (headGanged r = true ∧ h = r.head + 1) then s.sendLine r h c line px else s
    | none => s) s

/-! ### Meanings -/

/-- DP_HPD_HIGH (R202). -/
def execDpHpdHigh (p : Fin 4) (s : State) : Host.Outcome State Fault Refusal :=
  .next (s.modDp p (fun d => { d with hpd := true }))

/-- DP_SINK_READ (R202). -/
def execDpSinkRead (p : Fin 4) (sink : SinkCaps) (s : State) : Host.Outcome State Fault Refusal :=
  .next (s.sinkRead p sink)

/-- DP_TRAINING_DONE (R202). -/
def execDpTrainingDone (p : Fin 4) (steps : Nat) (s : State) : Host.Outcome State Fault Refusal :=
  .next (s.trainingDone p steps)

/-- DP_HPD_PULSE (R203). -/
def execDpHpdPulse (p : Fin 4) (lockLost : Bool) (s : State) : Host.Outcome State Fault Refusal :=
  .next (s.hpdPulse p lockLost)

/-- DP_UNPLUG (R203). -/
def execDpUnplug (p : Fin 4) (s : State) : Host.Outcome State Fault Refusal := .next (s.unplug p)

end Sys2Proof.Machine
end

