-- ==== Sys2Proof/Machine/Boot.lean ====
section
/-! DEFINITION. Reset domains (R373 to R375), events and records raised while the main device is off (R367, R398,
R414), and the clock and reset commands of chapter 18 that need no pattern. -/

namespace Sys2Proof.Machine

def State.modPower (s : State) (f : PowerSt → PowerSt) : State := { s with power := f s.power }
def State.modBoot (s : State) (f : BootSt → BootSt) : State := { s with boot := f s.boot }

/-! ### The supervisor link (R361 to R363) -/

def cmdNop : Nat := 0
def cmdEnable : Nat := 1
def cmdDisable : Nat := 2
def cmdMeasure : Nat := 3
def cmdGate : Nat := 4
def cmdBoardReset : Nat := 5
def cmdError : Nat := 0xFF

/-- A link word (Table 17-6). -/
def linkWord (command data : Nat) : Word :=
  let top := 65536 * (command % 256) + data % 65536
  wordOf (256 * top + crc8 (bitsMsb 24 top))

def boardName (b : Nat) : Board := if b = 1 then .output else if b = 2 then .input else .network

/-- The master sends a word; none to a failed slave (R363). -/
def State.sendSlave (s : State) (b command data : Nat) : State :=
  if (s.slave (b - 1)).state = 2 ∨ s.power.standby = false then s
  else
    let w := linkWord command data
    (s.modSlave (b - 1) (fun q => { q with lastWord := w, tries := if q.state = 1 then q.tries else 0 })).send
      (.supervisor (boardName b) w)

/-- The supervisor asserts each board reset, with the system reset (R348, R374, R384). -/
def State.holdBoards (s : State) : State := (List.range 3).foldl (fun s b => s.sendSlave (b + 1) cmdBoardReset 1) s

/-! ### The system domain -/

/-- A Store channel after a reset: a warm reset keeps those pending retirement or out of the list out of the map (R374). -/
def resetChannel (warm : Bool) (q : ChannelSt) : ChannelSt :=
  if warm && (q.state == 3 || q.state == 4 || q.state == 5) then
    { (default : ChannelSt) with state := if q.state = 5 then 3 else q.state, cause := q.cause, margin := q.margin }
  else default

def resetLedger (warm : Bool) (l : LedgerSt) : LedgerSt :=
  if warm then { l with up := false, held := [], queue := [], retiredThisFrame := false, violAddr := 0, violInfo := 0,
                        violCount := 0 }
  else default

def resetBoot (warm : Bool) (b : BootSt) : BootSt :=
  { (default : BootSt) with
    inReset := true, buttonHeld := b.buttonHeld, cause := b.cause, nextCause := b.nextCause
    warmCount := if warm then b.warmCount else 0
    faults := b.faults, held := b.held, attempts := b.attempts, bootTag := b.bootTag }

/-- The registers after a reset: stored settings, and those of the standby domain, which keep theirs (R368, R373). -/
def State.resetRegs (s : State) : State :=
  let s1 := { s with regs := s.nv, active := [], pairs := [] }
  (s1.setReg .ACC_CONTROL 0 0 (s.reg .ACC_CONTROL)).setReg .PSV_COMMAND 0 0 (s.reg .PSV_COMMAND)

/-- Accessory outputs are off outside service and debug hold (R368). -/
def State.accOff (s : State) : State :=
  let off := fun (q : RailSt) => if q.state = 6 then q else { q with state := 0 }
  (s.modRail 14 off).modRail 15 off

/-- The system domain returns to its reset values (R373, R374): everything but the standby domain, the flash
slots, pin levels and, across a warm reset, the Ledger and the channels out of the map. -/
def State.systemReset (s : State) (warm : Bool) : State :=
  let s1 := s.breakProgram.resetRegs.accOff
  { s1 with
    pat      := { (default : PatternSt) with slotA := s1.pat.slotA, slotB := s1.pat.slotB }
    commit   := default
    ledger   := resetLedger warm s.ledger
    routes   := default
    store    := { (default : StoreSt) with
                  channels := (List.range 8).foldl
                    (fun m c => mapSet default m c (resetChannel warm (s.channel c))) [] }
    porter   := []
    sources  := []
    skeins   := []
    needles  := []
    heads    := []
    dp       := []
    raster   := default
    block    := default
    time     := { (default : TimeSt) with tb := s.time.tb, lfclk := s.time.lfclk, lfAcc := s.time.lfAcc, gpiIn := s.time.gpiIn }
    net      := { (default : NetSt) with secret := s.net.secret }
    usb      := { (default : UsbSt) with vbus := s.usb.vbus }
    caravan  := default
    chassis  := { (default : ChassisSt) with button := s.chassis.button, sfpModules := s.chassis.sfpModules }
    boot     := resetBoot warm s.boot }

/-- A warm reset with its RESET_CAUSE (R374). -/
def State.warmReset (s : State) (cause : Nat) : State :=
  (s.systemReset true).holdBoards.modBoot (fun b => { b with warmCount := satInc b.warmCount, nextCause := cause })

/-! ### Events and records of the power supervisor (R367, R398) -/

/-- The main-board rails are up and the main device is out of reset. -/
def State.deviceUp (s : State) : Bool :=
  !s.boot.inReset && (List.range 6).all (fun r => (s.rail r).state == 2 || (s.rail r).state == 3)

/-- Post an event, or hold it in the standby domain. -/
def State.psvEvent (s : State) (code : Nat) (detail : List Byte) : State :=
  if s.deviceUp then s.event code detail
  else if s.power.heldEvents.length < 16 then
    s.modPower (fun p => { p with heldEvents := p.heldEvents ++ [eventBale s code 0 0xFF detail] })
  else s.modPower (fun p => { p with lostEvents := satInc p.lostEvents })

/-- Write a class D record, or hold it in the standby domain. -/
def State.psvRecord (s : State) (detail : List (Nat × Nat)) (addr : Nat) (secondary : Bool := false) : State :=
  let e := mkEntry s 0x19 classD (detailBits detail) addr none secondary
  if s.deviceUp then s.record' e
  else if s.power.heldRecords.length < 16 then
    s.modPower (fun p => { p with heldRecords := p.heldRecords ++ [{ e with flags := e.flags ||| 0x40000000 }] })
  else s.modPower (fun p => { p with lostRecords := satInc p.lostRecords })

/-- The same where the address field names no rail or board: a free value (log 2). -/
def State.psvRecordOpen (s : State) (detail : List (Nat × Nat)) : State :=
  let (k, s1) := s.takeFree
  s1.psvRecord detail (Config.freeWord k).toNat

/-- At step 6 the Ledger leaves reset and the held records are written, in the order raised (R398). -/
def State.ledgerUp (s : State) : State :=
  let held := sortBy (fun (e : Entry) => e.tb.toNat) (s.ledger.held ++ s.power.heldRecords)
  let lost := s.power.lostRecords
  let s1 := { s with ledger := { s.ledger with
    up := true, held := [], overflow := min max32 (s.ledger.overflow + lost), countD := min max32 (s.ledger.countD + lost) } }
  let s2 := s1.modPower (fun p => { p with heldRecords := [], lostRecords := 0 })
  held.foldl State.record' s2

/-- The events held before a pattern binds ROUTE[15], first of all written to it (R414). -/
def State.flushHeld (s : State) : State :=
  let held := sortBy (fun (b : Bale) => leAt b 8 8) (s.routes.held ++ s.power.heldEvents)
  let s1 := { s with routes := { s.routes with
    held := [], lostCount := min max32 (s.routes.lostCount + s.power.lostEvents) } }
  let s2 := s1.modPower (fun p => { p with heldEvents := [], lostEvents := 0 })
  held.foldl State.postBale s2

/-! ### Clocks (R369 to R371) and retries (R384) -/

/-- Microseconds since the release of the system reset. -/
def State.sinceRelease (s : State) : Nat := min max32 ((s.time.tb.toNat - s.boot.releaseTb) / 100)

/-- A bring-up step ends (R389). -/
def State.stepEnds (s : State) (step : Nat) : State :=
  s.modBoot (fun b => { b with step := step, times := mapSet 0 b.times (step - 5) s.sinceRelease })

/-- The system reset is released. -/
def State.released (s : State) : Bool := !s.boot.inReset && (s.power.state == 2 || s.power.state == 4)

/-- The VCO locks, or fails to (R370). -/
def State.vco (s : State) (locked : Bool) : State :=
  if !s.released || s.boot.vcoLock then s
  else if locked then (s.modBoot (fun b => { b with vcoLock := true, clocks := true })).stepEnds 5
  else s

/-- TB counts in 60 s. -/
def minuteTicks : Nat := 6000000000

/-- A clock fault (R371): LFCLK, clock 5, is no derived clock, and its deviation is none. The record follows the reset it
causes (R388). DEDUCED, log 103. -/
def State.clockFault (s : State) (clock : Nat) (deviation : Nat) : State :=
  if clock = 5 ∨ s.boot.clocks = false ∨ s.boot.inReset = true then s
  else
    let e := mkEntry s 0x1B classD deviation (if clock = 6 then 0xFF else clock) none false
    let now := s.time.tb.toNat
    let recent := s.boot.faults.filter (fun t => decide (now - t ≤ minuteTicks)) ++ [now]
    let s1 := s.modBoot (fun b => { b with faults := recent })
    let s2 := if 3 ≤ recent.length then (s1.systemReset true).holdBoards.modBoot (fun b => { b with held := true })
      else s1.warmReset 4
    s2.record' e

/-- Reset again after a failed VCO lock or boot ROM check, three attempts in all (R384). -/
def State.retryBringUp (s : State) : State :=
  if !s.released || decide (6 ≤ s.boot.step) then s
  else
    (s.systemReset true).holdBoards.modBoot (fun b => { b with attempts := b.attempts + 1, held := decide (2 ≤ b.attempts) })

/-- VCO_LOCK (R370). -/
def execVcoLock (locked : Bool) (s : State) : Host.Outcome State Fault Refusal := .next (s.vco locked)

/-- CLOCK_FAULT (R371, R388). -/
def execClockFault (clock : Fin 7) (deviation : BitVec 16) (s : State) : Host.Outcome State Fault Refusal :=
  .next (s.clockFault clock deviation.toNat)

/-- BRING_UP_RETRY (R384). -/
def execBringUpRetry (s : State) : Host.Outcome State Fault Refusal := .next s.retryBringUp

end Sys2Proof.Machine
end

