-- ==== Sys2Proof/Machine/Caravan.lean ====
section
/-! DEFINITION. Caravan (15): frames, election, cadence, barriers, loss of a lead. -/

namespace Sys2Proof.Machine

/-! ### Frames (R313, R315) -/

def typeCall : Nat := 1
def typeBeat : Nat := 2
def typeEcho : Nat := 3
def typeEchoReply : Nat := 4

/-- A frame's first 44 bytes with the CHECK its sender computes. -/
def caravanSeal (bs : List Byte) : List Byte := padTo 44 bs ++ beBytes 4 (crc32 (padTo 44 bs))

/-- The frame check unit passes a frame (R313). -/
def caravanSound (f : List Byte) : Bool :=
  f.length == 48 && beAt f 0 2 == 0x4356 && beAt f 2 1 == 1 && decide (1 ≤ beAt f 3 1) && decide (beAt f 3 1 ≤ 4) &&
    beAt f 0x2C 4 == crc32 (f.take 44)

/-- A frame this unit originates (Table 15-1). ECHO frames carry SEQUENCE unchanged (DEDUCED, log 94). -/
def State.caravanFrame (s : State) (type : Nat) (body : List Byte) : List Byte :=
  caravanSeal (beBytes 2 0x4356 ++ [1, byteOf type] ++ beBytes 8 s.caravan.priority.toNat ++
    beBytes 4 s.boot.bootTag.toNat ++ [0, byteOf (s.caravan.state == 4).toNat] ++ beBytes 2 s.caravan.seq.toNat ++
    beBytes 4 0 ++ padTo 20 body)

/-- Send a CALL or BEAT on both ports under the next SEQUENCE (R315). DEDUCED, log 94. -/
def State.callOut (s : State) (type : Nat) (body : List Byte) : State :=
  let s1 := { s with caravan := { s.caravan with seq := s.caravan.seq + 1 } }
  let f := s1.caravanFrame type body
  (s1.send (.caravan .east f)).send (.caravan .west f)

def State.incomingDelay (s : State) : CaravanPort → Nat
  | .east => s.caravan.eastDelay
  | .west => s.caravan.westDelay

def otherPort : CaravanPort → CaravanPort
  | .east => .west
  | .west => .east

/-- The unit listens, sending nothing (R317). DEDUCED, log 93. -/
def State.listening (s : State) : Bool := decide (s.caravan.state ≤ 1)

/-- Forward a CALL or BEAT out of the opposite port (R315). -/
def State.forward (s : State) (port : CaravanPort) (f : List Byte) : State :=
  if s.listening = true ∨ 31 ≤ beAt f 0x10 1 then s
  else
    let g := patch (patch f 0x10 (beBytes 1 (beAt f 0x10 1 + 1))) 0x14
      (beBytes 4 (beAt f 0x14 4 + s.incomingDelay port + 600))
    s.send (.caravan (otherPort port) (caravanSeal (g.take 44)))

/-! ### Rank and state (R314, R317) -/

/-- The priority value of a pattern on this unit (R314). -/
def Pattern.priorityValue (p : Pattern) : BitVec 64 :=
  BitVec.ofNat 64 (2 ^ 56 * ((p.caravan.map (·.priority)).headD 0) + Config.unitSerial.toNat % 2 ^ 56)

/-- (value, BOOT_TAG) ranks above another (R314). -/
def outranks (v t v' t' : Nat) : Bool := decide (v' < v) || (v == v' && decide (t' < t))

/-- Enter a state, posting CARAVAN_STATE when it changes (Table 15-5). -/
def State.caravanEnter (s : State) (state : Nat) : State :=
  if s.caravan.state = state then s
  else
    let s1 := { s with caravan := { s.caravan with state := state } }
    s1.event 0xE8 [byteOf state, byteOf s.caravan.cause]

def State.caravanCause (s : State) (cause : Nat) : State := { s with caravan := { s.caravan with cause := cause } }

/-- Take an origin as lead: a change is counted and posted (R327). -/
def State.takeLead (s : State) (v : BitVec 64) (tag : Word) : State :=
  if s.caravan.leadKnown ∧ s.caravan.lead = v ∧ s.caravan.leadTag = tag then s
  else
    let s1 := { s with caravan := { s.caravan with
      lead := v, leadTag := tag, leadKnown := true, leadChanges := satInc s.caravan.leadChanges } }
    s1.event 0xE9 (leBytes 8 v.toNat ++ leBytes 4 s.caravan.cfn.toNat)

/-- The highest CFN this unit has seen, its own included (R321). -/
def State.highestCfn (s : State) : Word :=
  if s.caravan.cfnSeen.toNat < s.caravan.cfn.toNat then s.caravan.cfn else s.caravan.cfnSeen

/-- An election's window begins, with a CFN_SEEN (R317, R321). -/
def State.electFrom (s : State) (seen : Word) : State :=
  let c := s.caravan
  { s with caravan := { c with waitingBeat := false, best := c.priority, bestTag := s.boot.bootTag, cfnSeen := seen } }
    |>.caravanEnter 2

/-- Begin an election (R317); CFN_SEEN starts from the unit's own CFN (R321). -/
def State.elect (s : State) : State := s.electFrom s.caravan.cfn

/-! ### Cadence (R319, R320) -/

/-- Nearest whole number of nanoseconds of a time in seconds. -/
def nanoseconds (t : Rat) : Nat := (t * 1000000000 + 1 / 2).floor.toNat

/-- Nominal frame period of a head in ns, exactly. -/
def framePeriod (r : HeadRec) : Rat := (r.vTotal : Rat) / lineRate r * 1000000000

/-- A head is lockable to a period (R320). -/
def lockable (r : HeadRec) (period : Nat) : Bool :=
  decide ((period : Rat) * 999750 ≤ framePeriod r * 1000000) && decide (framePeriod r * 1000000 ≤ (period : Rat) * 1000250)

/-- A time difference taken into the range of half a period either side of 0 (R320). -/
def intoPeriod (period : Nat) (e : Int) : Int :=
  if period = 0 then e
  else
    let m := e % period
    if (period : Int) < 2 * m then m - period else m

def State.setLocked (s : State) (h : Nat) (locked : Bool) : State :=
  if (s.head h).locked = locked then s
  else (s.modHead h (fun q => { q with locked := locked })).event 0xEB [byteOf h, byteOf locked.toNat]

/-- PULL_LIMIT in force, in units of 10^-9 (R330). -/
def State.pullLimit (s : State) : Int := (clampNat 1 200 (fld (s.act .CARAVAN_LOOP) 0 8) : Int) * 1000

/-- The pull of a head after a BEAT that found a phase error (R320), in units of 10^-9 of its frequency: a free move of at most
20 ppm that drives the error towards 0. A pull of the wrong sign moves towards 0 and on; one of the right sign, which
is positive for a head that is late, keeps it. DESIGN CHOICE, log 97. -/
def pullTowards (move : Fin 20001) (up : Bool) (e pull : Int) : Int :=
  let free := if up then (move.val : Int) else -(move.val : Int)
  let turn := (max 1 move.val : Nat)
  if 0 < e then (if pull < 0 then pull + turn else max 0 (pull + free))
  else if e < 0 then (if 0 < pull then pull - turn else min 0 (pull + free))
  else pull + free

/-- One head's part of a BEAT: its phase error, pull and lock (R320). -/
def State.beatHead (period : Nat) (predicted : Int) (s : State) (h : Nat) : State :=
  match s.pattern.head? h with
  | none => s
  | some r =>
    if lockable r period then
      let e := intoPeriod period ((s.head h).bindTb * 10 - predicted)
      let p := (s.head h).pull
      let pull := clampInt (-s.pullLimit) s.pullLimit (pullTowards (Config.pullStep h e p) (Config.pullUp h e p) e p)
      let near := decide (-1000 ≤ e) && decide (e ≤ 1000)
      let far := decide (e < -10000) || decide (10000 < e)
      let beats := if near then min 8 ((s.head h).lockBeats + 1) else 0
      let s1 := s.modHead h (fun q => { q with phaseErr := e, pull := pull, lockBeats := beats })
      s1.setLocked h (!far && ((s.head h).locked || beats == 8))
    else
      (s.modHead h (fun q => { q with pull := 0, lockBeats := 0 })).setLocked h false

/-- A BEAT's effect on every head: its bind-off is predicted `ahead` ns from now (R319, R320). -/
def State.beatHeads (s : State) (period : Nat) (ahead : Int) : State :=
  let s1 := s.setAct .CARAVAN_LOOP 0 0 (s.reg .CARAVAN_LOOP)
  s1.pattern.present.foldl (State.beatHead period ((s1.time.tb.toNat : Int) * 10 + ahead)) s1

/-! ### Received frames -/

/-- Membership from a CALL (R318, R328). -/
def State.hearMember (s : State) (origin : BitVec 64) (tag : Word) : State :=
  let c := s.caravan
  if c.members.any (fun m => m.origin == origin) then
    { s with caravan := { c with members := c.members.map (fun m => if m.origin = origin then ⟨origin, tag⟩ else m) } }
  else if c.members.length < 31 then { s with caravan := { c with members := c.members ++ [⟨origin, tag⟩] } }
  else { s with caravan := { c with oversize := true, ignored := satInc c.ignored } }

/-- Another unit shows this unit's own value (R325). -/
def State.duplicateValue (s : State) (origin : BitVec 64) (tag : Word) : State :=
  let s1 := { s with caravan := { s.caravan with duplicate := some (origin, tag) } }
  if s.caravan.duplicate.isSome then s1 else s1.record 0x14 classB [] (origin.toNat % 2 ^ 32)

/-- A CALL taken (R317, R318). DEDUCED, log 95. -/
def State.takeCall (s : State) (origin : BitVec 64) (tag : Word) (cfnSeen : Word) : State :=
  let s1 := if origin = s.caravan.priority then s.duplicateValue origin tag else s
  let s2 := s1.hearMember origin tag
  let c := s2.caravan
  let seen := if c.cfnSeen.toNat < cfnSeen.toNat then cfnSeen else c.cfnSeen
  let s3 := { s2 with caravan := { c with cfnSeen := seen } }
  if c.state = 2 ∧ c.waitingBeat = false ∧ outranks origin.toNat tag.toNat c.best.toNat c.bestTag.toNat = true then
    { s3 with caravan := { s3.caravan with best := origin, bestTag := tag } }
  else s3

/-- A BEAT is followed: any while no lead is followed, else one of a lead ranked no lower (R317, R327). -/
def State.follows (s : State) (origin : BitVec 64) (tag : Word) : Bool :=
  match s.caravan.state with
  | 3 => !outranks s.caravan.lead.toNat s.caravan.leadTag.toNat origin.toNat tag.toNat
  | 4 => outranks origin.toNat tag.toNat s.caravan.priority.toNat s.boot.bootTag.toNat
  | _ => true

/-- The last BEAT of each origin is remembered, with the TB of its arrival (R327). -/
def State.hearBeat (s : State) (origin : BitVec 64) (tag : Word) (period members : Nat) : State :=
  let rest := s.caravan.heard.filter (fun b => !(b.origin == origin && b.tag == tag))
  { s with caravan := { s.caravan with heard := rest ++ [⟨origin, tag, s.time.tb.toNat, period, members⟩] } }

/-- A BEAT taken (R319 to R321, R327). -/
def State.takeBeat (s : State) (port : CaravanPort) (f : List Byte) (origin : BitVec 64) (tag : Word) : State :=
  let k := wordOf (beAt f 0x18 4)
  let period := beAt f 0x1C 4
  let seen := if s.caravan.cfnSeen.toNat < k.toNat then k else s.caravan.cfnSeen
  let s0 := ({ s with caravan := { s.caravan with cfnSeen := seen } } : State).hearBeat origin tag period (beAt f 0x24 1)
  if s0.follows origin tag then
    let merge := s0.caravan.state == 4 || (s0.caravan.state == 3 && s0.caravan.lead != origin)
    let s1 := ((if merge then s0.caravanCause 2 else s0).takeLead origin tag).caravanEnter 3
    let s2 := { s1 with caravan := { s1.caravan with
      period := period, leadMembers := beAt f 0x24 1, cfnNext := some k, waitingBeat := false } }
    s2.beatHeads period ((beAt f 0x20 4 : Int) - ((beAt f 0x14 4 : Int) + s.incomingDelay port))
  else s0

/-- The SEQUENCE is later than the last taken from its origin (R315). -/
def State.laterSequence (s : State) (origin : BitVec 64) (tag : Word) (n : Nat) : Bool :=
  match s.caravan.seqs.find? (fun q => q.origin == origin && q.tag == tag) with
  | none => true
  | some q =>
    let d := (n + 65536 - q.seq.toNat) % 65536
    decide (0 < d) && decide (d < 32768)

def State.noteSequence (s : State) (origin : BitVec 64) (tag : Word) (n : Nat) : State :=
  let rest := s.caravan.seqs.filter (fun q => !(q.origin == origin && q.tag == tag))
  { s with caravan := { s.caravan with seqs := rest ++ [⟨origin, tag, BitVec.ofNat 16 n⟩] } }

/-- A CALL or BEAT that passed the check: a unit's own and stale frames go no further (R315, R325). -/
def State.takeGroupFrame (s : State) (port : CaravanPort) (f : List Byte) : State :=
  let origin := BitVec.ofNat 64 (beAt f 4 8)
  let tag := wordOf (beAt f 0x0C 4)
  let n := beAt f 0x12 2
  if origin = s.caravan.priority ∧ tag = s.boot.bootTag then s
  else if s.laterSequence origin tag n = false then s
  else
    let s1 := (s.noteSequence origin tag n).forward port f
    if beAt f 3 1 = typeCall then s1.takeCall origin tag (wordOf (beAt f 0x18 4))
    else s1.takeBeat port f origin tag

/-- Nanoseconds of TB since SENT, which holds TB's low 32 bits (R316). -/
def State.roundTrip (s : State) (sent : Nat) : Nat := (s.time.tb.toNat + 0x100000000 - sent) % 0x100000000 * 10

/-- An ECHO is answered, but by no unit that listens (R316, R317). DESIGN CHOICE, log 100. -/
def State.takeEcho (s : State) (port : CaravanPort) (f : List Byte) : State :=
  if s.listening then s
  else
  let turnaround := Config.measured 0x316 (match port with
    | .east => 0
    | .west => 1) s.time.tb.toNat
  s.send (.caravan port (s.caravanFrame typeEchoReply (slice f 0x18 4 ++ beBytes 4 turnaround)))

def State.takeEchoReply (s : State) (port : CaravanPort) (f : List Byte) : State :=
  let d := (s.roundTrip (beAt f 0x18 4) - beAt f 0x1C 4) / 2
  match port with
  | .east => { s with caravan := { s.caravan with eastDelay := d } }
  | .west => { s with caravan := { s.caravan with westDelay := d } }

/-- A frame arriving at a port; with the bypass closed it passes the unit by (R311 to R313). -/
def State.caravanReceive (s : State) (port : CaravanPort) (f : List Byte) : State :=
  if s.caravan.bypassOpen = false then s
  else if caravanSound f = false then
    { s with caravan := { s.caravan with checkErrors := satInc s.caravan.checkErrors } }
  else if beAt f 3 1 = typeEcho then s.takeEcho port f
  else if beAt f 3 1 = typeEchoReply then s.takeEchoReply port f
  else s.takeGroupFrame port f

/-! ### Timers -/

def State.echoOut (s : State) : State :=
  if s.caravan.bypassOpen = false ∨ s.listening = true then s
  else
    let f := s.caravanFrame typeEcho (beBytes 4 (s.time.tb.toNat % 0x100000000))
    (s.send (.caravan .east f)).send (.caravan .west f)

/-- A CALL, sent by no unit that listens or waits for a BEAT (R317, R318). DEDUCED, log 93. -/
def State.callTimer (s : State) : State :=
  if s.caravan.bypassOpen = false ∨ s.listening = true ∨ (s.caravan.state = 2 ∧ s.caravan.waitingBeat = true) then s
  else s.callOut typeCall (beBytes 4 s.highestCfn.toNat ++ [byteOf s.caravan.state])

/-- The end of a window of R317. A new lead's first BEAT and next bind-off carry CFN_SEEN + 1, which a further window of the
same election keeps (R321; DEDUCED, log 96). -/
def State.electionEnd (s : State) : State :=
  let c := s.caravan
  match c.state with
  | 1 => s.elect
  | 2 =>
    if c.waitingBeat then s.electFrom s.highestCfn
    else if c.best = c.priority ∧ c.bestTag = s.boot.bootTag then
      let s1 := { s with caravan := { c with cfnNext := some (s.highestCfn + 1) } }
      (s1.takeLead c.priority s.boot.bootTag).caravanEnter 4
    else { s with caravan := { c with waitingBeat := true } }
  | _ => s

/-- Time in ns from line 0 of a head's frame to its bind-off line (R319). -/
def State.dueTime (s : State) (r : HeadRec) : Nat := nanoseconds ((s.head r.head).bindLine / lineRate r)

/-- The lead's BEAT k at line 0 of frame k − 1 (R319). -/
def State.beatOut (s : State) : State :=
  if s.caravan.state = 4 then
    match s.pattern.heads.find? (fun r => r.head == s.refHead) with
    | none => s
    | some r =>
      let k := s.caravan.cfnNext.getD (s.caravan.cfn + 1)
      let period := nanoseconds (framePeriod r / 1000000000)
      let due := s.dueTime r
      let body := beBytes 4 k.toNat ++ beBytes 4 period ++ beBytes 4 due ++ [byteOf (s.caravan.members.length + 1)]
      let s1 := (s.callOut typeBeat body).modHead s.refHead (fun q => { q with line0Done := true })
      { s1 with caravan := { s1.caravan with period := period } } |>.beatHeads period due
  else s

/-- Of two origins the one that ranks higher (R314). -/
def HeardBeat.higher (a b : HeardBeat) : HeardBeat :=
  if outranks b.origin.toNat b.tag.toNat a.origin.toNat a.tag.toNat then b else a

/-- The highest-ranked origin, the lead apart, whose BEAT was heard within the last 3 × PERIOD (R327). -/
def State.otherLead (s : State) : Option HeardBeat :=
  let c := s.caravan
  let live := c.heard.filter (fun b => !(b.origin == c.lead && b.tag == c.leadTag) &&
    decide ((s.time.tb.toNat - b.tb) * 10 ≤ 3 * c.period))
  match live with
  | [] => none
  | b :: rest => some (rest.foldl HeardBeat.higher b)

/-- Follow an origin whose BEATs were heard beside the lead's (R327). -/
def State.followOther (s : State) (b : HeardBeat) : State :=
  let s1 := (s.caravanCause 2).takeLead b.origin b.tag
  { s1 with caravan := { s1.caravan with period := b.period, leadMembers := b.members } }

/-- No BEAT of the lead for 3 × PERIOD: heads unlock and hold their pulls (R326). Another origin heard is followed (R327), and
else an election begins. DEDUCED, logs 96 and 155. -/
def State.loseLead (s : State) : State :=
  if s.caravan.state = 3 then
    let unlock := fun (s : State) (h : Nat) => (s.modHead h (fun q => { q with lockBeats := 0 })).setLocked h false
    let s1 := (List.range 8).foldl unlock s
    let s2 := s1.record 0x14 classA [] s1.caravan.cfn.toNat
    match s2.otherLead with
    | some b => s2.followOther b
    | none => ((s2.caravanCause 1).caravanEnter 5).elect
  else s

/-- MEMBER_AGEING (R318, R325): a table with room again is no longer oversize (R328). DEDUCED, log 154. -/
def State.ageMember (s : State) (origin : BitVec 64) : State :=
  let c := s.caravan
  let left := c.members.filter (fun m => m.origin != origin)
  let dup := match c.duplicate with
    | some (v, t) => if v = origin then none else some (v, t)
    | none => none
  { s with caravan := { c with members := left, duplicate := dup, oversize := c.oversize && decide (31 ≤ left.length) } }

/-- A port's link goes up or down (R310, Table 15-4). -/
def State.caravanLinkChange (s : State) (port : CaravanPort) (up : Bool) : State :=
  match port with
  | .east =>
    let s1 := { s with caravan := { s.caravan with eastLink := up } }
    if s.caravan.eastLink && !up then s1.record 0x14 classA [(8, 0)] 0 else s1
  | .west =>
    let s1 := { s with caravan := { s.caravan with westLink := up } }
    if s.caravan.westLink && !up then s1.record 0x14 classA [(8, 1)] 0 else s1

/-! ### Barriers (R322 to R324) -/

def State.barrier (s : State) (i : Nat) : Option Barrier := mapGet none s.caravan.barriers i

def barAccepted : Nat := 1
def barLate : Nat := 2
def barFull : Nat := 3
def barFired : Nat := 4
def barSkipped : Nat := 5
def barCancelled : Nat := 6

/-- Record a barrier's result and post CARAVAN_BARRIER. -/
def State.barrierResult (s : State) (slot result : Nat) (b : Barrier) : State :=
  let s1 := { s with caravan := { s.caravan with barrierResult := result, barrierSlot := slot } }
  s1.event 0xEA ([byteOf slot, byteOf result] ++ leBytes 2 b.mask.toNat ++ leBytes 4 b.cfn.toNat)

/-- Line 0 of the reference head's frame has begun. -/
def State.line0Begun (s : State) : Bool := (s.head s.refHead).line0Done

/-- A barrier for k comes too late (R323). -/
def State.barrierLate (s : State) (k : Word) : Bool :=
  decide (2 ^ 31 ≤ (k - 1 - s.caravan.cfn).toNat) || (s.caravan.cfn == k - 1 && s.line0Begun)

/-- A write of CARAVAN_BARRIER_COMMIT (R322, R323). The SLOT of a refused barrier is not stated (log 2).
DESIGN CHOICE, log 98. -/
def State.armBarrier (s : State) (mask : Nat) : State :=
  let b : Barrier := ⟨s.reg .CARAVAN_BARRIER_CFN, BitVec.ofNat 16 mask⟩
  if mask = 0 then s
  else if s.barrierLate b.cfn then s.barrierResult (Config.unstated 0xEA barLate % 8) barLate b
  else
    match (List.range 8).find? (fun i => (s.barrier i).isNone) with
    | none => s.barrierResult (Config.unstated 0xEA barFull % 8) barFull b
    | some i =>
      { s with caravan := { s.caravan with barriers := mapSet none s.caravan.barriers i (some b) } }
        |>.barrierResult i barAccepted b

def State.freeBarrier (s : State) (i : Nat) : State :=
  { s with caravan := { s.caravan with barriers := mapSet none s.caravan.barriers i none } }

/-- Fire slot i when it holds a barrier of those chosen. -/
def State.fireBarrier (due : Barrier → Bool) (result : Nat) (s : State) (i : Nat) : State :=
  match s.barrier i with
  | none => s
  | some b =>
    if due b then ((s.freeBarrier i).commitMask b.mask.toNat).barrierResult i result b else s

/-- Line 0 of frame CFN begins on the reference head (R322). DEDUCED, log 99. -/
def State.fireBarriers (s : State) : State :=
  let s1 := (List.range 8).foldl (State.fireBarrier (fun b => b.cfn - 1 == s.caravan.cfn) barFired) s
  s1.modHead s1.refHead (fun q => { q with line0Done := true })

/-- Barriers a jump of CFN has passed over (R326). -/
def State.skipBarriers (s : State) : State :=
  (List.range 8).foldl
    (State.fireBarrier (fun b => decide (2 ^ 31 ≤ (b.cfn - 1 - s.caravan.cfn).toNat)) barSkipped) s

def State.cancelBarrier (s : State) (i : Nat) : State :=
  match s.barrier i with
  | none => s
  | some b => (s.freeBarrier i).barrierResult i barCancelled b

def State.cancelBarriers (s : State) (mask : Nat) : State := (setBits 8 mask).foldl State.cancelBarrier s

/-! ### Pattern switch (R311, R317) -/

/-- The unit's priority value changes: where it leads, or is the best it knows, it does so under the new value. -/
def CaravanSt.withPriority (c : CaravanSt) (tag : Word) (v : BitVec 64) : CaravanSt :=
  { c with
    priority := v
    lead := if c.state = 4 then v else c.lead
    best := if c.best = c.priority ∧ c.bestTag = tag then v else c.best }

/-- The CARAVAN section of a pattern comes into force; cause 0 at a start, 3 at a restitch. -/
def State.caravanSwitch (s : State) (new : Pattern) (cause : Nat) : State :=
  let c := s.caravan
  let s1 := { s with caravan := c.withPriority s.boot.bootTag new.priorityValue }
  if new.member then
    if c.state = 0 then
      let s2 := { s1 with caravan := { s1.caravan with bypassOpen := true, waitingBeat := false, cfnSeen := c.cfn } }
      (s2.caravanCause cause).caravanEnter 1
    else s1
  else
    let free := fun (s : State) (h : Nat) => (s.modHead h (fun q => { q with lockBeats := 0, pull := 0 })).setLocked h false
    let s2 := (List.range 8).foldl free s1
    let s3 := { s2 with caravan := { s2.caravan with
      bypassOpen := false, members := [], oversize := false, heard := [], leadMembers := 0, cfnNext := none
      leadKnown := false } }
    (s3.caravanCause cause).caravanEnter 0

/-! ### Meanings -/

/-- CALL (R313, R315, R317, R318, R325, R328). -/
def execCall (port : CaravanPort) (frame : List Byte) (s : State) : Host.Outcome State Fault Refusal :=
  .next (s.caravanReceive port frame)

/-- BEAT (R315, R319 to R321, R327). -/
def execBeat (port : CaravanPort) (frame : List Byte) (s : State) : Host.Outcome State Fault Refusal :=
  .next (s.caravanReceive port frame)

/-- ECHO (R316). -/
def execEcho (port : CaravanPort) (frame : List Byte) (s : State) : Host.Outcome State Fault Refusal :=
  .next (s.caravanReceive port frame)

/-- ECHO_REPLY (R316). -/
def execEchoReply (port : CaravanPort) (frame : List Byte) (s : State) : Host.Outcome State Fault Refusal :=
  .next (s.caravanReceive port frame)

/-- ECHO_TIMER (R316). -/
def execEchoTimer (s : State) : Host.Outcome State Fault Refusal := .next s.echoOut

/-- CALL_TIMER (R317, R318). -/
def execCallTimer (s : State) : Host.Outcome State Fault Refusal := .next s.callTimer

/-- ELECTION_TIMER (R317). -/
def execElectionTimer (s : State) : Host.Outcome State Fault Refusal := .next s.electionEnd

/-- BEAT_SEND (R319). -/
def execBeatSend (s : State) : Host.Outcome State Fault Refusal := .next s.beatOut

/-- LEAD_LOSS (R326). -/
def execLeadLoss (s : State) : Host.Outcome State Fault Refusal := .next s.loseLead

/-- MEMBER_AGEING (R318, R325). -/
def execMemberAgeing (origin : BitVec 64) (s : State) : Host.Outcome State Fault Refusal := .next (s.ageMember origin)

/-- CARAVAN_LINK (R310, R329). -/
def execCaravanLink (port : CaravanPort) (up : Bool) (s : State) : Host.Outcome State Fault Refusal :=
  .next (s.caravanLinkChange port up)

/-- BARRIER_FIRE (R322, R324). -/
def execBarrierFire (s : State) : Host.Outcome State Fault Refusal := .next s.fireBarriers

end Sys2Proof.Machine
end

