-- ==== Sys2Proof/Machine/Needle.lean ====
section
/-! DEFINITION. The needle pool (08): assignment, failure and remapping, and background self-test. -/

namespace Sys2Proof.Machine

/-! ### Assignment (R173) -/

/-- Needles of a head's effective mask, rising. -/
def State.effMask (s : State) (h : Nat) : List Nat := (List.range 32).filter (fun m => s.inEffMask h m)

/-- Take a head's assignment back: its needles' loads and its skeins' needles. -/
def State.clearNeedles (s : State) (h : Nat) (skeins : List Nat) : State :=
  let s1 := (List.range 32).foldl (fun s m =>
    if (s.needle m).serving = some h then s.modNeedle m (fun q => { q with load := 0, skeins := 0, serving := none }) else s) s
  skeins.foldl (fun s n => s.modSkein n (fun k => { k with needle := none })) s1

/-- The needle with the least assigned load, ties to the lower index. -/
def State.leastLoaded (s : State) (l : List Nat) : Option Nat :=
  l.foldl (fun best m => match best with
    | none => some m
    | some b => if (s.needle m).load < (s.needle b).load then some m else some b) none

/-- Assign a needle to one skein of head h (R173). -/
def State.assignOne (s : State) (h n : Nat) : State :=
  let c := s.skeinActive n
  if c.enable = false ∨ (s.skein n).retired = true ∨ s.usesNeedle n c = false then s
  else
    let mask := s.effMask h
    let pick := if c.request = 2 ∧ mask.contains c.needleIndex = true then some c.needleIndex else s.leastLoaded mask
    match pick with
    | none => s
    | some m =>
      (s.modNeedle m (fun q => { q with load := q.load + c.dstW, skeins := q.skeins + 1, serving := some h })).modSkein n
        (fun k => { k with needle := some m })

/-- The assignment made at a bind-off of head h, bottom skein first (R173). -/
def State.assignNeedles (s : State) (h : Nat) : State :=
  (s.pattern.stack h).foldl (fun s n => s.assignOne h n) (s.clearNeedles h (s.pattern.stack h))

/-! ### Service and self-test (R176, R177) -/

/-- An enabled skein of head h, in the shadow set, asks for any needle or requires one. -/
def State.shadowWants (s : State) (h : Nat) : Bool :=
  (s.pattern.stack h).any (fun n =>
    let c := s.skeinShadow n
    c.enable && (c.request == 1 || s.pattern.needleRequired n))

/-- The needle is in service (R176). -/
def State.inService (s : State) (m : Nat) : Bool :=
  (List.range 96).any (fun n => (s.skein n).needle == some m) ||
  (List.range 96).any (fun n => (s.skeinShadow n).request == 2 && (s.skeinShadow n).needleIndex == m) ||
  s.pattern.present.any (fun h => s.inEffMask h m && s.shadowWants h)

/-- Tests of needles that have come into service are aborted and drain (R177). -/
def State.abortTests (s : State) : State :=
  s.needles.foldl (fun s p =>
    if p.2.testing && !p.2.draining && s.inService p.1 then s.modNeedle p.1 (fun q => { q with draining := true }) else s) s

/-- NEEDLE_TEST_START (R176): one needle at a time, in turn, while tests are enabled. DEDUCED, log 19. -/
def State.startTest (s : State) (m : Nat) : State :=
  let q := s.needle m
  if bitAt (s.reg .NEEDLE_TEST_CONTROL) 0 = false ∨ s.inService m = true ∨ q.retired = true ∨ q.queued = true ∨
      s.needles.any (fun p => p.2.testing) = true then s
  else s.modNeedle m (fun q => { q with testing := true, draining := false })

/-- The needle's head for records and events. -/
def State.needleOwner (s : State) (m : Nat) : Nat := (s.needleHead m).getD s.refHead

/-- A needle fails: queued for retirement with its class C record; on a unit already failed, a secondary record
(R175, R399, R400). -/
def State.failNeedle (s : State) (m cause : Nat) : State :=
  let q := s.needle m
  let h := some (s.needleOwner m)
  if q.retired ∨ q.queued then s.record 0x08 classC [(8, m), (8, cause)] 0 h true
  else
    let s1 := s.modNeedle m (fun q => { q with queued := true, cause := cause })
    let served := (List.range 96).filter (fun n => (s.skein n).needle == some m)
    let s2 := served.foldl (fun s n =>
      let line := s.composeNext (((s.pattern.skein? n).map (·.head)).getD 0)
      s.modSkein n (fun k => { k with standinFrom := some (match k.standinFrom with
        | some y => min y line
        | none => line) })) s1
    (s2.record 0x08 classC [(8, m), (8, cause)] 0 h).enqueue .needle m cause

/-- NEEDLE_TEST_DONE (R176): a test being abandoned has no result. -/
def State.testDone (s : State) (m : Nat) (pass : Bool) : State :=
  let q := s.needle m
  if q.testing = false ∨ q.draining = true then s
  else if pass then s.modNeedle m (fun q => { q with testing := false, lastTest := 1, passes := satInc q.passes })
  else (s.modNeedle m (fun q => { q with testing := false, lastTest := 2 })).failNeedle m 2

/-- NEEDLE_TEST_ABANDON (R177). -/
def State.testAbandon (s : State) (m : Nat) : State :=
  if (s.needle m).testing && (s.needle m).draining then
    s.modNeedle m (fun q => { q with testing := false, draining := false, lastTest := 3, abandons := satInc q.abandons })
  else s

/-! ### Retirement and remapping (R175) -/

/-- A needle in no pattern mask that can be taken as a spare: the lowest-numbered. -/
def State.spare (s : State) : Option Nat :=
  (List.range 32).find? (fun m => !(s.needle m).retired && !(s.needle m).queued && (s.needle m).takenBy.isNone &&
    !s.pattern.needles.any (fun r => natBit r.mask m))

/-- Carry out a needle's retirement at a bind-off of head h: a spare comes in, and the head is reassigned. -/
def State.retireNeedle (s : State) (m cause h : Nat) : State :=
  match s.needleHead m with
  | none =>
    (s.modNeedle m (fun q => { q with retired := true, queued := false })).event 0xB8 [byteOf m, byteOf cause] h
  | some o =>
    let served := (List.range 96).filter (fun n => (s.skein n).needle == some m)
    let s1 := s.modNeedle m (fun q => { q with retired := true, queued := false, takenBy := none })
    let sp := s1.spare
    let s2 := match sp with
      | some x => s1.modNeedle x (fun q => { q with takenBy := some o, draining := q.testing })
      | none => s1
    let s3 := if (s2.head o).state = 4 then s2 else s2.assignNeedles o
    let moved := (served.filter (fun n => (s3.skein n).needle.isSome && (s3.skein n).needle != some m)).length
    (s3.event 0xB8 [byteOf m, byteOf cause] o).event 0xB9 [byteOf m, byteOf (sp.getD 0xFF), byteOf moved] o

/-- STATE of NEEDLE_STATUS. -/
def State.needleState (s : State) (m : Nat) : Nat :=
  let q := s.needle m
  if q.retired then 4 else if q.queued then 3 else if q.testing then 2 else if s.inService m then 1 else 0

/-! ### Meanings -/

/-- NEEDLE_FAILURE (R175). -/
def execNeedleFailure (m : Fin 32) (s : State) : Host.Outcome State Fault Refusal := .next (s.failNeedle m 1)

/-- NEEDLE_TEST_START (R176). -/
def execNeedleTestStart (m : Fin 32) (s : State) : Host.Outcome State Fault Refusal := .next (s.startTest m)

/-- NEEDLE_TEST_DONE (R176). -/
def execNeedleTestDone (m : Fin 32) (pass : Bool) (s : State) : Host.Outcome State Fault Refusal :=
  .next (s.testDone m pass)

/-- NEEDLE_TEST_ABANDON (R177). -/
def execNeedleTestAbandon (m : Fin 32) (s : State) : Host.Outcome State Fault Refusal := .next (s.testAbandon m)

end Sys2Proof.Machine
end

