-- ==== Sys2Proof/Machine/Heads.lean ====
section
/-! DEFINITION. Heads, the hank buffer, the Gauge and the witness (09): everything between one bind-off and the
next. -/

namespace Sys2Proof.Machine

/-! ### Present, working heads -/

/-- The record of a present head that has not failed. -/
def State.liveHead (s : State) (h : Nat) : Option HeadRec :=
  match s.pattern.head? h with
  | some r => if (s.head h).state = 1 ∨ (s.head h).state = 2 ∨ (s.head h).state = 3 then some r else none
  | none => none

def State.gauge (s : State) (r : HeadRec) : GaugeCfg := gaugeCfg (s.act .GAUGE_CONTROL r.head) (headGanged r)

/-! ### Cast-on (R147, R137, R47, R199) -/

/-- Sources that the head's skeins read in the frame being latched (R137). -/
def State.sourcesRead (s : State) (h : Nat) : List Nat :=
  (s.pattern.stack h).filterMap (fun n =>
    let c := s.latchSet n
    if c.enable && c.ingest && decide (c.source < 12) then some c.source else none)

/-- A latched buffer differs from the one the computation in force used (R46). -/
def State.sourceChanged (s : State) (h : Nat) : Bool :=
  (mapGet default s.commit.admits h).skeins.any (fun d =>
    match (s.skein d.skein).latch with
    | some l =>
      l.cfg.ingest && !(s.skein d.skein).retired && s.fetches h d.skein &&
        (if l.valid then some (l.width, l.height, l.format) else none) != d.source
    | none => false)

/-- Admission at a cast-on: pre-shed rungs and the OVERBOOKED level (R29, R47). -/
def State.applyAdmission (s : State) (h : Nat) : State :=
  let d := mapGet default s.commit.admits h
  let b := s.pattern.budget h
  let (rungs, steps) := preShed b.fetchBytes b.needlePix (4 * d.skeins.length) (d.skeins.map (fun x => (x, 0))) 0
  let s1 := (s.pattern.stack h).foldl (fun s n =>
    let rung := ((rungs.find? (fun x => x.1.skein == n)).map (·.2)).getD 0
    s.modSkein n (fun k => { k with preshedRung := rung, gaugeRung := max k.gaugeRung rung })) s
  let above := d.exceeds b
  let s2 := s1.modHead h (fun q => { q with overbooked := above, presheds := steps })
  if (s.head h).overbooked = above then s2 else s2.event 0x92 [byteOf above.toNat, byteOf (min 255 steps)] h

/-- Where one restore step takes a skein (R199). -/
def restoredRung (floor : Nat) (redValid : Bool) (pre r : Nat) : Nat :=
  max pre (if r = 3 then (if floor = 2 ∧ redValid = false then 1 else floor) else r - 1)

/-- Rank and floor of a skein at its head's cast-on, and whether it has a valid reduced copy (R156, R157). -/
def State.shedTerms (s : State) (n : Nat) : Nat × Nat × Bool :=
  match (s.skein n).latch with
  | some l => (l.cfg.rank, l.cfg.floor, l.redValid)
  | none =>
    let c := s.latchSet n
    (c.rank, c.floor, (latchOf c (s.source c.source) true false).redValid && (s.skein n).needle.isSome)

/-- The skein with the lowest rank above its pre-shed rung, ties to the lower index (R199). -/
def State.restoreChoice (s : State) (h : Nat) : Option Nat :=
  (s.pattern.stack h).foldl (fun best n =>
    if (s.skein n).gaugeRung ≤ (s.skein n).preshedRung then best
    else
      match best with
      | none => some n
      | some b =>
        if (s.shedTerms n).1 < (s.shedTerms b).1 ∨ ((s.shedTerms n).1 = (s.shedTerms b).1 ∧ n < b) then some n else best) none

/-- The restore decision, and the Gauge's figures for the next frame (R199). DEDUCED, log 90. -/
def State.gaugeRestore (s : State) (r : HeadRec) : State :=
  let h := r.head
  let g := s.gauge r
  let hd := s.head h
  let bad := hd.shedFrame || decide (hd.minLead < g.restoreHigh)
  let ok := if bad then 0 else min 15 (hd.framesOk + 1)
  let s1 := s.modHead h (fun q => { q with
    framesOk := ok, lastMin := q.minLead, minLead := maxLead (headGanged r), shedFrame := false })
  if g.enable = false ∨ ok < g.restoreFrames then s1
  else
    match s1.restoreChoice h with
    | none => s1
    | some n =>
      let k := s1.skein n
      let (_, floor, redValid) := s1.shedTerms n
      let rung := restoredRung floor redValid k.preshedRung k.gaugeRung
      let s2 := (s1.modSkein n (fun k => { k with gaugeRung := rung })).modHead h (fun q => { q with
        framesOk := 0, restoreCount := satInc q.restoreCount })
      s2.event 0x91 [byteOf n, byteOf k.gaugeRung, byteOf rung] h

/-- Open a skein's rungs for the frame (R163). -/
def State.openRungs (s : State) (n : Nat) : State :=
  s.modSkein n (fun k => { k with effRung := s.rungNow n, rungs := [(0, s.rungNow n)] })

def State.castOn (s : State) (h : Nat) : State :=
  match s.liveHead h with
  | none => s
  | some r =>
    let stack := s.pattern.stack h
    let s1 := s.modHead h (fun q => { q with
      line := q.castLine, frameFc := q.fc, hank := [], closed := [], begun := true, scanned := 0
      lastFrameWork := q.frameWork, lastPeakWork := q.peakWork, frameWork := 0, peakWork := 0 })
    let s2 := s1.offers h (s1.sourcesRead h)
    let s3 := stack.foldl (fun s n => s.latchSkein h n) s2
    let s4 := if s3.sourceChanged h then s3.readmit h else s3
    let s5 := (s4.applyAdmission h).gaugeRestore r
    stack.foldl State.openRungs s5

/-! ### The Gauge (R197, R198) -/

/-- Complete lines after the line starting scan-out, beyond the last active line counted complete (R197). -/
def State.leadAt (s : State) (r : HeadRec) (line : Nat) : Nat :=
  ((List.range (maxLead (headGanged r))).filter (fun i =>
    decide (r.vActive ≤ line + 1 + i) || (s.head r.head).hank.any (fun p => p.1 == line + 1 + i))).length

/-- Eligible for shedding (R198); a skein at stand-in colour from a failure in the frame is not. -/
def State.eligible (s : State) (n : Nat) : Bool :=
  match (s.skein n).latch with
  | none => false
  | some l => !l.standinOnly && (s.skein n).standinFrom.isNone && !(s.skein n).queued && !(s.skein n).retired &&
      decide (s.rungNow n < 3)

/-- The eligible skein with the highest rank, ties to the higher index. -/
def State.shedPick (s : State) (h : Nat) : Option (Nat × Latch) :=
  (s.pattern.stack h).foldl (fun best n =>
    match (s.skein n).latch with
    | none => best
    | some l =>
      if s.eligible n = false then best
      else
        match best with
        | none => some (n, l)
        | some b => if b.2.cfg.rank < l.cfg.rank ∨ (b.2.cfg.rank = l.cfg.rank ∧ b.1 < n) then some (n, l) else some b) none

/-- One shed: from the first destination line whose fetch has not begun (R198); a line closed needs none (R196). -/
def State.shed (s : State) (h lead : Nat) : State :=
  match s.shedPick h with
  | none => s
  | some (n, l) =>
    let k := s.skein n
    let rung := nextRung l.cfg.floor l.redValid k.gaugeRung
    let from' := (s.head h).closed.foldl (fun a y => max a (y + 1)) (max k.fetchLine (s.composeNext h))
    let s1 := s.modSkein n (fun k => { k with gaugeRung := rung, rungs := (from', rung) :: k.rungs })
    (s1.modHead h (fun q => { q with shedCount := satInc q.shedCount })).event 0x90
      [byteOf n, byteOf k.gaugeRung, byteOf rung, byteOf lead] h

/-! ### Line close and composition (R18, R161, R174, R194 to R196) -/

/-- Leading pixels of a line's contribution that no missing byte holds up. -/
def State.readyPixels (s : State) (r : HeadRec) (n line : Nat) : Nat :=
  ((s.contribution r n line).2.takeWhile (fun p => !p.standin)).length

/-- PCLK cycles in a line-time of a head (R174). -/
def lineCycles (r : HeadRec) : Nat := (800000000 * (r.hTotal : Rat) / pixelRate r).floor.toNat

/-- Pixels a needle can give skein n in a line-time, when its load exceeds the cycles: the skeins of a line are served in
stacking order (R154, R174). -/
def State.needleLimit (s : State) (r : HeadRec) (n line : Nat) : Option Nat :=
  match (s.skein n).needle with
  | none => none
  | some m =>
    if (s.needle m).load ≤ lineCycles r then none
    else
      let before := (s.pattern.stack r.head).takeWhile (· ≠ n)
      some (lineCycles r - sumBy (fun b => match (s.skein b).latch with
        | some l => if (s.skein b).needle = some m ∧ l.covers r line = true ∧ (s.skein b).fetchesLine l line = true
            then l.cfg.dstW else 0
        | none => 0) before)

/-- Close one skein's unfinished contribution (R161, R195): stand-in colour from a pixel the manual does not fix, no later
than the first whose data is missing (log 2) or that its needle cannot reach. DESIGN CHOICE, log 39. -/
def State.closeSkein (s : State) (r : HeadRec) (line n : Nat) : State :=
  match (s.skein n).latch with
  | none => s
  | some l =>
    if (l.covers r line && (s.skein n).fetchesLine l line) = false then s
    else
      let (first, count) := l.visible r
      let waits := !(s.missingFor n line).isEmpty
      let ready := if waits then s.readyPixels r n line else count
      let limit := match s.needleLimit r n line with
        | some b => min ready b
        | none => ready
      let (k, s1) := s.takeFree
      let done := (Config.freeWord k).toNat % (limit + 1)
      if waits = false ∧ count ≤ done then s1
      else s1.modSkein n (fun q => { q with
        closedLines := (line, first + done) :: q.closedLines, closeCount := satInc q.closeCount })

/-- The line-close deadline of a line passes (R195). -/
def State.closeLine (s : State) (r : HeadRec) (line : Nat) : State :=
  if (s.head r.head).closed.contains line = true ∨ (s.head r.head).hank.any (fun p => p.1 == line) = true then s
  else
    let s1 := (s.pattern.stack r.head).foldl (State.closeSkein · r line ·) s
    let unfinished := (s.pattern.stack r.head).any (fun n => (s1.skein n).closedLines.any (fun c => c.1 == line))
    s1.modHead r.head (fun q => { q with
      closed := line :: q.closed, closeCount := if unfinished then satInc q.closeCount else q.closeCount })

/-- LUT entries that failed parity on the way: each is counted, and the first of the head in a frame recorded (R187).
DEDUCED, log 17. -/
def State.lutParity (s : State) (h : Nat) (fails : List Nat) : State :=
  match fails with
  | [] => s
  | k :: _ =>
    let s1 := s.modHead h (fun q => { q with
      parityCount := min max32 (q.parityCount + fails.length), parityThisFrame := true })
    if (s.head h).parityThisFrame then s1
    else s1.record 0x09 classA [(8, h), (8, k / 2 ^ 20)] (k % 2 ^ 20) (some h)

/-- A line enters the hank buffer (R194), with the LUT entries that fail parity when read. -/
def State.storeLine (s : State) (r : HeadRec) (line : Nat) (bad : List Nat) : State :=
  let px := s.hankLine r line bad
  let w := s.lineWork r line
  (s.modHead r.head (fun q => { q with
    hank := mapSet [] q.hank line px.1, frameWork := min max32 (q.frameWork + w), peakWork := max q.peakWork w })).lutParity
    r.head px.2

/-- A line that begins scan-out is complete by then (R196), and is sent (R18). -/
def State.scanLine (s : State) (r : HeadRec) (line : Nat) : State :=
  let s1 := if (s.head r.head).hank.any (fun p => p.1 == line) then s else (s.closeLine r line).storeLine r line []
  (s1.sendLines r line (mapGet [] (s1.head r.head).hank line)).modHead r.head (fun q => { q with scanned := line + 1 })

/-- Every line up to `last` has begun scan-out (R18). -/
def State.scanTo (s : State) (h last : Nat) : State :=
  match s.liveHead h with
  | none => s
  | some r =>
    let from' := (s.head h).scanned
    if (s.head h).begun = false ∨ r.vActive ≤ last then s
    else (List.range (last + 1 - from')).foldl (fun s i => s.scanLine r (from' + i)) s

/-- LINE_CLOSE: one line-time before scan-out of a line, as the line before it begins scan-out (R195). -/
def State.lineClose (s : State) (h line : Nat) : State :=
  match s.liveHead h with
  | none => s
  | some r =>
    if r.vActive ≤ line then s
    else
      let s0 := if line = 0 then s else s.scanTo h (line - 1)
      let scan := if line = 0 then r.vTotal - 1 else line - 1
      (s0.modHead h (fun q => { q with line := scan, line0Done := q.line0Done || decide (1 ≤ line) })).closeLine r line

/-- A slot is free for a line: it lies within the lead of the line scanning out, of a frame that has cast on. -/
def State.slotFree (s : State) (r : HeadRec) (line : Nat) : Bool :=
  let hd := s.head r.head
  let top := (if hd.line < r.vActive then hd.line else 0) + maxLead (headGanged r)
  (decide (hd.line < r.vActive) || decide (hd.castLine ≤ hd.line)) && decide (line ≤ top)

/-- A contribution of the line has data to wait for, or a closed line goes before it (R194, R195). -/
def State.lineWaits (s : State) (r : HeadRec) (line : Nat) : Bool :=
  (s.pattern.stack r.head).any (fun n => match (s.skein n).latch with
    | some l => l.covers r line && !(s.missingFor n line).isEmpty
    | none => false) ||
  (s.head r.head).closed.any (fun c => c != line && !(s.head r.head).hank.any (fun p => p.1 == c))

/-- LINE_COMPOSED: a line all of whose contributions are finished enters the hank buffer (R194). -/
def State.lineComposed (s : State) (h line : Nat) (bad : List LutFault) : State :=
  match s.liveHead h with
  | none => s
  | some r =>
    if r.vActive ≤ line ∨ (s.head h).hank.any (fun p => p.1 == line) = true ∨ s.slotFree r line = false ∨
        s.lineWaits r line = true then s
    else s.storeLine r line (bad.map (fun f => lutKey f.bank f.table f.index))

/-- GAUGE_BAND: the boundary of a band, as line 16k + 15 begins scan-out (R197, R199). -/
def State.gaugeBand (s : State) (h band : Nat) : State :=
  match s.liveHead h with
  | none => s
  | some r =>
    let line := 16 * band + 15
    if r.vActive ≤ line then s
    else
      let s0 := s.scanTo h line
      let lead := s0.leadAt r line
      let g := s0.gauge r
      let low := g.enable && decide (lead < g.shedLow)
      let s1 := s0.modHead h (fun q => { q with line := line, line0Done := true, lead := lead })
      let s2 := if low then (s1.shed h lead).modHead h (fun q => { q with shedFrame := true }) else s1
      s2.modHead h (fun q => { q with minLead := min q.minLead lead })

/-! ### The witness (R205, R206) -/

/-- The CRC of a head's frame, once every line of it has been handed over. -/
def State.witnessCrc (s : State) (h : Nat) (r : HeadRec) : Nat :=
  crc32 ((s.head r.head).hank.flatMap (fun p =>
    (s.witnessCodes (s.head h).encoder (witnessLine r h p.2)).flatMap (leBytes 2)))

/-- Report a compare: 1 match, 2 mismatch, 3 missed (R206, Tables 9-4 and 9-5). -/
def State.witnessResult (s : State) (h result : Nat) (actual : Word) (fc : Word) : State :=
  let hd := s.head h
  let s1 := s.modHead h (fun q => { q with
    armed := false, result := result
    mismatch := if result = 1 then false else if result = 2 then true else q.mismatch
    mismatches := if result = 1 then q.mismatches else satInc q.mismatches })
  let s2 := s1.event 0x93 ([byteOf result, 0, 0, 0] ++ leBytes 4 hd.expect.toNat ++ leBytes 4 actual.toNat ++
    leBytes 4 hd.tag.toNat) h
  if result = 1 then s2 else s2.record 0x0B classA [(8, h), (8, result)] fc.toNat (some h)

/-- WITNESS_CRC_FINAL: the last active line has been handed to the encoder (R205, R206). A head that has not cast on has no
frame. DEDUCED, log 91. -/
def State.witnessFinal (s : State) (h : Nat) : State :=
  match (s.pattern.owner? h).bind (fun r => s.liveHead r.head) with
  | none => s
  | some r =>
    if (s.head r.head).begun = false then s
    else
      let s1 := s.scanTo r.head (r.vActive - 1)
      let crc := wordOf (s1.witnessCrc h r)
      let fc := (s1.head r.head).frameFc
      let s2 := s1.modHead h (fun q => { q with lastCrc := crc, lastFc := fc })
      if (s2.head h).armed = true ∧ (s2.head h).tag = fc then
        s2.witnessResult h (if crc = (s2.head h).expect then 1 else 2) crc fc
      else s2

/-- A write of ARM (R206): armed when the tagged frame's bind-off is still to come, else missed at once. -/
def State.wroteWitness (s : State) (h : Nat) (v : Word) : State :=
  if bitAt v 0 = false then s
  else
    let tag := s.reg .WITNESS_TAG h
    let fc := (s.head (((s.pattern.owner? h).map (·.head)).getD h)).fc
    let ahead := (tag - fc).toNat
    let s1 := s.modHead h (fun q => { q with armed := true, expect := s.reg .WITNESS_EXPECT h, tag := tag })
    if 1 ≤ ahead ∧ ahead < 2147483648 then s1
    else
      let (k, s2) := s1.takeFree
      s2.witnessResult h 3 (Config.freeCrc k) tag

/-! ### Failure (R207) -/

def partCode : HeadPart → Nat
  | .timing => 1
  | .hank => 2
  | .pipe => 3
  | .port => 4

/-- HEAD_FAILURE: the head is failed until the next load; a further failure is recorded as secondary (R399).
DEDUCED, log 89. -/
def State.headFailure (s : State) (h : Nat) (part : Nat) : State :=
  match s.pattern.owner? h with
  | none => s
  | some r =>
    let line := (s.head r.head).line
    if (s.head r.head).state = 4 then s.record 0x0A classC [(8, h), (8, part)] line (some r.head) true
    else
      let s1 := s.modHead r.head (fun q => { q with state := 4 })
      let s2 := (s1.event 0x95 [byteOf part] h).record 0x0A classC [(8, h), (8, part)] line (some r.head)
      s2.settlePorts s

/-! ### Look-up tables (R186) -/

/-- Last index of a table, 1D or 3D. -/
def lutLast (table : Nat) : Nat := if table < 3 then 4095 else 35936

def lutTable (w : Word) : Nat := if fld w 16 3 < 6 then fld w 16 3 else 0

/-- INDEX after the entry, wrapping at the table's end. -/
def lutNext (w : Word) : Word :=
  let i := fld w 0 16
  w - wordOf i + wordOf (if lutLast (lutTable w) ≤ i then 0 else i + 1)

/-- The entry that LUT_PORT_ADDR names. DESIGN CHOICE, log 4. -/
def State.lutEntry (s : State) (h : Nat) : Half :=
  let w := s.reg .LUT_PORT_ADDR h
  mapGet 0 (s.head h).lut (lutKey (fld w 20 1) (lutTable w) (fld w 0 16))

/-- The stage of a table is present on a head that owns its registers: an absent one, and the upper half of a pair, accept
writes without effect (R184). -/
def State.lutPresent (s : State) (h table : Nat) : Bool :=
  s.pattern.stage h (if table < 3 then 0 else 1) && ((s.pattern.owner? h).map (·.head)).getD h == h

/-- A write of LUT_PORT_DATA: the entry is stored, if the table has it, and INDEX moves on (R186). -/
def State.wroteLut (s : State) (h : Nat) (v : Word) : State :=
  let w := s.reg .LUT_PORT_ADDR h
  if s.lutPresent h (lutTable w) = false then s else
  let s1 := if lutLast (lutTable w) < fld w 0 16 then s
    else s.modHead h (fun q => { q with
      lut := mapSet 0 q.lut (lutKey (fld w 20 1) (lutTable w) (fld w 0 16)) (v.truncate 16) })
  s1.setReg .LUT_PORT_ADDR h 0 (lutNext w)

/-! ### Meanings -/

/-- CAST_ON (R147). -/
def execCastOn (h : Fin 8) (s : State) : Host.Outcome State Fault Refusal := .next (s.castOn h)

/-- GAUGE_BAND (R197). -/
def execGaugeBand (h : Fin 8) (band : Nat) (s : State) : Host.Outcome State Fault Refusal := .next (s.gaugeBand h band)

/-- LINE_CLOSE (R195). -/
def execLineClose (h : Fin 8) (line : Nat) (s : State) : Host.Outcome State Fault Refusal := .next (s.lineClose h line)

/-- LINE_COMPOSED (R194). -/
def execLineComposed (h : Fin 8) (line : LineDone) (s : State) : Host.Outcome State Fault Refusal :=
  .next (s.lineComposed h line.line line.bad)

/-- WITNESS_CRC_FINAL (R205). -/
def execWitnessCrcFinal (h : Fin 8) (s : State) : Host.Outcome State Fault Refusal := .next (s.witnessFinal h)

/-- HEAD_FAILURE (R207). -/
def execHeadFailure (h : Fin 8) (part : HeadPart) (s : State) : Host.Outcome State Fault Refusal :=
  .next (s.headFailure h (partCode part))

end Sys2Proof.Machine
end

