-- ==== Sys2Proof/Machine/Power.lean ====
section
/-! DEFINITION. Power supply and supervision (17). -/

namespace Sys2Proof.Machine

/-! ### The rails (R346, Table 17-1) -/

/-- Nominal voltage in mV. -/
def railNominal (r : Nat) : Nat :=
  [12000, 1800, 750, 900, 1100, 3300, 12000, 3300, 2500, 3300, 2500, 3300, 1200, 5000, 12000, 12000].getD r 0

/-- Boards: 0 main, 1 output, 2 input, 3 network, 4 standby, 5 accessory. DEDUCED, log 113. -/
def railBoard (r : Nat) : Nat := [0, 0, 0, 0, 0, 0, 1, 1, 1, 2, 2, 3, 3, 4, 5, 5].getD r 5

def boardRails (b : Nat) : List Nat := (List.range 13).filter (fun r => railBoard r == b)

def railGated (r : Nat) : Bool := [0, 6, 9, 11, 14, 15].contains r

/-- The feed of a board, its first rail (R355). -/
def boardFeed (b : Nat) : Nat := (boardRails b).headD 0

def State.railConfig (s : State) (r : Nat) : Word := s.reg .RAIL_CONFIG r
def State.onDelay (s : State) (r : Nat) : Nat := fld (s.reg .RAIL_SEQUENCE r) 0 8
def State.powerGoodOnly (s : State) (r : Nat) : Bool := bitAt (s.railConfig r) 2

/-- REACTION of a rail: fixed on rails 13 to 15 (R368), and 1 acts as 3 on rails 0 to 5 (Table 17-4). -/
def State.reaction (s : State) (r : Nat) : Nat :=
  if r = 13 then 0
  else if 14 ≤ r then 2
  else if fld (s.railConfig r) 0 2 = 1 ∧ r ≤ 5 then 3
  else fld (s.railConfig r) 0 2

/-- The rail is enabled: ramping, up or in warning. -/
def State.railOn (s : State) (r : Nat) : Bool := (1 ≤ (s.rail r).state) && ((s.rail r).state ≤ 3)

def State.boardHeld (s : State) (b : Nat) : Bool := 1 ≤ b && b ≤ 3 && s.power.boardsOff.getLsbD (b - 1)

/-- A start, or floor start, of the rails is under way. -/
def State.starting (s : State) : Bool := s.power.state == 1 || (s.power.state == 4 && s.boot.inReset)

/-- Every rail is being switched off. -/
def State.wholeOff (s : State) : Bool := s.power.offTable || !s.power.reverse.isEmpty

/-! ### The supervisor link (R361 to R363) -/

def linkSound (w : Word) : Bool := crc8 (bitsMsb 24 (fld w 8 24)) == fld w 0 8

def boardOf : Board → Nat
  | .output => 1
  | .input => 2
  | .network => 3

/-- A rail of another board is switched over the link. -/
def State.railWord (s : State) (r command : Nat) : State :=
  let b := railBoard r
  if 1 ≤ b ∧ b ≤ 3 then s.sendSlave b command (2 ^ (r - boardFeed b)) else s

/-! ### Switching rails -/

/-- Enable a rail: it ramps. -/
def State.railEnable (s : State) (r : Nat) : State :=
  (s.modRail r (fun q => { q with
    state := 1, uvRun := 0, ovRun := 0, uvWarnRun := 0, ovWarnRun := 0, uvWarned := false, ovWarned := false })).railWord r
    cmdEnable

/-- Switch a rail off, leaving it in a state; a main-board rail takes the main device with it. DEDUCED, log 104. -/
def State.railCut (s : State) (r st : Nat) : State :=
  let was := s.railOn r
  let s1 := s.modRail r (fun q => { q with state := st, pg := false, limiting := false })
  let s2 := if was then s1.railWord r cmdDisable else s1
  if r ≤ 5 ∧ was = true ∧ s.boot.inReset = false then s2.systemReset false else s2

/-- Every rail of the sequence is off. -/
def State.allOff (s : State) : Bool := (List.range 13).all (fun r => !s.railOn r && (s.rail r).state != 5)

/-- A switch-off ends when nothing is left on; a mains-loss shut-down ends a hold (R371, R384). -/
def State.endOff (s : State) : State :=
  if s.power.offTable = true ∧ s.allOff = true then
    (s.modPower (fun p => { p with offTable := false, state := 0 })).modBoot
      (fun b => { b with held := b.held && s.power.after != .mainsStart })
  else s

/-- An orderly shut-down starts: both accessory outputs go off at once (R357). -/
def State.startOff (s : State) (after : AfterOff) : State :=
  let s1 := s.modPower (fun p => { p with offTable := true, state := 3, after := after, reverse := [] })
  let idle := fun (s : State) (r : Nat) => s.modRail r (fun q => if q.state = 5 then { q with state := 0 } else q)
  ((List.range 13).foldl idle (s1.accOff)).endOff

/-! ### The first-failure record (R365) -/

def kindTimeout : Nat := 1
def kindGate : Nat := 2
def kindUv : Nat := 3
def kindOv : Nat := 4
def kindPg : Nat := 5
def kindOvercurrent : Nat := 6
def kindSlave : Nat := 7
def kindThermal : Nat := 8
def kindUvWarn : Nat := 9
def kindOvWarn : Nat := 10

def State.phase (s : State) : Nat := if s.starting then 0 else if s.power.state = 3 then 2 else 1

def State.firstFailure (s : State) (rail kind board mv : Nat) : State :=
  if s.power.first.isSome then s
  else s.modPower (fun p => { p with first := some ⟨rail, kind, board, p.pos, s.fcOf none, mv, s.phase⟩ })

/-- The record and event of a rail fault (R367). -/
def State.railReport (s : State) (r kind reaction mv : Nat) : State :=
  (s.psvRecord [(8, kind)] r).psvEvent 0xFA ([byteOf r, byteOf kind, byteOf reaction, 0] ++ leBytes 2 mv)

/-! ### Starting (R347 to R350) -/

def keepCounts (q : RailSt) : RailSt :=
  { (default : RailSt) with uvWarn := q.uvWarn, uvFault := q.uvFault, ovWarn := q.ovWarn, ovFault := q.ovFault, retry := q.retry }

def State.mains (s : State) : Bool :=
  !s.power.mainsDown && (List.range 2).any (fun i => mapGet default s.power.psus i == PsuCond.delivering)

/-- The common start: the system domain is reset and the sequence begins; boards that failed the poll of step 1 stay off (R377),
and any other start tries every board again (R375). -/
def State.beginStart (s : State) (floor : Bool) : State :=
  let again := s.boot.nextCause != 0 && !floor
  let (k, s1) := (s.systemReset false).takeFree
  let s2 := (List.range 13).foldl (fun s r => s.modRail r keepCounts) s1
  let s3 := if again then (List.range 3).foldl (fun s b => s.modSlave b (fun q => { q with state := 0, tries := 0 })) s2 else s2
  let off := if floor then 7 else if again then 0 else s.power.boardsOff
  (s3.holdBoards.modPower (fun p => { p with
    state := if floor then 4 else 1, boardsOff := off, after := .stay, pfw := false, reverse := [], offTable := false })).modBoot
    (fun b => { b with attempts := 0, bootTag := Config.freeBootTag k })

/-- START (R347). -/
def State.start (s : State) : State :=
  if s.power.standby && s.power.state == 0 && !s.power.latch && s.mains then s.beginStart false else s

/-- A rail's ON_DELAY has passed (R347, R355). -/
def State.enableTimer (s : State) (r : Nat) : State :=
  let feed := boardFeed (railBoard r)
  let fed := decide (s.power.state ≠ 2) || feed == r || (s.rail feed).state == 2 || (s.rail feed).state == 3
  let runs := s.power.state = 1 ∨ s.power.state = 2 ∨ (s.power.state = 4 ∧ r ≤ 5)
  if s.power.standby = true ∧ runs ∧ s.wholeOff = false ∧ s.boardHeld (railBoard r) = false ∧ (s.rail r).state = 0 ∧ fed = true
  then s.railEnable r else s

/-- Enabled rails in the reverse order of their ON_DELAY (R349). -/
def State.reverseOrder (s : State) : List Nat := (sortBy s.onDelay ((List.range 13).filter s.railOn)).reverse

/-- A start failure (R349, R350). The REACTION of its RAIL event is not stated (log 2). DEDUCED, log 115. -/
def State.startFailure (s : State) (r kind mv : Nat) : State :=
  let s1 := s.firstFailure r kind (railBoard r) mv
  let s2 := (s1.railReport r kind (Config.unstated 0xFA kind) mv).railCut r 4
  let off := s2.reverseOrder
  s2.modPower (fun p => { p with
    startFail := satInc p.startFail, latch := true, reverse := off
    after := if r ≤ 5 ∨ s.power.state = 4 then .stay else .floorStart
    state := if off.isEmpty then 0 else p.state })

/-- The rail is up (R347): 90 % of nominal, or its power-good input. -/
def State.railReached (s : State) (r : Nat) (g : RailReading) : Bool :=
  if s.powerGoodOnly r then g.powerGood else decide (railNominal r * 9 ≤ g.millivolts * 10)

def State.accLatch (s : State) (r : Nat) : State :=
  (s.modRail r (fun q => { q with state := 6 })).modPower
    (fun p => { p with accLatched := setBit 2 p.accLatched (r - 14) true })

/-- A board's rails are all up again: it is present (R356). -/
def State.boardBack (s : State) (b : Nat) : State :=
  if 1 ≤ b ∧ b ≤ 3 ∧ s.released = true ∧ s.boot.boardsUp.getLsbD (b - 1) = false ∧ s.boardHeld b = false ∧
      (boardRails b).all (fun r => s.railOn r && (s.rail r).state != 1) = true then
    let s1 := s.modBoot (fun q => { q with boardsUp := setBit 3 q.boardsUp (b - 1) true })
    let s2 := s1.modPower (fun p => { p with result := if p.result = 3 then 1 else p.result })
    s2.settlePorts s
  else s

/-- System reset reactions of the last 60 s are remembered (R354). DEDUCED, log 114. -/
def State.resetReaction (s : State) : State :=
  let now := s.time.tb.toNat
  let recent := s.power.resets.filter (fun t => decide (now - t ≤ minuteTicks)) ++ [now]
  let s1 := (s.modPower (fun p => { p with resets := recent, sysReset := satInc p.sysReset })).modBoot
    (fun b => { b with nextCause := 1 })
  if 3 ≤ recent.length then (s1.modPower (fun p => { p with latch := true })).startOff .stay else s1.startOff .fullStart

/-- The effects of a board's loss (R356). -/
def State.boardLost (s : State) (b : Nat) : State :=
  let s1 := s.modBoot (fun q => { q with boardsUp := setBit 3 q.boardsUp (b - 1) false })
  match b with
  | 1 => ((List.range 4).foldl (fun s p => s.modDp p (fun d => { d with hpd := false, sink := none })) s1).settlePorts s
  | 2 => (List.range 4).foldl (fun s i => s.sourceStops i) s1
  | _ => (List.range 2).foldl (fun s p => s.setLink p false) s1

/-- Shut down a group (Table 17-4): the main board's is the whole unit's, with the latch. -/
def State.shutGroup (s : State) (b : Nat) : State :=
  if b = 0 then (s.modPower (fun p => { p with latch := true })).startOff .stay
  else
    let s1 := s.modPower (fun p => { p with boardsOff := setBit 3 p.boardsOff (b - 1) true })
    let idle := fun (s : State) (r : Nat) => s.modRail r (fun q => if q.state = 5 then { q with state := 0 } else q)
    ((boardRails b).foldl idle s1).boardLost b

/-- TB counts in 10 s. -/
def tenSeconds : Nat := 1000000000

/-- Retries made without 10 s of fault-free running since (R354). -/
def State.retriesMade (s : State) (r : Nat) : Nat :=
  if s.time.tb.toNat - (s.rail r).lastRetry < tenSeconds then (s.rail r).retries else 0

/-- The reaction the next fault of a rail takes (Table 17-4). -/
def State.nextReaction (s : State) (r : Nat) : Nat :=
  if s.reaction r = 1 then
    (if s.retriesMade r < fld (s.railConfig r) 4 3 then 1 else 2)
  else s.reaction r

/-- Switch a rail off for 50 ms; a board feed takes the rails it feeds with it (R354, R355). -/
def State.retryOff (s : State) (r : Nat) : State :=
  let fed := if boardFeed (railBoard r) = r then (boardRails (railBoard r)).filter (· ≠ r) else []
  let n := s.retriesMade r + 1
  let s1 := (fed.filter s.railOn).foldl (fun s k => s.railCut k 0) (s.railCut r 5)
  s1.modRail r (fun q => { q with retries := n, retry := min 0xFFFF (q.retry + 1) })

/-- Take a reaction (Table 17-4). -/
def State.react (s : State) (r kind mv code : Nat) : State :=
  if 14 ≤ r then s.accLatch r
  else
    match code with
    | 0 => s
    | 1 => s.retryOff r
    | 2 => (s.firstFailure r kind (railBoard r) mv).shutGroup (railBoard r)
    | _ => (s.firstFailure r kind (railBoard r) mv).resetReaction

/-- An action on the rail's group is under way (R366). -/
def State.secondaryRail (s : State) (r : Nat) : Bool :=
  s.wholeOff || s.boardHeld (railBoard r) ||
    (decide (r ≤ 12) && (boardRails (railBoard r)).any (fun k => (s.rail k).state == 5))

def State.countFault (s : State) (r kind : Nat) : State :=
  s.modRail r (fun q => if kind = kindOv then { q with ovFault := min 0xFFFF (q.ovFault + 1) }
    else { q with uvFault := min 0xFFFF (q.uvFault + 1) })

/-- A fault is counted and reported (R354, R366, R367). -/
def State.noteFault (s : State) (f : Nat × Nat × Nat) : State :=
  let (r, kind, mv) := f
  let s1 := s.countFault r kind
  if s.secondaryRail r then s1.psvRecord [(8, kind)] r true else s1.railReport r kind (s.nextReaction r) mv

/-- A noted fault takes its reaction, unless one that came first covers it (R366). -/
def State.reactFault (s : State) (f : Nat × Nat × Nat) : State :=
  let (r, kind, mv) := f
  if s.secondaryRail r then s else s.react r kind mv (s.nextReaction r)

/-- Faults of one moment: noted by index, then reactions by severity (R366). DEDUCED, log 106. -/
def State.railFaults (s : State) (fs : List (Nat × Nat × Nat)) : State :=
  let live := fs.filter (fun f => !s.secondaryRail f.1)
  (sortBy (fun f => 3 - s.nextReaction f.1) live).foldl State.reactFault (fs.foldl State.noteFault s)

/-- A ramping rail has reached its level: it is up (R347). -/
def State.railRises (s : State) (r : Nat) : State :=
  (s.modRail r (fun q => { q with state := 2, lastRetry := s.time.tb.toNat })).boardBack (railBoard r)

/-- A rail's window closes (R347, R352, R354). -/
def State.windowCloses (s : State) (r : Nat) (g : RailReading) : State :=
  let s0 := s.modRail r (fun q => { q with mv := g.millivolts, pg := g.powerGood, limiting := g.limiting })
  if (s.rail r).state ≠ 1 then s0
  else if s.railReached r g then s0.railRises r
  else if 14 ≤ r then ((s0.countFault r kindUv).railReport r kindUv 2 g.millivolts).accLatch r
  else if s.starting then s0.startFailure r kindTimeout g.millivolts
  else s0.railFaults [(r, kindTimeout, g.millivolts)]

/-- A gate has held its limit for 1 ms (R352, R353): a start failure during a start, the latch-off of an accessory output,
and else a UV fault. -/
def State.gateLimit (s : State) (r : Nat) : State :=
  if railGated r = false ∨ s.railOn r = false then s
  else
    let s1 := s.modRail r (fun q => { q with limiting := true })
    let mv := (s.rail r).mv
    if 14 ≤ r then ((s1.countFault r kindUv).railReport r (if (s.rail r).state = 1 then kindGate else kindOvercurrent) 2 mv).accLatch r
    else if s.starting then s1.startFailure r kindGate mv
    else
      let s2 := s1.railFaults [(r, kindOvercurrent, mv)]
      if s2.railOn r then s2.railCut r 4 else s2

/-- The next rail of the reverse order goes off (R349). -/
def State.reverseStep (s : State) : State :=
  match s.power.reverse with
  | [] => s
  | r :: rest =>
    let s1 := s.railCut r 0
    s1.modPower (fun p => { p with reverse := rest, state := if rest.isEmpty then 0 else p.state })

/-- FLOOR_START (R350). -/
def State.floorStart (s : State) : State :=
  if s.power.standby && s.power.latch && s.power.state == 0 && s.power.after == .floorStart && s.mains then s.beginStart true
  else s

/-- Every rail that must be up is (R348). -/
def State.sequenceUp (s : State) : Bool :=
  let need := (List.range 13).filter (fun r => !s.boardHeld (railBoard r) && (s.power.state != 4 || decide (r ≤ 5)))
  need.all (fun r => (s.rail r).state == 2 || (s.rail r).state == 3)

/-- RESET_STRETCH ends: the system and board resets are released (R348, R374, R386). -/
def State.stretchEnds (s : State) : State :=
  if s.boot.inReset && !s.boot.held && !s.wholeOff && decide (s.power.state ∈ [1, 2, 4]) && s.sequenceUp then
    let up := ~~~s.power.boardsOff
    let s1 := s.modPower (fun p => { p with state := if p.state = 1 then 2 else p.state, result := if p.result = 3 then 1 else p.result })
    let s2 := s1.modBoot (fun b => { b with
      inReset := false, cause := b.nextCause, releaseTb := s.time.tb.toNat, boardsUp := up
      buttonFloor := b.buttonHeld, buttonHeld := false })
    (setBits 3 up.toNat).foldl (fun s b => s.sendSlave (b + 1) cmdBoardReset 0) s2
  else s

/-! ### Sampling (R353) -/

/-- A level's distance from nominal in mV, times 400. -/
def levelAt (r d : Nat) : Nat := railNominal r * d

/-- One rail's sample: its new state, warnings that fire and a fault that fires. DEDUCED, log 105. -/
def judge (r : Nat) (levels : Word) (pgOnly : Bool) (q : RailSt) (g : RailReading) : RailSt × List Nat × Option Nat :=
  let n := railNominal r
  let v := g.millivolts
  let low := 400 * (n - v)
  let high := 400 * (v - n)
  let uvW := fld levels 0 8
  let uvF := fld levels 8 8
  let ovW := fld levels 16 8
  let ovF := fld levels 24 8
  let run := fun (c : Bool) (k : Nat) => if c then min 4 (k + 1) else 0
  let uvC := if pgOnly then !g.powerGood else decide (levelAt r uvF < low)
  let ovC := !pgOnly && decide (levelAt r ovF < high)
  let uvWc := !pgOnly && decide (uvW < uvF) && decide (levelAt r uvW < low)
  let ovWc := !pgOnly && decide (ovW < ovF) && decide (levelAt r ovW < high)
  let uvRun := run uvC q.uvRun
  let ovRun := run ovC q.ovRun
  let uvWR := run uvWc q.uvWarnRun
  let ovWR := run ovWc q.ovWarnRun
  let uvFires := uvWR == 3 && !q.uvWarned
  let ovFires := ovWR == 3 && !q.ovWarned
  let uvWarned := uvFires || (q.uvWarned && decide (levelAt r uvW < low + 4 * n))
  let ovWarned := ovFires || (q.ovWarned && decide (levelAt r ovW < high + 4 * n))
  let q1 := { q with
    mv := v, pg := g.powerGood, limiting := g.limiting, uvRun := uvRun, ovRun := ovRun, uvWarnRun := uvWR, ovWarnRun := ovWR
    uvWarned := uvWarned, ovWarned := ovWarned, state := if uvWarned || ovWarned then 3 else 2
    uvWarn := if uvFires then min 0xFFFF (q.uvWarn + 1) else q.uvWarn
    ovWarn := if ovFires then min 0xFFFF (q.ovWarn + 1) else q.ovWarn }
  let above := railGated r && g.limiting && !q.limiting
  let fault := if above then some kindOvercurrent
    else if uvRun = 3 then some (if pgOnly then kindPg else kindUv)
    else if ovRun = 3 then some kindOv else none
  (q1, (if uvFires then [kindUvWarn] else []) ++ (if ovFires then [kindOvWarn] else []), fault)

/-- Sample one rail: one that ramps is up once it has reached its level (R347). Rails are judged only while they are up, and not
during a start (R354). -/
def State.sampleRail (a : State × List (Nat × Nat × Nat)) (x : Nat × RailReading) : State × List (Nat × Nat × Nat) :=
  let (s, fs) := a
  let (r, g) := x
  if s.starting = false ∧ ((s.rail r).state = 2 ∨ (s.rail r).state = 3) then
    let (q, warns, fault) := judge r (s.reg .RAIL_LEVELS r) (s.powerGoodOnly r) (s.rail r) g
    let s1 := s.modRail r (fun _ => q)
    let s2 := warns.foldl (fun s k =>
      s.psvEvent 0xFA ([byteOf r, byteOf k, 0, 0] ++ leBytes 2 g.millivolts)) s1
    (s2, fs ++ (fault.map (fun k => (r, k, g.millivolts))).toList)
  else
    let s0 := s.modRail r (fun q => { q with mv := g.millivolts, pg := g.powerGood, limiting := g.limiting })
    (if (s.rail r).state = 1 ∧ s.railReached r g = true then s0.railRises r else s0, fs)

/-- In a mains-loss shut-down the fall of 12V_MAIN switches everything off (R357). -/
def State.mainsCollapse (s : State) : State :=
  if s.power.offTable = true ∧ s.power.after = .mainsStart ∧ 3 ≤ (s.rail 0).uvRun then
    ((List.range 13).foldl (fun s r => if s.railOn r then s.railCut r 0 else s) s).endOff
  else s

/-- A gate that held its limit is switched off at once (R353). -/
def State.cutLimited (s : State) (f : Nat × Nat × Nat) : State :=
  if f.2.1 = kindOvercurrent ∧ s.railOn f.1 = true then s.railCut f.1 4 else s

/-- RAIL_SAMPLE (R353, R354, R366). -/
def State.samples (s : State) (gs : List RailReading) : State :=
  if s.power.standby then
    let (s1, fs) := ((List.range 16).zip gs).foldl State.sampleRail (s, [])
    (fs.foldl State.cutLimited (s1.railFaults fs)).mainsCollapse
  else s

/-- RETRY_TIMER (R354). -/
def State.retryTimer (s : State) (r : Nat) : State :=
  if (s.rail r).state = 5 ∧ s.wholeOff = false ∧ s.boardHeld (railBoard r) = false then s.railEnable r else s

/-- RESET_SYSTEM_TIMER (R354). -/
def State.resetTimer (s : State) : State := if s.power.after = .fullStart then s.start else s

/-- OFF_TABLE_STEP (R357), and a group's own order (Table 17-4). -/
def State.offStep (s : State) (r : Nat) : State :=
  if (s.power.offTable || s.boardHeld (railBoard r)) && decide (r ≤ 12) && s.railOn r then (s.railCut r 0).endOff else s.endOff

/-! ### Modules, mains and heat (R345, R358, R360) -/

def psuCode : PsuCond → Nat
  | .delivering => 0
  | .noMains => 1
  | .faulted => 2
  | .absent => 3

/-- PSU_CHANGE (R345): the kind of the record is not stated (log 2). DESIGN CHOICE, log 112. -/
def State.psuChange (s : State) (i : Nat) (c : PsuCond) : State :=
  if mapGet default s.power.psus i = c then s
  else
    let s1 := s.modPower (fun p => { p with psus := mapSet default p.psus i c })
    let s2 := if c = .delivering then s1 else s1.psvRecordOpen [(8, Config.unstated 0xF8 i)]
    s2.psvEvent 0xF8 [byteOf i, byteOf (psuCode c)]

/-- AC_FAIL (R358). DEDUCED, log 107. -/
def State.acFail (s : State) : State :=
  let s1 := s.modPower (fun p => { p with mainsDown := true })
  if s.power.standby = true ∧ s.power.state = 0 ∧ s.power.after = .fullStart then
    (s1.modPower (fun p => { p with after := .mainsStart })).modBoot (fun b => { b with nextCause := 5 })
  else if s.power.standby = false ∨ s.power.state = 0 ∨ s.power.pfw = true then s1
  else
    let s2 := (((s1.modPower (fun p => { p with pfw := true })).modBoot (fun b => { b with nextCause := 5 })).psvRecordOpen
      [(8, Config.unstated 0xF9 0)]).psvEvent 0xF9 [1]
    if s.starting then s2.startOff .mainsStart else s2

/-- PFW_DELAY_EXPIRY (R358). -/
def State.pfwExpiry (s : State) : State :=
  if s.power.pfw = true ∧ s.power.mainsDown = true ∧ s.power.state ≠ 0 ∧ s.power.after ≠ .mainsStart then
    let s1 := (s.modPower (fun p => { p with mainsLoss := satInc p.mainsLoss })).psvEvent 0xF9 [2]
    s1.startOff .mainsStart
  else s

/-- MAINS_RETURN (R358). -/
def State.mainsReturn (s : State) : State :=
  let s1 := s.modPower (fun p => { p with mainsDown := false })
  if s.power.pfw = true ∧ s.power.after ≠ .mainsStart then
    ((s1.modPower (fun p => { p with pfw := false, pfwCount := satInc p.pfwCount })).modBoot
      (fun b => { b with nextCause := b.cause })).psvEvent 0xF9 [0]
  else if s.power.after = .mainsStart then s1.start
  else s1

/-- A thermal warning (R360). -/
def State.thermalWarn (s : State) (t : Byte) : State :=
  (s.psvRecordOpen [(8, kindThermal)]).psvEvent 0xFC [1, t]

/-- A thermal trip (R360): the RAIL and BOARD of its first-failure record are not stated (log 2).
DEDUCED, log 108. -/
def State.thermalTripped (s : State) (t : Byte) : State :=
  if s.power.state = 0 ∨ s.power.thermal = true then s
  else
    let s1 := s.firstFailure (Config.unstated 0x365 0) kindThermal (Config.unstated 0x365 1) 0
    let s2 := (s1.psvRecordOpen [(8, kindThermal)]).psvEvent 0xFC [2, t]
    (s2.modPower (fun p => { p with trips := satInc p.trips, thermal := true, latch := true })).startOff .thermalStart

/-- The main board starts into floor mode after a trip (R360). RESET_CAUSE of this start is not stated (log 2). -/
def State.thermalRestart (s : State) : State :=
  if s.power.standby && s.power.state == 0 && s.power.after == .thermalStart && s.mains then
    let s1 := s.psvEvent 0xFC [0, byteOf (Config.measured 0x360 0 s.time.tb.toNat)]
    (s1.modBoot (fun b => { b with nextCause := Config.unstated 0x389 0 % 8 })).beginStart true
  else s

/-! ### Slaves -/

/-- A slave is treated as failed: the record, the event and SLAVE_POLICY of its board (R362). -/
def State.slaveFails (s : State) (b : Nat) : State :=
  let s1 := s.modSlave (b - 1) (fun q => { q with state := 2 })
  let s2 := (s1.firstFailure 0xFE kindSlave b 0).psvRecord [(8, kindSlave)] b
  let s3 := s2.psvEvent 0xFB [byteOf b, 1]
  if s.power.state = 0 ∨ s.wholeOff = true then
    s3.modPower (fun p => { p with boardsOff := setBit 3 p.boardsOff (b - 1) true })
  else if fld (s.reg .PSV_CONTROL) (14 + 2 * b) 2 = 1 then s3.resetReaction
  else s3.shutGroup b

/-- What a sound reply tells the master: power-good inputs and gates of a NOP, a voltage of a MEASURE (Table 17-7). -/
def State.takeReply (s : State) (b : Nat) (sent w : Word) : State :=
  let first := boardFeed b
  match fld w 24 8 with
  | 0 => (boardRails b).foldl (fun s r => s.modRail r (fun q => { q with
      pg := bitAt w (8 + (r - first)), limiting := bitAt w (16 + (r - first)) })) s
  | 3 =>
    let r := first + fld sent 8 16
    if (boardRails b).contains r then s.modRail r (fun q => { q with mv := fld w 8 16 }) else s
  | _ => s

/-- A failed exchange (R362): ERROR 2 and a bad CRC count as CRC errors, the others as framing errors.
DEDUCED, log 111. -/
def State.badReply (s : State) (b : Nat) (w : Word) : State :=
  let q := s.slave (b - 1)
  let isCrc := !linkSound w || (fld w 24 8 == cmdError && fld w 8 16 == 2)
  let count := fun (q : SlaveSt) => if isCrc then { q with crc := min 0xFF (q.crc + 1) }
    else { q with framing := min 0xFF (q.framing + 1) }
  if 3 ≤ q.tries then (s.modSlave (b - 1) count).slaveFails b
  else
    let s1 := s.modSlave (b - 1) (fun q => { count q with
      state := 1, tries := q.tries + 1, retry := min 0xFF (q.retry + 1) })
    (s1.send (.supervisor (boardName b) q.lastWord)).psvEvent 0xFB [byteOf b, 0]

/-- SUPERVISOR_REPLY (R362). -/
def State.slaveReply (s : State) (b : Nat) (w : Word) : State :=
  let q := s.slave (b - 1)
  if q.state = 2 ∨ s.power.standby = false then s
  else if linkSound w = true ∧ fld w 24 8 = fld q.lastWord 24 8 then
    (s.modSlave (b - 1) (fun q => { q with state := 0, tries := 0 })).takeReply b q.lastWord w
  else s.badReply b w

/-- The slave's own action and its reply (Table 17-7); a rail number beyond the board measures a free value (log 2).
DEDUCED, log 117. -/
def State.slaveActs (s : State) (b : Nat) (w : Word) : SlaveSt × Word :=
  let q := s.slave (b - 1)
  let data := fld w 8 16
  let first := boardFeed b
  let mask := 2 ^ (boardRails b).length
  match fld w 24 8 with
  | 0 =>
    let pg := flagBits ((boardRails b).map (fun r => (s.rail r).pg))
    let lim := flagBits ((boardRails b).map (fun r => (s.rail r).limiting))
    (q, linkWord cmdNop (pg + 256 * lim))
  | 1 =>
    let q1 := { q with rails := q.rails ||| BitVec.ofNat 4 (data % mask) }
    (q1, linkWord cmdEnable q1.rails.toNat)
  | 2 =>
    let q1 := { q with rails := q.rails &&& ~~~ (BitVec.ofNat 4 (data % mask)) }
    (q1, linkWord cmdDisable q1.rails.toNat)
  | 3 =>
    let r := first + data
    (q, linkWord cmdMeasure (if (boardRails b).contains r then (s.rail r).mv else Config.unstated 0x361 data))
  | 4 => ({ q with ramp := BitVec.ofNat 6 data }, linkWord cmdGate data)
  | 5 => ({ q with inReset := natBit data 0 }, linkWord cmdBoardReset data)
  | _ => (q, linkWord cmdError 3)

/-- SLAVE_WORD (R361, R362): the reply to a word goes out during the next word. -/
def State.slaveHears (s : State) (b : Nat) (w : Word) (edges : Nat) : State :=
  let q := s.slave (b - 1)
  let (q1, reply) := if edges ≠ 32 then (q, linkWord cmdError 1)
    else if linkSound w = false then (q, linkWord cmdError 2) else s.slaveActs b w
  (s.send (.slaveReply (boardName b) q.reply)).modSlave (b - 1) (fun _ => { q1 with reply := reply })

/-- SLAVE_WATCHDOG (R363): the board's rails go off, and with them their power-good inputs. -/
def State.slaveSilent (s : State) (b : Nat) : State :=
  (boardRails b).foldl (fun s r => s.modRail r (fun q => { q with pg := false, limiting := false }))
    (s.modSlave (b - 1) (fun q => { q with rails := 0 }))

/-! ### Standby (R373, R376, R377) -/

/-- STBY_5V reaches regulation: TB starts at 0, the settings are read and the slaves polled. -/
def State.standbyUp (s : State) (answering : BitVec 3) : State :=
  if s.power.standby then s
  else
    let s1 := s.modPower (fun p => { p with standby := true, state := 0, mainsDown := false })
    let s2 := { s1 with time := { s1.time with tb := 0, lfclk := true, lfAcc := 0 } }
    let s3 := s2.modBoot (fun b => { b with buttonHeld := s.chassis.button, nextCause := 0 })
    let s4 := s3.modRail 13 (fun q => { q with state := 2 })
    (List.range 3).foldl (fun s b => if answering.getLsbD b then s.sendSlave (b + 1) cmdNop 0 else s.slaveFails (b + 1)) s4

/-- STBY_5V is lost: the standby domain resets, but for what FRAM and the settings keep (R351, R373). -/
def State.standbyLost (s : State) : State :=
  let s1 := s.systemReset false
  let f := s.power.fram
  let kept : PowerSt := { (default : PowerSt) with
    rails := (List.range 16).foldl (fun m r => mapSet default m r (keepCounts (mapGet default f.rails r))) []
    psus := s.power.psus, pos := f.pos, mainsLoss := f.mainsLoss, startFail := f.startFail
    sysReset := f.sysReset, pfwCount := f.pfwCount, trips := f.trips, first := f.first }
  { s1 with power := kept, regs := s.nv, time := { s1.time with tb := 0, lfclk := false, lfAcc := 0 },
            boot := { (default : BootSt) with inReset := true } }

/-- The FRAM cannot be written: it keeps what it holds, and one record says so. The record's fields are not stated (log 2). -/
def State.framFails (s : State) : State :=
  if s.power.framFault.isSome then s
  else (s.modPower (fun p => { p with framFault := some p.toFram })).psvRecordOpen [(8, Config.unstated 0x364 0)]

/-- POS_TICK (R364): the second is counted, and its write to the FRAM succeeds or fails, a free value. DESIGN CHOICE, log
157. -/
def State.posTick (s : State) : State :=
  if (s.rail 0).state = 2 ∨ (s.rail 0).state = 3 then
    let (k, s1) := s.takeFree
    (if Config.framWrites k then s1 else s1.framFails).modPower (fun p => { p with pos := wordOf (satInc p.pos.toNat) })
  else s

/-! ### Commands of PSV_COMMAND and ACC_CONTROL (R351, R355, R368) -/

def psvDone : Nat := 1
def psvRefused : Nat := 2
def psvBusy : Nat := 3

def State.psvResult (s : State) (n : Nat) : State := s.modPower (fun p => { p with result := n })

/-- CLEAR_LATCH, accepted from USB only (R351). DEDUCED, log 109. -/
def State.psvClearLatch (s : State) (usb : Bool) : State :=
  if usb then
    let s1 := (s.modPower (fun p => { p with latch := false, thermal := false, result := psvBusy })).modBoot
      (fun b => { b with nextCause := 2 })
    s1.startOff .fullStart
  else s.psvResult psvRefused

def State.psvClearRecord (s : State) : State := s.modPower (fun p => { p with first := none, result := psvDone })

def State.psvClearCounters (s : State) : State :=
  let zero := fun (q : RailSt) => { q with uvWarn := 0, uvFault := 0, ovWarn := 0, ovFault := 0, retry := 0 }
  ((List.range 16).foldl (fun s r => s.modRail r zero) s).psvResult psvDone

/-- RESTART_GROUP (R355, R363): refused for no board, under the latch, and during a switch-off; nothing to do on a board not held off.
DEDUCED, log 110. -/
def State.psvRestartGroup (s : State) (b : Nat) : State :=
  if b = 0 ∨ s.power.latch = true ∨ s.wholeOff = true then s.psvResult psvRefused
  else if s.boardHeld b = false then s.psvResult psvDone
  else
    let s1 := if (s.slave (b - 1)).state = 2 then
        (s.modSlave (b - 1) (fun q => { q with state := 0, tries := 0 })).psvEvent 0xFB [byteOf b, 2]
      else s
    let s2 := s1.modPower (fun p => { p with boardsOff := setBit 3 p.boardsOff (b - 1) false, result := psvBusy })
    let off := fun (s : State) (r : Nat) => (if s.railOn r then s.railCut r 0 else s).modRail r (fun q => { q with state := 0, retries := 0 })
    ((boardRails b).foldl off s2).railEnable (boardFeed b)

/-- PSV_COMMAND's code starts its command; any other code starts none (R368). -/
def State.psvCommand (s : State) (usb : Bool) (v : Word) : State :=
  match fld v 0 4 with
  | 1 => s.psvClearLatch usb
  | 2 => s.psvClearRecord
  | 3 => s.psvClearCounters
  | 4 => s.psvRestartGroup (fld v 8 2)
  | _ => s

/-- The accessory outputs follow ACC_CONTROL while MODE is 2 or 3 (R352, R368). -/
def State.settleAcc (s : State) : State :=
  let one := fun (s : State) (k : Nat) =>
    let want := decide (2 ≤ s.mode) && bitAt (s.reg .ACC_CONTROL) k
    if want = false then s.modRail (14 + k) (fun q => if q.state = 6 then q else { q with state := 0 })
    else if (s.rail (14 + k)).state = 0 then s.railEnable (14 + k)
    else s
  (List.range 2).foldl one s

/-- A write of ACC_CONTROL: ENABLE from 0 to 1 ends a latch-off (R352). -/
def State.wroteAcc (s : State) (old v : Word) : State :=
  let clear := fun (s : State) (k : Nat) =>
    if bitAt v k && !bitAt old k && s.power.accLatched.getLsbD k then
      (s.modRail (14 + k) (fun q => { q with state := 0 })).modPower (fun p => { p with accLatched := setBit 2 p.accLatched k false })
    else s
  ((List.range 2).foldl clear s).settleAcc

/-! ### Meanings -/

/-- STANDBY_UP (R376, R377). -/
def execStandbyUp (answering : BitVec 3) (s : State) : Host.Outcome State Fault Refusal := .next (s.standbyUp answering)

/-- STANDBY_LOST (R351, R373). -/
def execStandbyLost (s : State) : Host.Outcome State Fault Refusal := .next s.standbyLost

/-- START (R347). -/
def execStart (s : State) : Host.Outcome State Fault Refusal := .next s.start

/-- RAIL_ENABLE_TIMER (R347). -/
def execRailEnableTimer (r : Fin 13) (s : State) : Host.Outcome State Fault Refusal := .next (s.enableTimer r)

/-- RAIL_WINDOW_EXPIRY (R347, R349). -/
def execRailWindowExpiry (r : Fin 16) (reading : RailReading) (s : State) : Host.Outcome State Fault Refusal :=
  .next (s.windowCloses r reading)

/-- REVERSE_OFF_STEP (R349). -/
def execReverseOffStep (s : State) : Host.Outcome State Fault Refusal := .next s.reverseStep

/-- FLOOR_START (R350). -/
def execFloorStart (s : State) : Host.Outcome State Fault Refusal := .next s.floorStart

/-- RESET_STRETCH_END (R348). -/
def execResetStretchEnd (s : State) : Host.Outcome State Fault Refusal := .next s.stretchEnds

/-- GATE_CURRENT_LIMIT (R352, R353). -/
def execGateCurrentLimit (r : Fin 16) (s : State) : Host.Outcome State Fault Refusal := .next (s.gateLimit r)

/-- RAIL_SAMPLE (R353, R354). -/
def execRailSample (readings : List RailReading) (s : State) : Host.Outcome State Fault Refusal := .next (s.samples readings)

/-- RETRY_TIMER (R354). -/
def execRetryTimer (r : Fin 13) (s : State) : Host.Outcome State Fault Refusal := .next (s.retryTimer r)

/-- RESET_SYSTEM_TIMER (R354). -/
def execResetSystemTimer (s : State) : Host.Outcome State Fault Refusal := .next s.resetTimer

/-- OFF_TABLE_STEP (R357). -/
def execOffTableStep (r : Fin 16) (s : State) : Host.Outcome State Fault Refusal := .next (s.offStep r)

/-- PSU_CHANGE (R345). -/
def execPsuChange (i : Fin 2) (cond : PsuCond) (s : State) : Host.Outcome State Fault Refusal := .next (s.psuChange i cond)

/-- AC_FAIL (R358). -/
def execAcFail (s : State) : Host.Outcome State Fault Refusal := .next s.acFail

/-- PFW_DELAY_EXPIRY (R358). -/
def execPfwDelayExpiry (s : State) : Host.Outcome State Fault Refusal := .next s.pfwExpiry

/-- MAINS_RETURN (R358). -/
def execMainsReturn (s : State) : Host.Outcome State Fault Refusal := .next s.mainsReturn

/-- THERMAL_WARNING (R360). -/
def execThermalWarning (temperature : Byte) (s : State) : Host.Outcome State Fault Refusal := .next (s.thermalWarn temperature)

/-- THERMAL_TRIP (R360). -/
def execThermalTrip (temperature : Byte) (s : State) : Host.Outcome State Fault Refusal := .next (s.thermalTripped temperature)

/-- THERMAL_RESTART (R360). -/
def execThermalRestart (s : State) : Host.Outcome State Fault Refusal := .next s.thermalRestart

/-- SUPERVISOR_POLL (R361). -/
def execSupervisorPoll (b : Board) (command : Byte) (data : BitVec 16) (s : State) : Host.Outcome State Fault Refusal :=
  .next (s.sendSlave (boardOf b) command.toNat data.toNat)

/-- SUPERVISOR_REPLY (R362). -/
def execSupervisorReply (b : Board) (word : Word) (s : State) : Host.Outcome State Fault Refusal :=
  .next (s.slaveReply (boardOf b) word)

/-- SLAVE_WORD (R361, R362). -/
def execSlaveWord (b : Board) (word : Word) (edges : Nat) (s : State) : Host.Outcome State Fault Refusal :=
  .next (s.slaveHears (boardOf b) word edges)

/-- SLAVE_WATCHDOG (R363). -/
def execSlaveWatchdog (b : Board) (s : State) : Host.Outcome State Fault Refusal := .next (s.slaveSilent (boardOf b))

/-- POS_TICK (R364). -/
def execPosTick (s : State) : Host.Outcome State Fault Refusal := .next s.posTick

end Sys2Proof.Machine
end

