-- ==== Sys2Proof/Machine/Raster.lean ====
section
/-! DEFINITION. The raster engine (10): jobs, binning, bin overflow, tile passes, signatures, cores and throttle. -/

namespace Sys2Proof.Machine

/-! ### Vertices and triangles (R212, R214) -/

/-- The value of a vertex field. -/
def single (w : Word) : Rat := (singleVal w).getD (Config.oddSingle w)

def vertexOf (b : List Byte) : Vertex where
  x := wordOf (leAt b 0 4)
  y := wordOf (leAt b 4 4)
  z := wordOf (leAt b 8 4)
  u := wordOf (leAt b 12 4)
  v := wordOf (leAt b 16 4)
  r := b.getD 20 0
  g := b.getD 21 0
  b := b.getD 22 0
  a := b.getD 23 0

/-- Twice the signed area of p, q, r with y downwards. -/
def cross (p q r : Rat × Rat) : Rat := (q.1 - p.1) * (r.2 - p.2) - (q.2 - p.2) * (r.1 - p.1)

def Vertex.pos (v : Vertex) : Rat × Rat := (single v.x, single v.y)

/-- A point inside an edge of a triangle walked with its interior on the right: on the edge itself only for a top
or left edge (R214). `e` is the edge function, `d` the edge's direction. -/
def insideEdge (e : Rat) (d : Rat × Rat) : Bool := decide (0 < e) || (decide (e = 0) && (decide (d.2 < 0) || (decide (d.2 = 0) && decide (0 < d.1))))

/-- The barycentric weights of the centre of pixel (x, y), inside the triangle or not. -/
def Tri.bary (t : Tri) (x y : Rat) : Rat × Rat × Rat :=
  let a := t.v0.pos
  let b := t.v1.pos
  let c := t.v2.pos
  let p : Rat × Rat := (x + 1 / 2, y + 1 / 2)
  let area := cross a b c
  (cross b c p / area, cross c a p / area, cross a b p / area)

/-- The barycentric weights of pixel (x, y)'s centre, when it belongs to the triangle (R214). -/
def Tri.weights (t : Tri) (x y : Nat) : Option (Rat × Rat × Rat) :=
  let a := t.v0.pos
  let b := t.v1.pos
  let c := t.v2.pos
  let p : Rat × Rat := ((x : Rat) + 1 / 2, (y : Rat) + 1 / 2)
  let area := cross a b c
  let sg : Rat := if area < 0 then -1 else 1
  let dir := fun (m n : Rat × Rat) => (sg * (n.1 - m.1), sg * (n.2 - m.2))
  let e0 := sg * cross b c p
  let e1 := sg * cross c a p
  let e2 := sg * cross a b p
  if area ≠ 0 ∧ insideEdge e0 (dir b c) = true ∧ insideEdge e1 (dir c a) = true ∧ insideEdge e2 (dir a b) = true
  then some (e0 / (sg * area), e1 / (sg * area), e2 / (sg * area))
  else none

def mix (w : Rat × Rat × Rat) (a b c : Rat) : Rat := w.1 * a + w.2.1 * b + w.2.2 * c

def Tri.depthAt (t : Tri) (w : Rat × Rat × Rat) : Rat := mix w (single t.v0.z) (single t.v1.z) (single t.v2.z)

def min3 (a b c : Rat) : Rat := min a (min b c)
def max3 (a b c : Rat) : Rat := max a (max b c)

/-! ### Tiles (R213, R218) -/

def ReTarget.cols (t : ReTarget) : Nat := ceilDiv t.width 32
def ReTarget.rows (t : ReTarget) : Nat := ceilDiv t.height 32
def ReTarget.tiles (t : ReTarget) : Nat := t.cols * t.rows

/-- Tile range, from first to last, that an extent along one axis touches. -/
def tileRange (lo hi : Rat) (n : Nat) : List Nat :=
  (List.range n).filter (fun k => decide (((32 * k : Nat) : Rat) ≤ hi) && decide (lo < ((32 * (k + 1) : Nat) : Rat)))

/-- Tiles that the triangle's bounding box touches (R213). -/
def Tri.tiles (t : Tri) (g : ReTarget) : List Nat :=
  let a := t.v0.pos
  let b := t.v1.pos
  let c := t.v2.pos
  (tileRange (min3 a.2 b.2 c.2) (max3 a.2 b.2 c.2) g.rows).flatMap (fun ty =>
    (tileRange (min3 a.1 b.1 c.1) (max3 a.1 b.1 c.1) g.cols).map (fun tx => ty * g.cols + tx))

/-- Pixels of a tile in row order. -/
def ReTarget.tilePixels (g : ReTarget) (i : Nat) : List (Nat × Nat) :=
  let x := 32 * (i % g.cols)
  let y := 32 * (i / g.cols)
  (List.range (min 32 (g.height - y))).flatMap (fun r => (List.range (min 32 (g.width - x))).map (fun c => (x + c, y + r)))

/-- Bytes of a pixel (Table 7-1, codes 0, 1, 2 and 7). -/
def rasterBpp (fmt : Nat) : Nat :=
  match fmt with
  | 2 => 8
  | 7 => 1
  | _ => 4

/-- A pixel from its bytes (Table 7-1). -/
def rasterDecode (fmt : Nat) (bs : List Byte) : Sample :=
  let n := leNat bs
  match fmt with
  | 0 => ⟨norm 8 (n % 256), norm 8 (n / 256 % 256), norm 8 (n / 65536 % 256), norm 8 (n / 16777216 % 256)⟩
  | 1 => ⟨norm 10 (n % 1024), norm 10 (n / 1024 % 1024), norm 10 (n / 1048576 % 1024), norm 2 (n / 1073741824 % 4)⟩
  | 2 => ⟨halfVal (BitVec.ofNat 16 n), halfVal (BitVec.ofNat 16 (n / 65536)), halfVal (BitVec.ofNat 16 (n / 2 ^ 32)),
      halfVal (BitVec.ofNat 16 (n / 2 ^ 48))⟩
  | _ => ⟨norm 8 (n % 256), norm 8 (n % 256), norm 8 (n % 256), 1⟩

def quantise (n : Nat) (q : Rat) : Nat := roundUp (clampRat 0 1 q * ((2 ^ n - 1 : Nat) : Rat))

/-- A pixel's bytes in the target format: clamped and rounded for the integer formats (R215).
DESIGN CHOICE, log 23. -/
def rasterEncode (fmt : Nat) (p : Sample) : List Byte :=
  match fmt with
  | 0 => [byteOf (quantise 8 p.c0), byteOf (quantise 8 p.c1), byteOf (quantise 8 p.c2), byteOf (quantise 8 p.a)]
  | 1 => leBytes 4 (quantise 10 p.c0 + 1024 * quantise 10 p.c1 + 1048576 * quantise 10 p.c2 + 1073741824 * quantise 2 p.a)
  | 2 => [p.c0, p.c1, p.c2, p.a].flatMap (fun c => leBytes 2 (halfOf c).toNat)
  | _ => [Config.rasterLuma p.c0 p.c1 p.c2 p.a]

/-! ### Shading (R211, R215, R222) -/

/-- Base, pitch, width and height of a texture's level (R211). -/
def ReTexture.level (t : ReTexture) : Nat → Nat × Nat × Nat × Nat
  | 0 => (t.base, t.pitch, t.width, t.height)
  | m + 1 =>
    let (b, p, _, h) := t.level m
    let w := max 1 (t.width / 2 ^ (m + 1))
    (b + p * h, 256 * ceilDiv (rowBytes t.format w) 256, w, max 1 (t.height / 2 ^ (m + 1)))

/-- A texel coordinate, repeated or clamped. -/
def wrapTexel (wrap : Bool) (n : Nat) (i : Int) : Nat :=
  if wrap then (i % (n : Int)).toNat else if i < 0 then 0 else min i.toNat (n - 1)

/-- One texel read: its value, and the address when it fails (R222). -/
def State.texel (s : State) (t : ReTexture) (m : Nat) (x y : Int) : Sample × List Nat :=
  let (b, p, w, h) := t.level (min m (t.levels - 1))
  let n := rasterBpp t.format
  let a := b + p * wrapTexel (natBit t.wrap 1) h y + n * wrapTexel (natBit t.wrap 0) w x
  match s.storeRead a n with
  | .ok bs => (rasterDecode t.format bs, [])
  | .error e => (⟨0, 0, 0, 0⟩, [e.1])

/-- The four texels about a point of level 0, whose centres lie at half-integers, with bilinear weights. DEDUCED, log 148. -/
def bilinearTaps (w h : Nat) (uv : Rat × Rat) : List (Nat × Int × Int × Rat) :=
  let x := uv.1 * (w : Rat) - 1 / 2
  let y := uv.2 * (h : Rat) - 1 / 2
  let i := x.floor
  let j := y.floor
  let f := x - (i : Rat)
  let g := y - (j : Rat)
  [(0, i, j, (1 - f) * (1 - g)), (0, i + 1, j, f * (1 - g)), (0, i, j + 1, (1 - f) * g), (0, i + 1, j + 1, f * g)]

/-- A texture filtered at a point, whose pixel has the given footprint (R215, R216). -/
def State.sampleTexture (s : State) (t : ReTexture) (uv : Rat × Rat) (foot : (Rat × Rat) × (Rat × Rat)) : Sample × List Nat :=
  let taps := if t.filter = 0 then bilinearTaps t.width t.height uv
    else Config.textureTaps t.filter t.aniso t.levels t.width t.height uv foot
  taps.foldl (fun acc tap =>
    let q := s.texel t tap.1 tap.2.1 tap.2.2.1
    (acc.1.add (q.1.scale tap.2.2.2), acc.2 ++ q.2)) (⟨0, 0, 0, 0⟩, [])

/-- A fragment's colour (R215) at pixel (x, y), with the texel reads that failed. -/
def State.shade (s : State) (x y : Nat) (t : Tri) (w : Rat × Rat × Rat) : Sample × List Nat :=
  let f := fun (g : Vertex → Byte) => mix w (norm 8 (g t.v0).toNat) (norm 8 (g t.v1).toNat) (norm 8 (g t.v2).toNat)
  let v : Sample := ⟨f (·.r), f (·.g), f (·.b), f (·.a)⟩
  match t.texture with
  | none => (v, [])
  | some tex =>
    let at' := fun (w : Rat × Rat × Rat) =>
      (mix w (single t.v0.u) (single t.v1.u) (single t.v2.u), mix w (single t.v0.v) (single t.v1.v) (single t.v2.v))
    let step := fun (dx dy : Rat) =>
      let q := at' (t.bary ((x : Rat) + dx) ((y : Rat) + dy))
      (q.1 - (at' w).1, q.2 - (at' w).2)
    let q := s.sampleTexture tex (at' w) (step 1 0, step 0 1)
    (⟨v.c0 * q.1.c0, v.c1 * q.1.c1, v.c2 * q.1.c2, v.a * q.1.a⟩, q.2)

/-- The opaque triangle a pixel keeps: least depth, the later of equals, no deeper than a saved depth (R214, R219). -/
def opaqueAt (tris : List Tri) (saved : Option Rat) (x y : Nat) : Option Rat × Option (Tri × (Rat × Rat × Rat)) :=
  tris.foldl (fun best t =>
    if t.blend ≠ 0 then best
    else
      match t.weights x y with
      | none => best
      | some w =>
        let z := t.depthAt w
        match best.1 with
        | none => (some z, some (t, w))
        | some b => if z ≤ b then (some z, some (t, w)) else best) (saved, none)

/-- The OVER and ADD fragments a pixel keeps, in submission order (R214). -/
def blendedAt (tris : List Tri) (depth : Option Rat) (x y : Nat) : List (Tri × (Rat × Rat × Rat)) :=
  tris.filterMap (fun t =>
    if t.blend = 0 then none
    else
      match t.weights x y, depth with
      | some w, some z => if t.depthAt w ≤ z then some (t, w) else none
      | some w, none => some (t, w)
      | none, _ => none)

/-- Fragments a tile shades, in passes of 4096 (R216). -/
def tilePasses (k : ReContext) (g : ReTarget) (i : Nat) : Nat :=
  let n := sumOf ((g.tilePixels i).map (fun p =>
    let o := opaqueAt k.tris (mapGet none k.depth (p.2 * g.width + p.1)) p.1 p.2
    (if o.2.isSome then 1 else 0) + (blendedAt k.tris o.1 p.1 p.2).length))
  max 1 (ceilDiv n 4096)
where
  sumOf (l : List Nat) : Nat := l.foldl (· + ·) 0

/-- Address of a target pixel. -/
def ReTarget.pixelAddr (g : ReTarget) (x y : Nat) : Nat := g.base + g.pitch * y + rasterBpp g.format * x

/-- What a pixel starts from: CLEAR_RGBA, or the target's contents, which a failed read leaves open (R215, log 2).
DESIGN CHOICE, log 28. -/
def State.startColour (s : State) (k : ReContext) (g : ReTarget) (i free x y : Nat) : Sample :=
  if natBit g.flags 0 && !k.partialTiles.contains i then
    ⟨halfVal (g.clear.getD 0 0), halfVal (g.clear.getD 1 0), halfVal (g.clear.getD 2 0), halfVal (g.clear.getD 3 0)⟩
  else
    match s.storeRead (g.pixelAddr x y) (rasterBpp g.format) with
    | .ok bs => rasterDecode g.format bs
    | .error _ => rasterDecode g.format ((List.range (rasterBpp g.format)).map
        (fun b => Config.freeByte free (8 * (32 * (y % 32) + x % 32) + b)))

/-- A finished pixel: colour, resolved depth, and failed texel reads (R214, R215). -/
def State.renderPixel (s : State) (k : ReContext) (g : ReTarget) (i free x y : Nat) : Sample × Option Rat × List Nat :=
  let o := opaqueAt k.tris (mapGet none k.depth (y * g.width + x)) x y
  let first := match o.2 with
    | none => (s.startColour k g i free x y, [])
    | some (t, w) => s.shade x y t w
  let out := (blendedAt k.tris o.1 x y).foldl (fun acc f =>
    let q := s.shade x y f.1 f.2
    let below : Sample := if f.1.blend = 1 then acc.1.scale (1 - q.1.a) else acc.1
    (q.1.add below, acc.2 ++ q.2)) first
  (out.1, o.1, out.2)

/-- Count failed texel reads, with one record per context per frame (R222, R225). -/
def State.texelFaults (s : State) (c : Nat) (l : List Nat) : State :=
  match l with
  | [] => s
  | a :: _ =>
    let had := (s.context c).texelThisFrame
    let s1 := s.modContext c (fun k => { k with
      texelFaults := min max32 (k.texelFaults + l.length), texelThisFrame := true })
    if had then s1 else s1.record 0x0D classA [] a

/-- Write rows of a tile: the bytes that begin at each row's first pixel. -/
def State.writeTileRows (g : ReTarget) (x w : Nat) : List (Nat × List Byte) → State → Bool → State × Bool
  | [], s, ok => (s, ok)
  | (y, bs) :: rest, s, ok =>
    match s.storeWrite (g.pixelAddr x y) bs with
    | (s1, none) => State.writeTileRows g x w rest s1 ok
    | (s1, some _) => State.writeTileRows g x w rest s1 false

/-- Signature of a tile's bytes (R218). -/
def tileSignature (bs : List Byte) : Nat := crc32 bs + 2 ^ 32 * crc32c bs

/-- A tile is complete: written, or skipped for an equal signature (R218, R222). A tile that a PARTIAL flush writes is not
finished: it is always written, and its signature is not (R219). -/
def State.finishTile (s0 : State) (c i : Nat) (flush : Bool) : State :=
  let k := s0.context c
  match k.target with
  | none => s0
  | some g =>
    let (free, s) := s0.takeFree
    let px := (g.tilePixels i).map (fun p => s.renderPixel k g i free p.1 p.2)
    let bytes := px.flatMap (fun p => rasterEncode g.format p.1)
    let s1 := s.texelFaults c (px.flatMap (fun p => p.2.2))
    let x := 32 * (i % g.cols)
    let y := 32 * (i / g.cols)
    let w := min 32 (g.width - x)
    let sigAddr := g.sigBase + 8 * i
    let same := !flush && natBit g.flags 1 && !natBit g.flags 2 && !k.partialTiles.contains i &&
      (match s1.storeRead sigAddr 8 with
        | .ok bs => leNat bs == tileSignature bytes
        | .error _ => false)
    if same then s1.modContext c (fun k => { k with skipped := satInc k.skipped })
    else
      let rows := (List.range (min 32 (g.height - y))).map
        (fun r => (y + r, slice bytes (r * w * rasterBpp g.format) (w * rasterBpp g.format)))
      let (s2, ok) := State.writeTileRows g x w rows s1 true
      let (s3, sigOk) := if natBit g.flags 1 && !flush then
          (match s2.storeWrite sigAddr (leBytes 8 (tileSignature bytes)) with
            | (t, none) => (t, true)
            | (t, some _) => (t, false))
        else (s2, true)
      s3.modContext c (fun k => { k with
        written := satInc k.written, writeBad := k.writeBad || !ok || !sigOk })

/-! ### Job bales (R210, Table 10-1) -/

def targetOf (b : Bale) : ReTarget where
  base    := leAt b 0x08 8
  pitch   := leAt b 0x10 4
  width   := leAt b 0x14 2
  height  := leAt b 0x16 2
  format  := leAt b 0x18 1
  flags   := leAt b 0x19 1
  clear   := (List.range 4).map (fun k => BitVec.ofNat 16 (leAt b (0x20 + 2 * k) 2))
  sigBase := leAt b 0x28 8

def rasterFormat (f : Nat) : Bool := f == 0 || f == 1 || f == 2 || f == 7

def ReTarget.valid (g : ReTarget) : Bool :=
  decide (g.base % 256 = 0) && decide (g.pitch % 256 = 0) && decide (1 ≤ g.width) && decide (g.width ≤ 8192) &&
  decide (1 ≤ g.height) && decide (g.height ≤ 8192) && rasterFormat g.format && decide (g.sigBase % 8 = 0)

def textureOf (b : Bale) : ReTexture where
  slot   := leAt b 0x08 1
  format := leAt b 0x09 1
  filter := leAt b 0x0A 1
  aniso  := leAt b 0x0B 1
  levels := leAt b 0x0C 1
  wrap   := leAt b 0x0D 1
  base   := leAt b 0x10 8
  pitch  := leAt b 0x18 4
  width  := leAt b 0x1C 2
  height := leAt b 0x1E 2

def ReTexture.valid (t : ReTexture) : Bool :=
  decide (t.slot ≤ 15) && rasterFormat t.format && decide (t.filter ≤ 2) && decide (1 ≤ t.aniso) &&
  decide (t.aniso ≤ 16) && decide (1 ≤ t.levels) && decide (t.levels ≤ 14)

/-- Every core is retired (chapter 10, edges). DEDUCED, log 27. -/
def State.noCore (s : State) : Bool := (List.range 8).all (fun k => (s.core k).retired)

/-- Context c's next job bale, when it is of the opcode and the context takes it now. -/
def State.rasterJob (s : State) (c op : Nat) : Option (Nat × Started) :=
  match s.routeFor (.raster c) with
  | none => none
  | some r => if s.contextBusy c || s.holding then none else (s.nextStarted r op).map (fun b => (r, b))

/-- Take a job bale: with no core in service it is marked bad with NO_CORE. -/
def State.takeJob (s : State) (c op : Nat) (f : Nat → Started → State) : State :=
  match s.rasterJob c op with
  | none => s
  | some (r, b) => if s.noCore then s.refuseBale r b 6 else f r b

/-- Bytes in the context's bin memory (R219, R226). -/
def State.binCapacity (s : State) (c : Nat) : Nat :=
  4096 * (s.reg .RE_BIN_SIZE c).toNat + sumBy (fun e => e.2) (s.context c).extents

/-- Bin memory takes records whose layout the manual does not give: its bytes become free values (log 2).
DESIGN CHOICE, log 22. -/
def State.scribble (s : State) (a n : Nat) : State :=
  let (k, s1) := s.takeFree
  (spansOf a n).foldl (fun s sp => match s.writeFault false sp.1 sp.2 with
    | some _ => s
    | none =>
      let bs := (List.range sp.2).map (fun i => Config.freeByte k (sp.1 - a + i))
      { s with store := { s.store with mem := memWrite s.store.mem sp.1 bs } }) s1

/-- The context's bin memory is written. -/
def State.scribbleBin (s : State) (c : Nat) : State :=
  let k := s.context c
  k.extents.foldl (fun s e => s.scribble e.1 e.2) (s.scribble k.binBase (4096 * (s.reg .RE_BIN_SIZE c).toNat))

/-- TARGET_BALE: a frame begins; a frame that had not ended is dropped. DEDUCED, log 25. -/
def State.targetBale (s : State) (c : Nat) : State :=
  s.takeJob c 0x20 (fun r b =>
    let g := targetOf b.data
    let base := s.pair .RE_BIN_BASE_LOW c
    let fresh := fun (t : Option ReTarget) (k : ReContext) => { k with
      target := t, textures := [], binBase := base, tris := [], toBin := []
      used := (t.map (fun g => 64 * g.tiles)).getD 0
      partialOn := false, binFull := false, partialTiles := [], depth := [], writeBad := false, texelThisFrame := false
      binStopped := false, drawing := none }
    if g.valid then ((s.modContext c (fresh (some g))).scribbleBin c).finishBale r b.index false
    else (s.modContext c (fresh none)).refuseBale r b 2)

/-- TEXTURE_BALE: loads a slot, with a 32-byte record in bin memory (R213). -/
def State.textureBale (s : State) (c : Nat) : State :=
  s.takeJob c 0x21 (fun r b =>
    let t := textureOf b.data
    if t.valid then
      ((s.modContext c (fun k => { k with textures := mapSet none k.textures t.slot (some t), used := k.used + 32 })).scribbleBin
        c).finishBale r b.index false
    else s.refuseBale r b 3)

/-! ### Binning (R213, R219, R220) -/

/-- A vertex by its place in the DRAW; none when a read fails (R212). -/
def State.drawVertex (s : State) (vbase ibase i : Nat) : Option Vertex :=
  let index : Option Nat :=
    if ibase = 0 then some i
    else
      match s.storeRead (ibase + 4 * i) 4 with
      | .ok bs => some (leNat bs)
      | .error _ => none
  match index with
  | none => none
  | some j =>
    match s.storeRead (vbase + 24 * j) 24 with
    | .ok bs => some (vertexOf bs)
    | .error _ => none

/-- Triangles of a DRAW bale; one with a failed read is dropped (R212). -/
def State.drawTris (s : State) (k : ReContext) (b : Bale) : List Tri :=
  let vbase := leAt b 0x08 8
  let ibase := leAt b 0x10 8
  let count := leAt b 0x18 4
  let strip := if leAt b 0x1C 1 ≤ 1 then leAt b 0x1C 1 == 1 else Config.oddTopology (leAt b 0x1C 1)
  let mode := if leAt b 0x1E 1 ≤ 2 then leAt b 0x1E 1 else (Config.oddBlend (leAt b 0x1E 1)).val
  let tex := mapGet none k.textures (leAt b 0x1D 1)
  let n := if strip then count - 2 else count / 3
  (List.range n).filterMap (fun t =>
    let i := if strip then t else 3 * t
    match s.drawVertex vbase ibase i, s.drawVertex vbase ibase (i + 1), s.drawVertex vbase ibase (i + 2) with
    | some a, some b, some c => some ⟨a, b, c, mode, tex⟩
    | _, _, _ => none)

/-- A PARTIAL flush: every binned tile is rendered and written, its depth saved when `save`, and the bin memory
freed (R219, R220). -/
def State.flushBins (s : State) (c : Nat) (save : Bool) : State :=
  let k := s.context c
  match k.target with
  | none => s
  | some g =>
    let touched := dedup (k.tris.flatMap (fun t => t.tiles g))
    let depth := touched.foldl (fun m i => (g.tilePixels i).foldl (fun m p =>
      let a := p.2 * g.width + p.1
      mapSet none m a (opaqueAt k.tris (mapGet none k.depth a) p.1 p.2).1) m) k.depth
    let s1 := touched.foldl (fun s i => s.finishTile c i true) s
    let s2 := s1.modContext c (fun q => { q with
      partials := satInc q.partials, tris := [], used := 64 * g.tiles
      partialTiles := nub (touched ++ q.partialTiles), depth := if save then depth else q.depth })
    if save then s2.scribble (s2.pair .RE_SPILL_BASE_LOW c) (4 * g.width * g.height) else s2

/-- The spill area holds 4 bytes for each pixel of the target (R220). -/
def State.spillFits (s : State) (c : Nat) (g : ReTarget) : Bool :=
  decide (4 * g.width * g.height ≤ 4096 * (s.reg .RE_SPILL_SIZE c).toNat)

/-- Binning runs out of memory, `need` bytes short (R219, R220). The Bool says that binning can go on. DEDUCED, log 26. -/
def State.binOverflow (s : State) (c : Nat) (g : ReTarget) (need : Nat) : State × Bool :=
  let k := s.context c
  if k.partialOn || bitAt (s.reg .RE_CONTEXT_CONTROL c) 1 then
    if s.spillFits c g && !k.tris.isEmpty then (s.flushBins c true, true)
    else ((s.flushBins c false).modContext c (fun q => { q with binFull := true, toBin := [] }), false)
  else
    ((s.modContext c (fun q => { q with growWait := true, grows := satInc q.grows })).event 0xC0
      ([byteOf c, 0, 0, 0] ++ leBytes 4 need), false)

/-- Bin the triangles that wait, as far as the memory goes; `fuel` bounds bins and flushes. -/
def State.binRest (c : Nat) (g : ReTarget) : Nat → State → State
  | 0, s => s
  | fuel + 1, s =>
    let k := s.context c
    match k.toBin with
    | [] => s
    | t :: rest =>
      let n := 16 * (t.tiles g).length
      if k.used + n ≤ s.binCapacity c then
        State.binRest c g fuel (s.modContext c (fun q => { q with tris := q.tris ++ [t], used := q.used + n, toBin := rest }))
      else
        match s.binOverflow c g (k.used + n - s.binCapacity c) with
        | (s1, true) => State.binRest c g fuel s1
        | (s1, false) => s1

/-- The DRAWs taken and not complete, the oldest first. -/
def State.openDraws (s : State) (c : Nat) : List (Nat × Started) :=
  match s.routeFor (.raster c) with
  | none => []
  | some r => ((s.route r).started.filter (fun b => b.taken && !b.done && baleOpcode b.data == 0x22)).map (fun b => (r, b))

/-- A DRAW's triangles are those being binned. -/
def State.drawsNow (s : State) (c : Nat) (b : Started) : Bool := (s.context c).drawing == some b.index

/-- Go on binning; the DRAW that found no room under R220 is marked bad with BIN_FULL. Debug hold puts it off (R303). -/
def State.bin (s : State) (c : Nat) : State :=
  match (s.context c).target with
  | none => s
  | some g =>
    if s.holding then s.modContext c (fun q => { q with binStopped := true })
    else
    let s1 := (State.binRest c g (2 * (s.context c).toBin.length + 1) s).scribbleBin c
    if (s1.context c).binFull then
      match (s1.openDraws c).find? (fun d => s1.drawsNow c d.2) with
      | some (r, b) => s1.refuseBale r b 4
      | none => s1
    else s1

/-- DRAW_BALE (R213). DESIGN CHOICE, log 24. -/
def State.drawBale (s : State) (c : Nat) : State :=
  s.takeJob c 0x22 (fun r b =>
    let k := s.context c
    let slot := leAt b.data 0x1D 1
    if k.target.isNone then s.refuseBale r b 2
    else if slot ≠ 0xFF ∧ (mapGet none k.textures slot).isNone = true then s.refuseBale r b 3
    else if k.binFull then s.refuseBale r b 4
    else
      let s1 := s.modStarted r b.index (fun x => { x with taken := true })
      (s1.modContext c (fun q => { q with toBin := s.drawTris k b.data, drawing := some b.index })).bin c)

/-- Debug hold ends: binning that it put off goes on (R303). -/
def State.resumeBins (s : State) : State :=
  (List.range 4).foldl (fun s c =>
    if (s.context c).binStopped then (s.modContext c (fun q => { q with binStopped := false })).bin c else s) s

/-- DRAW_BINNED: the oldest DRAW completes once its primitives are binned (R210). -/
def State.drawBinned (s : State) (c : Nat) : State :=
  match s.openDraws c with
  | (r, b) :: _ =>
    if s.drawsNow c b && !((s.context c).toBin.isEmpty && !(s.context c).growWait) then s
    else s.finishBale r b.index false
  | [] => s

/-- GROW_WAIT_EXPIRY (R219). -/
def State.growExpiry (s : State) (c : Nat) : State :=
  if (s.context c).growWait then
    let s1 := s.modContext c (fun q => { q with growWait := false, partialOn := true })
    ((s1.event 0xC1 [byteOf c]).record 0x0D classA [] c).bin c
  else s

/-- An accepted write of RE_BIN_GROW_SIZE: an extent is added, and a GROW wait ends (R219). -/
def State.wroteGrow (s : State) (c : Nat) : State :=
  let a := s.pair .RE_BIN_GROW_LOW c
  let n := 4096 * (s.reg .RE_BIN_GROW_SIZE c).toNat
  let k := s.context c
  if k.extents.length < 8 ∧ s.inRasterBin a n = true then
    let s1 := s.modContext c (fun q => { q with extents := q.extents ++ [(a, n)], growWait := false })
    if k.growWait then s1.bin c else s1
  else s

/-! ### Cores and tile passes (R216, R217, R221, R223) -/

/-- END_FRAME_BALE: every tile of the target becomes available; context 0 work aborts self-tests (R210, R221). -/
def State.endFrameBale (s : State) (c : Nat) : State :=
  s.takeJob c 0x23 (fun r b =>
    let k := s.context c
    match k.target with
    | none => s.refuseBale r b 2
    | some g =>
      let tiles := (List.range g.tiles).map (fun i => (⟨i, tilePasses k g i, none, false⟩ : ReTile))
      let s1 := (s.modStarted r b.index (fun x => { x with taken := true })).modContext c (fun q => { q with
        rendering := true, tiles := tiles })
      if c = 0 then (List.range 8).foldl (fun s i =>
          if (s.core i).testing then s.modCore i (fun q => { q with testing := false, lastTest := 3 }) else s) s1
      else s1)

/-- END_FRAME_DONE (R210, R222); a bale to be marked bad waits for the end of debug hold (R303). DESIGN CHOICE, log 152. -/
def State.endFrameDone (s : State) (c : Nat) : State :=
  let k := s.context c
  if k.rendering && k.tiles.isEmpty && !(s.holding && k.writeBad) then
    let s1 := s.modContext c (fun q => { q with
      rendering := false, frames := satInc q.frames, extents := [], tris := [], used := 0, target := none
      textures := [], partialOn := false, binFull := false, partialTiles := [], depth := [], texelThisFrame := false
      binStopped := false, drawing := none })
    match s1.routeFor (.raster c) with
    | none => s1
    | some r =>
      match (s1.route r).started.find? (fun b => b.taken && !b.done && baleOpcode b.data == 0x23) with
      | none => s1
      | some b => if k.writeBad then s1.refuseBale r b 5 else s1.finishBale r b.index false
  else s

/-- The tile of context c that core k would take: one it parked, else the first that no core holds. -/
def State.tileFor (s : State) (c k : Nat) : Option Nat :=
  if (s.context c).rendering = false then none
  else
    match (s.context c).tiles.find? (fun t => t.core == some k) with
    | some t => some t.index
    | none => ((s.context c).tiles.find? (fun t => t.core.isNone)).map (·.index)

/-- The context a core takes its next pass from: 0 first, then in turn after the one served last (R217). -/
def State.passFor (s : State) (k : Nat) : Option (Nat × Nat) :=
  let last := (s.core k).lastServed
  let turn := (List.range 3).map (fun i => (last - 1 + 1 + i) % 3 + 1)
  (0 :: (if last = 0 then [1, 2, 3] else turn)).findSome? (fun c => (s.tileFor c k).map (fun i => (c, i)))

def State.modTile (s : State) (c i : Nat) (f : ReTile → ReTile) : State :=
  s.modContext c (fun q => { q with tiles := q.tiles.map (fun t => if t.index = i then f t else t) })

/-- TILE_PASS_START (R217); context 0 work ends a self-test as abandoned (R221). -/
def State.passStart (s : State) (k : Nat) : State :=
  let q := s.core k
  if q.retired ∨ q.queued ∨ q.busy.isSome = true ∨ s.holding = true then s
  else
    match s.passFor k with
    | none => s
    | some (c, i) =>
      if q.testing ∧ c ≠ 0 then s
      else
        let s1 := s.modTile c i (fun t => { t with core := some k, parked := false })
        s1.modCore k (fun q => { q with
          busy := some (c, i), context := c, testing := false
          lastTest := if q.testing then 3 else q.lastTest
          lastServed := if c = 0 then q.lastServed else c })

/-- TILE_PASS_DONE (R216, R218): a tile with passes left is parked in the core's tile store. -/
def State.passDone' (s : State) (k : Nat) : State :=
  match (s.core k).busy with
  | none => s
  | some (c, i) =>
    let s1 := s.modCore k (fun q => { q with busy := none, passes := q.passes + 1 })
    match (s.context c).tiles.find? (fun t => t.index == i) with
    | none => s1
    | some t =>
      if 1 < t.passes then s1.modTile c i (fun t => { t with passes := t.passes - 1, parked := true })
      else if s.holding then s
      else (s1.finishTile c i false).modContext c (fun q => { q with tiles := q.tiles.filter (fun t => t.index != i) })

/-- A core fails: it takes no further pass, and its tiles run again from their start (R223). -/
def State.failCore (s : State) (k cause : Nat) : State :=
  let q := s.core k
  if q.retired ∨ q.queued then s.record 0x0E classC [] k none true
  else
    let s1 := s.modCore k (fun q => { q with queued := true, testing := false, busy := none })
    let s2 := (List.range 4).foldl (fun s c => s.modContext c (fun x => { x with
      tiles := x.tiles.map (fun t => if t.core = some k
        then { t with core := none, parked := false
                      passes := (x.target.map (fun g => tilePasses x g t.index)).getD 1 } else t) })) s1
    let s3 := s2.record 0x0E classC [] k
    { s3 with ledger := { s3.ledger with queue := s3.ledger.queue ++ [⟨.core, k, cause⟩] } }

/-- CORE_TEST_START: on a core that holds no tile (R221). -/
def State.coreTestStart (s : State) (k : Nat) : State :=
  let q := s.core k
  let parked := (List.range 4).any (fun c => (s.context c).tiles.any (fun t => t.core == some k))
  if bitAt (s.reg .RE_TEST_CONTROL) 0 = false ∨ q.retired ∨ q.queued ∨ q.testing ∨ q.busy.isSome = true ∨ parked = true
  then s
  else s.modCore k (fun q => { q with testing := true })

def State.coreTestDone (s : State) (k : Nat) (r : TestResult) : State :=
  if (s.core k).testing = false then s
  else
    match r with
    | .pass => s.modCore k (fun q => { q with testing := false, lastTest := 1 })
    | .fail => (s.modCore k (fun q => { q with testing := false, lastTest := 2 })).failCore k 2
    | .abandoned => s.modCore k (fun q => { q with testing := false, lastTest := 3 })

/-- Set the throttle level, reporting a change (R224, Table 10-4). -/
def State.throttleTo (s : State) (level temperature : Nat) : State :=
  if level = s.raster.throttle then s
  else
    let s1 := ({ s with raster := { s.raster with throttle := level } }).event 0xC3 [byteOf level]
    if level = 2 then s1.record 0x0D classD [] temperature else s1

def State.throttleUp (s : State) (t : Nat) : State :=
  s.throttleTo (if 100 ≤ t then 2 else if 95 ≤ t then max 1 s.raster.throttle else s.raster.throttle) t

/-! ### Meanings -/

/-- TARGET_BALE (R210). -/
def execTargetBale (c : Fin 4) (s : State) : Host.Outcome State Fault Refusal := .next (s.targetBale c)

/-- TEXTURE_BALE (R210). -/
def execTextureBale (c : Fin 4) (s : State) : Host.Outcome State Fault Refusal := .next (s.textureBale c)

/-- DRAW_BALE (R213). -/
def execDrawBale (c : Fin 4) (s : State) : Host.Outcome State Fault Refusal := .next (s.drawBale c)

/-- DRAW_BINNED (R210). -/
def execDrawBinned (c : Fin 4) (s : State) : Host.Outcome State Fault Refusal := .next (s.drawBinned c)

/-- END_FRAME_BALE (R210). -/
def execEndFrameBale (c : Fin 4) (s : State) : Host.Outcome State Fault Refusal := .next (s.endFrameBale c)

/-- END_FRAME_DONE (R210). -/
def execEndFrameDone (c : Fin 4) (s : State) : Host.Outcome State Fault Refusal := .next (s.endFrameDone c)

/-- TILE_PASS_START (R217). -/
def execTilePassStart (k : Fin 8) (s : State) : Host.Outcome State Fault Refusal := .next (s.passStart k)

/-- TILE_PASS_DONE (R216). -/
def execTilePassDone (k : Fin 8) (s : State) : Host.Outcome State Fault Refusal := .next (s.passDone' k)

/-- GROW_WAIT_EXPIRY (R219). -/
def execGrowWaitExpiry (c : Fin 4) (s : State) : Host.Outcome State Fault Refusal := .next (s.growExpiry c)

/-- RASTER_CORE_FAILURE (R223). -/
def execRasterCoreFailure (k : Fin 8) (s : State) : Host.Outcome State Fault Refusal := .next (s.failCore k 1)

/-- CORE_TEST_START (R221). -/
def execCoreTestStart (k : Fin 8) (s : State) : Host.Outcome State Fault Refusal := .next (s.coreTestStart k)

/-- CORE_TEST_DONE (R221). -/
def execCoreTestDone (k : Fin 8) (result : TestResult) (s : State) : Host.Outcome State Fault Refusal :=
  .next (s.coreTestDone k result)

/-- RE_THROTTLE_UP (R224). -/
def execReThrottleUp (temperature : Nat) (s : State) : Host.Outcome State Fault Refusal := .next (s.throttleUp temperature)

/-- RE_THROTTLE_DOWN (R224). -/
def execReThrottleDown (s : State) : Host.Outcome State Fault Refusal :=
  .next (s.throttleTo (s.raster.throttle - 1) 0)

end Sys2Proof.Machine
end

