-- ==== Sys2Proof/Machine/StoreCh.lean ====
section
/-! DEFINITION. Store channels (05): reads and writes served, patrol scrub, alerts and the retirement trigger. -/

namespace Sys2Proof.Machine

/-- Requester class codes, in the order of Table 5-1. DEDUCED, log 21. -/
def classCode : ReqClass → Nat
  | .skeins => 0
  | .ingest => 1
  | .raster => 2
  | .porter => 3
  | .block => 4
  | .other => 5

/-- A retirement trigger is reached: queued, with its class C record (R106). -/
def State.queueChannel (s : State) (c cause addr : Nat) : State :=
  ((s.modChannel c (fun q => { q with state := 5, cause := cause })).record 0x04 classC [(8, c), (8, cause)] addr).enqueue
    .channel c cause

/-- TCLK cycles in the 1 s of R106. DEDUCED, log 20. -/
def secondTicks : Nat := 100000000

/-- STORE_UE_COUNT has risen by the threshold within 1 s (R106). -/
def State.ueRate (s : State) (c : Nat) : Bool :=
  let t := fld (s.reg .STORE_RETIRE_THRESHOLD) 0 16
  t != 0 && decide (t ≤ (s.channel c).ueTimes.length)

/-- An uncorrectable read (R101, R106). -/
def State.uncorrectable (s : State) (c cls addr : Nat) : State :=
  let now := s.time.tb.toNat
  let s1 := s.modChannel c (fun q => { q with
    ueCount := satInc q.ueCount, lastError := addr
    ueTimes := q.ueTimes.filter (fun t => decide (now - t ≤ secondTicks)) ++ [now] })
  let s2 := { s1 with store := { s1.store with poison := sortBy id (addr / 64 :: s1.store.poison) } }
  let s3 := s2.record 0x04 classA [(8, c), (8, cls)] addr
  if s3.ueRate c then s3.queueChannel c 2 addr else s3

/-- A channel serves one read (R100, R101). Reads of poisoned blocks and of channels queued or pending
retirement return poison and change nothing (R101, R107). -/
def State.serveRead (s : State) (cls addr : Nat) (ecc : Ecc) : State :=
  match s.channelOf addr with
  | none => s
  | some c =>
    if s.channelGone c ∨ s.store.poison.contains (addr / 64) = true then s
    else
      match ecc with
      | .clean => s
      | .corrected words => s.modChannel c (fun q => { q with ceCount := min max32 (q.ceCount + words) })
      | .uncorrectable => s.uncorrectable c cls addr

/-- PATROL_SCRUB: the next block is read; at the end of a sweep the register's period takes over (R102). -/
def State.scrub (s : State) (ecc : Ecc) : State :=
  if s.store.scrubPeriod = 0 ∨ s.storeSpan = 0 then s
  else
    let a := s.store.scrubNext * 64
    let s1 := if a < s.storeSpan then s.serveRead 5 a ecc else s
    if a + 64 < s.storeSpan then { s1 with store := { s1.store with scrubNext := s.store.scrubNext + 1 } }
    else { s1 with store := { s1.store with
             scrubNext := 0, scrubPeriod := fld (s.reg .STORE_SCRUB_PERIOD) 0 8 } }

/-- An accepted write of STORE_SCRUB_PERIOD (R102). -/
def State.wroteScrubPeriod (s : State) (v : Word) : State :=
  let p := fld v 0 8
  if p = 0 then { s with store := { s.store with scrubPeriod := 0 } }
  else if s.store.scrubPeriod = 0 then { s with store := { s.store with scrubPeriod := p, scrubNext := 0 } }
  else s

/-- CHANNEL_ALERT (R106): on a unit queued or retired, a secondary record (R399); out of the channel list, nothing. -/
def State.channelAlert (s : State) (c : Nat) : State :=
  if s.channelGone c then s.record 0x04 classC [(8, c), (8, 3)] 0 none true
  else if s.store.chanList.contains c then s.queueChannel c 3 0
  else s

/-! ### Meanings -/

/-- STORE_READ_SERVED (R101). DEDUCED, log 38. -/
def execStoreReadServed (cls : ReqClass) (addr : Nat) (ecc : Ecc) (s : State) : Host.Outcome State Fault Refusal :=
  .next (s.serveRead (classCode cls) addr ecc)

/-- STORE_WRITE_SERVED (R104): protected writes are refused and writes to retiring channels discarded (R99, R107). -/
def execStoreWriteServed (cls : ReqClass) (addr : Nat) (data : List Byte) (s : State) :
    Host.Outcome State Fault Refusal :=
  .next (if cls = .skeins then s else (s.storeWrite addr data).1)

/-- PATROL_SCRUB (R102). -/
def execPatrolScrub (ecc : Ecc) (s : State) : Host.Outcome State Fault Refusal := .next (s.scrub ecc)

/-- CHANNEL_ALERT (R106). -/
def execChannelAlert (c : Fin 8) (s : State) : Host.Outcome State Fault Refusal := .next (s.channelAlert c)

end Sys2Proof.Machine
end

