-- ==== Sys2Proof/Machine/Flags.lean ====
section
/-! DEFINITION. What a read of each register returns: the status words, flags and counts computed from State (R7 to
R9, R64, and the register tables of every chapter). -/

namespace Sys2Proof.Machine

/-- A status word of fields, given as first bit and value. -/
def fields (l : List (Nat × Nat)) : Word := wordOf (sumBy (fun p => at_ p.2 p.1) l)

def bit' (k : Nat) (b : Bool) : Nat × Nat := (k, b.toNat)

/-- One 32-bit half of a 64-bit count. -/
def lowHalf (n : Nat) : Word := wordOf (n % 2 ^ 32)
def highHalf (n : Nat) : Word := wordOf (n / 2 ^ 32)

/-! ### Identity and commits (R75) -/

def State.systemState (s : State) : Word :=
  fields [(0, s.mode), bit' 8 s.owned, bit' 9 (s.net.owner == .usb)]

def State.commitStatus (s : State) (g : Nat) : Word :=
  let x := s.group g
  let waits := fun h => x.state == 1 && (s.ownersOf g).contains h
  fields [(0, x.state), (4, x.refHead), (8, flagBits ((List.range 8).map waits))]

/-! ### Chassis (R331 to R343) -/

def State.inlet (s : State) : Nat := Config.measured 0x343 0 s.time.tb.toNat % 256
def State.exhaust (s : State) : Nat := Config.measured 0x343 1 s.time.tb.toNat % 256
def State.dieTemperature (s : State) : Nat := Config.measured 0x226 0 s.time.tb.toNat % 256

/-- Fan duty in per cent (R331, R332). -/
def State.fanDuty (s : State) (f : Nat) : Nat :=
  let control := s.reg .FAN_CONTROL
  let inlet := signed 8 s.inlet
  let byInlet := (clampInt 30 100 (30 + 7 * (inlet - 25))).toNat
  let byExhaust := if 55 ≤ signed 8 s.exhaust then 100 else 0
  let byDie := if 90 ≤ s.dieTemperature then 100 else 0
  let others := (List.range 5).any (fun g => g != f && s.chassis.fanStopped.getLsbD g)
  if bitAt control 8 || others then 100 else max (max byInlet byExhaust) (max byDie (clampNat 30 100 (fld control 0 8)))

def State.fanStatus (s : State) (f : Nat) : Word :=
  let stopped := s.chassis.fanStopped.getLsbD f
  let rpm := if stopped then mapGet 0 s.chassis.fanRpm f else Config.measured 0x332 f s.time.tb.toNat
  fields [(0, rpm % 65536), bit' 16 stopped, (24, s.fanDuty f)]

def ledOff : Nat := 0
def ledAmber : Nat := 1
def ledGreen : Nat := 2
def ledBlue : Nat := 3
def ledRed : Nat := 4

/-- A flashing LED is lit at the moment of a read. DESIGN CHOICE, log 102. -/
def State.flash (s : State) (led : Nat) : Bool := Config.measured 0x333 led s.time.tb.toNat % 2 == 1

/-- POWER (Table 16-2): the main rails are up from the end of their sequence to the start of a shut-down. -/
def State.ledPower (s : State) : Nat :=
  if s.power.standby = false then ledOff
  else if s.power.latch then ledRed
  else if (List.range 6).all (fun r => (s.rail r).state == 2 || (s.rail r).state == 3) then ledGreen
  else ledAmber

/-- The LED of a power module (R333). -/
def State.psuLed (s : State) (i : Nat) : Nat :=
  match mapGet default s.power.psus i with
  | .delivering => ledGreen
  | .noMains => ledAmber
  | .faulted => ledRed
  | .absent => ledOff

def State.statusRed (s : State) : Bool :=
  s.pattern.present.any (fun h => (s.head h).state == 4) || s.chassis.fanStopped != 0 ||
    (List.range 2).any (fun i => let c := mapGet default s.power.psus i
      c == PsuCond.faulted || c == PsuCond.absent) || (List.range 3).any (fun b => (s.slave b).state == 2)

/-- STATUS (Table 16-2): off in standby and reset, unless a red cause holds. -/
def State.ledStatus (s : State) : Nat :=
  let base := if s.statusRed then ledRed else if s.boot.inReset then ledOff else if s.mode = 2 then ledGreen else ledAmber
  if s.power.standby = false then ledOff
  else if bitAt (s.reg .FRONT_PANEL_CONTROL) 0 && s.flash 1 then ledBlue
  else base

def State.ledOwner (s : State) : Nat :=
  match s.net.owner with
  | .none => ledOff
  | .purl _ _ => ledGreen
  | .usb => ledBlue

def State.lockableHeads (s : State) : List Nat :=
  (s.pattern.heads.filter (fun r => lockable r s.caravan.period)).map (·.head)

/-- CARAVAN (Table 16-2). An election flashes green, over the amber of a lost lead where that began it. DEDUCED, log 156. -/
def State.ledCaravan (s : State) : Nat :=
  if s.caravan.duplicate.isSome then ledRed
  else
    match s.caravan.state with
    | 0 => ledOff
    | 3 => if s.lockableHeads.all (fun h => (s.head h).locked) then ledGreen else ledAmber
    | 4 => ledBlue
    | 5 => ledAmber
    | _ => if s.flash 3 then ledGreen else if s.caravan.state = 2 ∧ s.caravan.cause = 1 then ledAmber else ledOff

def State.frontPanel (s : State) : Word :=
  fields [bit' 0 s.chassis.button, (8, s.ledPower), (12, s.ledStatus), (16, s.ledOwner), (20, s.ledCaravan)]

def State.sfpStatus (s : State) (p : Nat) : Word :=
  let on := s.sfpOn p
  fields [bit' 0 (s.sfpModule p).isSome, bit' 1 on, bit' 2 (s.chassis.sfpFault.getLsbD p),
    (3, if on then Config.measured 0x335 p s.time.tb.toNat % 4 else 0)]

def State.dpPowerStatus (s : State) : Word :=
  fields [(0, s.chassis.dpFault.toNat), (4, if s.pinsLive && !s.outputOff then 15 else 0)]

/-! ### Patterns (R55) -/

def State.ownerKey (s : State) (r : Reg) : Nat := leNat ((List.range 8).flatMap (fun n => leBytes 4 (s.stored r n).toNat))

def State.slotValid (s : State) (q : SlotSt) : Bool :=
  match checkSigned (slotReader q) (fld (s.reg .SIG_POLICY) 0 2) (s.ownerKey .OWNER_KEY_X) (s.ownerKey .OWNER_KEY_Y) with
  | .ok _ => true
  | .error _ => false

def State.patternStatus (s : State) : Word :=
  let state := if s.pat.op.isSome then 1 else if s.pat.restitch.isSome then 3 else if s.pat.running.isSome then 2 else 0
  fields [(0, state), (2, s.pat.source)]

/-! ### The Ledger (R393, R408, R409) -/

/-- The bytes of entry k; one that fails parity reads CLASS 0 (R408). -/
def State.ledgerBytes (s : State) (k : Nat) : List Byte :=
  match s.ledger.entries[k]? with
  | none => List.replicate 32 0
  | some e => [byteOf e.source, byteOf (if s.ledger.badParity.contains k then 0 else e.cls), 0, 0] ++ leBytes 4 e.flags.toNat ++
      leBytes 8 e.address.toNat ++ leBytes 4 e.fc.toNat ++ leBytes 4 e.pos.toNat ++ leBytes 8 e.tb.toNat

def retireCode : RetireKind → Nat
  | .channel => 1
  | .skein => 2
  | .needle => 3
  | .core => 4

def State.retireStatus (s : State) : Word :=
  match s.ledger.queue with
  | [] => 0
  | q :: _ => fields [(0, s.ledger.queue.length), (8, retireCode q.kind), (16, q.index)]

def State.classCount (s : State) (c : Nat) : Nat :=
  [s.ledger.countA, s.ledger.countB, s.ledger.countC, s.ledger.countD].getD c 0

/-! ### Routes and the Store (R95, R128) -/

/-- ROUTE_STATE. A route that no pattern binds reads STATE 3, at reset too, where the field's own reset value is 0.
DEDUCED, log 128. -/
def State.routeState (s : State) (n : Nat) : Word :=
  let q := s.route n
  let fenceId := match q.fetched with
    | ⟨_, some b⟩ :: _ => baleFence b
    | _ => 0
  let waits := s.fenceWaiting n
  let state := if s.consumer n == .unbound || s.routeBusyReset n then 3 else if waits then 2 else if q.occupancy = 0 then 0 else 1
  fields [(0, state), (8, if waits then fenceId % 32 else 0), (16, q.occupancy)]

def State.storeMap (s : State) : Word :=
  fields [(0, flagBits ((List.range 8).map (fun c => s.store.chanList.contains c))), (8, s.store.chanList.length)]

def State.channelState (s : State) (c : Nat) : Word :=
  let q := s.channel c
  fields [(0, q.state), (8, q.cause), (16, q.margin.toNat)]

/-- Credits that the classes but the skeins may hold together, their slots in the channel list allowing (R92, R103). -/
def State.poolLimit (s : State) : Nat := min 512 (64 * s.store.chanList.length)

/-- Credits in use by classes 1 to k together: each takes a measured share of what the ones before leave of the pool. -/
def State.poolUsed (s : State) : Nat → Nat
  | 0 => 0
  | k + 1 => s.poolUsed k + Config.measured 0x128 (k + 1) s.time.tb.toNat % (s.poolLimit + 1 - s.poolUsed k)

/-- Credits in use: those of the skeins are modelled; the other classes' accesses end with the command that makes
them, so their count is a measured quantity within what they may borrow (R92, R103). DESIGN CHOICE, log 102. -/
def State.inflight (s : State) (k : Nat) : Nat :=
  if k = 0 then s.creditsUsed else s.poolUsed k - s.poolUsed (k - 1)

/-! ### The Porter (R128) -/

def State.porterStatus (s : State) (n : Nat) : Word :=
  let p := s.porterCh n
  let open' := if p.busy || p.clearing then Config.measured 0x129 n s.time.tb.toNat % 65 else 0
  fields [(0, p.state), bit' 2 p.armed, bit' 3 p.mismatch, (16, open')]

def State.porterFault (s : State) (n : Nat) : BusErr := ((s.porterCh n).fault).getD ⟨0, false, 0⟩

/-! ### Sources and skeins (R144, R167) -/

def State.srcState (s : State) (i : Nat) : Word :=
  let q := s.source i
  let red := match q.newestBuf with
    | some (_, b) => b.reducedValid
    | none => false
  fields [(0, q.state), bit' 4 q.newest.isSome, bit' 5 red, (6, q.newest.getD 0), bit' 8 q.pathA, bit' 9 q.pathB,
    (12, if q.state = srcRefused then q.reason else 0)]

def State.skeinState (s : State) (n : Nat) : Nat :=
  let k := s.skein n
  if k.retired then 4
  else if k.queued then 5
  else if (s.pattern.skein? n).isNone || (s.skeinActive n).enable == false then 0
  else if k.configReason ≠ 0 then 3
  else
    match k.latch with
    | some l => if l.valid then 1 else 2
    | none => 1

def State.skeinStatus (s : State) (n : Nat) : Word :=
  let k := s.skein n
  match s.pattern.skein? n with
  | none => fields [(0, s.skeinState n)]
  | some r => fields [(0, s.skeinState n), (4, k.configReason), bit' 8 (natBit r.flags 0), bit' 9 k.needle.isSome,
      (16, k.needle.getD 0), (24, r.head), bit' 31 true]

def State.skeinBaseNow (s : State) (n : Nat) : Word :=
  match (s.skein n).latch with
  | some l => wordOf (l.base / 256)
  | none => 0

def State.skeinRung (s : State) (n : Nat) : Word :=
  let k := s.skein n
  fields [(0, k.gaugeRung), (4, k.preshedRung), (8, k.effRung)]

def State.needleStatus (s : State) (m : Nat) : Word :=
  let head := s.needleHead m
  fields [(0, s.needleState m), (8, head.getD 0), bit' 11 head.isSome, (16, (s.needle m).skeins)]

/-! ### Heads and ports (R208) -/

def State.headRec (s : State) (h : Nat) : HeadRec := (s.pattern.head? h).getD default

/-- DIV_F with the pull in force (R189, R320). -/
def State.divFraction (s : State) (h : Nat) : Word :=
  let r := s.headRec h
  let d : Int := r.divN * 2 ^ 32 + r.divF
  wordOf ((d - d * (s.head h).pull / 1000000000) % 2 ^ 32).toNat

/-- The first line after `line` at whose start a command reports the head's progress. -/
def nextLineEvent (r : HeadRec) (q : HeadSt) (line : Nat) : Nat :=
  if line + 2 < r.vActive then line + 1
  else if line < q.bindLine then q.bindLine
  else if line < q.castLine then q.castLine
  else r.vTotal - 1

/-- The line now scanning out: the line of the last command that reported one, or a later one before the next such line,
which no command tells. DESIGN CHOICE, log 147. -/
def State.lineNow (s : State) (h : Nat) : Nat :=
  let q := s.head h
  if q.state = 0 ∨ q.state = 4 then q.line
  else q.line + Config.measured 0x208 h s.time.tb.toNat % max 1 (nextLineEvent (s.headRec h) q q.line - q.line)

def State.headStatus (s : State) (h : Nat) : Word :=
  let q := s.head h
  let lower := (s.pattern.head? h).any headGanged
  fields [(0, q.state), bit' 3 q.overbooked, bit' 4 lower, bit' 5 (s.pattern.gangUpper h), bit' 6 q.cfgErr]

def State.gaugeLead (s : State) (h : Nat) : Word :=
  let q := s.head h
  fields [(0, q.lead), (8, q.minLead), (16, q.lastMin), (24, q.framesOk)]

def State.dpStatus (s : State) (p : Nat) : Word :=
  let d := s.dpPort p
  let (st, lanes, rate) := s.portShow p
  let blocks := (d.sink.map (fun (k : SinkCaps) => ceilDiv k.edid.length 128 - 1)).getD 0
  fields [bit' 0 d.hpd, (1, st), (4, lanes), (8, rate), (12, blocks % 4)]

def State.sdiOutStatus (s : State) (q : Nat) : Word :=
  let (st, std, frac) := s.sdiStatus q
  fields [(0, st), (4, std), bit' 8 frac]

def State.witnessStatus (s : State) (h : Nat) : Word :=
  let q := s.head h
  fields [bit' 0 q.armed, (1, q.result), bit' 3 q.mismatch]

/-! ### Raster, block and time (R226, R238, R261) -/

def State.contextStatus (s : State) (c : Nat) : Word :=
  let k := s.context c
  let state := if bitAt (s.reg .RE_CONTEXT_CONTROL c) 0 == false then 5
    else if s.binInvalid c then 4 else if k.growWait then 3 else if k.rendering then 2 else if k.target.isSome then 1 else 0
  if s.boot.inReset then 0
  else fields [(0, state), bit' 4 (k.partialOn || !k.partialTiles.isEmpty), (16, k.extents.length % 16)]

/-- RE_STATUS: in reset no core is in service. -/
def State.reStatus (s : State) : Word :=
  if s.boot.inReset then 0
  else fields [(0, flagBits ((List.range 8).map (fun k => !(s.core k).retired && !(s.core k).queued))), bit' 8 s.noCore,
    (16, s.raster.throttle), (24, s.dieTemperature)]

def State.coreStatus (s : State) (k : Nat) : Word :=
  let q := s.core k
  let state := if q.retired then 4 else if q.queued then 3 else if q.testing then 2 else if q.busy.isSome then 1 else 0
  fields [(0, state), (4, q.context), (8, q.lastTest)]

def State.beStatus (s : State) : Word :=
  fields [(0, if s.block.regWait.isSome then 1 else if s.regOpRunning then 2 else 0), bit' 2 s.block.regBad,
    (4, s.block.regReason), (8, s.blockInFlight)]

def State.cmpStatus (s : State) (n : Nat) : Word :=
  let c := s.cmp n
  fields [bit' 0 (c.enable && decide (s.time.tb.toNat < c.live.toNat)), bit' 1 c.bale.isSome, (16, c.holdSkip)]

def State.cntStatus (s : State) (k : Nat) : Word :=
  fields [bit' 0 (s.cnt k).down, bit' 1 (s.gateOpen (s.reg .CNT_CONFIG k))]

def State.gpioCodes (s : State) : Word := fields ((List.range 16).map (fun p => (2 * p, s.pattern.gpioFn p)))

/-! ### Network, USB, Caravan (R288, R309, R330) -/

def State.netStatus (s : State) (p : Nat) : Word :=
  let q := s.netPort p
  fields [bit' 0 (s.sfpModule p).isSome, bit' 1 q.link, (2, q.speed), (4, s.fecInUse p),
    bit' 6 (s.addressOf p != 0), (8, if s.netReady p then (s.pattern.consoleGroups p).length else 0)]

def State.ownerFields (s : State) : Word × Word × Word :=
  match s.net.owner with
  | .purl c n => (c.addr, fields [(0, c.port.toNat), (16, c.net.val)], n)
  | _ => (0, 0, 0)

def State.consoleState (s : State) (u : Nat) : Word :=
  fields [(0, s.universeState u), (2, (s.universe' u).sources.length), (8, (s.universe' u).priority u % 256)]

def State.usbStatus (s : State) : Word :=
  let u := s.usb
  fields [(0, u.state), bit' 4 u.vbus, bit' 5 u.highSpeed, bit' 6 u.grace, bit' 7 (u.mode == .freeze)]

def State.membersShown (s : State) : Nat :=
  if s.caravan.state = 4 then s.caravan.members.length + 1 else s.caravan.leadMembers

def State.caravanStatus (s : State) : Word :=
  let c := s.caravan
  fields [(0, c.state), (8, flagBits ((List.range 8).map (fun h => (s.head h).locked))), bit' 16 c.duplicate.isSome,
    bit' 17 c.oversize, bit' 18 c.eastLink, bit' 19 c.westLink, (24, s.membersShown % 64)]

/-! ### Power (R364, R365, R368) -/

def State.psvStatus (s : State) : Word :=
  let p := s.power
  fields [(0, p.state), bit' 4 p.latch, bit' 5 p.pfw, bit' 6 p.framFault.isSome, (8, p.boardsOff.toNat)]

def State.psuStatus (s : State) (i : Nat) : Word :=
  let c := mapGet default s.power.psus i
  let m := fun k => Config.measured 0x345 (4 * i + k) s.time.tb.toNat
  let mains := c == .delivering || (c == .faulted && m 0 % 2 == 1)
  fields [bit' 0 (c != .absent), bit' 1 mains, bit' 2 (c == .delivering), bit' 3 (c == .faulted),
    bit' 4 (c == .noMains || (c == .delivering && s.power.mainsDown)), (8, m 1 % 256), (16, m 2 % 65536)]

/-- The first-failure record (Table 17-10). -/
def firstBytes (first : Option FirstFailure) : List Byte :=
  match first with
  | none => List.replicate 32 0
  | some f =>
    let b := [0xA5, byteOf f.rail, byteOf f.kind, byteOf f.board] ++ leBytes 4 f.pos.toNat ++ leBytes 4 f.fc.toNat ++
      leBytes 2 f.mv ++ [byteOf f.phase] ++ List.replicate 13 0
    b ++ leBytes 4 (crc32 b)

def State.slaveStatus (s : State) (b : Nat) : Word :=
  let q := s.slave b
  fields [(0, q.state), (8, q.framing), (16, q.crc), (24, q.retry)]

def State.accStatus (s : State) : Word :=
  let code := fun r => match (s.rail r).state with
    | 0 => 0
    | 1 => 1
    | 6 => 3
    | _ => 2
  let amps := fun k => if (s.rail (14 + k)).state = 0 ∨ (s.rail (14 + k)).state = 6 then 0
    else Config.measured 0x368 k s.time.tb.toNat % 256
  fields [(0, code 14), (8, code 15), (16, amps 0), (24, amps 1)]

def State.railStatus (s : State) (r : Nat) : Word :=
  let q := s.rail r
  fields [(0, q.mv % 65536), (16, q.state), bit' 19 q.pg, bit' 20 q.limiting, (24, railNominal r / 50)]

/-- The FRAM bytes that a power-log CAPTURE copies (Table 17-9). -/
def State.framBytes (s : State) : List Byte :=
  let p := s.power.fram
  let rails := (List.range 16).flatMap (fun r =>
    let q := mapGet default p.rails r
    leBytes 2 q.uvWarn ++ leBytes 2 q.uvFault ++ leBytes 2 q.ovWarn ++ leBytes 2 q.ovFault ++ leBytes 2 q.retry)
  padTo 4096 (leBytes 4 0x50530001 ++ leBytes 4 p.pos.toNat ++ leBytes 4 p.mainsLoss ++ leBytes 4 p.startFail ++
    leBytes 4 p.sysReset ++ leBytes 4 p.pfwCount ++ leBytes 4 p.trips ++ List.replicate 4 0 ++ firstBytes p.first ++ rails)

/-! ### Clocks (R389) -/

def State.clockStatus (s : State) : Word :=
  fields [bit' 0 true, bit' 1 s.boot.vcoLock, bit' 2 true, (3, if s.boot.clocks then 31 else 0)]

def State.bringupStatus (s : State) : Word :=
  let b := s.boot
  fields [(0, b.step), (8, b.floorCause), bit' 16 b.usbPhyOk, bit' 17 b.buttonFloor]

/-! ### Every register -/

/-- Registers 0 to 6 of Table 3-1: identity to ingest. -/
def State.readLow (s : State) (r : Reg) (i j : Nat) : Option Word :=
  match r with
  | .UNIT_SERIAL_LOW => some (lowHalf Config.unitSerial.toNat)
  | .UNIT_SERIAL_HIGH => some (highHalf Config.unitSerial.toNat)
  | .BOARD_PRESENT => some (wordOf s.boot.boardsUp.toNat)
  | .SYSTEM_STATE => some s.systemState
  | .COMMIT_PENDING => some (wordOf (flagBits ((List.range 16).map (fun g => (s.group g).state == 1))))
  | .CGROUP_DIRTY => some (wordOf (flagBits ((List.range 16).map (fun g => !(s.dirtyIn g).isEmpty))))
  | .COMMIT_COUNT => some s.commit.count
  | .COMMIT_STATUS => some (s.commitStatus i)
  | .COMMIT_FC => some (s.group i).fc
  | .FAN_STATUS => some (s.fanStatus i)
  | .CHASSIS_TEMPERATURE => some (fields [(0, s.inlet), (8, s.exhaust)])
  | .FRONT_PANEL_STATUS => some s.frontPanel
  | .SFP_STATUS => some (s.sfpStatus i)
  | .DP_POWER_STATUS => some s.dpPowerStatus
  | .GPO_OVERLOAD => some (wordOf s.time.gpoTripped.toNat)
  | .PATTERN_STATUS => some s.patternStatus
  | .PATTERN_SERIAL_ACTIVE => some s.pattern.serial
  | .PATTERN_BUILD_LOW => some (lowHalf s.pattern.buildId.toNat)
  | .PATTERN_BUILD_HIGH => some (highHalf s.pattern.buildId.toNat)
  | .PATTERN_RESULT => some (fields [(0, s.pat.code), (8, s.pat.sect)])
  | .SLOT_STATE => some (fields [bit' 0 (s.slotValid s.pat.slotA), bit' 1 (s.slotValid s.pat.slotB), bit' 2 s.pat.fallback])
  | .PATTERN_LOCK => some (wordOf s.pat.lock.toNat)
  | .KEY_LOCK => some (wordOf s.pat.keyLock.toNat)
  | .ADMIT_FETCH_DEMAND => some (wordOf (mapGet default s.commit.demand i).fetch)
  | .ADMIT_NEEDLE_DEMAND => some (wordOf (mapGet default s.commit.demand i).needle)
  | .ADMIT_PRESHED_COUNT => some (wordOf ((s.head i).presheds % 256))
  | .LEDGER_ENTRY => some (wordOf (leAt (s.ledgerBytes i) (4 * j) 4))
  | .LEDGER_STATUS => some (fields [(0, s.ledger.entries.length), bit' 8 (s.ledger.entries.length == 64), bit' 9 s.ledger.parity])
  | .LEDGER_OVERFLOW_COUNT => some (wordOf s.ledger.overflow)
  | .LEDGER_GENERATION => some s.ledger.generation
  | .LEDGER_CLASS_COUNT => some (wordOf (s.classCount i))
  | .RETIRE_QUEUE_STATUS => some s.retireStatus
  | .RETIRE_COUNT => some (wordOf s.ledger.retireCount)
  | .VIOLATION_ADDR => some s.ledger.violAddr
  | .VIOLATION_INFO => some s.ledger.violInfo
  | .VIOLATION_COUNT => some (wordOf s.ledger.violCount)
  | .ROUTE_PUT => some (wordOf (s.route i).put)
  | .ROUTE_TAKE => some (wordOf (s.route i).take)
  | .ROUTE_STATE => some (s.routeState i)
  | .ROUTE_DROP_COUNT => some (wordOf (s.route i).dropCount)
  | .ROUTE_BAD_COUNT => some (wordOf (s.route i).badCount)
  | .ROUTE_CONFIG => some (fields [(0, (s.route i).consumer), (8, (s.route i).depthLog2)])
  | .ROUTE_BASE_LOW => some (lowHalf (s.route i).base)
  | .ROUTE_BASE_HIGH => some (highHalf (s.route i).base)
  | .POST_RESULT => some (wordOf s.routes.postResult)
  | .EVENT_LOST_COUNT => some (wordOf s.routes.lostCount)
  | .FENCE_COUNT => some (wordOf (s.fence i))
  | .STORE_MAP => some s.storeMap
  | .STORE_CHANNEL_STATE => some (s.channelState i)
  | .STORE_CE_COUNT => some (wordOf (s.channel i).ceCount)
  | .STORE_UE_COUNT => some (wordOf (s.channel i).ueCount)
  | .STORE_LAST_ERROR_LOW => some (lowHalf (s.channel i).lastError)
  | .STORE_LAST_ERROR_HIGH => some (highHalf (s.channel i).lastError)
  | .STORE_CLASS_INFLIGHT => some (wordOf (s.inflight i))
  | .PORTER_STATUS => some (s.porterStatus i)
  | .PORTER_DONE_COUNT => some (s.porterCh i).doneCount
  | .PORTER_BAD_COUNT => some (wordOf (s.porterCh i).badCount)
  | .PORTER_FAULT_ADDR_LOW => some (lowHalf (s.porterFault i).addr)
  | .PORTER_FAULT_ADDR_HIGH => some (wordOf (fld (highHalf (s.porterFault i).addr) 0 4))
  | .PORTER_FAULT_INFO => some (fields [bit' 0 (s.porterFault i).write, (4, (s.porterFault i).cause)])
  | .PORTER_PC => some (wordOf (s.porterCh i).pc)
  | .PORTER_CHECK_RESULT => some (s.porterCh i).checkResult
  | .PORTER_COMPARE_OFFSET => some (s.porterCh i).compareOffset
  | .SRC_STATE => some (s.srcState i)
  | .SRC_RASTER => some (fields [(0, (s.source i).width), (16, (s.source i).height)])
  | .SRC_SDI_PAYLOAD => some (s.source i).payload
  | .SRC_LAYOUT => some (fields [(0, (s.source i).pitch), (16, (s.source i).reducedPitch)])
  | .SRC_STRIDE => some (wordOf (s.source i).stride)
  | .SRC_FRAME_COUNT => some (s.source i).frames
  | .SRC_DROP_COUNT => some (wordOf (s.source i).drops)
  | .SRC_REPEAT_COUNT => some (wordOf (s.source i).repeats)
  | .SRC_CORRUPT_COUNT => some (wordOf (s.source i).corrupts)
  | .SRC_OVERRUN_COUNT => some (wordOf (s.source i).overruns)
  | .SRC_CRC_ERROR_COUNT => some (wordOf (s.source i).crcErrors)
  | .SRC_PACKET_LOSS_COUNT => some (wordOf (s.source i).losses)
  | .SRC_LATE_COUNT => some (wordOf (s.source i).lates)
  | .SRC_FORMAT_MISMATCH_COUNT => some (wordOf (s.source i).mismatches)
  | _ => none

/-- Registers of the skein to block-engine windows. -/
def State.readMid (s : State) (r : Reg) (i j : Nat) : Option Word :=
  match r with
  | .SKEIN_STATUS => some (s.skeinStatus i)
  | .SKEIN_ACTIVE_BASE => some (s.skeinBaseNow i)
  | .SKEIN_RUNG => some (s.skeinRung i)
  | .SKEIN_BAD_FETCH_COUNT => some (wordOf (s.skein i).badFetch)
  | .SKEIN_CLOSE_COUNT => some (wordOf (s.skein i).closeCount)
  | .NEEDLE_STATUS => some (s.needleStatus i)
  | .NEEDLE_LOAD => some (wordOf (s.needle i).load)
  | .NEEDLE_TEST_RESULT => some (wordOf (s.needle i).lastTest)
  | .NEEDLE_TEST_PASS_COUNT => some (wordOf (s.needle i).passes)
  | .NEEDLE_TEST_ABANDON_COUNT => some (wordOf (s.needle i).abandons)
  | .COLOUR_PARITY_COUNT => some (wordOf (s.head i).parityCount)
  | .LUT_PORT_DATA => some ((s.lutEntry i).zeroExtend 32)
  | .FABRIC_FRAME_LOAD => some (wordOf (s.head i).lastFrameWork)
  | .FABRIC_PEAK_LINE => some (wordOf (s.head i).lastPeakWork)
  | .HEAD_TIMING_H => some (fields [(0, (s.headRec i).hActive), (16, (s.headRec i).hTotal)])
  | .HEAD_TIMING_V => some (fields [(0, (s.headRec i).vActive), (16, (s.headRec i).vTotal)])
  | .HEAD_DIVIDER => some (wordOf (s.headRec i).divN)
  | .HEAD_DIVIDER_FRACTION => some (s.divFraction i)
  | .HEAD_STATUS => some (s.headStatus i)
  | .HEAD_FC => some (s.head i).fc
  | .HEAD_LINE => some (wordOf (s.lineNow i % 8192))
  | .GAUGE_LEAD => some (s.gaugeLead i)
  | .HEAD_CLOSE_COUNT => some (wordOf (s.head i).closeCount)
  | .GAUGE_SHED_COUNT => some (wordOf (s.head i).shedCount)
  | .GAUGE_RESTORE_COUNT => some (wordOf (s.head i).restoreCount)
  | .DP_STATUS => some (s.dpStatus i)
  | .DP_RETRAIN_COUNT => some (wordOf ((s.dpPort i).trainings - 1))
  | .SDI_OUT_STATUS => some (s.sdiOutStatus i)
  | .DP_EDID => some (wordOf (leAt ((((s.dpPort i).sink).map (·.edid)).getD []) (4 * j) 4))
  | .WITNESS_STATUS => some (s.witnessStatus i)
  | .WITNESS_LAST_CRC => some (s.head i).lastCrc
  | .WITNESS_LAST_FC => some (s.head i).lastFc
  | .WITNESS_MISMATCH_COUNT => some (wordOf (s.head i).mismatches)
  | .RE_CONTEXT_STATUS => some (s.contextStatus i)
  | .RE_BIN_USED => some (wordOf (ceilDiv (s.context i).used 64))
  | .RE_FRAME_COUNT => some (wordOf (s.context i).frames)
  | .RE_TILES_WRITTEN => some (wordOf (s.context i).written)
  | .RE_TILES_SKIPPED => some (wordOf (s.context i).skipped)
  | .RE_PARTIAL_COUNT => some (wordOf (s.context i).partials)
  | .RE_GROW_COUNT => some (wordOf (s.context i).grows)
  | .RE_TEXEL_FAULT_COUNT => some (wordOf (s.context i).texelFaults)
  | .RE_STATUS => some s.reStatus
  | .RE_CORE_STATUS => some (s.coreStatus i)
  | .RE_CORE_PASS_COUNT => some (s.core i).passes
  | .BE_STATUS => some s.beStatus
  | .BE_FAULT_ADDR_LOW => some (lowHalf s.block.faultAddr)
  | .BE_FAULT_ADDR_HIGH => some (highHalf s.block.faultAddr)
  | .BE_OP_COUNT => some (wordOf s.block.opCount)
  | .BE_BAD_COUNT => some (wordOf s.block.badCount)
  | .BE_BYTES_LOW => some (lowHalf s.block.bytes.toNat)
  | .BE_BYTES_HIGH => some (highHalf s.block.bytes.toNat)
  | _ => none

/-- Registers of the time-base to clock windows. -/
def State.readHigh (s : State) (r : Reg) (i _j : Nat) : Option Word :=
  match r with
  | .TB_LOW => some (lowHalf s.time.tb.toNat)
  | .TB_HIGH => some (highHalf s.time.tb.toNat)
  | .TB_SOURCE => some (wordOf s.time.lfclk.toNat)
  | .CMP_NEXT_LOW => some (lowHalf (s.cmp i).live.toNat)
  | .CMP_NEXT_HIGH => some (highHalf (s.cmp i).live.toNat)
  | .CMP_MATCH_COUNT => some (s.cmp i).matchCount
  | .CMP_BALE_FAULT_COUNT => some (wordOf (s.cmp i).faultCount)
  | .CMP_STATUS => some (s.cmpStatus i)
  | .CNT_VALUE => some (s.cnt i).count
  | .CNT_STATUS => some (s.cntStatus i)
  | .CNT_WRAP_COUNT => some (s.cnt i).wraps
  | .GPI_STATE => some (wordOf s.time.gpiState.toNat)
  | .GPIO_FUNCTION => some s.gpioCodes
  | .GPO_STATE => some (wordOf (flagBits ((List.range 8).map s.gpoDriven)))
  | .NET_ADDRESS_IN_USE => some (s.addressOf i)
  | .NET_STATUS => some (s.netStatus i)
  | .NET_RX_COUNT => some (wordOf (s.netPort i).rx)
  | .NET_TX_COUNT => some (wordOf (s.netPort i).tx)
  | .NET_DISCARD_COUNT => some (wordOf (s.netPort i).discards)
  | .NET_FCS_ERROR_COUNT => some (wordOf (s.netPort i).fcsErrors)
  | .PURL_OWNER_ADDRESS => some s.ownerFields.1
  | .PURL_OWNER_PORT => some s.ownerFields.2.1
  | .PURL_OWNER_SESSION => some s.ownerFields.2.2
  | .PURL_BUSY_COUNT => some (wordOf s.net.busyCount)
  | .PURL_MALFORMED_COUNT => some (wordOf s.net.malformedCount)
  | .PURL_AUTH_FAIL_COUNT => some (wordOf s.net.authFailCount)
  | .PURL_DUPLICATE_COUNT => some (wordOf s.net.duplicateCount)
  | .PURL_CAPTURE_DISCARD_COUNT => some (wordOf s.net.captureDiscards)
  | .CONSOLE_IGNORED_COUNT => some (wordOf s.net.consoleIgnored)
  | .CONSOLE_UNIVERSE_STATE => some (s.consoleState i)
  | .CONSOLE_VALUE => some (mapGet 0 s.net.consoleValue i)
  | .USB_PORT_DISABLE => some (wordOf s.usb.disabled.toNat)
  | .USB_STATUS => some s.usbStatus
  | .USB_CAPTURE_DISCARD_COUNT => some (wordOf s.usb.captureDiscards)
  | .USB_BUS_RESET_COUNT => some (wordOf s.usb.busResets)
  | .USB_PARTIAL_DISCARD_COUNT => some (wordOf s.usb.partialDiscards)
  | .CARAVAN_STATUS => some s.caravanStatus
  | .CARAVAN_PRIORITY_LOW => some (lowHalf s.caravan.priority.toNat)
  | .CARAVAN_PRIORITY_HIGH => some (highHalf s.caravan.priority.toNat)
  | .CARAVAN_LEAD_LOW => some (lowHalf s.caravan.lead.toNat)
  | .CARAVAN_LEAD_HIGH => some (highHalf s.caravan.lead.toNat)
  | .CARAVAN_CFN => some s.caravan.cfn
  | .CARAVAN_LINK_DELAY => some (wordOf (if i = 0 then s.caravan.eastDelay else s.caravan.westDelay))
  | .CARAVAN_CHECK_ERROR_COUNT => some (wordOf s.caravan.checkErrors)
  | .CARAVAN_LEAD_CHANGE_COUNT => some (wordOf s.caravan.leadChanges)
  | .CARAVAN_IGNORED_COUNT => some (wordOf s.caravan.ignored)
  | .CARAVAN_PHASE_ERROR => some (wordOf (unsigned 32 (s.head i).phaseErr))
  | .CARAVAN_BARRIER_RESULT => some (fields [(0, s.caravan.barrierResult), (4, s.caravan.barrierSlot)])
  | .CARAVAN_BARRIER_PENDING => some (wordOf (flagBits ((List.range 8).map (fun i => (s.barrier i).isSome))))
  | .CARAVAN_BARRIER_SLOT_CFN => some (((s.barrier i).map (·.cfn)).getD 0)
  | .CARAVAN_BARRIER_SLOT_MASK => some (((s.barrier i).map (fun b => b.mask.zeroExtend 32)).getD 0)
  | .PSV_STATUS => some s.psvStatus
  | .PSU_STATUS => some (s.psuStatus i)
  | .PSV_RESULT => some (wordOf s.power.result)
  | .POS => some s.power.pos
  | .FIRST_FAILURE => some (wordOf (leAt (firstBytes s.power.first) (4 * i) 4))
  | .SLAVE_STATUS => some (s.slaveStatus i)
  | .ACC_STATUS => some s.accStatus
  | .MAINS_LOSS_COUNT => some (wordOf s.power.mainsLoss)
  | .START_FAIL_COUNT => some (wordOf s.power.startFail)
  | .SYSTEM_RESET_COUNT => some (wordOf s.power.sysReset)
  | .PFW_COUNT => some (wordOf s.power.pfwCount)
  | .THERMAL_TRIP_COUNT => some (wordOf s.power.trips)
  | .RAIL_STATUS => some (s.railStatus i)
  | .RAIL_COUNT_WARN => some (fields [(0, (s.rail i).uvWarn), (16, (s.rail i).ovWarn)])
  | .RAIL_COUNT_FAULT => some (fields [(0, (s.rail i).uvFault), (16, (s.rail i).ovFault)])
  | .RAIL_COUNT_RETRY => some (wordOf (s.rail i).retry)
  | .CLOCK_STATUS => some s.clockStatus
  | .RESET_CAUSE => some (wordOf s.boot.cause)
  | .BRINGUP_STATUS => some s.bringupStatus
  | .WARM_RESET_COUNT => some (wordOf s.boot.warmCount)
  | .CLOCK_MEASURE => some (wordOf (Config.measured 0x371 i s.time.tb.toNat))
  | .BRINGUP_TIME => some (wordOf (mapGet 0 s.boot.times i))
  | _ => none

/-- What a read of a register returns: a computed level, or the value last written, shadow copies included (Table 0-2).
DEDUCED, log 52. -/
def State.readReg (s : State) (r : Reg) (i j : Nat) : Word :=
  ((s.readLow r i j).orElse (fun _ => (s.readMid r i j).orElse (fun _ => s.readHigh r i j))).getD (s.reg r i j)

end Sys2Proof.Machine
end

