-- ==== Sys2Proof/Machine/Porter.lean ====
section
/-! DEFINITION. The Porter's channels (05): transfers, live and shadow sets, GO and CLEAR. What a transfer moves is in
PorterRun. -/

namespace Sys2Proof.Machine

/-! ### Transfers (R109, R110, Table 5-2) -/

def opMove : Nat := 0
def opFill : Nat := 1
def opCompare : Nat := 2
def opCheck : Nat := 3

/-- Bytes of a width code; 0 for the invalid codes 6 and 7 (R110). -/
def widthOf (code : Nat) : Nat := if code ≤ 5 then 2 ^ code else 0

/-- Bit [35] names the register side (R109). -/
def regSide (a : Nat) : Bool := natBit a 35

/-- The transfer reads its SRC, and writes its DST. -/
def Transfer.readsSrc (t : Transfer) : Bool := t.op != opFill
def Transfer.writesDst (t : Transfer) : Bool := t.op != opCompare

/-- An address breaks R109: a bit above 35 set, or one of bits [34:25] on the register side. -/
def badAddress (a : Nat) : Bool := decide (2 ^ 36 ≤ a) || (regSide a && decide (a / 2 ^ 25 % 2 ^ 10 ≠ 0))

/-- An address on a side reached by incrementing has left the register space (R109). Whether a side is one of registers
is settled by the address it starts from. DEDUCED, log 133. -/
def pastRegisters (a : Nat) : Bool := decide (2 ^ 35 + 2 ^ 25 ≤ a)

/-- An address breaks its width's rule (R109, R110). -/
def misaligned (a w : Nat) : Bool := w == 0 || a % w != 0 || (regSide a && w != 4)

/-- Why a transfer of COUNT above 0 makes no access at all: DECODE, then ALIGN, SRC before DST. A COUNT that is no
multiple of the larger width is charged to the side of that width. DEDUCED, log 41. -/
def Transfer.refusal (t : Transfer) : Option BusErr :=
  let dir := t.writesDst
  let wide := t.readsSrc && decide (t.dstWidth ≤ t.srcWidth)
  let count := if wide then t.count % t.srcWidth != 0 else t.count % t.dstWidth != 0
  if t.readsSrc && badAddress t.src then some ⟨t.src, false, causeDecode⟩
  else if badAddress t.dst then some ⟨t.dst, dir, causeDecode⟩
  else if t.readsSrc && misaligned t.src t.srcWidth then some ⟨t.src, false, causeAlign⟩
  else if misaligned t.dst t.dstWidth then some ⟨t.dst, dir, causeAlign⟩
  else if count then some (if wide then ⟨t.src, false, causeAlign⟩ else ⟨t.dst, dir, causeAlign⟩)
  else none

/-- A transfer from a WIDTHS byte and its companions (Tables 5-3 and 5-5). -/
def transferOf (op widths control count src dst : Nat) (fill : List Byte) : Transfer where
  op       := op
  src      := src
  dst      := dst
  srcWidth := widthOf (widths % 8)
  dstWidth := widthOf (widths / 8 % 8)
  srcFixed := natBit widths 6
  dstFixed := natBit widths 7
  count    := count
  fill     := fill
  readBack := natBit control 0

/-- The transfer of the live set in register mode (R128). -/
def PorterLive.transfer (l : PorterLive) : Transfer where
  op       := fld l.ctrl 0 3
  src      := l.src
  dst      := l.dst
  srcWidth := widthOf (fld l.ctrl 4 3)
  dstWidth := widthOf (fld l.ctrl 8 3)
  srcFixed := bitAt l.ctrl 12
  dstFixed := bitAt l.ctrl 13
  count    := l.count
  fill     := l.fill
  readBack := bitAt l.ctrl 16

/-- A write of the transfer went to an address. -/
def Transfer.wrote (t : Transfer) (a : Nat) : Bool :=
  let n := if t.dstFixed then t.dstWidth else t.count + (if t.op = opCheck then 4 else 0)
  t.writesDst && decide (t.dst ≤ a) && decide (a < t.dst + n)

/-- What a transfer of COUNT 0 leaves (R113). -/
def PorterSt.zeroCount (p : PorterSt) (op : Nat) : PorterSt :=
  if op = opCompare then { p with mismatch := false }
  else if op = opCheck then { p with checkResult := 0 }
  else p

/-! ### Transfers in flight (R114, R122) -/

/-- A transfer is issued on a channel, which runs. -/
def State.launch (s : State) (n i : Nat) (t : Transfer) : State :=
  s.modPorter n (fun p => { p with state := 1, unconfirmed := p.unconfirmed ++ [⟨i, t, []⟩] })

/-- The transfer just issued has failed: its bus error is to be handled. -/
def State.launchFails (s : State) (n i : Nat) (e : BusErr) : State :=
  s.modPorter n (fun p => { p with
    error := some (i, e)
    unconfirmed := settleFlight (p.unconfirmed.dropLast ++
      (p.unconfirmed.getLast?.map (fun q => { q with failed := [e.addr] })).toList) })

/-! ### Live and shadow sets (R115) -/

/-- A 36-bit value of two shadow registers. -/
def State.pairReg (s : State) (low high : Reg) (n : Nat) : Nat := (s.reg low n).toNat + 2 ^ 32 * (s.reg high n).toNat

def State.porterShadow (s : State) (n : Nat) : PorterLive where
  mode        := fld (s.reg .PORTER_CONFIG n) 0 2
  eventOnDone := bitAt (s.reg .PORTER_CONFIG n) 3
  errStop     := bitAt (s.reg .PORTER_CONFIG n) 2
  src         := s.pairReg .PORTER_SRC_LOW .PORTER_SRC_HIGH n
  dst         := s.pairReg .PORTER_DST_LOW .PORTER_DST_HIGH n
  count       := (s.reg .PORTER_COUNT n).toNat
  ctrl        := s.reg .PORTER_CTRL n
  fill        := leBytes 4 (s.reg .PORTER_FILL_LOW n).toNat ++ leBytes 4 (s.reg .PORTER_FILL_HIGH n).toNat
  progBase    := s.pairReg .PORTER_PROG_BASE_LOW .PORTER_PROG_BASE_HIGH n

/-- A completion is counted, and PORTER_DONE posted if asked in register and program mode (R114, R118). -/
def State.porterCount (s : State) (n : Nat) : State :=
  let s1 := s.modPorter n (fun p => { p with doneCount := p.doneCount + 1 })
  let p := s1.porterCh n
  if p.live.eventOnDone && p.live.mode != 3 then
    s1.event 0xA0 ([byteOf n, byteOf p.live.mode, byteOf p.status, 0] ++ leBytes 4 p.doneCount.toNat)
  else s1

/-- The shadow becomes live (R115, R117): a transfer of COUNT 0 completes at once (R113), but one whose OP is invalid
starts and raises OPCODE (Table of PORTER_CTRL). DEDUCED, log 44; DESIGN CHOICE, log 136. -/
def State.goLive (s : State) (n : Nat) : State :=
  let l := s.porterShadow n
  let s1 := s.modPorter n (fun p => { p with live := l, armed := false, goAfter := false, loops := [], status := 0 })
  match l.mode with
  | 1 =>
    if l.count = 0 ∧ l.transfer.op ≤ 3 then (s1.modPorter n (fun p => p.zeroCount l.transfer.op)).porterCount n
    else s1.modPorter n (fun p => { p with state := 1, starting := true })
  | 2 => s1.modPorter n (fun p => { p with state := 1, pc := 0 })
  | _ => s1

/-- The channel has nothing left to do: IDLE, or an armed shadow becomes live (R115). -/
def State.porterIdle (s : State) (n : Nat) : State :=
  let s1 := s.modPorter n (fun p => { p with state := 0, starting := false })
  if (s1.porterCh n).armed then s1.goLive n else s1

/-- A transfer or program completes. DEDUCED, log 43. -/
def State.porterComplete (s : State) (n : Nat) : State := (s.porterCount n).porterIdle n

/-- GO: arm the shadow, live at once when the channel is idle (R115). -/
def State.porterGo (s : State) (n : Nat) : State :=
  let s1 := s.modPorter n (fun p => { p with armed := true })
  let p := s1.porterCh n
  if p.state = 0 ∧ p.clearing = false then s1.goLive n else s1

/-- Descriptors whose data has moved complete when CLEAR ends (R78, R116). -/
def State.dropDescriptors (s : State) (n : Nat) (l : List Nat) : State :=
  match s.routeFor (.porter n) with
  | none => s
  | some r => if (s.porterCh n).live.mode = 3 then l.foldl (fun s i => s.finishBale r i false) s else s

/-- CLEAR ends: the shadow is disarmed and the channel is IDLE; a GO written with it follows (R116, R128). -/
def State.clearDone (s : State) (n : Nat) : State :=
  let again := (s.porterCh n).goAfter
  let s1 := (s.dropDescriptors n (((s.porterCh n).unconfirmed.filter (·.open')).map (·.index))).modPorter n (fun p => { p with
    unconfirmed := [], starting := false, clearing := false, clearRecorded := false, armed := false, goAfter := false, state := 0 })
  if again then s1.porterGo n else s1

/-- CLEAR (R116, R119, R128): loop counters go to 0 at once, and writes in flight are waited for: those of a register
transfer under way, of a transfer that failed, and of a halt. DEDUCED, log 45. -/
def State.porterClear (s : State) (n : Nat) : State :=
  let failing := match (s.porterCh n).error with
    | some e => [e.1]
    | none => []
  let s1 := (s.dropDescriptors n failing).modPorter n (fun p => { p with
    loops := [], waiting := none, waitMet := false, error := none, halting := false
    mismatch := false, fault := none, clearing := true, clearRecorded := false, goAfter := false })
  if (s.porterCh n).busy then s1 else s1.clearDone n

/-- A write of PORTER_CONTROL: CLEAR, and then GO (R128). -/
def State.wrotePorter (s : State) (n : Nat) (v : Word) : State :=
  let s1 := if bitAt v 1 then s.porterClear n else s
  if bitAt v 0 = false then s1
  else if bitAt v 1 && (s1.porterCh n).clearing then s1.modPorter n (fun p => { p with goAfter := true })
  else s1.porterGo n

end Sys2Proof.Machine
end

