-- ==== Sys2Proof/Machine/UsbPort.lean ====
section
/-! DEFINITION. The USB port's state (14): modes, the end of a USB owner session, capture pages queued and the port's
disconnection. -/

namespace Sys2Proof.Machine

def State.modUsb (s : State) (f : UsbSt → UsbSt) : State := { s with usb := f s.usb }

/-- CAUSE codes of USB_STATE (R308). -/
def usbHost : Nat := 0
def usbReset : Nat := 1
def usbVbusLost : Nat := 2
def usbGraceOver : Nat := 3
def usbDisabled : Nat := 4

/-- USB_STATUS STATE changes, with its event (R308). -/
def State.usbState (s : State) (st cause : Nat) : State :=
  if s.usb.state = st then s
  else (s.modUsb (fun u => { u with state := st })).event 0xE0 [byteOf st, byteOf cause]

/-- The unit moves to another mode of R304; whatever follows SYSTEM_STATE MODE follows it, and the block engine's bursts
and the raster engine's binning resume when debug hold ends. What
the TCLK cycle before the hold left to be fired or counted is carried out first (R258). -/
def State.enterMode (s : State) (m : UsbMode) : State :=
  if s.usb.mode = m then s
  else
    let s0 := if m = .debugHold then s.settleCycle else s
    let s1 := ((s0.modUsb (fun u => { u with mode := m })).settleGpo s0).settleAcc
    if s.usb.mode = .debugHold then s1.drive.resumeBins else s1

/-- The USB owner session ends, and with it freeze or debug hold (R294, R304). -/
def State.endUsbOwner (s : State) (change : Nat) : State :=
  if s.net.owner = .usb then
    let s1 := { s with net := { s.net with owner := .none } }
    ((s1.modUsb (fun u => { u with grace := false })).enterMode .normal).ownerEvent change 1 0
  else s

/-- An end whose CHANGE code Table 13-8 does not give: a free value (log 2). DEDUCED, log 63. -/
def State.endUsbOpen (s : State) (cause : Nat) : State := s.endUsbOwner (Config.unstated 0xD8 cause % 256)

/-- Free a page of the shared pool, or page 4, the on-chip buffer. -/
def State.freePage (s : State) (k : Nat) : State :=
  if k = 4 then { s with net := { s.net with chipPage := none } }
  else { s with net := { s.net with pages := mapSet none s.net.pages k none } }

/-- Base of the page pool: the lowest capture-page region. -/
def Pattern.poolBase (p : Pattern) : Option Nat :=
  ((p.regions.filter (fun r => r.kind == 5)).map (·.base)).foldl (fun m b => match m with
    | none => some b
    | some a => some (min a b)) none

/-- The page pool goes or moves with its region: no page of it is held or queued any more (R277). DESIGN CHOICE, log 151. -/
def State.dropPool (s : State) : State :=
  ({ s with net := { s.net with pages := [] } } : State).modUsb (fun u => { u with
    queue := u.queue.filter (fun k => k == 4), packets := if u.queue.head? = some 4 then u.packets else 0 })

/-- The page at the head of EP1 leaves the queue and is freed. -/
def State.dropHeadPage (s : State) : State :=
  match s.usb.queue with
  | [] => s
  | k :: rest => (s.freePage k).modUsb (fun u => { u with queue := rest, packets := 0 })

/-- The pull-up is connected under R289 once the block is out of reset (R379). -/
def State.usbConnect (s : State) : State :=
  if s.usb.vbus && s.boot.usbPhyOk && !s.usb.disabled && s.boot.mode != 0 && !s.usb.pullup then
    (s.modUsb (fun u => { u with pullup := true })).usbState 1 usbHost
  else s

/-- The one accepted write of USB_PORT_DISABLE (R49, R306). -/
def State.wroteUsbDisable (s : State) (v : Word) : State :=
  let s1 := s.modUsb (fun u => { u with disableWritten := true })
  if bitAt v 0 = false then s1
  else
    let s2 := (s1.modUsb (fun u => { u with disabled := true, removalDue := true })).endUsbOpen usbDisabled
    let s3 := s2.usb.queue.foldl State.freePage s2
    s3.modUsb (fun u => { u with queue := [], packets := 0 })

/-- USB_PULLUP_REMOVAL (R306). -/
def State.pullupRemoval (s : State) : State :=
  if s.usb.removalDue then
    (s.modUsb (fun u => { u with removalDue := false, pullup := false, highSpeed := false })).usbState 5 usbDisabled
  else s

/-- USB_PULLUP_REMOVAL (R306). -/
def execUsbPullupRemoval (s : State) : Host.Outcome State Fault Refusal := .next s.pullupRemoval

end Sys2Proof.Machine
end

