-- ==== Sys2Proof/Machine/Access.lean ====
section
/-! DEFINITION. Register access: how an access is judged (R59 to R63, R73, R74, R410), and what an accepted write does
by its register (R8, R49, R62, R65). -/

namespace Sys2Proof.Machine

/-! ### Judging an access -/

/-- Violation reasons (Table 3-3). -/
def whyUnmapped : Nat := 1
def whyAlignment : Nat := 2
def whyReadOnly : Nat := 3
def whyLocked : Nat := 4
def whyWriteOnce : Nat := 5
def whyNotOwner : Nat := 6
def whyFloor : Nat := 7

/-- PATH of VIOLATION_INFO (R75). -/
def pathCode : Accessor → Nat
  | .purl _ _ => 0
  | .usb => 1
  | .bale => 2
  | .porter => 4

/-- The accessor writes as the owner (R61). -/
def State.isOwner (s : State) : Accessor → Bool
  | .purl c n => s.net.owner == .purl c n
  | .usb => s.net.owner == .usb
  | .bale => true
  | .porter => true

/-- The register interface can be reached: Purl in service, USB in floor mode and service (R379). DEDUCED, log 79. -/
def State.reachable (s : State) : Accessor → Bool
  | .purl _ _ => s.boot.regsUp && s.boot.mode == 2
  | .usb => s.boot.regsUp && s.boot.mode != 0
  | _ => s.boot.regsUp

/-- Floor mode admits the address (R73). -/
def floorAdmits (a : Nat) : Bool :=
  a / 0x100000 == 0x2 || a / 0x100000 == 0x12 ||
    [0x100010, 0x100014, 0x100000, 0x10001C, 0x0, 0x4].contains a

/-- A write-once register has taken its one write (R49). -/
def State.writtenOnce (s : State) : Reg → Bool
  | .PATTERN_LOCK => s.pat.lockWritten
  | .KEY_LOCK => s.pat.keyLockWritten
  | .USB_PORT_DISABLE => s.usb.disableWritten
  | _ => false

/-- Why the register's type refuses a write. -/
def State.typeRefusal (s : State) (r : Reg) : Option Nat :=
  match r.row.access with
  | .ro => some whyReadOnly
  | .roL => some whyReadOnly
  | .wo => if s.writtenOnce r then some whyWriteOnce else none
  | .rwP => if s.pat.lock || (keyRegister r && s.pat.keyLock) then some whyLocked else none
  | _ => none

/-- The first reason that refuses an access (R410). -/
def State.judgeAccess (s : State) (acc : Accessor) (write : Bool) (a : Nat) : Option Nat :=
  if a % 4 ≠ 0 then some whyAlignment
  else if s.boot.mode = 1 ∧ floorAdmits a = false then some whyFloor
  else
    match regAt a with
    | none => some whyUnmapped
    | some (r, _, _) =>
      if write = false then none
      else if s.isOwner acc = false then some whyNotOwner
      else s.typeRefusal r

/-- A refused access (R74). DEDUCED, log 80. -/
def State.violation (s : State) (acc : Accessor) (write : Bool) (a reason : Nat) : State :=
  let info := fields [(0, reason), (4, pathCode acc), bit' 7 write]
  let s1 := { s with ledger := { s.ledger with
    violAddr := wordOf a, violInfo := info, violCount := satInc s.ledger.violCount } }
  s1.record 0x01 classB [(8, reason), (8, pathCode acc)] a

/-! ### What a write does -/

/-- PATTERN_CONTROL starts an operation, or is refused with BUSY (R43). -/
def State.channelsInService (s : State) : List Nat := (List.range 8).filter (fun c => (s.channel c).state == 2)

def State.patternBusy (s : State) : Bool := s.pat.op.isSome || s.pat.restitch.isSome || s.pat.filling

def State.refuseCommand (s : State) : State :=
  { s with pat := { s.pat with code := patBusy, sect := noSection } }

/-- Begin an operation: the policy, the owner key and the channel list are taken at its start (R41, R98). -/
def State.beginPattern (s : State) (kind : PatOpKind) (source target : Nat) : State :=
  let op : PatOp := ⟨kind, source, target, fld (s.stored .SIG_POLICY) 0 2, s.ownerKey .OWNER_KEY_X, s.ownerKey .OWNER_KEY_Y,
    s.channelsInService⟩
  { s with pat := { s.pat with op := some op } }

def State.wrotePattern (s : State) (v : Word) : State :=
  let cmd := fld v 0 4
  let source := fld v 4 2
  if cmd = 0 then s
  else if s.patternBusy = true ∨ 2 < cmd ∨ (cmd = 1 ∧ source = 3) then s.refuseCommand
  else if cmd = 1 then s.beginPattern .load source 0
  else s.beginPattern .program 0 (fld v 6 1 + 1)

/-- The write of OWNER_KEY_Y[7] stores the whole key (R55). -/
def State.storeKey (s : State) : State :=
  (List.range 8).foldl (fun s n =>
    (s.setStored .OWNER_KEY_X n 0 (s.reg .OWNER_KEY_X n)).setStored .OWNER_KEY_Y n 0 (s.reg .OWNER_KEY_Y n)) s

/-- A write of ROUTE_POST posts the staged bale; POST_RESULT then waits for this post (R80, R95). -/
def State.postStaged (s : State) (route : Nat) : State :=
  let b := (List.range 16).flatMap (fun k => leBytes 4 (s.reg .BALE_STAGE k).toNat)
  let s0 := { s with routes := { s.routes with stageSerial := s.routes.stageSerial + 1 } }
  match s0.acceptPost route [b] (.stage s0.routes.stageSerial) with
  | (s1, 1) => s1
  | (s1, st) => { s1 with routes := { s1.routes with postResult := st } }

/-- EVENT_RELEASE: TAKE of ROUTE[15] advances by the count or the occupancy (R89). -/
def State.releaseEvents (s : State) (n : Nat) : State :=
  s.modRoute 15 (fun q => { q with take := (q.take + min n q.occupancy) % 65536 })

/-- LEDGER_CONTROL (R397). -/
def State.clearLedger (s : State) : State :=
  let s1 := { s with ledger := { s.ledger with
    entries := [], badParity := [], parity := false, overflow := 0, generation := s.ledger.generation + 1
    countA := 0, countB := 0, countC := 0, countD := 0 } }
  s1.ledgerEvent 0

/-- A counter goes on from a count: down in mode 2, and in mode 1 from above TOP (R249, R250). -/
def State.countFrom (s : State) (k : Nat) (v : Word) : State :=
  let mode := cntMode (s.reg .CNT_CONFIG k)
  s.modCnt k (fun c => { c with count := v, down := mode == 2 || (mode == 1 && (c.down || decide (c.reload < v))) })

/-- A write of CNT_LOAD: one in the TCLK cycle of a wrap takes the wrap's place, and nothing is reloaded (R256). -/
def State.loadCount (s : State) (k : Nat) (v : Word) : State :=
  (s.modCnt k (fun c => match c.wrapFrom with
    | none => c
    | some (r, d) => { c with reload := r, down := d, wrapFrom := none })).countFrom k v

/-- Registers whose value is kept in standby memory or flash as written (R55, R288, R368). -/
def storedAtWrite : Reg → Bool
  | .SIG_POLICY => true
  | .SLOT_PREFERENCE => true
  | .NET_CONFIG => true
  | .NET_VLAN => true
  | .NET_ADDRESS => true
  | .NET_NETMASK => true
  | .NET_GATEWAY => true
  | .PURL_CONFIG => true
  | .PSV_CONTROL => true
  | .RAIL_CONFIG => true
  | .RAIL_LEVELS => true
  | .RAIL_SEQUENCE => true
  | _ => false

/-- The value a write leaves: reserved bits read 0 (R15), and fields fixed on some rails keep theirs (R368). -/
def State.keptValue (s : State) (r : Reg) (i : Nat) (v : Word) : Word :=
  let w := v &&& wordOf r.row.mask
  match r with
  | .RAIL_CONFIG => if 13 ≤ i then putField w 0 2 (fld (s.reg .RAIL_CONFIG i) 0 2) else w
  | .RAIL_SEQUENCE => if railGated i then w else (w &&& wordOf 0xC0FFFFFF) ||| (s.reg .RAIL_SEQUENCE i &&& wordOf 0x3F000000)
  | _ => w

/-- HIGH of a 64-bit RW-I pair applies both words (R62). DEDUCED, log 31. -/
def State.applyPair (s : State) (low : Reg) (i : Nat) (v : Word) : State :=
  s.setPair low i ((s.reg low i).toNat + 2 ^ 32 * v.toNat)

/-- What follows in the same cycle from an accepted write of the value v over the value old. -/
def State.wroteEffect (s before : State) (acc : Accessor) (r : Reg) (i : Nat) (old v : Word) : State :=
  match r with
  | .COMMIT_CONTROL => s.commitMask (fld v 0 16)
  | .PATTERN_CONTROL => s.wrotePattern v
  | .PATTERN_LOCK => { s with pat := { s.pat with lockWritten := true, lock := bitAt v 0 } }
  | .KEY_LOCK => { s with pat := { s.pat with keyLockWritten := true, keyLock := bitAt v 0 } }
  | .OWNER_KEY_Y => if i = 7 then s.storeKey else s
  | .LEDGER_CONTROL => if bitAt v 0 && fld v 16 16 == 0x4C44 then s.clearLedger else s
  | .ROUTE_POST => s.postStaged (fld v 0 4)
  | .ROUTE_CONTROL => if bitAt v 4 then s.resetRoute (fld v 0 4) 0 none else s
  | .EVENT_RELEASE => s.releaseEvents (fld v 0 13)
  | .FENCE_COUNT => s.setFence i (fld v 0 16)
  | .STORE_SCRUB_PERIOD => s.wroteScrubPeriod v
  | .PORTER_CONTROL => s.wrotePorter i v
  | .SRC_CONFIG => s.wroteSrcConfig before i
  | .SRC_BASE_HIGH => (s.applyPair .SRC_BASE_LOW i v).restartSource i
  | .SRC_NET_FORMAT => s.wroteSrcNet i
  | .SRC_NET_SIZE => s.wroteSrcNet i
  | .LUT_PORT_DATA => s.wroteLut i v
  | .DP_CONFIG => s.wroteDpConfig i old v
  | .WITNESS_CONTROL => s.wroteWitness i v
  | .RE_BIN_BASE_HIGH => s.applyPair .RE_BIN_BASE_LOW i v
  | .RE_BIN_GROW_HIGH => s.applyPair .RE_BIN_GROW_LOW i v
  | .RE_SPILL_BASE_HIGH => s.applyPair .RE_SPILL_BASE_LOW i v
  | .RE_BIN_GROW_SIZE => s.wroteGrow i
  | .BE_FILL_HIGH => s.applyPair .BE_FILL_LOW i v
  | .BE_CONTROL => s.wroteBeControl v
  | .CMP_VALUE_HIGH => (s.applyPair .CMP_VALUE_LOW i v).wroteCmpValue i
  | .CMP_PERIOD => s.wroteCmpPeriod i
  | .CMP_CONFIG => s.wroteCmpConfig i old v
  | .CMP_BALE_ADDR_HIGH => (s.applyPair .CMP_BALE_ADDR_LOW i v).wroteCmpBale i
  | .CNT_CONFIG => if cntMode old = cntMode v then s
      else (s.modCnt i (fun c => { c with down := false })).countFrom i (s.cnt i).count
  | .CNT_LOAD => s.loadCount i v
  | .GPO_CONTROL => s.settleGpo before
  | .NET_CONFIG => s.wroteNetConfig before i v
  | .NET_ADDRESS => s.wroteNetAddress before i
  | .USB_PORT_DISABLE => s.wroteUsbDisable v
  | .CARAVAN_BARRIER_COMMIT => if fld v 0 16 = 0 then s else s.armBarrier (fld v 0 16)
  | .CARAVAN_BARRIER_CANCEL => s.cancelBarriers (fld v 0 8)
  | .PSV_COMMAND => s.psvCommand (acc == .usb) v
  | .ACC_CONTROL => s.wroteAcc old v
  | .RESET_CONTROL => if bitAt v 0 && fld v 16 16 == 0x5A5A then s.warmReset 3 else s
  | _ => s

/-- A shadow value that brings a needle under test into service aborts its test in the same cycle (R176, R177). -/
def State.shadowEffect (s : State) (r : Reg) : State :=
  match r with
  | .SKEIN_NEEDLE => s.abortTests
  | .SKEIN_CONFIG => s.abortTests
  | _ => s

/-- An accepted write (R8, R57, R65). -/
def State.applyWrite (s : State) (acc : Accessor) (r : Reg) (i j : Nat) (v : Word) : State :=
  let w := s.keptValue r i v
  if commitBound r then (s.tagWrite r i j w).shadowEffect r
  else
    let s1 := s.setReg r i j w
    let s2 := if storedAtWrite r then s1.setStored r i j w else s1
    s2.wroteEffect s acc r i (s.reg r i j) w

/-- One write access (R59, R10): the Bool says that it was accepted. -/
def State.writeAccess (s : State) (acc : Accessor) (a : Nat) (v : Word) : State × Bool :=
  if s.reachable acc = false then (s, false)
  else
    match s.judgeAccess acc true a with
    | some reason => (s.violation acc true a reason, false)
    | none =>
      match regAt a with
      | some (r, i, j) => (s.applyWrite acc r i j v, true)
      | none => (s, false)

/-- One read access (R59): the data, and whether it was accepted. A refused read gives the data 0x0000_0000 with its
error (R63). -/
def State.readAccess (s : State) (acc : Accessor) (a : Nat) : State × Word × Bool :=
  if s.reachable acc = false then (s, 0, false)
  else
    match s.judgeAccess acc false a with
    | some reason => (s.violation acc false a reason, 0, false)
    | none =>
      match regAt a with
      | some (r, i, j) => (s, s.readReg r i j, true)
      | none => (s, 0, false)

/-- Writes in ascending order up to the first refused (R59): the state and the words carried out. -/
def State.writeRun (acc : Accessor) : State → Nat → List Word → Nat → State × Nat
  | s, _, [], k => (s, k)
  | s, a, v :: vs, k =>
    match s.writeAccess acc a v with
    | (s1, true) => State.writeRun acc s1 (a + 4) vs (k + 1)
    | (s1, false) => (s1, k)

/-- Reads in ascending order up to the first refused (R59). -/
def State.readRun (acc : Accessor) : Nat → State → Nat → State × List Word
  | 0, s, _ => (s, [])
  | n + 1, s, a =>
    match s.readAccess acc a with
    | (s1, v, true) =>
      let (s2, vs) := State.readRun acc n s1 (a + 4)
      (s2, v :: vs)
    | (s1, _, false) => (s1, [])

/-- A write to a register by name and index, as a command gives it. -/
def State.writeCmd (s : State) (acc : Accessor) (r : Reg) (i j : Nat) (v : Word) : State :=
  (s.writeAccess acc (r.addr i j) v).1

end Sys2Proof.Machine
end

