-- ==== Sys2Proof/Machine/Frame.lean ====
section
/-! DEFINITION. What happens at a head's bind-off (R67, R151, R173, R193, R283, R321, R401), but for the switch to another
pattern. -/

namespace Sys2Proof.Machine

/-! ### Retirement (R400, R401) -/

/-- The head at whose bind-off a retirement is carried out. -/
def State.retireHead (s : State) (e : Retirement) : Nat :=
  let owner := match e.kind with
    | .skein => (s.pattern.skein? e.index).map (·.head)
    | .needle => s.needleHead e.index
    | .channel => none
    | .core => none
  match owner with
  | some h => if (s.liveHead h).isSome then h else s.refHead
  | none => s.refHead

/-- A retirement is carried out at a bind-off of head h, with its event. -/
def State.carryOut (s : State) (h : Nat) (e : Retirement) : State :=
  match e.kind with
  | .channel => (s.modChannel e.index (fun q => { q with state := 3 })).event 0xA2 [byteOf e.index, byteOf e.cause]
  | .skein =>
    let frozen := s.skeinActive e.index
    (s.modSkein e.index (fun k => { k with retired := true, queued := false, frozen := some frozen })).event 0xB0
      [byteOf e.index, byteOf e.cause] (((s.pattern.skein? e.index).map (·.head)).getD h)
  | .needle => s.retireNeedle e.index e.cause h
  | .core => (s.modCore e.index (fun q => { q with retired := true, queued := false })).event 0xC2
      [byteOf e.index, byteOf e.cause]

/-- At most one retirement in a frame of the reference head (R401). -/
def State.retireAt (s : State) (h : Nat) : State :=
  match s.ledger.queue with
  | [] => s
  | e :: rest =>
    if s.ledger.retiredThisFrame = true ∨ s.retireHead e ≠ h then s
    else
      ({ s with ledger := { s.ledger with
        queue := rest, retiredThisFrame := true, retireCount := satInc s.ledger.retireCount } }).carryOut h e

/-! ### The bind-off -/

/-- The reference head's bind-off: a new CFN (R321), barriers it has passed over (R326), and a new frame of retirements.
CARAVAN_LOOP of a standalone unit takes effect here (R330). -/
def State.countCfn (s : State) : State :=
  let c := s.caravan
  let s1 := { s with
    caravan := { c with cfn := c.cfnNext.getD (c.cfn + 1), cfnNext := none }
    ledger := { s.ledger with retiredThisFrame := false } }
  let s2 := s1.skipBarriers
  if c.state = 0 then s2.setAct .CARAVAN_LOOP 0 0 (s2.reg .CARAVAN_LOOP) else s2

/-- A WAIT for the next bind-off of head h is met (R120). -/
def State.meetWaits (s : State) (h : Nat) : State :=
  (List.range 16).foldl (fun s n =>
    if (s.porterCh n).waiting = some (.bindOff h) then s.modPorter n (fun p => { p with waitMet := true }) else s) s

/-- Freeze is in force (R302). -/
def State.frozen (s : State) : Bool := s.usb.mode == .freeze

/-- Commit transfer and console values, which freeze holds back (R67, R283, R302). A head that switches pattern has had
its fields made active. -/
def State.takeValues (s : State) (h : Nat) (carry : Bool) : State :=
  if s.frozen then s else ((if carry then s.transfer h else s)).consoleApply h

/-- The frame's lines from the values now active (R193), and the encoder each half of the head feeds. -/
def State.openFrame (s : State) (r : HeadRec) (st : Nat) : State :=
  let h := r.head
  let (bind, cast, err) := frameLines r.vActive r.vTotal (s.act .HEAD_FRAME_CONTROL h)
  let e0 := s.headPort h
  let e1 := s.headPort (h + 1)
  let s1 := s.modHead h (fun q => { q with
    line := if q.fc = 1 then bind else q.bindLine, bindLine := bind, castLine := cast, cfgErr := err
    encoder := e0, line0Done := false, state := st, parityThisFrame := false, scanned := r.vActive })
  if headGanged r then s1.modHead (h + 1) (fun q => { q with encoder := e1 }) else s1

/-- A bind-off of head r, which goes on in state `st`. -/
def State.headBindOff (s : State) (r : HeadRec) (st : Nat) (carry : Bool) : State :=
  let h := r.head
  let s1 := s.modHead h (fun q => { q with fc := q.fc + 1, bindTb := s.time.tb.toNat })
  let s2 := if h = s1.refHead then s1.countCfn else s1
  let s3 := (s2.takeValues h carry).retireAt h
  let s4 := (s3.assignNeedles h).abortTests
  let s5 := (s4.pattern.stack h).foldl (fun s n => s.judgeSkein h n) s4
  ((((s5.openFrame r st).settlePorts s).settleGpo s).meetWaits h)

/-- A head's timing becomes the one of its new record (R30). -/
def State.startTiming (s : State) (r : HeadRec) : State :=
  let p := s.pattern
  let s1 := s.modHead r.head (fun q => { q with nextTiming := none, standinLeft := 0 })
  { s1 with pat := { s1.pat with running := some { p with heads := p.heads.map (fun k => if k.head = r.head then r else k) } } }

/-- A bind-off of a head that shows stand-in colour before its new timing: one frame more under the old timing, or the first
bind-off of the new one (R30). -/
def State.standinFrame (s : State) (h : Nat) (carry : Bool) : State :=
  match (s.head h).nextTiming, s.pattern.head? h with
  | some r, some old =>
    if (s.head h).standinLeft = 0 then (s.startTiming r).headBindOff r (if s.pat.filling then 3 else 2) carry
    else (s.modHead h (fun q => { q with standinLeft := q.standinLeft - 1 })).headBindOff old 3 carry
  | _, _ => s

/-- A bind-off within one pattern: a head on stand-in colour leaves it, unless a zero fill is under way or a new timing is
still to come (R30, R108, R378). A failed head has none until a restitch starts it again, so its pending fields stay
pending: the manual does not say. DESIGN CHOICE, log 126. -/
def State.plainBindOff (s : State) (h : Nat) : State :=
  match s.liveHead h with
  | none => s
  | some r =>
    if (s.head h).nextTiming.isSome then s.standinFrame h true
    else s.headBindOff r (if s.pat.filling then (s.head h).state else 2) true

end Sys2Proof.Machine
end

