-- ==== Sys2Proof/Machine/PatternLoad.lean ====
section
/-! DEFINITION. Patterns coming into force (R36, R38, R41 to R43, R48, R50 to R54, R108, R378, R381 to R383, R403, R412,
R414): the end of an operation, the start of service, floor mode and the restitch. -/

namespace Sys2Proof.Machine

/-! ### INIT entries (R36, R38) -/

/-- Where an INIT entry acts. -/
inductive InitPlace where
  /-- Not commit-bound: in force at once, or at its block's next boundary. -/
  | plain
  /-- A commit-bound field of a present head. -/
  | ofHead (h : Nat)
  /-- A commit-bound field of an absent head. -/
  | absent
  deriving DecidableEq, Repr

/-- How a commit-bound value enters: in force at once; at the head's next bind-off; or in the shadow alone. -/
inductive InitMode where
  | active
  | nextBindOff
  | shadow
  deriving DecidableEq, Repr

/-- Carry out one INIT entry. No lock holds it back (R48). DEDUCED, log 85. -/
def State.applyInit (s : State) (mode : InitMode) (e : InitRec) : State :=
  match regAt e.addr with
  | none => s
  | some (r, i, j) =>
    if commitBound r = false then s.applyWrite .bale r i j e.value
    else
      let v := s.keptValue r i e.value
      let s1 := s.setReg r i j v
      match mode with
      | .active => (s1.setAct r i j v).setDirty (r.addr i j) none
      | .nextBindOff => s1.setDirty (r.addr i j) (some ⟨16, some 0⟩)
      | .shadow => s1.setDirty (r.addr i j) none

/-! ### Ports from the CONNECTOR fields (R200) -/

/-- The head whose record names connector c: the lowest. -/
def Pattern.connectorHead (p : Pattern) (c : Nat) : Option Nat :=
  p.present.find? (fun h => ((p.head? h).map (·.connector)) == some c)

def State.setPort (s : State) (c : Nat) (w : Word) : State :=
  ((s.setReg .PORT_SELECT c 0 w).setAct .PORT_SELECT c 0 w).setDirty (Reg.addr .PORT_SELECT c) none

/-- Connector c as the pattern has it. -/
def Pattern.portWord (p : Pattern) (c : Nat) : Word :=
  match p.connectorHead c with
  | some h => fields [(0, h), (7, 1)]
  | none => 0

/-- Every port as a pattern has it. -/
def State.portsFrom (s : State) (p : Pattern) : State := (List.range 8).foldl (fun s c => s.setPort c (p.portWord c)) s

/-- An INIT entry names connector c's PORT_SELECT. -/
def Pattern.initPort (p : Pattern) (c : Nat) : Bool := p.init.any (fun e => e.addr == Reg.addr .PORT_SELECT c)

/-- The ports that head h of the running pattern drives or may drive: its own, and those of the upper half of a pair. -/
def State.portOf (s : State) (h c : Nat) : Bool :=
  let w := s.act .PORT_SELECT c
  let pair := ((s.pattern.head? h).map headGanged) == some true
  portEnable w && (portHead w == h || (pair && portHead w == h + 1))

/-- The ports of one head at its switch to pattern p: its connector is set, unless an INIT entry sets that port, and any
other port that names it goes off. -/
def State.portsOfHead (s : State) (p : Pattern) (h : Nat) : State :=
  (List.range 8).foldl (fun s c =>
    if p.connectorHead c = some h ∧ p.initPort c = false then s.setPort c (p.portWord c)
    else if s.portOf h c then s.setPort c 0
    else s) s

/-- Ports that no record names and no head of the running pattern drives go off at the earliest switch; the others at
the switch of their heads. -/
def State.spareOff (s : State) (p : Pattern) : State :=
  (List.range 8).foldl (fun s c =>
    let w := s.act .PORT_SELECT c
    if (p.connectorHead c).isNone && !p.initPort c && !(portEnable w && (s.pattern.owner? (portHead w)).isSome)
    then s.setPort c 0 else s) s

/-! ### Where INIT entries act (R36, R38) -/

/-- The unit as a pattern's INIT entries find their heads in it: the pattern in force, its ports as its HEADS records
and its own INIT entries leave them. -/
def Pattern.initView (p : Pattern) : State :=
  let s := ({ State.reset with pat := { State.reset.pat with running := some p } }).portsFrom p
  p.init.foldl (fun s e => match regAt e.addr with
    | some (.PORT_SELECT, c, _) => s.setPort c (s.keptValue .PORT_SELECT c e.value)
    | _ => s) s

/-- The place of an entry under its pattern, the same throughout a restitch. A PORT_SELECT entry belongs to the head that
it names itself, and any other port field to the head that the pattern's ports end with. DEDUCED, log 124. -/
def Pattern.initPlace (p : Pattern) (e : InitRec) : InitPlace :=
  match regAt e.addr with
  | none => .plain
  | some (r, i, j) =>
    if commitBound r = false then .plain
    else
      match (p.initView.setReg r i j e.value).commitHead r i with
      | some h => .ofHead h
      | none => .absent

/-- The entries that belong to no head, in section order, with those of absent heads. -/
def State.initCommon (s : State) (p : Pattern) : State :=
  p.init.foldl (fun s e => match p.initPlace e with
    | .plain => s.applyInit .active e
    | .absent => s.applyInit .shadow e
    | .ofHead _ => s) s

/-- The entries of the heads of a list. -/
def State.initHeads (s : State) (p : Pattern) (mode : InitMode) (hs : List Nat) : State :=
  p.init.foldl (fun s e => match p.initPlace e with
    | .ofHead h => if hs.contains h then s.applyInit mode e else s
    | _ => s) s

/-- Every entry in section order, as at a start (R36). -/
def State.initAll (s : State) (p : Pattern) (mode : InitMode) (hs : List Nat) : State :=
  p.init.foldl (fun s e => match p.initPlace e with
    | .plain => s.applyInit .active e
    | .absent => s.applyInit .shadow e
    | .ofHead h => if hs.contains h then s.applyInit mode e else s) s

/-! ### Heads starting and stopping (R51, R378) -/

/-- A head begins at its first bind-off: FC is 0 until that bind-off counts it. Its tables and counts stay. -/
def startHead (ganged : Bool) (q : HeadSt) : HeadSt :=
  { q with
    state := 1, fc := 0, hank := [], closed := [], shedFrame := false, framesOk := 0, minLead := maxLead ganged
    overbooked := false, presheds := 0, pull := 0, locked := false, lockBeats := 0, nextTiming := none, standinLeft := 0
    begun := false }

/-- A head is switched off. -/
def stopHead (q : HeadSt) : HeadSt :=
  { q with
    state := 0, hank := [], closed := [], locked := false, lockBeats := 0, pull := 0, nextTiming := none, standinLeft := 0
    begun := false }

/-- A present head starts on stand-in colour. -/
def State.beginHead (s : State) (r : HeadRec) : State :=
  (s.modHead r.head (startHead (headGanged r))).headBindOff r 1 false

/-! ### The end of an operation (R43, R48, R54) -/

def opCode : PatOpKind → Nat
  | .load => 1
  | .program => 2
  | .powerOn => 3

/-- The result is recorded and the PATTERN event posted. A failed load writes its record (R54, R412).
DEDUCED, log 88. -/
def State.endPattern (s : State) (op : PatOp) (code sec : Nat) : State :=
  let s1 := { s with pat := { s.pat with op := none, code := code, sect := sec } }
  let source := if op.kind = .program then 0 else op.source
  let s2 := s1.event 0x81 [byteOf code, byteOf source, byteOf sec, byteOf (opCode op.kind), byteOf op.target]
  if code ≠ patOk ∧ (op.kind ≠ .program ∨ code = patRead) then s2.recordOpen 0x02 classB [(8, code)] else s2

/-- AUTO_LOCK (R48). -/
def State.autoLock (s : State) (p : Pattern) : State :=
  if p.autoLock && !s.pat.lockWritten then { s with pat := { s.pat with lockWritten := true, lock := true } } else s

/-- PATTERN_STATUS SOURCE of an operation's source. -/
def sourceCode (source : Nat) : Nat := if source = 0 then 3 else source

/-! ### Floor mode (R381, R382) -/

/-- Nothing of a pattern is left in force. -/
def State.dropPattern (s : State) : State :=
  let s1 := s.gpioSwitch default
  let s2 := { s1 with
    pat := { s1.pat with running := none, source := 0, restitch := none, filling := false }
    heads := (List.range 8).foldl (fun m h => mapUpdate default m h stopHead) s1.heads
    routes := { s1.routes with routes := [], posts := [], resetWait := [], fillResets := [] }
    ledger := { s1.ledger with queue := [] } }
  ((s2.dropPool.reSource.portsFrom default).caravanSwitch default 3).settlePorts s

/-- Floor mode begins; the SFP cages are unpowered in it (Table 16-6). -/
def State.enterFloor (s : State) (cause : Nat) : State :=
  let s1 := (if s.pat.running.isSome then s.dropPattern else s).modBoot
    (fun b => { b with mode := 1, step := 15, floorCause := cause })
  let s2 := (List.range 2).foldl (fun s p => s.setLink p false) ((s1.settleGpo s).settleAcc)
  (s2.record 0x1A classB [(8, cause)] 0).usbConnect

/-! ### The start of service (R376 steps 8 and 9, R378, R383) -/

/-- Bind the routes of a pattern, all empty. -/
def State.bindRoutes (s : State) (p : Pattern) : State :=
  p.routes.foldl (fun s b => s.modRoute b.route (fun q => { q with
    consumer := b.consumer, depthLog2 := b.depthLog2, base := b.ringBase, put := 0, take := 0, fetched := [], started := [] })) s

def State.bringUpEvent (s : State) : State :=
  s.event 0xE4 ([byteOf s.boot.cause, byteOf s.store.chanList.length, byteOf s.pat.source, byteOf s.boot.floorCause] ++
    leBytes 4 ((s.time.tb.toNat - s.boot.releaseTb) / 100000))

/-- Step 9: every present head starts, and MODE becomes 2. -/
def State.startHeads (s : State) (p : Pattern) : State :=
  let s1 := (p.present.filterMap p.head?).foldl State.beginHead s
  let s2 := (s1.stepEnds 9).modBoot (fun b => { b with mode := 2 })
  ((((s2.settleGpo s).settleAcc)).usbConnect).bringUpEvent

/-! ### The restitch (R50 to R53, R108) -/

def Pattern.routeRec (p : Pattern) (r : Nat) : RouteRec := (p.routes.find? (fun b => b.route == r)).getD ⟨r, 0, 0, 0⟩

/-- Clear a mask's bits. -/
def maskLess (a b : Nat) : Nat := a - a.land b

/-- Head h takes its sections from the new pattern, and its timing from a given record; heads that make room for it lose
theirs. -/
def Pattern.withHead (old new : Pattern) (h : Nat) (timing : Option HeadRec) : Pattern :=
  let gone := fun (k : Nat) => k == h || (k == h + 1 && ((new.head? h).map headGanged) == some true)
  let mask := new.needleMask h
  let keys := ((new.colours.find? (fun c => c.head == h)).map (·.chromaKeys)).getD 0
  { old with
    heads   := old.heads.filter (fun r => !gone r.head) ++ timing.toList
    skeins  := old.skeins.filter (fun q => !gone q.head && !new.skeins.any (fun k => k.head == h && k.skein == q.skein)) ++
      new.skeins.filter (fun q => q.head == h)
    needles := (old.needles.filter (fun q => !gone q.head)).map (fun q => { q with mask := maskLess q.mask mask }) ++
      new.needles.filter (fun q => q.head == h)
    colours := (old.colours.filter (fun q => !gone q.head)).map (fun q => { q with chromaKeys := maskLess q.chromaKeys keys }) ++
      new.colours.filter (fun q => q.head == h)
    budgets := old.budgets.filter (fun q => !gone q.head) ++ new.budgets.filter (fun q => q.head == h) }

/-- The sections tied to no head (R50). -/
def Pattern.withSections (old new : Pattern) : Pattern :=
  { old with
    regions := new.regions, routes := new.routes, caravan := new.caravan, universes := new.universes, maps := new.maps
    triggers := new.triggers, gpio := new.gpio }

/-- Skeins that the pattern assigns and that fail the load's check stay retired, with no further record (R165, R403). What
the stand-in colour of such a skein covers is left open: it follows its active set. DESIGN CHOICE, log 146. -/
def State.failSkeins (s : State) (p : Pattern) (bad : List (Fin 96)) : State :=
  (bad.map Fin.val).foldl (fun s n =>
    match p.skein? n with
    | some q => (s.modSkein n (fun k => { k with retired := true, cause := 3 })).event 0xB0 [byteOf n, 3] q.head
    | none => s) s

/-- A load clears retirements and tests the units, of which those that fail stay retired (R165, R175, R223, R403), and it
empties the queue; a Store channel that the new list still holds stays in it. -/
def State.clearRetired (s : State) (p : Pattern) (map : List Nat) (check : LoadCheck) : State :=
  let s1 := { s with ledger := { s.ledger with
    queue := s.ledger.queue.filter (fun e => e.kind == RetireKind.channel && map.contains e.index) } }
  let s2 := (List.range 32).foldl (fun s m => s.modNeedle m (fun q => { q with
    retired := (check.needles.map Fin.val).contains m, queued := false, cause := 0, takenBy := none })) s1
  let s3 := (List.range 96).foldl (fun s n => s.modSkein n (fun k => { k with
    retired := false, queued := false, cause := 0, transparent := false, frozen := none })) s2
  let s4 := (List.range 8).foldl (fun s k => s.modCore k (fun q => { q with
    retired := (check.cores.map Fin.val).contains k, queued := false })) s3
  s4.failSkeins p check.skeins

/-- R53, and R108 under a new channel list. A route unbound in both patterns only takes its new DEPTH_LOG2 and
RING_BASE (R95). -/
def State.rebindRoute (old new : Pattern) (all : Bool) (s : State) (r : Nat) : State :=
  let a := old.routeRec r
  let b := new.routeRec r
  if a.consumer = 0 ∧ b.consumer = 0 then s.modRoute r (fun q => { q with depthLog2 := b.depthLog2, base := b.ringBase })
  else if all = true ∨ a.consumer ≠ b.consumer ∨ a.depthLog2 ≠ b.depthLog2 ∨ a.ringBase ≠ b.ringBase then
    s.resetRoute r 1 (some b)
  else s

/-- A load at power-on or in floor mode passes under the channel list in force: the pattern is applied and service starts.
An INIT entry may itself reset the unit. -/
def State.startMapped (s : State) (op : PatOp) (p : Pattern) (check : LoadCheck) : State :=
  let s0 := (s.gpioSwitch p).clearRetired p op.map check
  let s1 := { s0 with pat := { s0.pat with running := some p, source := sourceCode op.source } }
  let s2 := (((s1.reSource.bindRoutes p).portsFrom p).regroupConsole default p).flushHeld
  let s3 := (s2.initAll p .active p.present).caravanSwitch p 0
  if s3.boot.inReset then s3
  else ((((s3.stepEnds 8).autoLock p).endPattern op patOk noSection)).startHeads p

/-- The same under another channel list: the heads start on stand-in colour, every bound route is reset, and the zero fill
comes before the INIT entries and the end of the load (R98, R108). -/
def State.startRemapped (s : State) (op : PatOp) (p : Pattern) (check : LoadCheck) : State :=
  let s0 := (s.gpioSwitch p).clearRetired p op.map check
  let z : Restitch := ⟨op.kind, p, op.source, [], true, some op.map, check⟩
  let s1 := { s0 with pat := { s0.pat with
    op := none, running := some p, source := sourceCode op.source, filling := true, restitch := some z } }
  let s2 := (15 :: List.range 15).foldl (State.rebindRoute default p true) s1.reSource
  let s3 := ((s2.portsFrom p).regroupConsole default p).caravanSwitch p 0
  (s3.stepEnds 8).startHeads p

/-- A load at power-on or in floor mode passes. -/
def State.startService (s : State) (op : PatOp) (p : Pattern) (check : LoadCheck) : State :=
  if op.map = s.store.chanList then s.startMapped op p check else s.startRemapped op p check

def State.dropConsole (s : State) : State := { s with net := { s.net with universes := [], consoleValue := [] } }

/-- A head that failed has no bind-off to wait for when the new pattern has no use for it. -/
def State.stillWaits (s : State) (new : Pattern) (h : Nat) : Bool := (s.head h).state != 4 || (new.head? h).isSome

/-- The earliest switch: everything not tied to a head (R50), the routes (R53), and the INIT entries of no head (R38),
which a zero fill puts off. -/
def State.switchSections (s : State) (z : Restitch) : State :=
  let old := s.pattern
  let new := z.pattern
  let s1 := s.gpioSwitch new
  let s2 := { s1 with pat := { s1.pat with
    running := some (old.withSections new), filling := z.newMap.isSome
    restitch := some { z with switched := true, waiting := z.waiting.filter (s.stillWaits new) } } }
  let s3 := (if old.poolBase = new.poolBase then s2.settleGpo s else (s2.settleGpo s).dropPool).reSource
  let same := old.universes == new.universes && old.maps == new.maps && old.triggers == new.triggers
  let s4 := if same then s3 else (s3.regroupConsole old new).dropConsole
  let s5 := if old.caravan = new.caravan then s4 else s4.caravanSwitch new 3
  let s6 := s5.clearRetired new (z.newMap.getD s5.store.chanList) z.check
  let s7 := (15 :: List.range 15).foldl (State.rebindRoute old new z.newMap.isSome) s6
  let s8 := s7.spareOff new
  if z.newMap.isSome then s8 else s8.initCommon new

/-- The whole of a restitch has taken effect: the load finishes (R43). A head still on stand-in before a new timing keeps
the old one until then (R30). -/
def State.restitchDone (s : State) : State :=
  match s.pat.restitch with
  | none => s
  | some z =>
    if z.switched && z.waiting.isEmpty && !s.pat.filling then
      let p := z.pattern
      let heads := (List.range 8).foldl (fun s h => if (p.owner? h).isNone then s.modHead h stopHead else s) s
      let now := { p with heads := p.heads.map (fun r => if (s.head r.head).nextTiming.isSome then
        (s.pattern.head? r.head).getD r else r) }
      let s1 := { heads with pat := { heads.pat with running := some now, source := sourceCode z.source, restitch := none } }
      ((s1.settlePorts s).autoLock p).endPattern ⟨z.kind, z.source, 0, 0, 0, 0, []⟩ patOk noSection
    else s

/-- Head h no longer waits, nor the upper head that its new pair takes in. -/
def Restitch.served (z : Restitch) (h : Nat) : Restitch :=
  let pair := ((z.pattern.head? h).map headGanged) == some true
  { z with waiting := z.waiting.filter (fun k => k != h && !(pair && k == h + 1)) }

/-- The record head h of the running pattern is to have: a timing it is changing to, or the one in force. -/
def State.plannedHead (s : State) (h : Nat) : Option HeadRec := (s.head h).nextTiming.orElse (fun _ => s.pattern.head? h)

/-- Head h was present before its switch and keeps scanning out (R51). -/
def State.keepsOn (s : State) (h : Nat) : Bool :=
  (s.pattern.head? h).isSome && (s.head h).state != 0 && (s.head h).state != 4

/-- The timing in force from a head's switch: a head that goes on under a changed record keeps the old timing, on stand-in
colour, for at least one frame (R30). -/
def State.timingAt (s : State) (new : Pattern) (h : Nat) : Option HeadRec :=
  if (new.head? h).isSome && s.keepsOn h && ((s.plannedHead h) != (new.head? h) || (s.head h).nextTiming.isSome)
  then s.pattern.head? h else new.head? h

/-- How head h goes on from its switch to record r: from a start, seamlessly, or on stand-in colour, with a new timing to
come where its record differs (R30, R51). How many such frames come is a free value. DEDUCED, log 82; DESIGN CHOICE, log 16. -/
def State.continueHead (s : State) (kept : Bool) (planned : Option HeadRec) (newMap : Bool) (r : HeadRec) : State :=
  if kept = false then s.beginHead r
  else if planned = some r then
    if (s.head r.head).nextTiming.isSome then s.standinFrame r.head false
    else s.headBindOff r (if newMap then 3 else 2) false
  else
    let (k, s1) := s.takeFree
    (s1.modHead r.head (fun q => { q with nextTiming := some r, standinLeft := Config.extraStandin k + 1 })).standinFrame r.head false

/-- Head h switches at its bind-off: discards, its new sections, its ports and its INIT entries (R38, R50 to R52). Freeze
holds back the transfer that the discards would replace, so it leaves pending fields pending (R302). DEDUCED, log 81;
DEDUCED, log 125. -/
def State.switchHead (s : State) (z : Restitch) (h : Nat) : State :=
  if (s.pattern.head? h).isNone && (s.pattern.owner? h).isSome then s
  else
    let s1 := if z.switched then s else s.switchSections z
    let z1 := s1.pat.restitch.getD z
    let planned := s1.plannedHead h
    let kept := s1.keepsOn h
    let timing := s1.timingAt z.pattern h
    let s2 := (if s1.frozen then s1 else s1.discardHead h).portsOfHead z.pattern h
    let s4 := { s2 with pat := { s2.pat with
      running := some (s2.pattern.withHead z.pattern h timing), restitch := some (z1.served h) } }
    match z.pattern.head? h with
    | none => ((s4.modHead h stopHead).settlePorts s).restitchDone
    | some r =>
      let s5 := if headGanged r then s4.modHead (h + 1) stopHead else s4
      let s6 := if s5.pat.filling then s5 else s5.initHeads z.pattern .active [h]
      if s6.boot.inReset then s6 else (s6.continueHead kept planned z.newMap.isSome r).restitchDone

/-- A restitch begins to wait (R50). With no head to wait for, everything switches at once. -/
def State.startRestitch (s : State) (op : PatOp) (p : Pattern) (check : LoadCheck) : State :=
  let heads := (List.range 8).filter (fun h => (s.pattern.head? h).isSome || (p.head? h).isSome)
  let z : Restitch := ⟨op.kind, p, op.source, heads.filter (s.stillWaits p), false,
    if op.map = s.store.chanList then none else some op.map, check⟩
  let s1 := { s with pat := { s.pat with op := none, restitch := some z } }
  if z.waiting.isEmpty then (s1.switchSections z).restitchDone else s1

/-- The bind-off line comes after the last active line has begun scan-out (R193), so every line of the frame has been sent
(R18). -/
def State.scanOut (s : State) (h : Nat) : State :=
  match s.liveHead h with
  | some r => s.scanTo h (r.vActive - 1)
  | none => s

/-- BIND_OFF (R50, R67). -/
def State.bindOff (s : State) (h : Nat) : State :=
  match s.pat.restitch with
  | some z => if z.waiting.contains h then (s.scanOut h).switchHead z h else (s.scanOut h).plainBindOff h
  | none => (s.scanOut h).plainBindOff h

/-! ### The zero fill of a new channel list (R108) -/

/-- The Store as a channel list and a zero fill leave it; scrub begins a sweep (R97, R102). -/
def State.mapStore (s : State) (map : List Nat) : State :=
  let s1 := (List.range 8).foldl (fun s c =>
    if map.contains c = false ∧ ((s.channel c).state = 3 ∨ (s.channel c).state = 5) then
      s.modChannel c (fun q => { q with state := 4 }) else s) s
  { s1 with store := { s1.store with
    chanList := map, mem := [], poison := [], scrubPeriod := fld (s1.reg .STORE_SCRUB_PERIOD) 0 8, scrubNext := 0 } }

/-- The ROUTE_RESET events kept back, then the held events (R108). -/
def State.fillEvents (s : State) : State :=
  let kept := s.routes.fillResets
  let s1 := { s with routes := { s.routes with fillResets := [] } }
  kept.foldl (fun s k => s.resetEvent k.1 k.2) s1

/-- The fill of a restitch ends, once the routes it resets have come to rest. -/
def State.fillEnds (s : State) (z : Restitch) : State :=
  if (List.range 16).any s.routeBusyReset then s
  else
    let s1 := s.mapStore (z.newMap.getD s.store.chanList)
    let held := s1.routes.held
    let s2 := { s1 with pat := { s1.pat with filling := false }, routes := { s1.routes with held := [] } }
    let s3 := s2.fillEvents
    let s4 := ({ s3 with routes := { s3.routes with held := held } }).flushHeld
    let ready := z.pattern.present.filter (fun h => !z.waiting.contains h)
    let s5 := s4.initAll z.pattern .nextBindOff ready
    if s5.boot.inReset then s5 else s5.restitchDone

/-! ### The end of an operation's checks (R41 to R43, R412) -/

/-- PROGRAM copies the staging area into the slot (R43). A read that fails on the way ends it with READ (R412), and leaves
a part-written slot, as a failed write does. DESIGN CHOICE, log 84. -/
def State.programSlot (s : State) (op : PatOp) (flashOk : Bool) : State :=
  if flashOk = false then (s.spoilSlot op.target).endPattern op patFlash noSection
  else if s.stagingReadable then (s.setFlash op.target s.stagedBytes).endPattern op patOk noSection
  else (s.spoilSlot op.target).endPattern op patRead noSection

/-- The other slot is tried, or floor mode entered (R42). -/
def State.powerOnFails (s : State) (op : PatOp) : State :=
  if s.pat.fallback then s.enterFloor 2
  else ({ s with pat := { s.pat with fallback := true } }).beginPattern .powerOn (3 - op.source) 0

/-- PATTERN_OPERATION_FINISH (R43). A load, but for one in floor mode, that finds fewer than two channels enters floor mode; its result
is not stated (log 2). DESIGN CHOICE, log 83; DEDUCED, log 87. -/
def State.patternFinish (s : State) (flashOk : Bool) (check : LoadCheck) : State :=
  match s.pat.op with
  | none => s
  | some op =>
    if op.kind ≠ .program ∧ s.boot.mode ≠ 1 ∧ op.map.length < 2 then
      (s.endPattern op (Config.unstated 0x43 0 % 256) noSection).enterFloor 3
    else
      match s.patternOutcome op flashOk with
      | .error (code, sec) =>
        let s1 := s.endPattern op code sec
        if op.kind = .powerOn then s1.powerOnFails op else s1
      | .ok p =>
        match op.kind with
        | .program => s.programSlot op flashOk
        | .powerOn => s.startService op p check
        | .load => if s.boot.mode = 1 then s.startService op p check else s.startRestitch op p check

/-- BIND_OFF (R50, R67). -/
def execBindOff (h : Fin 8) (s : State) : Host.Outcome State Fault Refusal := .next (s.bindOff h)

/-- PATTERN_OPERATION_FINISH (R43). -/
def execPatternOperationFinish (result : OperationEnd) (s : State) : Host.Outcome State Fault Refusal :=
  .next (s.patternFinish result.flashOk result.check)

end Sys2Proof.Machine
end

