-- ==== Sys2Proof/Machine/BringUp.lean ====
section
/-! DEFINITION. Bring-up from step 6 to the power-on load (R376, R380, R381, R387, R105), the end of a zero fill (R108), and
the Ledger's parity check (R408). -/

namespace Sys2Proof.Machine

/-- Step 6 may run: clocks are up and the register interface is not yet released. -/
def State.bootReady (s : State) : Bool := s.released && s.boot.step == 5 && s.boot.clocks && !s.boot.regsUp

/-- Step 6: the boot ROM has checked itself, the memories and the USB PHY (R376, R387). A failed check leaves the unit to
BRING_UP_RETRY (R384). -/
def State.bootRom (s : State) (romOk usbPhyOk : Bool) : State :=
  if s.bootReady = false ∨ romOk = false then s
  else
    let s1 := s.modBoot (fun b => { b with regsUp := true, usbPhyOk := usbPhyOk, attempts := 0 })
    let s2 := { s1 with time := { s1.time with gpiState := s1.time.gpiIn } }
    let s3 := s2.ledgerUp.stepEnds 6
    if usbPhyOk then s3 else s3.record 0x1A classC [] 0

/-- One channel's training ends (R105). A channel that a warm reset keeps out of the map is not trained (R374). -/
def State.trainChannel (trained : BitVec 8) (margins : List (BitVec 16)) (s : State) (c : Nat) : State :=
  let margin := margins.getD c 0
  if (s.channel c).state = 3 ∨ (s.channel c).state = 4 then s
  else if trained.getLsbD c then s.modChannel c (fun q => { q with state := 2, cause := 0, margin := margin })
  else (s.modChannel c (fun q => { q with state := 4, cause := 1, margin := margin })).record 0x1A classC
    [(16, margin.toNat)] c

/-- Step 7 up to its zero fill: the channel list is built; with fewer than two channels, below the service floor of R380, the unit
enters floor mode. -/
def State.trainingDone' (s : State) (trained : BitVec 8) (margins : List (BitVec 16)) : State :=
  if s.boot.regsUp = false ∨ s.boot.step ≠ 6 ∨ s.pat.filling = true then s
  else
    let s1 := (List.range 8).foldl (State.trainChannel trained margins) s
    let s2 := s1.mapStore s1.channelsInService
    if s2.store.chanList.length < 2 then (s2.stepEnds 7).enterFloor 3
    else { s2 with pat := { s2.pat with filling := true } }

/-- The floor-mode cause that keeps the power-on load from running, if any (Table 18-4). DEDUCED, log 86. -/
def State.floorStartCause (s : State) : Option Nat :=
  if s.power.state = 4 then some (if s.power.thermal then 5 else 4)
  else if s.boot.buttonFloor then some 1
  else none

/-- Step 7 ends: floor mode, or, full service needing a running pattern (R380), the power-on load of the slot named by SLOT_PREFERENCE (R42). -/
def State.storeReady (s : State) : State :=
  let s1 := ({ s with pat := { s.pat with filling := false } }).stepEnds 7
  match s1.floorStartCause with
  | some c => s1.enterFloor c
  | none => s1.beginPattern .powerOn (1 + fld (s1.stored .SLOT_PREFERENCE) 0 1) 0

/-- A zero fill of the Store ends (R108, R376 step 7). -/
def State.fillDone (s : State) : State :=
  if s.pat.filling = false then s
  else
    match s.pat.restitch with
    | some z => s.fillEnds z
    | none => s.storeReady

/-- One visit of the Ledger's check (R408). -/
def State.parityScan (s : State) (k : Nat) (fails : Bool) : State :=
  if s.ledger.up && fails && decide (k < s.ledger.entries.length) then
    { s with ledger := { s.ledger with parity := true, badParity := nub (k :: s.ledger.badParity) } }
  else s

/-- BRING_UP (R376, R387). -/
def execBringUp (romOk usbPhyOk : Bool) (s : State) : Host.Outcome State Fault Refusal := .next (s.bootRom romOk usbPhyOk)

/-- STORE_TRAINING_DONE (R105, R376). -/
def execStoreTrainingDone (trained : BitVec 8) (margins : List (BitVec 16)) (s : State) :
    Host.Outcome State Fault Refusal := .next (s.trainingDone' trained margins)

/-- STORE_ZERO_FILL_DONE (R108, R376). -/
def execStoreZeroFillDone (s : State) : Host.Outcome State Fault Refusal := .next s.fillDone

/-- LEDGER_PARITY_SCAN (R408). -/
def execLedgerParityScan (k : Fin 64) (fails : Bool) (s : State) : Host.Outcome State Fault Refusal :=
  .next (s.parityScan k fails)

end Sys2Proof.Machine
end

