-- ==== Sys2Proof/Machine/Purl.lean ====
section
/-! DEFINITION. Purl requests (R267 to R278): sessions, the window and repeats, claims, registers, bales, Store transfers,
capture pages and EVENTs. -/

namespace Sys2Proof.Machine

def State.modNet (s : State) (f : NetSt → NetSt) : State := { s with net := f s.net }

/-! ### Sessions, the window and repeats (R265, R270, R273, R274, R379) -/

/-- Purl serves a port: in MODE 2, once the port holds an address (R264, R379); floor mode uses USB alone (R380). -/
def State.purlServed (s : State) (p : Nat) : Bool := s.boot.regsUp && s.boot.mode == 2 && s.netReady p

/-- The request comes from the owner (R61, R270). -/
def State.ownerReq (s : State) (req : PurlReq) : Bool := s.net.owner == .purl req.client req.session

/-- Why a request's SESSION is refused: one bound to another address, or one the unit does not know. A CLAIM may name a
session that is no longer valid. DEDUCED, log 57. -/
def State.sessionRefusal (s : State) (req : PurlReq) (op : Nat) : Option Nat :=
  if req.session = 0 then none
  else
    match s.net.owner with
    | .purl c n => if n = req.session then (if c = req.client then none else some stNotOwner) else unknown
    | _ => unknown
where
  unknown : Option Nat :=
    if s.net.offers.any (fun o => o.session == req.session && (o.live || op == opClaim)) then none else some stSession

/-- The kept response of a repeated request (R274). -/
def State.keptReply (s : State) (req : PurlReq) (op : Nat) : Option NetMsg :=
  (s.net.kept.find? (fun k => sameSession k.client k.session req.client req.session && k.seq == req.seq && k.opcode == op)).map
    (·.reply)

/-- A response sent again goes to the client of the repeat, through the port it came by (R267, R274). -/
def NetMsg.to (m : NetMsg) (c : Client) : NetMsg :=
  match m with
  | .purl _ op st param seq session payload => .purl c op st param seq session payload
  | m => m

/-- Requests of a session in flight (R273). -/
def State.flightOf (s : State) (req : PurlReq) : List Flight :=
  s.net.flight.filter (fun f => sameSession f.client f.session req.client req.session)

def State.countDuplicate (s : State) : State := s.modNet (fun n => { n with duplicateCount := satInc n.duplicateCount })

/-- Answer a request; BUSY answers are counted, and answers to requests not executed are not kept (R269, R274).
DEDUCED, log 55. -/
def State.answer (s : State) (req : PurlReq) (op status : Nat) (payload : List Byte := []) (param : Nat := 0) : State :=
  if s.boot.inReset then s
  else
    let s1 := if status = stBusy then s.modNet (fun n => { n with busyCount := satInc n.busyCount }) else s
    s1.purlReply req op status payload (status != stBusy && status != stNoRegion) none param

/-- Who makes the register accesses of a request. -/
def purlAcc (req : PurlReq) : Accessor := .purl req.client req.session

/-! ### Claims (R271, R272) -/

/-- The first value from v on that is not in `used`; `fuel` above the length of `used` always finds one. -/
def unused {n : Nat} (used : List (BitVec n)) : Nat → BitVec n → BitVec n
  | 0, v => v
  | fuel + 1, v => if used.contains v then unused used fuel (v + 1) else v

/-- Every challenge given since reset, over Purl and USB. -/
def State.offersGiven (s : State) : List Offer := s.net.offers ++ s.usb.offer.toList

/-- A challenge not given before: its nonce and session number are free values among those not used (R271). DEDUCED,
log 53. -/
def State.freshOffer (s : State) : Offer × State :=
  let (k, s1) := s.takeFree
  let old := s.offersGiven
  let sessions := 0 :: old.map (·.session)
  let nonces := old.map (·.nonce)
  (⟨unused sessions (sessions.length + 1) (Config.freeSession k), unused nonces (nonces.length + 1) (Config.freeNonce k),
    s.net.secret, true⟩, s1)

/-- CLAIM step 1. DEDUCED, log 56. -/
def State.challenge (s : State) (req : PurlReq) : State :=
  if req.session ≠ 0 then s.answer req opClaim stMalformed
  else if s.net.lockouts.contains req.client.addr then s.answer req opClaim stBusy
  else if s.owned then s.answer req opClaim stOwned
  else
    let (o, s1) := s.freshOffer
    (s1.modNet (fun n => { n with offers := n.offers ++ [o] })).purlReply req opClaim stChallenge
      (beBytes 32 o.nonce.toNat) true (some o.session)

/-- The MAC of a claim: over NONCE, S, and six bytes of address and port (R271, R293). -/
def Offer.mac (o : Offer) (tail : List Byte) : List Byte :=
  hmacSha256 (beBytes 32 o.secret.toNat) (beBytes 32 o.nonce.toNat ++ beBytes 4 o.session.toNat ++ tail)

/-- A challenge serves one attempt. -/
def State.spendOffer (s : State) (session : Word) : State :=
  s.modNet (fun n => { n with offers := n.offers.map (fun o => if o.session = session then { o with live := false } else o) })

/-- A claim fails (R271, Table 13-7). -/
def State.claimFails (s : State) (req : PurlReq) : State :=
  let s1 := s.modNet (fun n => { n with
    lockouts := nub (req.client.addr :: n.lockouts), authFailCount := satInc n.authFailCount })
  (s1.record 0x11 classB [(8, req.client.net.val)] req.client.addr.toNat).answer req opClaim stAuth

/-- CLAIM step 2: the MAC is judged before ownership. -/
def State.claim (s : State) (req : PurlReq) (mac : BitVec 256) : State :=
  if req.session = 0 then s.answer req opClaim stMalformed
  else if s.ownerReq req then s.answer req opClaim stOwned
  else
    let s1 := s.spendOffer req.session
    match s.net.offers.find? (fun o => o.session == req.session && o.live) with
    | none => s1.claimFails req
    | some o =>
      if beBytes 32 mac.toNat ≠ o.mac (beBytes 4 req.client.addr.toNat ++ beBytes 2 req.client.port.toNat) then s1.claimFails req
      else if s1.owned then s1.answer req opClaim stOwned
      else
        ((s1.beginOwner (.purl req.client req.session)).ownerEvent ownerClaimed 0 req.client.addr.toNat).answer req opClaim stOk

/-- 2 s have passed since a challenge (R271, R293). -/
def State.claimExpires (s : State) (session : Word) : State :=
  let s1 := s.spendOffer session
  { s1 with usb := { s1.usb with offer := s1.usb.offer.map (fun o =>
      if o.session = session then { o with live := false } else o) } }

/-! ### Registers (R59, R268, R269) -/

/-- READ: the words up to the first refused. -/
def State.purlRead (s : State) (req : PurlReq) (a n : Nat) : State :=
  if n = 0 ∨ 351 < n then s.answer req opRead stMalformed
  else
    match State.readRun (purlAcc req) n s a with
    | (s1, ws) => s1.answer req opRead (if ws.length = n then stOk else stRefused)
        (beBytes 2 ws.length ++ [0, 0] ++ ws.flatMap (fun w => beBytes 4 w.toNat))

/-- A WRITE by a party that is not the owner, or under the owner's SESSION from elsewhere, is refused under R10: it leaves a
violation at its first address (R61, R74, R270). DEDUCED, log 58. -/
def State.refuseWrite (s : State) (req : PurlReq) (a : Nat) (words : List Word) : State :=
  (s.writeAccess (purlAcc req) a (words.headD 0)).1

/-- WRITE: the words up to the first refused. -/
def State.purlWrite (s : State) (req : PurlReq) (a : Nat) (words : List Word) : State :=
  if words.isEmpty = true ∨ 350 < words.length then s.answer req opWrite stMalformed
  else
    match State.writeRun (purlAcc req) s a words 0 with
    | (s1, k) => s1.answer req opWrite (if k = words.length then stOk else stRefused) (beBytes 2 k ++ [0, 0])

/-! ### Bales (R80, R81) -/

/-- POST: accepted posts are in flight until they are written. DEDUCED, log 59. -/
def State.purlPost (s : State) (req : PurlReq) (route : Nat) (bales : List Bale) : State :=
  if 15 < route ∨ bales.isEmpty = true ∨ 22 < bales.length ∨ bales.any (fun b => b.length != 64) = true then
    s.answer req opPost stMalformed [] route
  else
    match s.acceptPost route bales (.purl req) with
    | (s1, 1) => s1.modNet (fun n => { n with
        flight := n.flight ++ [⟨req.client, req.session, req.seq, .post route bales, true⟩] })
    | (s1, 2) => s1.answer req opPost stFull [] route
    | (s1, _) => s1.answer req opPost stUnbound [] route

/-! ### Store transfers (R275) -/

/-- CHECK of an address and data (R275). -/
def transferCheck (a : Nat) (data : List Byte) : Nat := crc32 (beBytes 8 a ++ data)

def State.purlStoreRead (s : State) (req : PurlReq) (a n : Nat) : State :=
  if n = 0 ∨ 1392 < n ∨ 2 ^ 64 ≤ a then s.answer req opStoreRead stMalformed
  else
    match s.storeRead a n with
    | .error _ => s.answer req opStoreRead stStore
    | .ok bs => s.answer req opStoreRead stOk (beBytes 8 a ++ bs ++ beBytes 4 (transferCheck a bs))

def State.purlStoreWrite (s : State) (req : PurlReq) (a : Nat) (data : List Byte) (check : Word) : State :=
  if data.isEmpty = true ∨ 1396 < data.length ∨ 2 ^ 64 ≤ a then s.answer req opStoreWrite stMalformed
  else if check.toNat ≠ transferCheck a data then s.answer req opStoreWrite stCheck
  else
    match s.storeWrite a data false true with
    | (s1, none) => s1.answer req opStoreWrite stOk
    | (s1, some _) => s1.answer req opStoreWrite stStore

/-! ### Capture pages (R276, R277) -/

def State.page (s : State) (k : Nat) : Option Page := mapGet none s.net.pages k

def State.setPage (s : State) (k : Nat) (p : Option Page) : State :=
  { s with net := { s.net with pages := mapSet none s.net.pages k p } }

/-- The lowest free page of the pool. -/
def State.freeIndex (s : State) : Option Nat := (List.range 4).find? (fun k => (s.page k).isNone)

def pageAddr (base k : Nat) : Nat := base + 4096 * k

/-- What a page is captured from. -/
inductive Capture where
  | store (addr bytes : Nat)
  | ledger
  | powerLog
  deriving DecidableEq, Repr

/-- The Ledger page (Table 19-4). -/
def State.ledgerPage (s : State) : List Byte :=
  let l := s.ledger
  let counts := (List.range 4).flatMap (fun c => leBytes 4 (s.classCount c))
  padTo 64 (leBytes 4 0x4C470001 ++ leBytes 4 l.entries.length ++ leBytes 4 l.overflow ++ leBytes 4 l.generation.toNat ++
    counts ++ leBytes 4 l.violCount) ++ padTo 4032 ((List.range 64).flatMap s.ledgerBytes)

/-- The data of a capture: one snapshot. -/
def State.captured (s : State) : Capture → Except (Nat × Nat) (List Byte)
  | .store a n => s.storeRead a n
  | .ledger => .ok s.ledgerPage
  | .powerLog => .ok s.framBytes

/-- Build page k in the pool; nothing is changed when a write would fail (R269). -/
def State.buildPage (s : State) (base k : Nat) (usb : Bool) (data : List Byte) : Option State :=
  let a := pageAddr base k
  if (spansOf a data.length).any (fun sp => (s.writeFault false sp.1 sp.2).isSome) then none
  else some ((s.storeWrite a data).1.setPage k (some ⟨usb, data.length, []⟩))

/-- CAPTURE of KIND 0, 1 or 2. DEDUCED, log 60. -/
def State.purlCapture (s : State) (req : PurlReq) (c : Capture) : State :=
  match s.pattern.poolBase with
  | none => s.answer req opCapture stNoRegion
  | some base =>
    match s.freeIndex with
    | none => s.answer req opCapture stBusy
    | some k =>
      match s.captured c with
      | .error _ => s.answer req opCapture stStore
      | .ok data =>
        match s.buildPage base k false data with
        | none => s.answer req opCapture stStore
        | some s1 => s1.answer req opCapture stOk ([byteOf k, 0, 0, 0] ++ beBytes 8 (pageAddr base k) ++
            beBytes 4 data.length ++ beBytes 4 (transferCheck (pageAddr base k) data))

def State.purlCaptureStore (s : State) (req : PurlReq) (a n : Nat) : State :=
  if n = 0 ∨ 4096 < n ∨ 2 ^ 64 ≤ a then s.answer req opCapture stMalformed else s.purlCapture req (.store a n)

/-- Purl holds page k. -/
def State.purlHolds (s : State) (k : Nat) : Bool :=
  match s.page k with
  | some p => !p.usb
  | none => false

/-- CAPTURE of KIND 0xFF. Beyond PAGE, its response is not stated (log 2). DESIGN CHOICE, log 61. -/
def State.purlFree (s : State) (req : PurlReq) (k : Nat) : State :=
  if s.pattern.poolBase.isNone then s.answer req opCapture stNoRegion
  else if 3 < k then s.answer req opCapture stMalformed
  else
    let s1 := if s.purlHolds k then s.setPage k none else s
    let (f, s2) := s1.takeFree
    s2.answer req opCapture stOk (byteOf k :: (List.range 19).map (Config.freeByte f))

/-- PURL_CAPTURE_TIMEOUT (R276). -/
def State.purlPageTimeout (s : State) (k : Nat) : State :=
  if s.purlHolds k then (s.setPage k none).modNet (fun n => { n with captureDiscards := satInc n.captureDiscards }) else s

/-! ### Events (R89, R278) -/

/-- The next bale of ROUTE[15] to send: the first not sent, or TAKE when that lies outside the ring's contents. -/
def State.eventFirst (s : State) : Nat :=
  let q := s.route 15
  if (s.net.eventNext + 65536 - q.take) % 65536 ≤ q.occupancy then s.net.eventNext else q.take

/-- Bales of ROUTE[15] not sent. -/
def State.eventsDue (s : State) : Nat := ((s.route 15).put + 65536 - s.eventFirst) % 65536

/-- A bale of ROUTE[15] as it is sent; where the Store no longer reads it, free bytes (log 2). -/
def State.sentBale (s : State) (i : Nat) : List Byte :=
  match s.storeRead ((s.route 15).slotAddr i) 64 with
  | .ok b => b
  | .error _ => (List.range 64).map (fun j => Config.freeByte s.freeCount (64 * i + j))

/-- EVENT (R278). DEDUCED, log 62. -/
def State.sendEvent (s : State) : State :=
  match s.net.owner with
  | .purl c n =>
    let count := min 21 s.eventsDue
    if s.purlServed c.net = false ∨ count = 0 then s
    else
      let first := s.eventFirst
      let bales := (List.range count).flatMap (fun k => s.sentBale (first + k))
      let m := NetMsg.purl c opEvent 0 0 s.net.eventSeq n (beBytes 2 first ++ beBytes 2 count ++ bales)
      let s1 := s.sendPurl c.net m
      (s1.modNet (fun q => { q with eventNext := (first + count) % 65536, eventSeq := q.eventSeq + 1 })).takeFree.2
  | _ => s

/-! ### The window, repeats and order (R270, R273, R274) -/

/-- Requests that only the owner may make (Table 13-2). -/
def PurlBody.ownerOnly : PurlBody → Bool
  | .challenge => false
  | .claim _ => false
  | .read _ _ => false
  | .storeRead _ _ => false
  | .malformed op => op != opClaim && op != opRead && op != opStoreRead
  | _ => true

/-- A request is executed. -/
def State.runPurl (s : State) (req : PurlReq) (b : PurlBody) : State :=
  match b with
  | .challenge => s.challenge req
  | .claim mac => s.claim req mac
  | .release => (s.endPurlOwner ownerReleased).answer req opRelease stOk
  | .read a n => s.purlRead req a n
  | .write a words whole => if whole then s.purlWrite req a words else s.answer req opWrite stMalformed
  | .post route bales => s.purlPost req route bales
  | .storeRead a n => s.purlStoreRead req a n
  | .storeWrite a data check => s.purlStoreWrite req a data check
  | .captureStore a n => s.purlCaptureStore req a n
  | .captureLedger => s.purlCapture req .ledger
  | .capturePowerLog => s.purlCapture req .powerLog
  | .captureRelease k => s.purlFree req k
  | .malformed op => s.answer req op stMalformed

/-- What a refusal as NOT_OWNER leaves: a WRITE's violation. A POST names no register, and leaves none. DESIGN CHOICE,
log 131. -/
def State.notOwnerLeaves (s : State) (req : PurlReq) (b : PurlBody) : State :=
  match b with
  | .write a words _ => s.refuseWrite req a words
  | _ => s

/-- A request is judged by its session and its sender, and executed (R61, R270, Table 13-2). A refusal for its session is no
execution (log 54). -/
def State.judgePurl (s : State) (req : PurlReq) (b : PurlBody) : State :=
  match s.sessionRefusal req b.opcode with
  | some st =>
    (if st = stNotOwner then s.notOwnerLeaves req b else s).purlReply req b.opcode st [] false none b.param
  | none =>
    if b.ownerOnly && !s.ownerReq req then (s.notOwnerLeaves req b).answer req b.opcode stNotOwner [] b.param
    else s.runPurl req b

/-- A request arrives: where Purl is served, it is no repeat and the window has room, it is executed, or waits for those of
its session that are in flight (R273, R274). -/
def State.purl (s : State) (req : PurlReq) (b : PurlBody) : State :=
  if s.purlServed req.client.net = false then s.netDiscard req.client.net
  else
    match s.keptReply req b.opcode with
    | some m => s.countDuplicate.sendPurl req.client.net (m.to req.client)
    | none =>
      if s.net.flight.any (fun f => f.names req b.opcode) then s.countDuplicate
      else if 16 ≤ (s.flightOf req).length then s.answer req b.opcode stBusy [] b.param
      else if (s.flightOf req).isEmpty then s.judgePurl req b
      else s.modNet (fun n => { n with flight := n.flight ++ [⟨req.client, req.session, req.seq, b, false⟩] })

/-- The requests of a session that waited are executed in the order of arrival, up to one that stays in flight (R273). -/
def State.runHeld (req : PurlReq) : Nat → State → State
  | 0, s => s
  | fuel + 1, s =>
    match s.flightOf req with
    | [] => s
    | f :: rest =>
      if f.begun || rest.any (·.begun) then s
      else
        let s1 := s.modNet (fun n => { n with flight := n.flight.erase f })
        State.runHeld req fuel (s1.judgePurl ⟨f.client, f.seq, f.session⟩ f.body)

/-- POST_WRITTEN (R77): a post ends, and with a Purl POST the requests that waited for it go on. -/
def State.postEnds (s : State) : State :=
  match s.routes.posts.head?.map Post.producer with
  | some (.purl req) => State.runHeld req (s.flightOf req).length s.writePost
  | _ => s.writePost

/-! ### Commands -/

/-- CLAIM_CHALLENGE (R271). -/
def execClaimChallenge (req : PurlReq) (s : State) : Host.Outcome State Fault Refusal :=
  .next (s.purl req .challenge)

/-- CLAIM_RESPONSE (R271). -/
def execClaimResponse (req : PurlReq) (mac : BitVec 256) (s : State) : Host.Outcome State Fault Refusal :=
  .next (s.purl req (.claim mac))

/-- CLAIM_SESSION_EXPIRY (R271). -/
def execClaimSessionExpiry (session : Word) (s : State) : Host.Outcome State Fault Refusal := .next (s.claimExpires session)

/-- CLAIM_LOCKOUT_END (R271). -/
def execClaimLockoutEnd (addr : Word) (s : State) : Host.Outcome State Fault Refusal :=
  .next (s.modNet (fun n => { n with lockouts := n.lockouts.filter (fun a => a != addr) }))

/-- PURL_RELEASE (R272). -/
def execPurlRelease (req : PurlReq) (s : State) : Host.Outcome State Fault Refusal :=
  .next (s.purl req .release)

/-- PURL_READ (R269). -/
def execPurlRead (req : PurlReq) (addr : Word) (count : Nat) (s : State) : Host.Outcome State Fault Refusal :=
  .next (s.purl req (.read addr.toNat count))

/-- PURL_WRITE (R269). -/
def execPurlWrite (req : PurlReq) (addr : Word) (words : List Word) (s : State) : Host.Outcome State Fault Refusal :=
  .next (s.purl req (.write addr.toNat words true))

/-- PURL_POST (R80). -/
def execPurlPost (req : PurlReq) (route : Nat) (bales : List Bale) (s : State) : Host.Outcome State Fault Refusal :=
  .next (s.purl req (.post route bales))

/-- PURL_STORE_READ (R275). -/
def execPurlStoreRead (req : PurlReq) (addr bytes : Nat) (s : State) : Host.Outcome State Fault Refusal :=
  .next (s.purl req (.storeRead addr bytes))

/-- PURL_STORE_WRITE (R275). -/
def execPurlStoreWrite (req : PurlReq) (addr : Nat) (data : List Byte) (check : Word) (s : State) :
    Host.Outcome State Fault Refusal := .next (s.purl req (.storeWrite addr data check))

/-- PURL_CAPTURE_STORE (R276). -/
def execPurlCaptureStore (req : PurlReq) (addr bytes : Nat) (s : State) : Host.Outcome State Fault Refusal :=
  .next (s.purl req (.captureStore addr bytes))

/-- PURL_CAPTURE_LEDGER (R276). -/
def execPurlCaptureLedger (req : PurlReq) (s : State) : Host.Outcome State Fault Refusal :=
  .next (s.purl req .captureLedger)

/-- PURL_CAPTURE_POWER_LOG (R276). -/
def execPurlCapturePowerLog (req : PurlReq) (s : State) : Host.Outcome State Fault Refusal :=
  .next (s.purl req .capturePowerLog)

/-- PURL_CAPTURE_RELEASE (R276). -/
def execPurlCaptureRelease (req : PurlReq) (page : Nat) (s : State) : Host.Outcome State Fault Refusal :=
  .next (s.purl req (.captureRelease page))

/-- PURL_CAPTURE_TIMEOUT (R276). -/
def execPurlCaptureTimeout (page : Fin 4) (s : State) : Host.Outcome State Fault Refusal := .next (s.purlPageTimeout page)

/-- EVENT (R278). -/
def execEvent (s : State) : Host.Outcome State Fault Refusal := .next s.sendEvent

end Sys2Proof.Machine
end

