-- ==== Sys2Proof/Machine/Ethernet.lean ====
section
/-! DEFINITION. A received Ethernet frame: its checks, its way to Purl, the console map or an ingest source, and what is
discarded (R262 to R268). Frame forms are those of the standards the manual names (log 8). -/

namespace Sys2Proof.Machine

/-! ### Frames and IPv4 (R262, R263, R265) -/

/-- The ones' complement sum of 16-bit words. -/
def onesSum (bs : List Byte) : Nat :=
  let t := ((pieces 2 bs).map (fun w => beNat (padTo 2 w))).foldl (· + ·) 0
  let f := fun (x : Nat) => x % 65536 + x / 65536
  f (f (f t))

/-- A checksum field makes the sum of what it covers all ones. -/
def sumOk (bs : List Byte) : Bool := onesSum bs == 0xFFFF

/-- A frame without its tag: VLAN identifier if tagged, type, and what follows. -/
structure Untagged where
  vid  : Option Nat
  type : Nat
  body : List Byte
  deriving DecidableEq, Repr

def untag (f : List Byte) : Untagged :=
  if beAt f 12 2 = 0x8100 then ⟨some (beAt f 14 2 % 4096), beAt f 16 2, f.drop 18⟩ else ⟨none, beAt f 12 2, f.drop 14⟩

/-- The port accepts a frame's tag (R263). -/
def State.vlanOk (s : State) (p : Nat) (vid : Option Nat) : Bool :=
  if bitAt (s.reg .NET_CONFIG p) 5 then vid == some (fld (s.reg .NET_VLAN p) 0 12) else vid.getD 0 == 0

/-- An IPv4 datagram that is whole, unfragmented and in order: protocol, source, destination, payload. -/
structure Datagram where
  protocol : Nat
  source   : Word
  dest     : Word
  payload  : List Byte
  deriving DecidableEq, Repr

def datagram (b : List Byte) : Option Datagram :=
  let header := 4 * (beAt b 0 1 % 16)
  let total := beAt b 2 2
  if beAt b 0 1 / 16 = 4 ∧ 20 ≤ header ∧ header ≤ total ∧ total ≤ b.length ∧ sumOk (b.take header) = true ∧
      beAt b 6 2 % 0x4000 = 0
  then some ⟨beAt b 9 1, wordOf (beAt b 12 4), wordOf (beAt b 16 4), slice b header (total - header)⟩
  else none

/-- A UDP datagram: ports and payload. A checksum of 0 is not checked. -/
structure Udp where
  source  : Nat
  dest    : Nat
  payload : List Byte
  deriving DecidableEq, Repr

def udpOf (d : Datagram) : Option Udp :=
  let b := d.payload
  let n := beAt b 4 2
  let pseudo := beBytes 4 d.source.toNat ++ beBytes 4 d.dest.toNat ++ [0, 17] ++ beBytes 2 n
  if d.protocol = 17 ∧ 8 ≤ n ∧ n ≤ b.length ∧ (beAt b 6 2 = 0 ∨ sumOk (pseudo ++ b.take n) = true)
  then some ⟨beAt b 0 2, beAt b 2 2, slice b 8 (n - 8)⟩
  else none

/-! ### Purl (R267, R268) -/

/-- The request that a payload of a known opcode asks; one that breaks Table 13-2 is MALFORMED. -/
def purlBody (op param : Nat) (b : List Byte) : Option PurlBody :=
  let n := b.length
  let words := (pieces 4 (b.drop 8)).map (fun w => wordOf (beNat w))
  match op with
  | 1 => some (if n = 0 then .challenge else if n = 32 then .claim (BitVec.ofNat 256 (beNat b)) else .malformed op)
  | 2 => some (if n = 0 then .release else .malformed op)
  | 3 => some (if n = 8 then .read (beAt b 0 4) (beAt b 4 2) else .malformed op)
  | 4 => some (.write (beAt b 0 4) words (decide (12 ≤ n) && n % 4 == 0 && beAt b 4 2 == words.length))
  | 5 => some (.post param (pieces 64 b))
  | 6 => some (if n = 12 then .storeRead (beAt b 0 8) (beAt b 8 4) else .malformed op)
  | 7 => some (if 12 < n then .storeWrite (beAt b 0 8) (slice b 8 (n - 12)) (wordOf (beAt b (n - 4) 4)) else .malformed op)
  | 8 => some (if n ≠ 16 then .malformed op
      else
        match beAt b 0 1 with
        | 0 => .captureStore (beAt b 4 8) (beAt b 12 4)
        | 1 => .captureLedger
        | 2 => .capturePowerLog
        | 0xFF => .captureRelease (beAt b 1 1)
        | _ => .malformed op)
  | _ => none

/-- PARAM of a response to a request that is not judged: a POST's own (Table 13-1). -/
def echoParam (op param : Nat) : Nat := if op = opPost then param else 0

/-- A datagram to PURL_PORT: VERSION, LENGTH and OPCODE are judged before the session. DEDUCED, log 78. -/
def State.purlDatagram (s : State) (p : Fin 2) (d : Datagram) (u : Udp) : State :=
  let b := u.payload
  let req : PurlReq := ⟨⟨d.source, BitVec.ofNat 16 u.source, p⟩, wordOf (beAt b 4 4), wordOf (beAt b 8 4)⟩
  let op := beAt b 3 1
  if s.purlServed p = false then s.netDiscard p
  else if b.length < 16 ∨ beAt b 0 2 ≠ 0x5055 then
    s.modNet (fun n => { n with malformedCount := satInc n.malformedCount })
  else if beAt b 2 1 ≠ 1 then s.purlReply req op stVersion [] false none (echoParam op (beAt b 15 1))
  else if beAt b 12 2 ≠ b.length - 16 then s.purlReply req op stMalformed [] false none (echoParam op (beAt b 15 1))
  else
    match purlBody op (beAt b 15 1) (b.drop 16) with
    | some body => s.purl req body
    | none => s.purlReply req op stOpcode [] false

/-! ### The console map (R279) -/

/-- An E1.31 data packet (ANSI E1.31). -/
def e131Of (b : List Byte) : Option E131 :=
  let name : List Byte := [0x41, 0x53, 0x43, 0x2D, 0x45, 0x31, 0x2E, 0x31, 0x37, 0, 0, 0]
  let count := beAt b 123 2
  if 126 ≤ b.length ∧ beAt b 0 2 = 0x10 ∧ slice b 4 12 = name ∧ beAt b 18 4 = 4 ∧ beAt b 40 4 = 2 ∧ beAt b 117 1 = 2 ∧
      1 ≤ count ∧ 125 + count ≤ b.length
  then some ⟨beAt b 113 2, BitVec.ofNat 128 (beAt b 22 16), beAt b 108 1, byteOf (beAt b 111 1), natBit (beAt b 112 1) 7,
    natBit (beAt b 112 1) 6, byteOf (beAt b 125 1), slice b 126 (count - 1)⟩
  else none

/-- A datagram to port 5568: other packets than data packets are ignored and counted. DEDUCED, log 34. -/
def State.consoleDatagram (s : State) (b : List Byte) : State :=
  match e131Of b with
  | some k => s.e131 k
  | none => s.consoleIgnore

/-! ### Ingest (R130, R265) -/

/-- The sample row headers of an ST 2110-20 payload: length, row, offset. -/
def rowHeaders : Nat → List Byte → Option (List (Nat × Nat × Nat) × List Byte)
  | 0, _ => none
  | fuel + 1, b =>
    if b.length < 6 then none
    else
      let h := (beAt b 0 2, beAt b 2 2 % 0x8000, beAt b 4 2 % 0x8000)
      if natBit (beAt b 4 2) 15 then (rowHeaders fuel (b.drop 6)).map (fun r => (h :: r.1, r.2)) else some ([h], b.drop 6)

/-- The segments that the headers cut from the data. -/
def rowData : List (Nat × Nat × Nat) → List Byte → Option (List RowSegment)
  | [], _ => some []
  | (n, row, off) :: rest, b =>
    if b.length < n then none else (rowData rest (b.drop n)).map (fun r => ⟨row, off, b.take n⟩ :: r)

/-- An RTP packet of an ST 2110-20 flow. -/
def rtpOf (b : List Byte) : Option RtpPacket :=
  let base := 12 + 4 * (beAt b 0 1 % 16)
  let start := if natBit (beAt b 0 1) 4 then base + 4 + 4 * beAt b (base + 2) 2 else base
  let body := b.drop start
  if beAt b 0 1 / 64 ≠ 2 ∨ body.length < 8 then none
  else
    match rowHeaders body.length (body.drop 2) with
    | none => none
    | some (hs, data) =>
      (rowData hs data).map (fun rows => ⟨wordOf (65536 * beAt body 0 2 + beAt b 2 2), natBit (beAt b 1 1) 7, rows⟩)

/-- The source a datagram belongs to: the lowest whose group, sender, port and path match. DEDUCED, log 76. -/
def State.sourceFor (s : State) (p : Nat) (d : Datagram) (u : Udp) : Option Nat :=
  [4, 5, 6, 7, 8, 9, 10, 11].find? (fun i =>
    s.reg .SRC_GROUP i == d.dest && (s.reg .SRC_FILTER i == 0 || s.reg .SRC_FILTER i == d.source) &&
      fld (s.reg .SRC_UDP_PORT i) 0 16 == u.dest && srcPath (s.reg .SRC_CONFIG i) p)

/-- A datagram that is neither Purl's nor the console map's. -/
def State.sourceDatagram (s : State) (p : Nat) (d : Datagram) (u : Udp) : State :=
  match s.sourceFor p d u with
  | none => s.netDiscard p
  | some i =>
    match rtpOf u.payload with
    | none => s.netDiscard p
    | some k => s.netPacket i p k

/-! ### DHCP, ICMP and IGMP (R131, R264) -/

/-- An option's value in a DHCP option list. -/
def dhcpOption (code : Nat) : Nat → List Byte → Option (List Byte)
  | 0, _ => none
  | _, [] => none
  | fuel + 1, t :: rest =>
    if t = 0 then dhcpOption code fuel rest
    else if t = 0xFF then none
    else if t.toNat = code then some (slice rest 1 (beAt rest 0 1))
    else dhcpOption code fuel (rest.drop (1 + beAt rest 0 1))

/-- A DHCP message of a server (RFC 2131). -/
def State.dhcpDatagram (s : State) (p : Nat) (b : List Byte) : State :=
  let opts := b.drop 240
  let get := fun (c : Nat) => dhcpOption c opts.length opts
  let word := fun (c : Nat) => wordOf (beNat (((get c).getD []).take 4))
  if s.dhcpOn p = false ∨ b.length < 240 ∨ beAt b 0 1 ≠ 2 ∨ beAt b 236 4 ≠ 0x63825363 then s.netDiscard p
  else
    s.dhcpTake p ⟨beNat ((get 53).getD []), wordOf (beAt b 4 4), BitVec.ofNat 48 (beAt b 28 6), word 54, wordOf (beAt b 16 4),
      word 1, word 3⟩

/-- A UDP datagram to the port or to a group it has joined, in the order of R265. -/
def State.udpDatagram (s : State) (p : Fin 2) (d : Datagram) (u : Udp) : State :=
  if u.dest = s.purlPortInUse then s.purlDatagram p d u
  else if u.dest = 5568 then s.consoleDatagram u.payload
  else s.sourceDatagram p d u

/-- An IPv4 datagram. -/
def State.ipv4 (s : State) (p : Fin 2) (d : Datagram) : State :=
  let own := s.netReady p && d.dest == s.addressOf p
  let joined := s.netReady p && (s.groupsOf p).any (fun g => g.1 == d.dest)
  match udpOf d with
  | some u =>
    if u.dest = 68 ∧ s.dhcpOn p = true then s.dhcpDatagram p u.payload
    else if own || joined then s.udpDatagram p d u
    else s.netDiscard p
  | none =>
    let m := d.payload
    if d.protocol = 1 ∧ own = true ∧ beAt m 0 1 = 8 ∧ 8 ≤ m.length ∧ sumOk m = true then
      s.icmp p d.source d.dest (m.drop 4)
    else if d.protocol = 2 ∧ s.netReady p = true ∧ beAt m 0 1 = 0x11 ∧ 8 ≤ m.length ∧ sumOk m = true then
      s.igmpAnswer p (if beAt m 4 4 = 0 then none else some (wordOf (beAt m 4 4)))
        ((List.range (min (beAt m 10 2) (m.length / 4))).map (fun k => wordOf (beAt m (12 + 4 * k) 4)))
    else s.netDiscard p

/-- An ARP request for the port's address; any other ARP frame is discarded. -/
def State.arpFrame (s : State) (p : Nat) (b : List Byte) : State :=
  let target := wordOf (beAt b 24 4)
  if 28 ≤ b.length ∧ beAt b 0 8 = 0x0001080006040001 ∧ s.netReady p = true ∧ target = s.addressOf p then
    s.arp p (BitVec.ofNat 48 (beAt b 8 6)) (wordOf (beAt b 14 4)) target
  else s.netDiscard p

/-- A frame that passed its FCS, without it. -/
def State.goodFrame (s : State) (p : Fin 2) (f : List Byte) : State :=
  let t := untag f
  if s.vlanOk p t.vid = false then s.netDiscard p
  else if t.type = 0x0806 then s.arpFrame p t.body
  else if t.type = 0x0800 then
    match datagram t.body with
    | some d => s.ipv4 p d
    | none => s.netDiscard p
  else s.netDiscard p

/-- ETHERNET_FRAME: `frame` is the frame without its 4-byte FCS. The limit is 1522 bytes with an 802.1Q tag, and the tag's 4
fewer without one (R262). Frames dropped under R262 count as discarded (R288). DEDUCED, log 75. -/
def State.etherFrame (s : State) (p : Fin 2) (f : List Byte) (fcsOk : Bool) : State :=
  if s.netUp = false ∨ (s.netPort p).link = false then s
  else if fcsOk = false then
    (s.netDiscard p).modPort p (fun q => { q with fcsErrors := satInc q.fcsErrors })
  else if (if (untag f).vid.isSome then 1522 else 1518) < f.length + 4 then s.netDiscard p
  else (s.modPort p (fun q => { q with rx := satInc q.rx })).goodFrame p f

/-- ETHERNET_FRAME (R265). -/
def execEthernetFrame (p : Fin 2) (frame : List Byte) (fcsOk : Bool) (s : State) : Host.Outcome State Fault Refusal :=
  .next (s.etherFrame p frame fcsOk)

end Sys2Proof.Machine
end

