-- ==== Sys2Proof/Machine/PorterRun.lean ====
section
/-! DEFINITION. What a Porter channel does (05): the data of a transfer, confirmation, bus errors and halts, program
instructions and descriptors. A transfer's data moves in one command (log 40). -/

namespace Sys2Proof.Machine

/-! ### Data (R109 to R113, R126) -/

/-- Address of beat j of a side. -/
def beatAddr (a w : Nat) (fixed : Bool) (j : Nat) : Nat := if fixed then a else a + j * w

/-- One beat read, on a side of registers or of the Store; `mem` is the state whose Store it sees. -/
def State.readBeat (s mem : State) (reg : Bool) (a w : Nat) : State × Except BusErr (List Byte) :=
  if reg && pastRegisters a then (s, .error ⟨a, false, causeDecode⟩)
  else if reg then
    match s.readAccess .porter (a % 2 ^ 25) with
    | (s1, v, true) => (s1, .ok (leBytes 4 v.toNat))
    | (s1, _, false) => (s1, .error ⟨a, false, causeRegister⟩)
  else
    match mem.storeRead a w with
    | .ok bs => (s, .ok bs)
    | .error e => (s, .error ⟨e.1, false, e.2⟩)

/-- What has been read of a side: the next beat, the bytes held and the error met. -/
structure Hold where
  beat  : Nat
  bytes : List Byte
  error : Option BusErr
  deriving DecidableEq, Repr, Inhabited

/-- Read beats until `need` bytes are held (R111). -/
def State.fillHold (mem : Option State) (a w : Nat) (fixed : Bool) (need : Nat) : Nat → State → Hold → State × Hold
  | 0, s, h => (s, h)
  | fuel + 1, s, h =>
    if need ≤ h.bytes.length ∨ h.error.isSome = true then (s, h)
    else
      match s.readBeat (mem.getD s) (regSide a) (beatAddr a w fixed h.beat) w with
      | (s1, .ok bs) => State.fillHold mem a w fixed need fuel s1 { h with beat := h.beat + 1, bytes := h.bytes ++ bs }
      | (s1, .error e) => (s1, { h with error := some e })

/-- The write requests for stream bytes from an offset (R111): one per fixed or register beat, or one per block. -/
def Transfer.requests (t : Transfer) (off : Nat) (bs : List Byte) : List (Nat × List Byte) :=
  if t.dstFixed || regSide t.dst then
    (pieces t.dstWidth bs).mapIdx (fun k b => (beatAddr (t.dst + (if t.dstFixed then 0 else off)) t.dstWidth t.dstFixed k, b))
  else [(t.dst + off, bs)]

/-- The requests that write a CHECK's CRC (R113). -/
def Transfer.crcRequests (t : Transfer) (crc : Nat) : List (Nat × List Byte) :=
  let a := if t.dstFixed then t.dst else t.dst + t.count
  let w := if t.dstWidth ≤ 4 then t.dstWidth else 4
  (pieces w (leBytes 4 crc)).mapIdx (fun k b => (beatAddr a w t.dstFixed k, b))

/-- How the writes of a transfer stand: the first error, how many requests may still go out if that is bounded, and
whether one of them cleared the channel. -/
structure Issue where
  error   : Option BusErr
  left    : Option Nat
  cleared : Bool
  deriving DecidableEq, Repr, Inhabited

def Issue.stopped (q : Issue) : Bool := q.cleared || q.left == some 0

/-- One write request, on a side of registers or of the Store; a register write may clear the channel that makes it. -/
def State.issueOne (n : Nat) (reg : Bool) (s : State) (q : Issue) (a : Nat) (bs : List Byte) : State × Issue :=
  let left := q.left.map (· - 1)
  let fail := fun (s : State) (e : BusErr) =>
    let (k, s1) := s.takeFree
    let more := (Config.issuedAfter k).val
    (s1, { q with error := some e, left := some (min more (left.getD more)) })
  let (s1, e) :=
    if reg && pastRegisters a then (s, some (⟨a, true, causeDecode⟩ : BusErr))
    else if reg then
      match s.writeAccess .porter (a % 2 ^ 25) (wordOf (leNat bs)) with
      | (s1, true) => (s1, none)
      | (s1, false) => (s1, some (⟨a, true, causeRegister⟩ : BusErr))
    else
      match s.storeWrite a bs with
      | (s1, none) => (s1, none)
      | (s1, some f) => (s1, some ⟨f.1, true, f.2⟩)
  let clears := a % 2 ^ 25 == Reg.addr .PORTER_CONTROL n && reg && natBit (leNat bs) 1 && e.isNone
  match q.error, e with
  | some _, _ => (s1, { q with left := left, cleared := clears })
  | none, some e => fail s1 e
  | none, none => (s1, { q with left := left, cleared := clears })

def State.issueAll (n : Nat) (reg : Bool) : List (Nat × List Byte) → State → Issue → State × Issue
  | [], s, q => (s, q)
  | (a, bs) :: rest, s, q =>
    if q.stopped then (s, q)
    else
      match s.issueOne n reg q a bs with
      | (s1, q1) => State.issueAll n reg rest s1 q1

/-- Length of the piece at an offset: to the end of the destination's 64-byte block (R111). -/
def Transfer.pieceLen (t : Transfer) (off : Nat) : Nat :=
  min (t.count - off) (if t.dstFixed || regSide t.dst then 64 - off % 64 else 64 - (t.dst + off) % 64)

/-- The source lies below the destination and the ranges overlap (R126). -/
def Transfer.overlapUp (t : Transfer) : Bool :=
  t.readsSrc && t.writesDst && !t.srcFixed && !t.dstFixed && regSide t.src == regSide t.dst &&
    decide (t.src < t.dst) && decide (t.dst < t.src + t.count)

/-- The bytes a piece writes, of those read from the source. In an overlap upward each byte is the original, or that
of a forward copy, which repeats the first bytes (R126). -/
def Transfer.pieceBytes (t : Transfer) (mem : State) (off : Nat) (bs : List Byte) : List Byte :=
  if t.overlapUp && !regSide t.src then
    bs.mapIdx (fun k b => if Config.overlapForward t.src t.dst (off + k)
      then mapGet 0 mem.store.mem (t.src + (off + k) % (t.dst - t.src)) else b)
  else bs

/-- FILL bytes from an offset (Table 5-2). -/
def Transfer.fillBytes (t : Transfer) (off len : Nat) : List Byte :=
  (List.range len).map (fun k => t.fill.getD ((off + k) % 8) 0)

/-- How data went: done, cleared on the way, stopped short of its end by a CLEAR, or failed. -/
inductive Moved where
  | ok
  | cleared
  | cut
  | failed (e : BusErr)
  deriving DecidableEq, Repr, Inhabited

def Issue.moved (q : Issue) : Moved :=
  if q.cleared then .cleared
  else
    match q.error with
    | some e => .failed e
    | none => if q.left = some 0 then .cut else .ok

/-- The pieces of a transfer that writes. A read that fails ends it; a write that fails lets only the requests
already issued out (R112, R116). -/
def State.movePieces (n : Nat) (t : Transfer) (mem : State) : Nat → State → Nat → Hold → List Byte → Issue →
    State × Moved × List Byte
  | 0, s, _, _, seen, q => (s, q.moved, seen)
  | fuel + 1, s, off, h, seen, q =>
    if t.count ≤ off ∨ q.stopped = true then (s, q.moved, seen)
    else
      let len := t.pieceLen off
      let (s1, h1) := if t.op = opFill then (s, { h with bytes := t.fillBytes off len })
        else State.fillHold (if t.overlapUp then some mem else none) t.src t.srcWidth t.srcFixed len 65 s h
      match h1.error with
      | some e => (s1, .failed (q.error.getD e), seen)
      | none =>
        let bs := t.pieceBytes mem off (h1.bytes.take len)
        match State.issueAll n (regSide t.dst) (t.requests off bs) s1 q with
        | (s2, q2) =>
          State.movePieces n t mem fuel s2 (off + len) { h1 with bytes := h1.bytes.drop len } (seen ++ bs) q2

/-- Offset of the first difference. -/
def firstDifference : Nat → List Byte → List Byte → Option Nat
  | _, [], _ => none
  | _, _, [] => none
  | k, a :: as, b :: bs => if a = b then firstDifference (k + 1) as bs else some k

/-- The pieces of a COMPARE: both sides read, SRC first; the first difference found. DEDUCED, log 48. -/
def State.comparePieces (t : Transfer) : Nat → State → Nat → Hold → Hold → Option Nat → State × Except BusErr (Option Nat)
  | 0, s, _, _, _, d => (s, .ok d)
  | fuel + 1, s, off, ha, hb, d =>
    if t.count ≤ off then (s, .ok d)
    else
      let len := min 64 (t.count - off)
      match State.fillHold none t.src t.srcWidth t.srcFixed len 65 s ha with
      | (s1, ha1) =>
        match ha1.error with
        | some e => (s1, .error e)
        | none =>
          match State.fillHold none t.dst t.dstWidth t.dstFixed len 65 s1 hb with
          | (s2, hb1) =>
            match hb1.error with
            | some e => (s2, .error e)
            | none =>
              State.comparePieces t fuel s2 (off + len) { ha1 with bytes := ha1.bytes.drop len }
                { hb1 with bytes := hb1.bytes.drop len }
                (d.orElse fun _ => firstDifference off (ha1.bytes.take len) (hb1.bytes.take len))

/-- Run the data of a transfer of COUNT above 0 on channel n, with its results (Table 5-2). -/
def State.moveData (s : State) (n : Nat) (t : Transfer) : State × Moved :=
  match t.refusal with
  | some e => (s, .failed e)
  | none =>
    if t.op = opCompare then
      match State.comparePieces t t.count s 0 default default none with
      | (s1, .error e) => (s1, .failed e)
      | (s1, .ok none) => (s1.modPorter n (fun p => { p with mismatch := false }), .ok)
      | (s1, .ok (some k)) => (s1.modPorter n (fun p => { p with mismatch := true, compareOffset := wordOf k }), .ok)
    else
      match State.movePieces n t s t.count s 0 default [] default with
      | (s1, .ok, seen) =>
        if t.op = opCheck then
          match State.issueAll n (regSide t.dst) (t.crcRequests (crc32 seen)) s1 default with
          | (s2, q) =>
            if q.moved = .ok then (s2.modPorter n (fun p => { p with checkResult := wordOf (crc32 seen) }), .ok)
            else (s2, q.moved)
        else (s1, .ok)
      | (s1, m, _) => (s1, m)

/-! ### Confirmation (R114) -/

/-- Last beat written in each Store channel the transfer touched, or the last register (R114). -/
def State.readBackAddrs (s : State) (t : Transfer) : List (Nat × Nat) :=
  let beats := t.count / t.dstWidth
  let data := (List.range (min beats 2112)).map (fun k => (beatAddr t.dst t.dstWidth t.dstFixed (beats - 1 - k), t.dstWidth))
  let crc := if t.op = opCheck then ((t.crcRequests 0).map (fun q => (q.1, q.2.length))).reverse else []
  let all := crc ++ data
  if regSide t.dst then all.take 1
  else (List.range 8).filterMap (fun c => all.find? (fun q => s.channelOf q.1 == some c))

/-- The READ_BACK reads: the first that fails (R114). -/
def State.readBackAll (reg : Bool) : List (Nat × Nat) → State → State × Option BusErr
  | [], s => (s, none)
  | (a, w) :: rest, s =>
    match s.readBeat s reg a w with
    | (s1, .ok _) => State.readBackAll reg rest s1
    | (s1, .error e) => (s1, some e)

def State.confirmReads (s : State) (t : Transfer) : State × Option BusErr :=
  if t.readBack && t.writesDst && decide (t.count ≠ 0) then State.readBackAll (regSide t.dst) (s.readBackAddrs t) s else (s, none)

/-- Channel n has nothing in flight and nothing to handle. -/
def PorterSt.quiet (p : PorterSt) : Bool := p.confirmed && p.error.isNone

/-- A descriptor is complete: counted, and the channel idles when it was the last (R123). -/
def State.descriptorDone (s : State) (n : Nat) : State :=
  let s1 := s.porterCount n
  if (s1.porterCh n).quiet then s1.porterIdle n else s1

/-- The oldest transfer is confirmed, or fails its READ_BACK (R114), whose reads do not start in debug hold (R303). -/
def State.confirmOldest (s : State) (n : Nat) : State :=
  match (s.porterCh n).unconfirmed.find? (·.open') with
  | none => s
  | some ⟨i, t, _⟩ =>
    let s0 := s.modPorter n (fun p => { p with unconfirmed := settleFlight (p.unconfirmed.eraseP (·.open')) })
    if s.holding = true ∧ t.readBack = true then s
    else match s0.confirmReads t with
    | (s1, some e) => s1.modPorter n (fun p => { p with error := some (i, e) })
    | (s1, none) =>
      if (s1.porterCh n).live.mode = 1 then s1.porterComplete n
      else if (s1.porterCh n).live.mode = 3 then
        match s1.routeFor (.porter n) with
        | some r => (s1.finishBale r i false).descriptorDone n
        | none => s1.descriptorDone n
      else s1

/-- The data of a register-mode transfer moves once (R115). -/
def State.startTransfer (s : State) (n : Nat) : State :=
  let p := s.porterCh n
  if p.starting = false ∨ p.clearing = true ∨ s.holding = true then s
  else
    let t := p.live.transfer
    let s0 := s.modPorter n (fun p => { p with starting := false })
    if 3 < t.op then
      let (k, s1) := s0.takeFree
      s1.modPorter n (fun p => { p with
        error := some (0, ⟨(Config.freeWord k).toNat, decide (Config.unstated 0xE2 k % 2 = 1), causeOpcode⟩) })
    else
      match (s0.launch n 0 t).moveData n t with
      | (s1, .failed e) => s1.launchFails n 0 e
      | (s1, _) => s1

/-- The responses of the oldest transfer have returned (R114). -/
def State.transferDone (s : State) (n : Nat) : State :=
  let s1 := s.startTransfer n
  let p := s1.porterCh n
  if p.clearing || p.halting || p.error.isSome then s1 else s1.confirmOldest n

/-! ### Bus errors and halts (R116, R122, R123, R125) -/

/-- PORTER_FAULT keeps the first error since CLEAR. -/
def PorterSt.latch (p : PorterSt) (e : BusErr) : PorterSt := { p with fault := some (p.fault.getD e) }

/-- The channel stops and will halt (R116, R117). -/
def State.porterStop (s : State) (n i : Nat) (e : BusErr) : State :=
  s.modPorter n (fun p => { p.latch e with error := some (i, e), halting := true, starting := false, pc := i })

/-- BAD in an instruction's FLAGS (R122). -/
def State.markInstr (s : State) (n i : Nat) : State :=
  let a := (s.porterCh n).live.progBase + 32 * i + 1
  (s.storeWrite a [mapGet 0 s.store.mem a ||| 1]).1

/-- A bad instruction or descriptor: counted and recorded once (R122). MISMATCH names no address. -/
def State.porterBad (s : State) (n : Nat) (e : BusErr) : State :=
  let s1 := s.modPorter n (fun p => { p with badCount := satInc p.badCount, error := none })
  if e.cause = causeMismatch then s1.recordOpen 0x05 classA [(8, n), (8, e.cause)]
  else s1.record 0x05 classA [(8, n), (8, e.cause)] e.addr

/-- A program instruction fails without ERRSTOP (R122). -/
def State.instrFails (s : State) (n i : Nat) (e : BusErr) : State :=
  ((s.markInstr n i).porterBad n e).modPorter n (fun p => { p.latch e with status := 1 })

/-- A descriptor fails (R123). -/
def State.descriptorFails (s : State) (n i : Nat) (e : BusErr) : State :=
  let s0 := if e.cause = causeMismatch then s else s.modPorter n (fun p => p.latch e)
  match s0.routeFor (.porter n) with
  | none => (s0.porterBad n e).descriptorDone n
  | some r =>
    let data := ((s0.route r).started.find? (fun b => b.index == i)).map (·.data)
    (((s0.markBad r i data e.cause).porterBad n e).finishBale r i true).descriptorDone n

/-- The bus error met is handled as the mode says. Marking an instruction or a bale bad is a Store request, which debug hold
puts off: the error stays (R303). DESIGN CHOICE, log 152. -/
def State.handleError (s : State) (n : Nat) : State :=
  let p := s.porterCh n
  match p.error with
  | none => s
  | some (i, e) =>
    if s.holding = true ∧ (p.live.mode = 3 ∨ p.live.mode = 2 ∧ p.live.errStop = false) then s
    else if p.live.mode = 3 then s.descriptorFails n i e
    else if p.live.mode = 2 ∧ p.live.errStop = false then s.instrFails n i e
    else s.porterStop n i e

/-- Codes of Table 5-6. -/
def causeCode : Cause → Nat
  | .decode => causeDecode
  | .poison => causePoison
  | .retired => causeRetired
  | .protected' => causeProtected
  | .register => causeRegister
  | .align => causeAlign
  | .fetch => causeFetch
  | .opcode => causeOpcode
  | .mismatch => causeMismatch

/-- A write fails while CLEAR waits: one record for all such writes (R116). -/
def State.clearFailure (s : State) (n : Nat) (e : BusErr) : State :=
  if (s.porterCh n).clearRecorded then s
  else (s.modPorter n (fun p => { p with clearRecorded := true })).record 0x05 classA [(8, n), (8, e.cause)] e.addr none true

/-- The transfer in flight that a failure belongs to: the oldest that wrote the address and has not failed there, since a
block's requests complete in order (R104). DEDUCED, log 47. -/
def PorterSt.failing (p : PorterSt) (a : Nat) : Option Nat :=
  p.unconfirmed.findIdx? (fun q => q.transfer.wrote a && !q.failed.contains a)

/-- A write in flight fails late: after a halt, while CLEAR waits, or as the error of the transfer that made it, which is
counted once (R122). -/
def State.lateFailure (s : State) (n : Nat) (f : LateFail) : State :=
  let p := s.porterCh n
  let e : BusErr := ⟨f.addr, true, causeCode f.cause⟩
  if p.state = 2 ∨ p.halting = true then
    s.record 0x05 classB [(8, n), (8, e.cause), (8, 1)] e.addr none true
  else if p.clearing then s.clearFailure n e
  else
    match p.failing f.addr with
    | none => s
    | some k =>
      let q := p.unconfirmed.getD k default
      let s1 := s.modPorter n (fun p => { p with
        unconfirmed := settleFlight (p.unconfirmed.set k { q with failed := f.addr :: q.failed }) })
      if q.open' then (s1.modPorter n (fun p => { p with error := some (q.index, e) })).handleError n else s1

/-- A bus error returns (R116, R122, R123, R125). DEDUCED, log 47. -/
def State.busError (s : State) (n : Nat) (late : Option LateFail) : State :=
  let s1 := s.startTransfer n
  let p := s1.porterCh n
  if p.error.isSome && !p.halting && !p.clearing then s1.handleError n
  else
    match late with
    | some f => s1.lateFailure n f
    | none => s1

/-- Writes in flight have drained: HALTED, with its record and event (R116, R127). -/
def State.porterHalts (s : State) (n : Nat) : State :=
  let p := s.porterCh n
  match p.halting, p.error with
  | true, some (_, e) =>
    let s1 := s.modPorter n (fun p => { p with
      state := 2, halting := false, error := none, unconfirmed := [], waiting := none })
    (s1.record 0x05 classB [(8, n), (8, e.cause), (8, e.write.toNat)] e.addr).event 0xA1
      ([byteOf n, byteOf e.cause, byteOf e.write.toNat, 0, 0, 0, 0, 0] ++ leBytes 8 e.addr)
  | _, _ => s

/-- What a register transfer had done when CLEAR stopped it: a free number of its requests, 64 of them in flight at most, had
gone out (R112, R116). -/
def State.cutTransfer (s : State) (n : Nat) : State :=
  let p := s.porterCh n
  let t := p.live.transfer
  if p.starting = false ∨ s.holding = true ∨ 2 ≤ t.op ∧ t.op ≠ opCheck ∨ t.refusal.isSome = true then s
  else
    let (k, s1) := s.takeFree
    match State.movePieces n t s1 t.count s1 0 default [] { (default : Issue) with left := some (Config.freeWord k).toNat } with
    | (s2, .failed e, _) => if e.write then s2.clearFailure n e else s2
    | (s2, _, _) => s2

/-- The writes in flight at a CLEAR have all been answered (R116). -/
def State.clearEnds (s : State) (n : Nat) : State :=
  if (s.porterCh n).clearing then (s.cutTransfer n).clearDone n else s

/-! ### Program mode (R117 to R122) -/

/-- The next instruction may start: nothing is waited for and nothing has failed. -/
def State.programReady (s : State) (n : Nat) : Bool :=
  let p := s.porterCh n
  !s.holding && p.live.mode == 2 && p.state == 1 && !p.halting && !p.clearing && p.error.isNone && p.waiting.isNone

/-- Address of the instruction at the program counter. DEDUCED, log 46. -/
def PorterSt.instrAddr (p : PorterSt) : Nat := p.live.progBase + 32 * p.pc

/-- Fetch the instruction at the program counter (R117). -/
def State.fetchInstr (s : State) (n : Nat) : Except BusErr (List Byte) :=
  let a := (s.porterCh n).instrAddr
  if a / 2 ^ 35 ≠ 0 then .error ⟨a, false, causeFetch⟩
  else
    match s.storeRead a 32 with
    | .ok b => .ok b
    | .error e => .error ⟨e.1, false, causeFetch⟩

def State.nextInstr (s : State) (n : Nat) : State := s.modPorter n (fun p => { p with pc := p.pc + 1 })

/-- An invalid instruction halts the channel with cause OPCODE (R117, R120, R121). DESIGN CHOICE, log 42. -/
def State.badOpcode (s : State) (n : Nat) : State :=
  let p := s.porterCh n
  s.porterStop n p.pc ⟨p.instrAddr, false, causeOpcode⟩

/-- Fetch, and run an instruction when it has the opcode `op`. -/
def State.runInstr (s : State) (n op : Nat) (f : State → List Byte → State) : State :=
  if s.programReady n = false then s
  else
    match s.fetchInstr n with
    | .error e => s.porterStop n (s.porterCh n).pc e
    | .ok b => if 7 < leAt b 0 1 then s.badOpcode n else if leAt b 0 1 = op then f s b else s

/-- Every earlier instruction is confirmed (R118). -/
def State.allConfirmed (s : State) (n : Nat) : Bool := (s.porterCh n).confirmed

/-- A data instruction's transfer (Table 5-3). -/
def instrTransfer (op : Nat) (b : List Byte) : Transfer :=
  transferOf op (leAt b 2 1) (leAt b 3 1) (leAt b 4 4) (leAt b 8 8) (leAt b 16 8) (slice b 24 8)

/-- The program ends (R118). -/
def State.programEnds (s : State) (n : Nat) : State := s.porterComplete n

/-- A COMPARE writes nothing and is confirmed at once. -/
def State.landed (s : State) (n : Nat) : State :=
  s.modPorter n (fun p => { p with unconfirmed := settleFlight p.unconfirmed.dropLast })

/-- A data instruction moves its data, or fails; a COMPARE confirms at once and may end the program. -/
def State.dataInstr (n op : Nat) (s : State) (b : List Byte) : State :=
  let t := instrTransfer op b
  let stops := op == opCompare && natBit (leAt b 1 1) 1
  let i := (s.porterCh n).pc
  if stops && !s.allConfirmed n then s
  else if t.count = 0 then (s.modPorter n (fun p => p.zeroCount op)).nextInstr n
  else
    match (s.launch n i t).moveData n t with
    | (s1, .failed e) => (s1.launchFails n i e).nextInstr n
    | (s1, .ok) =>
      if op = opCompare then
        let s2 := s1.landed n
        if stops && (s2.porterCh n).mismatch then (s2.modPorter n (fun p => { p with status := 2 })).programEnds n
        else s2.nextInstr n
      else s1.nextInstr n
    | (s1, _) => s1

/-- LOOP (R119). A LOOP_ID above 3 and a TARGET above the LOOP's index are free values (log 2). A LOOP of COUNT 0 or 1
that finds its counter not 0, as one that shares its LOOP_ID may, decrements it like any other. DESIGN CHOICE, log 51;
DESIGN CHOICE, log 134. -/
def State.loopInstr (n : Nat) (s : State) (b : List Byte) : State :=
  let p := s.porterCh n
  let id := if leAt b 2 1 ≤ 3 then leAt b 2 1 else Config.unstated 0xE0 (leAt b 2 1) % 4
  let target := if leAt b 8 4 ≤ p.pc then leAt b 8 4 else Config.unstated 0xE1 (leAt b 8 4)
  let old := mapGet 0 p.loops id
  let left := if old = 0 then leAt b 4 4 - 1 else old - 1
  s.modPorter n (fun p => { p with loops := mapSet 0 p.loops id left, pc := if left = 0 then p.pc + 1 else target })

/-- The condition of a WAIT holds (R120). -/
def State.waitHolds (s : State) (n : Nat) : WaitFor → Bool
  | .fence f v => s.fenceMet f v
  | .bindOff _ => (s.porterCh n).waitMet
  | .tb v => decide (v ≤ s.time.tb.toNat)

/-- What a WAIT awaits; none for one that halts the channel (R120). -/
def waitFor (b : List Byte) : Option WaitFor :=
  let id := leAt b 3 1
  match leAt b 2 1 with
  | 0 => if id ≤ 31 then some (.fence id (leAt b 8 2)) else none
  | 1 => if id ≤ 7 then some (.bindOff id) else none
  | 2 => some (.tb (leAt b 8 8))
  | _ => none

def State.waitInstr (n : Nat) (s : State) (b : List Byte) : State :=
  if s.allConfirmed n = false then s
  else
    match waitFor b with
    | none => s.badOpcode n
    | some w =>
      let s1 := s.modPorter n (fun p => { p with waitMet := false })
      if s1.waitHolds n w then s1.nextInstr n
      else s1.modPorter n (fun p => { p with waiting := some w, state := 3 })

/-- The condition of a waiting WAIT holds: the program goes on (R120). DEDUCED, log 50. -/
def State.waitDone (s : State) (n : Nat) : State :=
  match (s.porterCh n).waiting with
  | some w => if s.waitHolds n w
      then (s.modPorter n (fun p => { p with waiting := none, waitMet := false, state := 1 })).nextInstr n else s
  | none => s

/-- SIGNAL (R121): the post, and the fence after it. A bale that cannot be read fails the instruction under R122, with DECODE
for an address whose bit [35] or a higher one is set. DEDUCED, log 49; DESIGN CHOICE, log 135. -/
def State.signalInstr (n : Nat) (s : State) (b : List Byte) : State :=
  let post := natBit (leAt b 1 1) 2
  let fence := if natBit (leAt b 1 1) 3 then some (leAt b 3 1) else none
  let route := leAt b 2 1
  let a := leAt b 8 8
  let i := (s.porterCh n).pc
  if s.allConfirmed n = false then s
  else if (post && decide (15 < route)) || decide (31 < fence.getD 0) then s.badOpcode n
  else
    let signalled := fun (s : State) => match fence with
      | some f => s.signalFence f
      | none => s
    if post = false then (signalled s).nextInstr n
    else
      let fails := fun (e : BusErr) =>
        ((signalled s).nextInstr n).modPorter n (fun p => { p with error := some (i, e) })
      if a / 2 ^ 35 ≠ 0 then fails ⟨a, false, causeDecode⟩
      else
        match s.storeRead a 64 with
        | .error e => fails ⟨e.1, false, e.2⟩
        | .ok bale => (s.postInternal route bale (.porter n fence)).nextInstr n

/-- END (R118). -/
def State.endInstr (n : Nat) (s : State) (_ : List Byte) : State := if s.allConfirmed n then s.programEnds n else s

/-! ### List mode (R123, R124) -/

/-- A descriptor's transfer (Table 5-5). -/
def descriptorTransfer (op : Nat) (b : Bale) : Transfer :=
  transferOf op (leAt b 8 1) (leAt b 9 1) (leAt b 12 4) (leAt b 16 8) (leAt b 24 8) (slice b 32 8)

/-- A channel takes the CONFIG fields of its shadow at the start of a descriptor. -/
def PorterLive.retake (l shadow : PorterLive) : PorterLive :=
  { l with mode := shadow.mode, eventOnDone := shadow.eventOnDone, errStop := shadow.errStop }

/-- A descriptor's data moves on channel n. -/
def State.runDescriptor (s : State) (n r op : Nat) (b : Started) : State :=
  let t := descriptorTransfer op b.data
  let s1 := s.modStarted r b.index (fun x => { x with taken := true })
  if t.count = 0 then ((s1.modPorter n (fun p => p.zeroCount op)).finishBale r b.index false).descriptorDone n
  else
    match (s1.launch n b.index t).moveData n t with
    | (s2, .failed e) => s2.launchFails n b.index e
    | (s2, .ok) =>
      if op = opCompare ∧ (s2.porterCh n).mismatch = true then s2.launchFails n b.index ⟨t.src, false, causeMismatch⟩
      else s2
    | (s2, _) => s2

/-- The next descriptor of channel n starts when its operation is `op` (R123). -/
def State.descriptor (s : State) (n op : Nat) : State :=
  let p := s.porterCh n
  let shadow := s.porterShadow n
  if s.holding || p.live.mode != 3 || p.state == 2 || p.clearing || p.halting || p.error.isSome then s
  else
    match s.routeFor (.porter n) with
    | none => s
    | some r =>
      if shadow.mode ≠ 3 then
        if p.confirmed then s.modPorter n (fun p => { p with live := p.live.retake shadow }) else s
      else
        match s.nextStarted r (0x40 + op) with
        | none => s
        | some b => (s.modPorter n (fun p => { p with live := p.live.retake shadow })).runDescriptor n r op b

/-! ### Commands -/

/-- PORTER_TRANSFER_DONE (R114, R115, R118). -/
def execPorterTransferDone (n : Fin 16) (s : State) : Host.Outcome State Fault Refusal := .next (s.transferDone n)

/-- PORTER_BUS_ERROR (R116, R122, R123, R125). -/
def execPorterBusError (n : Fin 16) (late : Option LateFail) (s : State) : Host.Outcome State Fault Refusal :=
  .next (s.busError n late)

/-- PORTER_HALT (R116, R127). -/
def execPorterHalt (n : Fin 16) (s : State) : Host.Outcome State Fault Refusal := .next (s.porterHalts n)

/-- PORTER_CLEAR_DONE (R116). -/
def execPorterClearDone (n : Fin 16) (s : State) : Host.Outcome State Fault Refusal := .next (s.clearEnds n)

/-- PORTER_WAIT_DONE (R120). -/
def execPorterWaitDone (n : Fin 16) (s : State) : Host.Outcome State Fault Refusal := .next (s.waitDone n)

/-- PROGRAM_END (R118). -/
def execProgramEnd (n : Fin 16) (s : State) : Host.Outcome State Fault Refusal :=
  .next (s.runInstr n 0 (State.endInstr n))

/-- PROGRAM_MOVE (R117). -/
def execProgramMove (n : Fin 16) (s : State) : Host.Outcome State Fault Refusal :=
  .next (s.runInstr n 1 (State.dataInstr n opMove))

/-- PROGRAM_LOOP (R119). -/
def execProgramLoop (n : Fin 16) (s : State) : Host.Outcome State Fault Refusal :=
  .next (s.runInstr n 2 (State.loopInstr n))

/-- PROGRAM_WAIT (R120). -/
def execProgramWait (n : Fin 16) (s : State) : Host.Outcome State Fault Refusal :=
  .next (s.runInstr n 3 (State.waitInstr n))

/-- PROGRAM_SIGNAL (R121). -/
def execProgramSignal (n : Fin 16) (s : State) : Host.Outcome State Fault Refusal :=
  .next (s.runInstr n 4 (State.signalInstr n))

/-- PROGRAM_FILL (R117). -/
def execProgramFill (n : Fin 16) (s : State) : Host.Outcome State Fault Refusal :=
  .next (s.runInstr n 5 (State.dataInstr n opFill))

/-- PROGRAM_COMPARE (R117). -/
def execProgramCompare (n : Fin 16) (s : State) : Host.Outcome State Fault Refusal :=
  .next (s.runInstr n 6 (State.dataInstr n opCompare))

/-- PROGRAM_CHECK (R117). -/
def execProgramCheck (n : Fin 16) (s : State) : Host.Outcome State Fault Refusal :=
  .next (s.runInstr n 7 (State.dataInstr n opCheck))

/-- DESCRIPTOR_MOVE (R123). -/
def execDescriptorMove (n : Fin 16) (s : State) : Host.Outcome State Fault Refusal := .next (s.descriptor n opMove)

/-- DESCRIPTOR_FILL (R123). -/
def execDescriptorFill (n : Fin 16) (s : State) : Host.Outcome State Fault Refusal := .next (s.descriptor n opFill)

/-- DESCRIPTOR_COMPARE (R123). -/
def execDescriptorCompare (n : Fin 16) (s : State) : Host.Outcome State Fault Refusal := .next (s.descriptor n opCompare)

/-- DESCRIPTOR_CHECK (R123). -/
def execDescriptorCheck (n : Fin 16) (s : State) : Host.Outcome State Fault Refusal := .next (s.descriptor n opCheck)

end Sys2Proof.Machine
end

