-- ==== Sys2Proof/Machine/RegWrites.lean ====
section
/-! DEFINITION. The commands that are one register write: each is judged and carried out as Access gives it. -/

namespace Sys2Proof.Machine

/-- REGISTER_WRITE (R59). -/
def execRegisterWrite (acc : Accessor) (addr value : Word) (s : State) : Host.Outcome State Fault Refusal :=
  .next ((s.writeAccess acc addr.toNat value).1)

/-- COMMIT (R66, R72). -/
def execCommit (acc : Accessor) (value : Word) (s : State) : Host.Outcome State Fault Refusal :=
  .next (s.writeCmd acc .COMMIT_CONTROL 0 0 value)

/-- PATTERN_LOAD (R43). -/
def execPatternLoad (acc : Accessor) (source : Fin 4) (target : Fin 2) (s : State) : Host.Outcome State Fault Refusal :=
  .next (s.writeCmd acc .PATTERN_CONTROL 0 0 (wordOf (1 + 16 * source.val + 64 * target.val)))

/-- PATTERN_PROGRAM (R43). -/
def execPatternProgram (acc : Accessor) (source : Fin 4) (target : Fin 2) (s : State) : Host.Outcome State Fault Refusal :=
  .next (s.writeCmd acc .PATTERN_CONTROL 0 0 (wordOf (2 + 16 * source.val + 64 * target.val)))

/-- PATTERN_LOCK_WRITE (R48, R49). -/
def execPatternLockWrite (acc : Accessor) (value : Word) (s : State) : Host.Outcome State Fault Refusal :=
  .next (s.writeCmd acc .PATTERN_LOCK 0 0 value)

/-- KEY_LOCK_WRITE (R49). -/
def execKeyLockWrite (acc : Accessor) (value : Word) (s : State) : Host.Outcome State Fault Refusal :=
  .next (s.writeCmd acc .KEY_LOCK 0 0 value)

/-- OWNER_KEY_STORE (R40, R55). -/
def execOwnerKeyStore (acc : Accessor) (value : Word) (s : State) : Host.Outcome State Fault Refusal :=
  .next (s.writeCmd acc .OWNER_KEY_Y 7 0 value)

/-- WITNESS_ARM (R206). -/
def execWitnessArm (acc : Accessor) (h : Fin 8) (value : Word) (s : State) : Host.Outcome State Fault Refusal :=
  .next (s.writeCmd acc .WITNESS_CONTROL h 0 value)

/-- ROUTE_POST (R80, R95). -/
def execRoutePost (acc : Accessor) (value : Word) (s : State) : Host.Outcome State Fault Refusal :=
  .next (s.writeCmd acc .ROUTE_POST 0 0 value)

/-- ROUTE_RESET (R93). -/
def execRouteReset (acc : Accessor) (value : Word) (s : State) : Host.Outcome State Fault Refusal :=
  .next (s.writeCmd acc .ROUTE_CONTROL 0 0 value)

/-- EVENT_RELEASE (R89). -/
def execEventRelease (acc : Accessor) (value : Word) (s : State) : Host.Outcome State Fault Refusal :=
  .next (s.writeCmd acc .EVENT_RELEASE 0 0 value)

/-- FENCE_COUNT_WRITE (R94). -/
def execFenceCountWrite (acc : Accessor) (f : Fin 32) (value : Word) (s : State) : Host.Outcome State Fault Refusal :=
  .next (s.writeCmd acc .FENCE_COUNT f 0 value)

/-- STORE_SCRUB_PERIOD_WRITE (R102). -/
def execStoreScrubPeriodWrite (acc : Accessor) (value : Word) (s : State) : Host.Outcome State Fault Refusal :=
  .next (s.writeCmd acc .STORE_SCRUB_PERIOD 0 0 value)

/-- PORTER_GO (R115). -/
def execPorterGo (acc : Accessor) (n : Fin 16) (s : State) : Host.Outcome State Fault Refusal :=
  .next (s.writeCmd acc .PORTER_CONTROL n 0 1)

/-- PORTER_CLEAR (R116). -/
def execPorterClear (acc : Accessor) (n : Fin 16) (s : State) : Host.Outcome State Fault Refusal :=
  .next (s.writeCmd acc .PORTER_CONTROL n 0 2)

/-- SRC_CONFIG_WRITE (R141). -/
def execSrcConfigWrite (acc : Accessor) (i : Fin 12) (value : Word) (s : State) : Host.Outcome State Fault Refusal :=
  .next (s.writeCmd acc .SRC_CONFIG i 0 value)

/-- SRC_BASE_HIGH_WRITE (R62, R141). -/
def execSrcBaseHighWrite (acc : Accessor) (i : Fin 12) (value : Word) (s : State) : Host.Outcome State Fault Refusal :=
  .next (s.writeCmd acc .SRC_BASE_HIGH i 0 value)

/-- SRC_NET_FORMAT_WRITE (R141). -/
def execSrcNetFormatWrite (acc : Accessor) (i : Fin 12) (value : Word) (s : State) : Host.Outcome State Fault Refusal :=
  .next (s.writeCmd acc .SRC_NET_FORMAT i 0 value)

/-- SRC_NET_SIZE_WRITE (R141). -/
def execSrcNetSizeWrite (acc : Accessor) (i : Fin 12) (value : Word) (s : State) : Host.Outcome State Fault Refusal :=
  .next (s.writeCmd acc .SRC_NET_SIZE i 0 value)

/-- LUT_PORT_DATA_WRITE (R186). -/
def execLutPortDataWrite (acc : Accessor) (h : Fin 8) (value : Word) (s : State) : Host.Outcome State Fault Refusal :=
  .next (s.writeCmd acc .LUT_PORT_DATA h 0 value)

/-- DP_CONFIG_WRITE (R202). -/
def execDpConfigWrite (acc : Accessor) (p : Fin 4) (value : Word) (s : State) : Host.Outcome State Fault Refusal :=
  .next (s.writeCmd acc .DP_CONFIG p 0 value)

/-- DP_RETRAIN (R202). -/
def execDpRetrain (acc : Accessor) (p : Fin 4) (value : Word) (s : State) : Host.Outcome State Fault Refusal :=
  .next (s.writeCmd acc .DP_CONFIG p 0 (value ||| 0x1000))

/-- RE_BIN_GROW_WRITE (R219). -/
def execReBinGrowWrite (acc : Accessor) (c : Fin 4) (value : Word) (s : State) : Host.Outcome State Fault Refusal :=
  .next (s.writeCmd acc .RE_BIN_GROW_SIZE c 0 value)

/-- BE_COPY_GO (R231). -/
def execBeCopyGo (acc : Accessor) (value : Word) (s : State) : Host.Outcome State Fault Refusal :=
  .next (s.writeCmd acc .BE_CONTROL 0 0 (value ||| 1))

/-- BE_FILL_GO (R231). -/
def execBeFillGo (acc : Accessor) (value : Word) (s : State) : Host.Outcome State Fault Refusal :=
  .next (s.writeCmd acc .BE_CONTROL 0 0 (1 ||| value))

/-- CMP_CONFIG_WRITE (R244). -/
def execCmpConfigWrite (acc : Accessor) (n : Fin 32) (value : Word) (s : State) : Host.Outcome State Fault Refusal :=
  .next (s.writeCmd acc .CMP_CONFIG n 0 value)

/-- CMP_VALUE_HIGH_WRITE (R241, R62). -/
def execCmpValueHighWrite (acc : Accessor) (n : Fin 32) (value : Word) (s : State) : Host.Outcome State Fault Refusal :=
  .next (s.writeCmd acc .CMP_VALUE_HIGH n 0 value)

/-- CMP_BALE_ADDR_HIGH_WRITE (R246). -/
def execCmpBaleAddrHighWrite (acc : Accessor) (n : Fin 32) (value : Word) (s : State) : Host.Outcome State Fault Refusal :=
  .next (s.writeCmd acc .CMP_BALE_ADDR_HIGH n 0 value)

/-- CNT_LOAD_WRITE (R249, R256). DEDUCED, log 15. -/
def execCntLoadWrite (acc : Accessor) (k : Fin 8) (value : Word) (s : State) : Host.Outcome State Fault Refusal :=
  .next (s.writeCmd acc .CNT_LOAD k 0 value)

/-- NET_CONFIG_WRITE (R262, R288). -/
def execNetConfigWrite (acc : Accessor) (p : Fin 2) (value : Word) (s : State) : Host.Outcome State Fault Refusal :=
  .next (s.writeCmd acc .NET_CONFIG p 0 value)

/-- USB_PORT_DISABLE_WRITE (R49, R306). -/
def execUsbPortDisableWrite (acc : Accessor) (value : Word) (s : State) : Host.Outcome State Fault Refusal :=
  .next (s.writeCmd acc .USB_PORT_DISABLE 0 0 value)

/-- CARAVAN_BARRIER_COMMIT (R322). -/
def execCaravanBarrierCommit (acc : Accessor) (value : Word) (s : State) : Host.Outcome State Fault Refusal :=
  .next (s.writeCmd acc .CARAVAN_BARRIER_COMMIT 0 0 value)

/-- CARAVAN_BARRIER_CANCEL (R324). -/
def execCaravanBarrierCancel (acc : Accessor) (value : Word) (s : State) : Host.Outcome State Fault Refusal :=
  .next (s.writeCmd acc .CARAVAN_BARRIER_CANCEL 0 0 value)

/-- CLEAR_LATCH (R351, R368). -/
def execClearLatch (acc : Accessor) (s : State) : Host.Outcome State Fault Refusal :=
  .next (s.writeCmd acc .PSV_COMMAND 0 0 1)

/-- CLEAR_RECORD (R365, R368). -/
def execClearRecord (acc : Accessor) (s : State) : Host.Outcome State Fault Refusal :=
  .next (s.writeCmd acc .PSV_COMMAND 0 0 2)

/-- CLEAR_COUNTERS (R368). -/
def execClearCounters (acc : Accessor) (s : State) : Host.Outcome State Fault Refusal :=
  .next (s.writeCmd acc .PSV_COMMAND 0 0 3)

/-- RESTART_GROUP (R355, R368). -/
def execRestartGroup (acc : Accessor) (board : Fin 4) (s : State) : Host.Outcome State Fault Refusal :=
  .next (s.writeCmd acc .PSV_COMMAND 0 0 (wordOf (4 + 256 * board.val)))

/-- ACC_CONTROL_WRITE (R352, R368). -/
def execAccControlWrite (acc : Accessor) (value : Word) (s : State) : Host.Outcome State Fault Refusal :=
  .next (s.writeCmd acc .ACC_CONTROL 0 0 value)

/-- WARM_RESET (R374). -/
def execWarmReset (acc : Accessor) (value : Word) (s : State) : Host.Outcome State Fault Refusal :=
  .next (s.writeCmd acc .RESET_CONTROL 0 0 value)

/-- LEDGER_CLEAR (R397). -/
def execLedgerClear (acc : Accessor) (value : Word) (s : State) : Host.Outcome State Fault Refusal :=
  .next (s.writeCmd acc .LEDGER_CONTROL 0 0 value)

end Sys2Proof.Machine
end

