-- ==== Sys2Proof/Machine/RouteCmds.lean ====
section
/-! DEFINITION. What routes do of their own (04): posts written, bales fetched, started and completed, and the bales of
the commit and cue executor. -/

namespace Sys2Proof.Machine

/-- A NOP completes at once (Table 4-3). -/
def State.nopBale (s : State) (r : Nat) : State :=
  if s.holding then s
  else
    match s.nextStarted r 0 with
    | none => s
    | some b => s.modStarted r b.index (fun x => { x with taken := true, done := true })

/-- The executor's next bale of an opcode, while it may act. -/
def State.executorBale (s : State) (r op : Nat) : Option Started :=
  if s.holding || s.consumer r != .executor then none else s.nextStarted r op

/-- A COMMIT bale commits the groups of its mask (R66, R85). -/
def State.commitBale (s : State) (r : Nat) : State :=
  match s.executorBale r 1 with
  | none => s
  | some b => (s.commitMask (leAt b.data 8 2)).modStarted r b.index (fun x => { x with taken := true, done := true })

/-- Address and value of the pairs of a REG_WRITE bale (Table 4-3). -/
def regWritePairs (b : Bale) : List (Nat × Word) :=
  (List.range (leAt b 8 1)).map (fun k => (leAt b (16 + 8 * k) 4, wordOf (leAt b (20 + 8 * k) 4)))

/-- A REG_WRITE bale: its writes in pair order, each judged by itself; a COUNT outside 1 to 6 is refused (R85, R86). -/
def State.regWriteBale (s : State) (r : Nat) : State :=
  match s.executorBale r 2 with
  | none => s
  | some b =>
    let s1 := s.modStarted r b.index (fun x => { x with taken := true })
    if leAt b.data 8 1 = 0 ∨ 6 < leAt b.data 8 1 then s1.refuseBale r b 2
    else ((regWritePairs b.data).foldl (fun s p => (s.writeAccess .bale p.1 p.2).1) s1).finishBale r b.index false

/-- The started bales of a resetting route are done (R53, R93). -/
def State.resetDone (s : State) (r : Nat) : State :=
  match (s.route r).resetting with
  | none => s
  | some z => if (s.route r).started.all (·.done) then (s.completeBales r).finishReset r z else s

/-- POST_WRITTEN (R77). -/
def execPostWritten (s : State) : Host.Outcome State Fault Refusal := .next s.postEnds

/-- BALE_FETCH (R83); in debug hold no fetch starts (R303). -/
def execBaleFetch (r : Fin 16) (s : State) : Host.Outcome State Fault Refusal :=
  .next (if s.holding then s else s.fetchRoute r)

/-- BALE_START (R78, R83, R87). -/
def execBaleStart (r : Fin 16) (s : State) : Host.Outcome State Fault Refusal := .next (s.startBale r)

/-- BALE_COMPLETE (R78). -/
def execBaleComplete (r : Fin 16) (s : State) : Host.Outcome State Fault Refusal := .next (s.completeBales r)

/-- NOP_BALE (R84). -/
def execNopBale (r : Fin 16) (s : State) : Host.Outcome State Fault Refusal := .next (s.nopBale r)

/-- COMMIT_BALE (R85). -/
def execCommitBale (r : Fin 16) (s : State) : Host.Outcome State Fault Refusal := .next (s.commitBale r)

/-- REG_WRITE_BALE (R85). -/
def execRegWriteBale (r : Fin 16) (s : State) : Host.Outcome State Fault Refusal := .next (s.regWriteBale r)

/-- ROUTE_RESET_DONE (R53, R93). -/
def execRouteResetDone (r : Fin 16) (s : State) : Host.Outcome State Fault Refusal := .next (s.resetDone r)

end Sys2Proof.Machine
end

