-- ==== Sys2Proof/Machine/Usb.lean ====
section
/-! DEFINITION. USB vendor requests, uploads, capture pages, events and the bus (R289 to R308). -/

namespace Sys2Proof.Machine

/-! ### Vendor requests (Table 14-3) -/

def rqReadReg : Nat := 0x01
def rqWriteReg : Nat := 0x02
def rqGetResult : Nat := 0x03
def rqClaimNonce : Nat := 0x04
def rqClaim : Nat := 0x05
def rqRelease : Nat := 0x06
def rqPost : Nat := 0x07
def rqCapture : Nat := 0x08
def rqBulkSetup : Nat := 0x09
def rqSetMode : Nat := 0x0A
def rqSetSecret : Nat := 0x0B

/-- The host reaches the device: the block is out of reset and its pull-up connected (R289, R379).
DEDUCED, log 65. -/
def State.usbLive (s : State) : Bool := s.boot.regsUp && s.boot.mode != 0 && s.usb.vbus && s.usb.pullup

def State.usbOwner (s : State) : Bool := s.net.owner == .usb

/-- A vendor request arrives; within the grace it keeps the owner session (R294). DEDUCED, log 66. -/
def State.usbRequest (s : State) (run : State → State) : State :=
  if s.usbLive then run (s.modUsb (fun u => { u with grace := false })) else s

/-- End a request. A reset that the request itself caused leaves nothing to answer. -/
def State.usbEnd (s : State) (req result : Nat) (completed : Nat := 0) : State :=
  if s.boot.inReset then s else s.usbFinish req result completed

/-- A request that floor mode does not serve (R305). -/
def State.serviceRequest (s : State) (req : Nat) (run : State → State) : State :=
  if s.boot.mode = 1 then s.usbEnd req stFloor else run s

/-- A request of the owner alone (Table 14-3); one of another party is answered NOT_OWNER and leaves no violation, but a
WRITE_REG (State.usbWrite). DESIGN CHOICE, log 131. -/
def State.ownerRequest (s : State) (req : Nat) (run : State → State) : State :=
  if s.usbOwner then run s else s.usbEnd req stNotOwner

/-- The data of an IN request, with its record. -/
def State.usbAnswer (s : State) (req completed : Nat) (data : List Byte) : State :=
  (s.usbRecord req stOk completed).send (.usbData 0 data)

/-! ### Registers (R291) -/

def State.usbRead (s : State) (a n : Nat) : State :=
  if n = 0 ∨ 128 < n then s.usbEnd rqReadReg stMalformed
  else
    match State.readRun .usb n s a with
    | (s1, ws) =>
      if ws.length = n then s1.usbAnswer rqReadReg n (ws.flatMap (fun w => leBytes 4 w.toNat))
      else s1.usbEnd rqReadReg stRefused ws.length

/-- A write by another party records a violation of its first word (R61, R74). -/
def State.usbWrite (s : State) (a : Nat) (words : List Word) : State :=
  if words.isEmpty = true ∨ 128 < words.length then s.usbEnd rqWriteReg stMalformed
  else if s.usbOwner = false then ((s.writeAccess .usb a (words.headD 0)).1).usbEnd rqWriteReg stNotOwner
  else
    match State.writeRun .usb s a words 0 with
    | (s1, k) => s1.usbEnd rqWriteReg (if k = words.length then stOk else stRefused) k

/-! ### The result record (Table 14-4) -/

/-- PAGE of a queued page. The number of the on-chip page is not stated (log 2). DEDUCED, log 74. -/
def pageNumber (k : Nat) : Nat := if k = 4 then Config.unstated 0xE8 0 % 256 else k

def State.bulkRemaining (s : State) : Nat := (s.usb.upload.map (·.remaining)).getD 0

def State.resultRecord (s : State) : List Byte :=
  let u := s.usb
  let page := match u.queue with
    | [] => 0xFF
    | k :: _ => pageNumber k
  [byteOf u.request, byteOf u.result] ++ leBytes 2 u.completed ++ leBytes 4 u.check.toNat ++
    [byteOf page, byteOf u.queue.length, 0, 0] ++ leBytes 4 s.bulkRemaining

/-! ### Claims (R293 to R295, R308) -/

/-- The party that a lockout after a failed USB claim names: the address 0 of its record. -/
def usbParty : Word := 0

def State.usbNonce (s : State) : State :=
  if s.net.lockouts.contains usbParty then s.usbEnd rqClaimNonce stBusy
  else if s.owned then s.usbEnd rqClaimNonce stOwned
  else
    let (o, s1) := s.freshOffer
    (s1.modUsb (fun u => { u with offer := some o })).usbAnswer rqClaimNonce 0
      (beBytes 32 o.nonce.toNat ++ leBytes 4 o.session.toNat)

def State.usbClaimFails (s : State) : State :=
  let s1 := s.modNet (fun n => { n with
    lockouts := nub (usbParty :: n.lockouts), authFailCount := satInc n.authFailCount })
  (s1.record 0x13 classB [] 0).usbEnd rqClaim stAuth

/-- The challenge given last is live and the MAC is its. -/
def State.usbMacOk (s : State) (mac : BitVec 256) : Bool :=
  match s.usb.offer with
  | some o => o.live && beBytes 32 mac.toNat == o.mac [0, 0, 0, 0, 0, 0]
  | none => false

/-- CLAIM: the service button stands for the MAC. DEDUCED, log 67. -/
def State.usbClaim (s : State) (mac : BitVec 256) : State :=
  let s1 := s.modUsb (fun u => { u with offer := u.offer.map (fun o => { o with live := false }) })
  if s.chassis.button = false ∧ s.usbMacOk mac = false then s1.usbClaimFails
  else if s.owned then s1.usbEnd rqClaim stOwned
  else ((s1.beginOwner .usb).ownerEvent ownerClaimed 1 0).usbEnd rqClaim stOk

/-- SET_SECRET; under the key lock it leaves the reason LOCKED, at an address that no rule names: a free value (R295).
DEDUCED, log 68. -/
def State.usbSecret (s : State) (secret : BitVec 256) : State :=
  if s.pat.keyLock then
    let (k, s1) := s.takeFree
    (s1.violation .usb true (Config.freeWord k).toNat whyLocked).usbEnd rqSetSecret stRefused
  else (s.modNet (fun n => { n with secret := secret })).usbEnd rqSetSecret stOk

/-! ### Posts (R291) -/

def State.usbPosts (s : State) (route : Nat) (bales : List Bale) : State :=
  match s.acceptPost route bales .usb with
  | (s1, 1) => s1
  | (s1, 2) => s1.usbEnd rqPost stFull
  | (s1, _) => s1.usbEnd rqPost stUnbound

def balesMalformed (route : Nat) (bales : List Bale) : Bool :=
  decide (15 < route) || bales.isEmpty || decide (8 < bales.length) || bales.any (fun b => b.length != 64)

/-! ### Capture pages (R277, R299, R300, R305) -/

/-- Queue page k; its CHECK covers the page as it is sent. -/
def State.queuePage (s : State) (k : Nat) (data : List Byte) : State :=
  s.modUsb (fun u => { u with queue := u.queue ++ [k], check := wordOf (crc32 data) })

/-- A page in the one on-chip buffer, used in floor mode, which needs no Store (R380), and without a capture-page region. -/
def State.captureChip (s : State) (c : Capture) : State :=
  if s.net.chipPage.isSome then s.usbEnd rqCapture stBusy
  else
    match s.captured c with
    | .error _ => s.usbEnd rqCapture stStore
    | .ok data =>
      let page := padTo 4096 data
      ((s.modNet (fun n => { n with chipPage := some ⟨true, data.length, page⟩ })).queuePage 4 page).usbEnd rqCapture stOk

/-- A page of the shared pool. -/
def State.capturePool (s : State) (base : Nat) (c : Capture) : State :=
  match s.freeIndex with
  | none => s.usbEnd rqCapture stBusy
  | some k =>
    match s.captured c with
    | .error _ => s.usbEnd rqCapture stStore
    | .ok data =>
      let page := padTo 4096 data
      match s.buildPage base k true page with
      | none => s.usbEnd rqCapture stStore
      | some s1 => (s1.queuePage k page).usbEnd rqCapture stOk

def State.usbCapture (s : State) (c : Capture) : State :=
  if s.boot.mode = 1 then s.captureChip c
  else
    match s.pattern.poolBase with
    | none => s.captureChip c
    | some base => s.capturePool base c

/-- Bytes in a bulk packet (Table 14-2). -/
def State.bulkPacket (s : State) : Nat := if s.usb.highSpeed then 512 else 64

/-- The bytes of a queued page; those the Store no longer reads are free (log 2). DEDUCED, log 73. -/
def State.pageData (s : State) (k : Nat) : List Byte :=
  if k = 4 then padTo 4096 ((s.net.chipPage.map (·.data)).getD [])
  else
    match s.pattern.poolBase with
    | none => (List.range 4096).map (Config.freeByte s.freeCount)
    | some base =>
      match s.storeRead (pageAddr base k) 4096 with
      | .ok b => b
      | .error _ => (List.range 4096).map (Config.freeByte s.freeCount)

/-- EP1_PACKET_ACK: the next packet of the head page is sent and acknowledged; an IN token without a page receives
NAK. -/
def State.ep1Ack (s : State) : State :=
  if s.usbLive = false then s
  else
    match s.usb.queue with
    | [] => s.send (.usbNak 1)
    | k :: _ =>
      let n := s.bulkPacket
      let s1 := (s.send (.usbData 1 (slice (s.pageData k) (n * s.usb.packets) n))).takeFree.2
      if 4096 ≤ n * (s.usb.packets + 1) then s1.dropHeadPage
      else s1.modUsb (fun u => { u with packets := u.packets + 1 })

/-- USB_CAPTURE_TIMEOUT (R300). -/
def State.usbPageTimeout (s : State) : State :=
  if s.usb.queue.isEmpty then s
  else s.dropHeadPage.modUsb (fun u => { u with captureDiscards := satInc u.captureDiscards })

/-! ### Uploads (R296 to R298) -/

/-- End an upload with a result. -/
def State.endUpload (s : State) (result : Nat) : State :=
  match s.usb.upload with
  | none => s
  | some _ => s.modUsb (fun u => { u with upload := none, result := result })

/-- Arm EP2. An upload still armed ends INCOMPLETE, which this request's own record then replaces. -/
def State.armUpload (s : State) (kind base n : Nat) : State :=
  let up : Upload := ⟨kind, base, n, 0, [], 0xFFFFFFFF, decide (2 ≤ kind)⟩
  ((s.endUpload stIncomplete).modUsb (fun u => { u with upload := some up })).usbEnd rqBulkSetup stOk

/-- KIND 0. -/
def State.bulkStore (s : State) (a n : Nat) : State :=
  if n = 0 ∨ 4194304 < n ∨ a % 64 ≠ 0 ∨ s.storeSpan < a + n then s.usbEnd rqBulkSetup stMalformed
  else if s.boot.mode = 1 then s.usbEnd rqBulkSetup stRefused
  else s.armUpload 0 a n

/-- KIND 1. -/
def State.bulkStaging (s : State) (offset n : Nat) : State :=
  if n = 0 ∨ 4194304 < n ∨ offset % 64 ≠ 0 ∨ 4194304 < offset + n then s.usbEnd rqBulkSetup stMalformed
  else if s.boot.mode = 1 then s.usbEnd rqBulkSetup stRefused
  else s.armUpload 1 (s.stagingBase + offset) n

/-- KIND 2 and 3: the slot is erased at setup. -/
def State.bulkSlot (s : State) (slot a n : Nat) : State :=
  if n = 0 ∨ 4194304 < n ∨ a ≠ 0 then s.usbEnd rqBulkSetup stMalformed
  else if s.boot.mode ≠ 1 then s.usbEnd rqBulkSetup stRefused
  else (s.setFlash (slot + 1) []).armUpload (slot + 2) 0 n

def State.slotBytes (s : State) (target : Nat) : List Byte := if target = 1 then s.pat.slotA.bytes else s.pat.slotB.bytes

/-- Write one block of an upload: the Bool says that it was written. -/
def State.writeUpload (s : State) (u : Upload) (bs : List Byte) : State × Bool :=
  if 2 ≤ u.kind then (s.setFlash (u.kind - 1) (s.slotBytes (u.kind - 1) ++ bs), true)
  else
    match s.storeWrite (u.base + u.offset) bs with
    | (s1, none) => (s1, true)
    | (s1, some _) => (s1, false)

/-- Write the blocks that are complete, and the last when nothing more is awaited. -/
def State.pumpUpload (s : State) (u : Upload) : List (List Byte) → State
  | [] => s.modUsb (fun q => { q with upload := some u })
  | b :: bs =>
    if b.length < 64 ∧ u.remaining ≠ 0 then
      s.modUsb (fun q => { q with upload := some { u with held := b } })
    else
      match s.writeUpload u b with
      | (s1, false) => s1.endUpload stStore
      | (s1, true) =>
        State.pumpUpload s1 { u with offset := u.offset + b.length, crc := b.foldl (crcByte 0xEDB88320) u.crc } bs

/-- EP2_DATA (R296, R298). DEDUCED, log 69. -/
def State.ep2Data (s : State) (packet : List Byte) : State :=
  if s.usbLive = false then s
  else
    match s.usb.upload with
    | none => s.send .usbStall
    | some u =>
      if u.remaining = 0 then s.send .usbStall
      else if u.erasing then s.send (.usbNak 2)
      else
        let got := packet.take u.remaining
        (s.pumpUpload { u with remaining := u.remaining - got.length, held := [] } (pieces 64 (u.held ++ got))).send .usbAck

/-- Steps 1 to 4 on a slot set PATTERN_RESULT (R298). DEDUCED, log 70. -/
def State.checkSlot (s : State) (target : Nat) : State :=
  let r := checkSigned (slotReader ⟨s.slotBytes target⟩) (fld (s.stored .SIG_POLICY) 0 2) (s.ownerKey .OWNER_KEY_X)
    (s.ownerKey .OWNER_KEY_Y)
  match r with
  | .ok _ => { s with pat := { s.pat with code := patOk, sect := noSection } }
  | .error (code, sec) => { s with pat := { s.pat with code := code, sect := sec } }

/-- BULK_UPLOAD_DONE (R296, R298). -/
def State.uploadDone (s : State) : State :=
  match s.usb.upload with
  | none => s
  | some u =>
    if u.remaining ≠ 0 then s
    else
      let s1 := (s.endUpload stOk).modUsb (fun q => { q with check := wordOf (u.crc.xor 0xFFFFFFFF) })
      if 2 ≤ u.kind then s1.checkSlot (u.kind - 1) else s1

/-- SLOT_ERASE_DONE (R298). -/
def State.eraseDone (s : State) : State :=
  s.modUsb (fun q => { q with upload := q.upload.map (fun u => { u with erasing := false }) })

/-! ### The bus (R294, R301, R307, R308) -/

/-- EP3_PACKET_ACK: one event bale to a USB owner; otherwise NAK. -/
def State.ep3Ack (s : State) : State :=
  if s.usbLive = false then s
  else if s.usbOwner = false ∨ s.eventsDue = 0 then s.send (.usbNak 3)
  else
    let first := s.eventFirst
    ((s.send (.usbData 3 (s.sentBale first))).modNet (fun n => { n with eventNext := (first + 1) % 65536 })).takeFree.2

/-- What a bus reset or a detachment breaks off: the upload, and the page in part sent. -/
def State.breakOff (s : State) : State := (s.endUpload stIncomplete).modUsb (fun u => { u with packets := 0 })

/-- USB_BUS_RESET (Table 14-7). -/
def State.busReset (s : State) (stage : UsbStage) : State :=
  if s.usbLive = false then s
  else
    let lost := if stage = .outPartial then 1 else 0
    let s1 := s.breakOff.modUsb (fun u => { u with
      busResets := satInc u.busResets
      partialDiscards := if lost = 1 then satInc u.partialDiscards else u.partialDiscards
      grace := s.usbOwner })
    s1.usbState 2 usbReset

/-- USB_GRACE_EXPIRY (R294). DEDUCED, log 64. -/
def State.graceOver (s : State) : State := if s.usb.grace then s.endUsbOwner ownerTimedOut else s

/-- VBUS_CHANGE (R289, R294, R308). DEDUCED, log 71. -/
def State.vbusChange (s : State) (present : Bool) : State :=
  if s.usb.vbus = present then s
  else if present then
    let s1 := s.modUsb (fun u => { u with vbus := true })
    if s1.usb.disabled && !s1.usb.removalDue then s1.usbState 5 usbDisabled else s1.usbConnect
  else
    let s1 := s.breakOff.modUsb (fun u => { u with vbus := false, pullup := false, highSpeed := false })
    (s1.usbState 0 usbVbusLost).endUsbOpen usbVbusLost

/-- USB_STATUS STATE of an enumeration step. -/
def enumState : EnumStep → Nat
  | .attached => 1
  | .dflt => 2
  | .addressed => 3
  | .configured => 4

/-- The endpoints of Table 14-2 at a speed. -/
def usbEndpoints (highSpeed : Bool) : List UsbEndpoint :=
  let bulk := if highSpeed then 512 else 64
  [⟨0, .control, false, 64, none⟩, ⟨1, .bulk, true, bulk, none⟩, ⟨2, .bulk, false, bulk, none⟩, ⟨3, .interrupt, true, 64, some 1⟩]

/-- A hex digit in upper case. -/
def hexChar (n : Nat) : Char := ("0123456789ABCDEF".toList).getD n '0'

/-- The unit serial in 16 upper-case hex digits. -/
def serialText : String :=
  String.ofList ((List.range 16).map (fun i => hexChar (Config.unitSerial.toNat / 16 ^ (15 - i) % 16)))

/-- The descriptors of Tables 14-1 and 14-2 (R289). -/
def usbDescriptorsOf (highSpeed : Bool) : UsbDescriptors where
  bcdUsb := 0x0200
  deviceClass := 0
  maxPacket0 := 64
  vendor := 0x3A7C
  product := 0x0096
  bcdDevice := 0x0200
  configurations := 1
  interfaces := 1
  attributes := 0xC0
  maxPower := 0
  interfaceClass := 0xFF
  interfaceSubclass := 0
  interfaceProtocol := 0
  endpoints := usbEndpoints highSpeed
  manufacturer := "Sernilo"
  productName := "Chiaris Yarow YW-96"
  serial := serialText

/-- USB_ENUMERATION (R289, R308): the host, once it has given an address, reads the descriptors. DESIGN CHOICE, log 153. -/
def State.enumerate (s : State) (stage : EnumStep) (highSpeed : Bool) : State :=
  if s.usbLive then
    let s1 := (s.modUsb (fun u => { u with highSpeed := highSpeed })).usbState (enumState stage) usbHost
    if stage = .addressed then s1.send (.usbDescriptors (usbDescriptorsOf highSpeed)) else s1
  else s

/-! ### Commands -/

/-- READ_REG (R291). -/
def execReadReg (addr : Word) (count : Nat) (s : State) : Host.Outcome State Fault Refusal :=
  .next (s.usbRequest (fun s => s.usbRead addr.toNat count))

/-- WRITE_REG (R291). -/
def execWriteReg (addr : Word) (words : List Word) (s : State) : Host.Outcome State Fault Refusal :=
  .next (s.usbRequest (fun s => s.usbWrite addr.toNat words))

/-- GET_RESULT (R292): the record stays. -/
def execGetResult (s : State) : Host.Outcome State Fault Refusal :=
  .next (s.usbRequest (fun s => s.send (.usbData 0 s.resultRecord)))

/-- CLAIM_NONCE (R293). -/
def execClaimNonce (s : State) : Host.Outcome State Fault Refusal := .next (s.usbRequest (fun s => s.usbNonce))

/-- USB_CLAIM (R293). -/
def execUsbClaim (mac : BitVec 256) (s : State) : Host.Outcome State Fault Refusal :=
  .next (s.usbRequest (fun s => s.usbClaim mac))

/-- USB_RELEASE (R294). -/
def execUsbRelease (s : State) : Host.Outcome State Fault Refusal :=
  .next (s.usbRequest (fun s => s.ownerRequest rqRelease (fun s => (s.endUsbOwner ownerReleased).usbEnd rqRelease stOk)))

/-- USB_POST (R291). -/
def execUsbPost (route : Nat) (bales : List Bale) (s : State) : Host.Outcome State Fault Refusal :=
  .next (s.usbRequest (fun s =>
    if balesMalformed route bales then s.usbEnd rqPost stMalformed
    else s.serviceRequest rqPost (fun s => s.ownerRequest rqPost (fun s => s.usbPosts route bales))))

/-- USB_CAPTURE_STORE (R299). -/
def execUsbCaptureStore (addr bytes : Nat) (s : State) : Host.Outcome State Fault Refusal :=
  .next (s.usbRequest (fun s =>
    if bytes = 0 ∨ 4096 < bytes ∨ 2 ^ 64 ≤ addr then s.usbEnd rqCapture stMalformed
    else s.serviceRequest rqCapture (fun s => s.ownerRequest rqCapture (fun s => s.usbCapture (.store addr bytes)))))

/-- USB_CAPTURE_LEDGER (R299). -/
def execUsbCaptureLedger (s : State) : Host.Outcome State Fault Refusal :=
  .next (s.usbRequest (fun s => s.ownerRequest rqCapture (fun s => s.usbCapture .ledger)))

/-- USB_CAPTURE_POWER_LOG (R299). -/
def execUsbCapturePowerLog (s : State) : Host.Outcome State Fault Refusal :=
  .next (s.usbRequest (fun s => s.ownerRequest rqCapture (fun s => s.usbCapture .powerLog)))

/-- BULK_SETUP_STORE (R297). -/
def execBulkSetupStore (addr bytes : Nat) (s : State) : Host.Outcome State Fault Refusal :=
  .next (s.usbRequest (fun s => s.ownerRequest rqBulkSetup (fun s => s.bulkStore addr bytes)))

/-- BULK_SETUP_STAGING (R298). -/
def execBulkSetupStaging (offset bytes : Nat) (s : State) : Host.Outcome State Fault Refusal :=
  .next (s.usbRequest (fun s => s.ownerRequest rqBulkSetup (fun s => s.bulkStaging offset bytes)))

/-- BULK_SETUP_SLOT (R298). -/
def execBulkSetupSlot (slot : Fin 2) (addr bytes : Nat) (s : State) : Host.Outcome State Fault Refusal :=
  .next (s.usbRequest (fun s => s.ownerRequest rqBulkSetup (fun s => s.bulkSlot slot addr bytes)))

/-- SLOT_ERASE_DONE (R298). -/
def execSlotEraseDone (s : State) : Host.Outcome State Fault Refusal := .next s.eraseDone

/-- EP2_DATA (R296). -/
def execEp2Data (packet : List Byte) (s : State) : Host.Outcome State Fault Refusal := .next (s.ep2Data packet)

/-- BULK_UPLOAD_DONE (R296). -/
def execBulkUploadDone (s : State) : Host.Outcome State Fault Refusal := .next s.uploadDone

/-- SET_MODE_NORMAL (R304). -/
def execSetModeNormal (s : State) : Host.Outcome State Fault Refusal := .next (s.usbRequest (fun s =>
  s.serviceRequest rqSetMode (fun s => s.ownerRequest rqSetMode (fun s => (s.enterMode .normal).usbEnd rqSetMode stOk))))

/-- SET_MODE_FREEZE (R302). -/
def execSetModeFreeze (s : State) : Host.Outcome State Fault Refusal := .next (s.usbRequest (fun s =>
  s.serviceRequest rqSetMode (fun s => s.ownerRequest rqSetMode (fun s => (s.enterMode .freeze).usbEnd rqSetMode stOk))))

/-- SET_MODE_DEBUG_HOLD (R303). -/
def execSetModeDebugHold (s : State) : Host.Outcome State Fault Refusal := .next (s.usbRequest (fun s =>
  s.serviceRequest rqSetMode (fun s => s.ownerRequest rqSetMode (fun s =>
    (s.enterMode .debugHold).usbEnd rqSetMode stOk))))

/-- SET_SECRET (R295). -/
def execSetSecret (secret : BitVec 256) (s : State) : Host.Outcome State Fault Refusal :=
  .next (s.usbRequest (fun s => s.ownerRequest rqSetSecret (fun s => s.usbSecret secret)))

/-- EP1_PACKET_ACK (R299). -/
def execEp1PacketAck (s : State) : Host.Outcome State Fault Refusal := .next s.ep1Ack

/-- USB_CAPTURE_TIMEOUT (R300). -/
def execUsbCaptureTimeout (s : State) : Host.Outcome State Fault Refusal := .next s.usbPageTimeout

/-- EP3_PACKET_ACK (R301). -/
def execEp3PacketAck (s : State) : Host.Outcome State Fault Refusal := .next s.ep3Ack

/-- USB_BUS_RESET (R307). -/
def execUsbBusReset (stage : UsbStage) (s : State) : Host.Outcome State Fault Refusal := .next (s.busReset stage)

/-- USB_GRACE_EXPIRY (R294). -/
def execUsbGraceExpiry (s : State) : Host.Outcome State Fault Refusal := .next s.graceOver

/-- VBUS_CHANGE (R294). -/
def execVbusChange (present : Bool) (s : State) : Host.Outcome State Fault Refusal := .next (s.vbusChange present)

/-- USB_ENUMERATION (R289). -/
def execUsbEnumeration (stage : EnumStep) (highSpeed : Bool) (s : State) : Host.Outcome State Fault Refusal :=
  .next (s.enumerate stage highSpeed)

/-- USB_MALFORMED_REQUEST (R290). GET_RESULT leaves the record (R292). -/
def execUsbMalformedRequest (request : Byte) (s : State) : Host.Outcome State Fault Refusal :=
  .next (s.usbRequest (fun s =>
    if request.toNat = rqGetResult then s.send .usbStall else s.usbEnd request.toNat stMalformed))

end Sys2Proof.Machine
end

