-- ==== Sys2Proof/Machine/Dispatch.lean ====
section
/-! DEFINITION. One arm per command: the command's meaning. -/

namespace Sys2Proof.Machine

def exec (i : Instr) (s : State) : Host.Outcome State Fault Refusal :=
  match i with
  | .registerWrite acc addr value => Sys2Proof.Machine.execRegisterWrite acc addr value s
  | .commit acc value => Sys2Proof.Machine.execCommit acc value s
  | .patternLoad acc source target => Sys2Proof.Machine.execPatternLoad acc source target s
  | .patternProgram acc source target => Sys2Proof.Machine.execPatternProgram acc source target s
  | .patternLockWrite acc value => Sys2Proof.Machine.execPatternLockWrite acc value s
  | .keyLockWrite acc value => Sys2Proof.Machine.execKeyLockWrite acc value s
  | .ownerKeyStore acc value => Sys2Proof.Machine.execOwnerKeyStore acc value s
  | .bindOff h => Sys2Proof.Machine.execBindOff h s
  | .castOn h => Sys2Proof.Machine.execCastOn h s
  | .gaugeBand h band => Sys2Proof.Machine.execGaugeBand h band s
  | .lineClose h line => Sys2Proof.Machine.execLineClose h line s
  | .lineComposed h line => Sys2Proof.Machine.execLineComposed h line s
  | .witnessCrcFinal h => Sys2Proof.Machine.execWitnessCrcFinal h s
  | .witnessArm acc h value => Sys2Proof.Machine.execWitnessArm acc h value s
  | .headFailure h part => Sys2Proof.Machine.execHeadFailure h part s
  | .routePost acc value => Sys2Proof.Machine.execRoutePost acc value s
  | .postWritten => Sys2Proof.Machine.execPostWritten s
  | .baleFetch r => Sys2Proof.Machine.execBaleFetch r s
  | .baleStart r => Sys2Proof.Machine.execBaleStart r s
  | .baleComplete r => Sys2Proof.Machine.execBaleComplete r s
  | .nopBale r => Sys2Proof.Machine.execNopBale r s
  | .commitBale r => Sys2Proof.Machine.execCommitBale r s
  | .regWriteBale r => Sys2Proof.Machine.execRegWriteBale r s
  | .routeReset acc value => Sys2Proof.Machine.execRouteReset acc value s
  | .routeResetDone r => Sys2Proof.Machine.execRouteResetDone r s
  | .eventRelease acc value => Sys2Proof.Machine.execEventRelease acc value s
  | .fenceCountWrite acc f value => Sys2Proof.Machine.execFenceCountWrite acc f value s
  | .storeReadServed cls addr ecc => Sys2Proof.Machine.execStoreReadServed cls addr ecc s
  | .storeWriteServed cls addr data => Sys2Proof.Machine.execStoreWriteServed cls addr data s
  | .patrolScrub ecc => Sys2Proof.Machine.execPatrolScrub ecc s
  | .storeScrubPeriodWrite acc value => Sys2Proof.Machine.execStoreScrubPeriodWrite acc value s
  | .channelAlert c => Sys2Proof.Machine.execChannelAlert c s
  | .storeZeroFillDone => Sys2Proof.Machine.execStoreZeroFillDone s
  | .porterGo acc n => Sys2Proof.Machine.execPorterGo acc n s
  | .porterClear acc n => Sys2Proof.Machine.execPorterClear acc n s
  | .porterClearDone n => Sys2Proof.Machine.execPorterClearDone n s
  | .porterTransferDone n => Sys2Proof.Machine.execPorterTransferDone n s
  | .porterBusError n late => Sys2Proof.Machine.execPorterBusError n late s
  | .porterHalt n => Sys2Proof.Machine.execPorterHalt n s
  | .programEnd n => Sys2Proof.Machine.execProgramEnd n s
  | .programMove n => Sys2Proof.Machine.execProgramMove n s
  | .programLoop n => Sys2Proof.Machine.execProgramLoop n s
  | .programWait n => Sys2Proof.Machine.execProgramWait n s
  | .porterWaitDone n => Sys2Proof.Machine.execPorterWaitDone n s
  | .programSignal n => Sys2Proof.Machine.execProgramSignal n s
  | .programFill n => Sys2Proof.Machine.execProgramFill n s
  | .programCompare n => Sys2Proof.Machine.execProgramCompare n s
  | .programCheck n => Sys2Proof.Machine.execProgramCheck n s
  | .descriptorMove n => Sys2Proof.Machine.execDescriptorMove n s
  | .descriptorFill n => Sys2Proof.Machine.execDescriptorFill n s
  | .descriptorCompare n => Sys2Proof.Machine.execDescriptorCompare n s
  | .descriptorCheck n => Sys2Proof.Machine.execDescriptorCheck n s
  | .sdiLine u line => Sys2Proof.Machine.execSdiLine u line s
  | .st2110Packet u path pkt => Sys2Proof.Machine.execSt2110Packet u path pkt s
  | .sourceFrameComplete u => Sys2Proof.Machine.execSourceFrameComplete u s
  | .sourceSignalLoss u => Sys2Proof.Machine.execSourceSignalLoss u s
  | .sourcePacketTimeout u => Sys2Proof.Machine.execSourcePacketTimeout u s
  | .sourceLost u => Sys2Proof.Machine.execSourceLost u s
  | .pathDown u path => Sys2Proof.Machine.execPathDown u path s
  | .srcConfigWrite acc u value => Sys2Proof.Machine.execSrcConfigWrite acc u value s
  | .srcBaseHighWrite acc u value => Sys2Proof.Machine.execSrcBaseHighWrite acc u value s
  | .srcNetFormatWrite acc u value => Sys2Proof.Machine.execSrcNetFormatWrite acc u value s
  | .srcNetSizeWrite acc u value => Sys2Proof.Machine.execSrcNetSizeWrite acc u value s
  | .igmpQuery p query => Sys2Proof.Machine.execIgmpQuery p query s
  | .skeinReadIssue n => Sys2Proof.Machine.execSkeinReadIssue n s
  | .skeinReadReturn n block => Sys2Proof.Machine.execSkeinReadReturn n block s
  | .skeinParityError n part standinBad => Sys2Proof.Machine.execSkeinParityError n part standinBad s
  | .needleFailure m => Sys2Proof.Machine.execNeedleFailure m s
  | .needleTestStart m => Sys2Proof.Machine.execNeedleTestStart m s
  | .needleTestDone m pass => Sys2Proof.Machine.execNeedleTestDone m pass s
  | .needleTestAbandon m => Sys2Proof.Machine.execNeedleTestAbandon m s
  | .lutPortDataWrite acc h value => Sys2Proof.Machine.execLutPortDataWrite acc h value s
  | .dpHpdHigh p => Sys2Proof.Machine.execDpHpdHigh p s
  | .dpSinkRead p sink => Sys2Proof.Machine.execDpSinkRead p sink s
  | .dpTrainingDone p steps => Sys2Proof.Machine.execDpTrainingDone p steps s
  | .dpHpdPulse p lockLost => Sys2Proof.Machine.execDpHpdPulse p lockLost s
  | .dpUnplug p => Sys2Proof.Machine.execDpUnplug p s
  | .dpConfigWrite acc p value => Sys2Proof.Machine.execDpConfigWrite acc p value s
  | .dpRetrain acc p value => Sys2Proof.Machine.execDpRetrain acc p value s
  | .targetBale c => Sys2Proof.Machine.execTargetBale c s
  | .textureBale c => Sys2Proof.Machine.execTextureBale c s
  | .drawBale c => Sys2Proof.Machine.execDrawBale c s
  | .drawBinned c => Sys2Proof.Machine.execDrawBinned c s
  | .endFrameBale c => Sys2Proof.Machine.execEndFrameBale c s
  | .endFrameDone c => Sys2Proof.Machine.execEndFrameDone c s
  | .tilePassStart k => Sys2Proof.Machine.execTilePassStart k s
  | .tilePassDone k => Sys2Proof.Machine.execTilePassDone k s
  | .growWaitExpiry c => Sys2Proof.Machine.execGrowWaitExpiry c s
  | .reBinGrowWrite acc c value => Sys2Proof.Machine.execReBinGrowWrite acc c value s
  | .rasterCoreFailure k => Sys2Proof.Machine.execRasterCoreFailure k s
  | .coreTestStart k => Sys2Proof.Machine.execCoreTestStart k s
  | .coreTestDone k result => Sys2Proof.Machine.execCoreTestDone k result s
  | .reThrottleUp temperature => Sys2Proof.Machine.execReThrottleUp temperature s
  | .reThrottleDown => Sys2Proof.Machine.execReThrottleDown s
  | .beCopyGo acc value => Sys2Proof.Machine.execBeCopyGo acc value s
  | .beFillGo acc value => Sys2Proof.Machine.execBeFillGo acc value s
  | .beCopyBale r => Sys2Proof.Machine.execBeCopyBale r s
  | .beFillBale r => Sys2Proof.Machine.execBeFillBale r s
  | .beOpStart => Sys2Proof.Machine.execBeOpStart s
  | .beDeadTimeExpiry => Sys2Proof.Machine.execBeDeadTimeExpiry s
  | .beOpDone slot => Sys2Proof.Machine.execBeOpDone slot s
  | .tbSourceSwitch => Sys2Proof.Machine.execTbSourceSwitch s
  | .cmpMatch n => Sys2Proof.Machine.execCmpMatch n s
  | .cmpConfigWrite acc n value => Sys2Proof.Machine.execCmpConfigWrite acc n value s
  | .cmpValueHighWrite acc n value => Sys2Proof.Machine.execCmpValueHighWrite acc n value s
  | .cmpWriteLive n => Sys2Proof.Machine.execCmpWriteLive n s
  | .cmpBaleAddrHighWrite acc n value => Sys2Proof.Machine.execCmpBaleAddrHighWrite acc n value s
  | .cmpBaleReadDone n => Sys2Proof.Machine.execCmpBaleReadDone n s
  | .gpoPulseEnd p => Sys2Proof.Machine.execGpoPulseEnd p s
  | .cntWrap k => Sys2Proof.Machine.execCntWrap k s
  | .cntLoadWrite acc k value => Sys2Proof.Machine.execCntLoadWrite acc k value s
  | .gpiInputChange p level => Sys2Proof.Machine.execGpiInputChange p level s
  | .gpiFilterExpiry p => Sys2Proof.Machine.execGpiFilterExpiry p s
  | .ethernetFrame p frame fcsOk => Sys2Proof.Machine.execEthernetFrame p frame fcsOk s
  | .arpRequest p senderMac senderIp targetIp => Sys2Proof.Machine.execArpRequest p senderMac senderIp targetIp s
  | .icmpEcho p source target message => Sys2Proof.Machine.execIcmpEcho p source target message s
  | .dhcpReply p message lease server => Sys2Proof.Machine.execDhcpReply p message lease server s
  | .dhcpLeaseExpiry p => Sys2Proof.Machine.execDhcpLeaseExpiry p s
  | .netConfigWrite acc p value => Sys2Proof.Machine.execNetConfigWrite acc p value s
  | .netLink p up speed => Sys2Proof.Machine.execNetLink p up speed s
  | .claimChallenge req => Sys2Proof.Machine.execClaimChallenge req s
  | .claimResponse req mac => Sys2Proof.Machine.execClaimResponse req mac s
  | .claimSessionExpiry session => Sys2Proof.Machine.execClaimSessionExpiry session s
  | .claimLockoutEnd addr => Sys2Proof.Machine.execClaimLockoutEnd addr s
  | .purlRelease req => Sys2Proof.Machine.execPurlRelease req s
  | .purlRead req addr count => Sys2Proof.Machine.execPurlRead req addr count s
  | .purlWrite req addr words => Sys2Proof.Machine.execPurlWrite req addr words s
  | .purlPost req route bales => Sys2Proof.Machine.execPurlPost req route bales s
  | .purlStoreRead req addr bytes => Sys2Proof.Machine.execPurlStoreRead req addr bytes s
  | .purlStoreWrite req addr data check => Sys2Proof.Machine.execPurlStoreWrite req addr data check s
  | .purlCaptureStore req addr bytes => Sys2Proof.Machine.execPurlCaptureStore req addr bytes s
  | .purlCaptureLedger req => Sys2Proof.Machine.execPurlCaptureLedger req s
  | .purlCapturePowerLog req => Sys2Proof.Machine.execPurlCapturePowerLog req s
  | .purlCaptureRelease req page => Sys2Proof.Machine.execPurlCaptureRelease req page s
  | .purlCaptureTimeout page => Sys2Proof.Machine.execPurlCaptureTimeout page s
  | .ownerTimeout => Sys2Proof.Machine.execOwnerTimeout s
  | .event => Sys2Proof.Machine.execEvent s
  | .e131Packet p pkt => Sys2Proof.Machine.execE131Packet p pkt s
  | .e131SourceTimeout u cid => Sys2Proof.Machine.execE131SourceTimeout u cid s
  | .readReg addr count => Sys2Proof.Machine.execReadReg addr count s
  | .writeReg addr words => Sys2Proof.Machine.execWriteReg addr words s
  | .getResult => Sys2Proof.Machine.execGetResult s
  | .claimNonce => Sys2Proof.Machine.execClaimNonce s
  | .usbClaim mac => Sys2Proof.Machine.execUsbClaim mac s
  | .usbRelease => Sys2Proof.Machine.execUsbRelease s
  | .usbPost route bales => Sys2Proof.Machine.execUsbPost route bales s
  | .usbCaptureStore addr bytes => Sys2Proof.Machine.execUsbCaptureStore addr bytes s
  | .usbCaptureLedger => Sys2Proof.Machine.execUsbCaptureLedger s
  | .usbCapturePowerLog => Sys2Proof.Machine.execUsbCapturePowerLog s
  | .bulkSetupStore addr bytes => Sys2Proof.Machine.execBulkSetupStore addr bytes s
  | .bulkSetupStaging offset bytes => Sys2Proof.Machine.execBulkSetupStaging offset bytes s
  | .bulkSetupSlot slot addr bytes => Sys2Proof.Machine.execBulkSetupSlot slot addr bytes s
  | .slotEraseDone => Sys2Proof.Machine.execSlotEraseDone s
  | .ep2Data packet => Sys2Proof.Machine.execEp2Data packet s
  | .bulkUploadDone => Sys2Proof.Machine.execBulkUploadDone s
  | .setModeNormal => Sys2Proof.Machine.execSetModeNormal s
  | .setModeFreeze => Sys2Proof.Machine.execSetModeFreeze s
  | .setModeDebugHold => Sys2Proof.Machine.execSetModeDebugHold s
  | .setSecret secret => Sys2Proof.Machine.execSetSecret secret s
  | .ep1PacketAck => Sys2Proof.Machine.execEp1PacketAck s
  | .usbCaptureTimeout => Sys2Proof.Machine.execUsbCaptureTimeout s
  | .ep3PacketAck => Sys2Proof.Machine.execEp3PacketAck s
  | .usbBusReset stage => Sys2Proof.Machine.execUsbBusReset stage s
  | .usbGraceExpiry => Sys2Proof.Machine.execUsbGraceExpiry s
  | .vbusChange present => Sys2Proof.Machine.execVbusChange present s
  | .usbPortDisableWrite acc value => Sys2Proof.Machine.execUsbPortDisableWrite acc value s
  | .usbPullupRemoval => Sys2Proof.Machine.execUsbPullupRemoval s
  | .call port frame => Sys2Proof.Machine.execCall port frame s
  | .beat port frame => Sys2Proof.Machine.execBeat port frame s
  | .echo port frame => Sys2Proof.Machine.execEcho port frame s
  | .echoReply port frame => Sys2Proof.Machine.execEchoReply port frame s
  | .echoTimer => Sys2Proof.Machine.execEchoTimer s
  | .callTimer => Sys2Proof.Machine.execCallTimer s
  | .electionTimer => Sys2Proof.Machine.execElectionTimer s
  | .beatSend => Sys2Proof.Machine.execBeatSend s
  | .leadLoss => Sys2Proof.Machine.execLeadLoss s
  | .memberAgeing origin => Sys2Proof.Machine.execMemberAgeing origin s
  | .caravanLink port up => Sys2Proof.Machine.execCaravanLink port up s
  | .caravanBarrierCommit acc value => Sys2Proof.Machine.execCaravanBarrierCommit acc value s
  | .barrierFire => Sys2Proof.Machine.execBarrierFire s
  | .caravanBarrierCancel acc value => Sys2Proof.Machine.execCaravanBarrierCancel acc value s
  | .fanStop f rpm => Sys2Proof.Machine.execFanStop f rpm s
  | .serviceButton held => Sys2Proof.Machine.execServiceButton held s
  | .sfpModuleChange p module => Sys2Proof.Machine.execSfpModuleChange p module s
  | .sfpPowerFault p => Sys2Proof.Machine.execSfpPowerFault p s
  | .dpPwrFoldback p => Sys2Proof.Machine.execDpPwrFoldback p s
  | .dpPwrRetry p recovered => Sys2Proof.Machine.execDpPwrRetry p recovered s
  | .gpoOverload p => Sys2Proof.Machine.execGpoOverload p s
  | .standbyUp answering => Sys2Proof.Machine.execStandbyUp answering s
  | .standbyLost => Sys2Proof.Machine.execStandbyLost s
  | .start => Sys2Proof.Machine.execStart s
  | .railEnableTimer r => Sys2Proof.Machine.execRailEnableTimer r s
  | .railWindowExpiry r reading => Sys2Proof.Machine.execRailWindowExpiry r reading s
  | .reverseOffStep => Sys2Proof.Machine.execReverseOffStep s
  | .floorStart => Sys2Proof.Machine.execFloorStart s
  | .resetStretchEnd => Sys2Proof.Machine.execResetStretchEnd s
  | .gateCurrentLimit r => Sys2Proof.Machine.execGateCurrentLimit r s
  | .railSample readings => Sys2Proof.Machine.execRailSample readings s
  | .retryTimer r => Sys2Proof.Machine.execRetryTimer r s
  | .resetSystemTimer => Sys2Proof.Machine.execResetSystemTimer s
  | .offTableStep r => Sys2Proof.Machine.execOffTableStep r s
  | .psuChange u cond => Sys2Proof.Machine.execPsuChange u cond s
  | .acFail => Sys2Proof.Machine.execAcFail s
  | .pfwDelayExpiry => Sys2Proof.Machine.execPfwDelayExpiry s
  | .mainsReturn => Sys2Proof.Machine.execMainsReturn s
  | .thermalWarning temperature => Sys2Proof.Machine.execThermalWarning temperature s
  | .thermalTrip temperature => Sys2Proof.Machine.execThermalTrip temperature s
  | .thermalRestart => Sys2Proof.Machine.execThermalRestart s
  | .supervisorPoll b command data => Sys2Proof.Machine.execSupervisorPoll b command data s
  | .supervisorReply b word => Sys2Proof.Machine.execSupervisorReply b word s
  | .slaveWord b word edges => Sys2Proof.Machine.execSlaveWord b word edges s
  | .slaveWatchdog b => Sys2Proof.Machine.execSlaveWatchdog b s
  | .clearLatch acc => Sys2Proof.Machine.execClearLatch acc s
  | .clearRecord acc => Sys2Proof.Machine.execClearRecord acc s
  | .clearCounters acc => Sys2Proof.Machine.execClearCounters acc s
  | .restartGroup acc board => Sys2Proof.Machine.execRestartGroup acc board s
  | .accControlWrite acc value => Sys2Proof.Machine.execAccControlWrite acc value s
  | .posTick => Sys2Proof.Machine.execPosTick s
  | .vcoLock locked => Sys2Proof.Machine.execVcoLock locked s
  | .clockFault clock deviation => Sys2Proof.Machine.execClockFault clock deviation s
  | .warmReset acc value => Sys2Proof.Machine.execWarmReset acc value s
  | .bringUp romOk usbPhyOk => Sys2Proof.Machine.execBringUp romOk usbPhyOk s
  | .storeTrainingDone trained margins => Sys2Proof.Machine.execStoreTrainingDone trained margins s
  | .bringUpRetry => Sys2Proof.Machine.execBringUpRetry s
  | .ledgerClear acc value => Sys2Proof.Machine.execLedgerClear acc value s
  | .ledgerParityScan k fails => Sys2Proof.Machine.execLedgerParityScan k fails s
  | .patternOperationFinish result => Sys2Proof.Machine.execPatternOperationFinish result s
  | .sdiCarrierLock u signal => Sys2Proof.Machine.execSdiCarrierLock u signal s
  | .usbEnumeration stage highSpeed => Sys2Proof.Machine.execUsbEnumeration stage highSpeed s
  | .usbMalformedRequest request => Sys2Proof.Machine.execUsbMalformedRequest request s
  | .dhcpLeaseRequest p => Sys2Proof.Machine.execDhcpLeaseRequest p s

end Sys2Proof.Machine
end

