-- ==== Sys2Proof/Safety.lean ====
section
/-! DEFINITION. What counts as a sound state, in the terms of the claims. -/

namespace Sys2Proof.Machine

/-- The bounds that hold in every state a step leaves: the Store in its canonical form; at most 64 entries in the
Ledger (R396); at most 16 records and 16 events in each holding store (R367, R398, R414). -/
structure State.Sound (s : State) : Prop where
  mem     : Memory.wf s.store.mem = true
  entries : s.ledger.entries.length ≤ 64
  early   : s.ledger.held.length ≤ 16
  events  : s.routes.held.length ≤ 16
  standbyEvents  : s.power.heldEvents.length ≤ 16
  standbyRecords : s.power.heldRecords.length ≤ 16

/-- The register interface carries out a write of this register by this accessor: it is reachable, and no reason of R410
refuses the access. -/
abbrev State.Accepts (s : State) (acc : Accessor) (r : Reg) (i : Nat := 0) (j : Nat := 0) : Prop :=
  s.reachable acc = true ∧ s.judgeAccess acc true (r.addr i j) = none

/-- The state in which the register holds a written value, its reserved bits 0 (R8, R15). -/
def State.written (s : State) (r : Reg) (i j : Nat) (v : Word) : State := s.setReg r i j (s.keptValue r i v)

/-- A Purl request is executed as it arrives: Purl serves the port, the session is known, the request is no repeat, and
nothing of its session is in flight (R270, R273, R274, R379). -/
abbrev State.PurlRuns (s : State) (req : PurlReq) (op : Nat) : Prop :=
  s.purlServed req.client.net = true ∧ s.sessionRefusal req op = none ∧ s.keptReply req op = none ∧ s.flightOf req = []

/-- A USB request begins: the grace of a bus reset is over, because its party is heard again (R294). -/
def State.usbBegun (s : State) : State := s.modUsb (fun u => { u with grace := false })

end Sys2Proof.Machine
end

