-- ==== Sys2Proof/Certificates/Slice0/Obligations.lean ====
section
/-! DEFINITION. The statements for the provers: what the machine does at each command, from the spec's rules. -/

open Sys2Proof Sys2Proof.Machine

/-- A step takes the front command and runs it on the state with the queue's rest. The table gives no row bits, so a
word spells no command and leaves the state as it is. -/
def Obligations.StepRunsFrontCommand : Prop :=
  (∀ (c : Instr) (rest : List Instr) (s : State), s.pending = c :: rest → step s = exec c { s with pending := rest }) ∧
  (∀ (c : Instr) (s : State), step { s with pending := c :: s.pending } = exec c s) ∧
  (∀ (s : State) (nbits w : Nat), s.withFetchWord nbits w = s)

/-- On an empty queue the step is one tick of TB's source (the model's choice, log 1): in standby power TB steps by 1
on TCLK, and by 3 051 ticks and a fraction on LFCLK; TB holds while its source is not the one the state calls for;
without standby power nothing changes. -/
def Obligations.EmptyQueueTicks : Prop :=
  (∀ s : State, s.pending = [] → s.power.standby = false → step s = .next s) ∧
  (∀ s : State, s.pending = [] → s.power.standby = true → s.time.lfclk = false → s.boot.clocks = true →
    ∃ t, step s = .next t ∧ t.time.tb = s.time.tb + 1 ∧ t.time.lfclk = false ∧ t.pending = []) ∧
  (∀ s : State, s.pending = [] → s.power.standby = true → s.time.lfclk = true → s.wantsLfclk = true →
    ∃ t, step s = .next t ∧
      t.time.tb = s.time.tb + BitVec.ofNat 64 (3051 + (s.time.lfAcc + 97) / 128) ∧
      t.time.lfAcc = (s.time.lfAcc + 97) % 128 ∧ t.time.lfclk = true ∧ t.pending = []) ∧
  (∀ s : State, s.pending = [] → s.power.standby = true →
    (s.time.lfclk = true ∧ s.wantsLfclk = false ∨ s.time.lfclk = false ∧ s.boot.clocks = false) →
    ∃ t, step s = .next t ∧ t.time.tb = s.time.tb ∧ t.time.lfclk = s.time.lfclk ∧ t.pending = [])

/-- What reset leaves: no command waits, nothing is listed in the Store, no pattern runs, no one owns the unit,
nothing is recorded, the unit is in reset with every rail off, and every register reads its reset value. -/
def Obligations.ResetState : Prop :=
  State.reset.pending = [] ∧ State.reset.store.mem = [] ∧ State.reset.pat.running = none ∧
  State.reset.pat.lock = false ∧ State.reset.pat.keyLock = false ∧ State.reset.net.owner = .none ∧
  State.reset.ledger.entries = [] ∧ State.reset.boot.inReset = true ∧ State.reset.boot.mode = 0 ∧
  State.reset.power.standby = false ∧ State.reset.time.tb = 0 ∧
  (∀ r i j, State.reset.reg r i j = r.resetValue i j) ∧ (∀ r i j, State.reset.act r i j = r.resetValue i j) ∧
  (∀ f, State.reset.fence f = 0) ∧ (∀ h, (State.reset.head h).fc = 0) ∧ (∀ r, (State.reset.rail r).state = 0) ∧
  (∀ r, (State.reset.route r).put = 0 ∧ (State.reset.route r).take = 0 ∧ (State.reset.route r).consumer = 0)

/-- The state after reset is sound. -/
def Obligations.ResetSound : Prop := State.reset.Sound

/-- Every step that answers a next state keeps soundness: the Store keeps its canonical form, the Ledger holds at most
64 records, and no holding store takes more than 16. -/
def Obligations.StepKeepsSound : Prop := ∀ s t : State, s.Sound → step s = .next t → t.Sound

/-- The Store: reading a range just written gives the bytes written, and every byte outside it reads as before. -/
def Obligations.StoreReadAfterWrite : Prop :=
  ∀ (s t : State) (a : Nat) (bs : List Byte) (ring stop : Bool), s.storeWrite a bs ring stop = (t, none) →
    memBytes t.store.mem a bs.length = bs ∧
    (∀ x, x < a ∨ a + bs.length ≤ x → mapGet 0 t.store.mem x = mapGet 0 s.store.mem x) ∧
    t = { s with store := { s.store with mem := t.store.mem, poison := t.store.poison } } ∧
    (∀ b, t.store.poison.contains b = true → s.store.poison.contains b = true)

/-- How an event leaves (R89, R90, R414): written at PUT of ROUTE[15] while two slots or more are free; an OVERFLOW in
its place, with its record, on the last free slot; counted as lost on a full ring or when the write fails; held on
chip, up to 16, while no pattern binds ROUTE[15]. -/
def Obligations.EventPosted : Prop :=
  (∀ (s t : State) (code tag head : Nat) (detail : List Byte), s.outbound = true →
    2 ≤ (s.route 15).depth - (s.route 15).occupancy →
    s.storeWrite ((s.route 15).slotAddr (s.route 15).put) (eventBale s code tag head detail) true = (t, none) →
    s.event code detail head tag = t.modRoute 15 (fun r => { r with put := (r.put + 1) % 65536 })) ∧
  (∀ (s t : State) (code tag head : Nat) (detail : List Byte) (e : Nat × Nat), s.outbound = true →
    2 ≤ (s.route 15).depth - (s.route 15).occupancy →
    s.storeWrite ((s.route 15).slotAddr (s.route 15).put) (eventBale s code tag head detail) true = (t, some e) →
    s.event code detail head tag = t.loseEvent) ∧
  (∀ (s t : State) (code tag head : Nat) (detail : List Byte), s.outbound = true →
    (s.route 15).depth - (s.route 15).occupancy = 1 →
    s.storeWrite ((s.route 15).slotAddr (s.route 15).put) (eventBale s 0x85 0 0xFF []) true = (t, none) →
    t.ledger.up = true → t.ledger.entries.length < 63 →
    ∃ u, s.event code detail head tag = u ∧ (u.route 15).put = ((t.route 15).put + 1) % 65536 ∧
      u.routes.lostCount = satInc t.routes.lostCount ∧ u.store = t.store ∧
      ∃ e, u.ledger.entries = t.ledger.entries ++ [e] ∧ e.source = 3 ∧ e.cls = classA ∧ e.address = 15) ∧
  (∀ (s : State) (code tag head : Nat) (detail : List Byte), s.outbound = true →
    (s.route 15).depth - (s.route 15).occupancy = 0 → s.event code detail head tag = s.loseEvent) ∧
  (∀ (s : State) (code tag head : Nat) (detail : List Byte), s.outbound = false → s.routes.held.length < 16 →
    s.event code detail head tag =
      { s with routes := { s.routes with held := s.routes.held ++ [eventBale s code tag head detail] } }) ∧
  (∀ (s : State) (code tag head : Nat) (detail : List Byte), s.outbound = false → 16 ≤ s.routes.held.length →
    s.event code detail head tag = s.loseEvent) ∧
  (∀ s : State, s.loseEvent = { s with routes := { s.routes with lostCount := satInc s.routes.lostCount } })

/-- Every event bale has 64 bytes laid out as Table 4-4 gives, with TB and the FC of its head as they stand when it is
written. (R91) -/
def Obligations.EventBaleLayout : Prop :=
  ∀ (s : State) (code tag head : Nat) (detail : List Byte), code < 256 → tag < 65536 → head < 256 → detail.length ≤ 40 →
    (eventBale s code tag head detail).length = 64 ∧
    leAt (eventBale s code tag head detail) 0 1 = code ∧ leAt (eventBale s code tag head detail) 1 1 = 0 ∧
    leAt (eventBale s code tag head detail) 2 2 = tag ∧ leAt (eventBale s code tag head detail) 4 1 = head ∧
    leAt (eventBale s code tag head detail) 5 3 = 0 ∧
    leAt (eventBale s code tag head detail) 8 8 = s.time.tb.toNat ∧
    leAt (eventBale s code tag head detail) 16 4 =
      (if head < 8 then (s.head head).fc else (s.head s.refHead).fc).toNat ∧
    leAt (eventBale s code tag head detail) 20 4 = 0 ∧
    (eventBale s code tag head detail).drop 24 = detail ++ List.replicate (40 - detail.length) 0

/-- How a record is written (R391 to R398): appended while fewer than 64 are held, and the 64th posts the LEDGER
event; not written, and counted, on a full Ledger; held, with HELD set, before the Ledger is up. Its class count
rises with each. (R396) -/
def Obligations.RecordWritten : Prop :=
  (∀ (s : State) (source cls : Nat) (detail : List (Nat × Nat)) (addr : Nat) (head : Option Nat) (secondary : Bool),
    s.ledger.up = true → s.ledger.entries.length < 63 →
    s.record source cls detail addr head secondary =
      { s with ledger := { s.ledger.countClass cls with
        entries := s.ledger.entries ++ [mkEntry s source cls (detailBits detail) addr head secondary] } }) ∧
  (∀ (s : State) (source cls : Nat) (detail : List (Nat × Nat)) (addr : Nat) (head : Option Nat) (secondary : Bool),
    s.ledger.up = true → s.ledger.entries.length = 63 →
    ∃ u : State, s.record source cls detail addr head secondary = u.ledgerEvent 1 ∧
      u = { s with ledger := u.ledger } ∧ u.ledger.entries.length = 64 ∧
      u.ledger.entries = s.ledger.entries ++ [mkEntry s source cls (detailBits detail) addr head secondary]) ∧
  (∀ (s : State) (source cls : Nat) (detail : List (Nat × Nat)) (addr : Nat) (head : Option Nat) (secondary : Bool),
    s.ledger.up = true → 64 ≤ s.ledger.entries.length →
    ∃ u : State, s.record source cls detail addr head secondary = u ∧ u = { s with ledger := u.ledger } ∧
      u.ledger.entries = s.ledger.entries ∧ u.ledger.overflow = satInc s.ledger.overflow ∧
      (cls = classA → u.ledger.countA = satInc s.ledger.countA) ∧ (cls = classB → u.ledger.countB = satInc s.ledger.countB) ∧
      (cls = classC → u.ledger.countC = satInc s.ledger.countC) ∧ (cls = classD → u.ledger.countD = satInc s.ledger.countD)) ∧
  (∀ (s : State) (source cls : Nat) (detail : List (Nat × Nat)) (addr : Nat) (head : Option Nat) (secondary : Bool),
    s.ledger.up = false → s.ledger.held.length < 16 →
    ∃ (u : State) (e : Entry), s.record source cls detail addr head secondary = u ∧ u = { s with ledger := u.ledger } ∧
      u.ledger.entries = s.ledger.entries ∧ u.ledger.held = s.ledger.held ++ [e] ∧ e.source = source ∧ e.cls = cls ∧
      e.flags.getLsbD 30 = true ∧ e.tb = s.time.tb) ∧
  (∀ (s : State) (source cls detail addr : Nat) (head : Option Nat) (secondary : Bool),
    (mkEntry s source cls detail addr head secondary).flags.toNat % 2 ^ 24 = detail % 2 ^ 24 ∧
    (mkEntry s source cls detail addr head secondary).flags.getLsbD 31 = secondary ∧
    (mkEntry s source cls detail addr head secondary).fc = s.fcOf head ∧
    (mkEntry s source cls detail addr head secondary).pos = s.power.pos ∧
    (mkEntry s source cls detail addr head secondary).tb = s.time.tb)

/-- An access that breaks more than one rule is refused once, with the first reason in the order ALIGNMENT, FLOOR,
UNMAPPED, NOT_OWNER, then READ_ONLY, WRITE_ONCE or LOCKED by the register's type; a read meets the first three
alone, and a refused write has no effect but its violation, so the one write of a WO register is not used up.
(R410) -/
def Obligations.AccessJudged : Prop :=
  (∀ (s : State) (acc : Accessor) (wr : Bool) (a : Nat), a % 4 ≠ 0 → s.judgeAccess acc wr a = some 2) ∧
  (∀ (s : State) (acc : Accessor) (wr : Bool) (a : Nat), a % 4 = 0 → s.boot.mode = 1 → floorAdmits a = false →
    s.judgeAccess acc wr a = some 7) ∧
  (∀ (s : State) (acc : Accessor) (wr : Bool) (a : Nat), a % 4 = 0 → ¬ (s.boot.mode = 1 ∧ floorAdmits a = false) →
    regAt a = none → s.judgeAccess acc wr a = some 1) ∧
  (∀ (s : State) (acc : Accessor) (a : Nat) (r : Reg) (i j : Nat), a % 4 = 0 →
    ¬ (s.boot.mode = 1 ∧ floorAdmits a = false) → regAt a = some (r, i, j) → s.judgeAccess acc false a = none) ∧
  (∀ (s : State) (acc : Accessor) (a : Nat) (r : Reg) (i j : Nat), a % 4 = 0 →
    ¬ (s.boot.mode = 1 ∧ floorAdmits a = false) → regAt a = some (r, i, j) → s.isOwner acc = false →
    s.judgeAccess acc true a = some 6) ∧
  (∀ (s : State) (acc : Accessor) (a : Nat) (r : Reg) (i j : Nat), a % 4 = 0 →
    ¬ (s.boot.mode = 1 ∧ floorAdmits a = false) → regAt a = some (r, i, j) → s.isOwner acc = true →
    s.judgeAccess acc true a =
      match r.row.access with
      | .ro => some 3
      | .roL => some 3
      | .wo => if s.writtenOnce r = true then some 5 else none
      | .rwP => if s.pat.lock = true ∨ (keyRegister r = true ∧ s.pat.keyLock = true) then some 4 else none
      | .rwI => none
      | .rwF => none) ∧
  (∀ (s : State) (acc : Accessor) (a reason : Nat) (v : Word), s.reachable acc = true →
    s.judgeAccess acc true a = some reason →
    s.writeAccess acc a v = (s.violation acc true a reason, false) ∧
    (s.violation acc true a reason).regs = s.regs ∧ (s.violation acc true a reason).active = s.active ∧
    (s.violation acc true a reason).nv = s.nv ∧ (s.violation acc true a reason).pat = s.pat ∧
    (s.violation acc true a reason).commit = s.commit ∧
    (∀ r, (s.violation acc true a reason).writtenOnce r = s.writtenOnce r))

/-- A refused access: the address goes to VIOLATION_ADDR, reason, path and direction to VIOLATION_INFO,
VIOLATION_COUNT rises, and a class B record of source 1 gives the address, the reason and the path (R74, Table
3-3). Where the manual leaves a point open the statement follows the model's choice in log entry 80. -/
def Obligations.ViolationRecorded : Prop :=
  (∀ (s : State) (acc : Accessor) (wr : Bool) (a reason : Nat),
    s.violation acc wr a reason =
      ({ s with ledger := { s.ledger with violAddr := wordOf a, violCount := satInc s.ledger.violCount
                                          violInfo := fields [(0, reason), (4, pathCode acc), bit' 7 wr] } }).record
        1 classB [(8, reason), (8, pathCode acc)] a) ∧
  (∀ (s : State) (acc : Accessor) (wr : Bool) (a reason : Nat), s.ledger.up = true →
    ∃ u, s.violation acc wr a reason = u ∧ u.ledger.violAddr = wordOf a ∧ u.ledger.violCount = satInc s.ledger.violCount) ∧
  (∀ (s : State) (acc : Accessor) (addr v : Word) (reason : Nat), s.reachable acc = true →
    s.judgeAccess acc true addr.toNat = some reason →
    exec (.registerWrite acc addr v) s = .next (s.violation acc true addr.toNat reason)) ∧
  (∀ (s : State) (acc : Accessor) (a : Nat) (reason : Nat), s.reachable acc = true →
    s.judgeAccess acc false a = some reason → s.readAccess acc a = (s.violation acc false a reason, 0, false))

/-- An accepted write of a register that is not commit-bound: the register holds the value, its reserved bits 0, and
what follows in the same cycle is the register's own effect (R8, R15, R59). A register with no such effect changes
alone. Where the manual leaves a point open the statement follows the model's choice in log entry 79. -/
def Obligations.RegisterWriteAccepted : Prop :=
  (∀ (s : State) (acc : Accessor) (addr v : Word) (r : Reg) (i j : Nat), s.reachable acc = true →
    s.judgeAccess acc true addr.toNat = none → regAt addr.toNat = some (r, i, j) → commitBound r = false →
    storedAtWrite r = false →
    exec (.registerWrite acc addr v) s =
      .next ((s.written r i j v).wroteEffect s acc r i (s.reg r i j) (s.keptValue r i v)) ∧
    (s.written r i j v).reg r i j = s.keptValue r i v ∧
    (s.written r i j v).store = s.store ∧ (s.written r i j v).active = s.active ∧
    (∀ r' i' j', r'.addr i' j' ≠ r.addr i j → (s.written r i j v).reg r' i' j' = s.reg r' i' j')) ∧
  (∀ (s : State) (acc : Accessor) (v : Word), s.Accepts acc .SCRATCH →
    ∃ t, exec (.registerWrite acc 0x18 v) s = .next t ∧ t = s.setReg .SCRATCH 0 0 v ∧ t.reg .SCRATCH = v ∧
      t.readAccess acc 0x18 = (t, v, true)) ∧
  (∀ (s : State) (acc : Accessor) (addr v : Word), s.reachable acc = false →
    exec (.registerWrite acc addr v) s = .next s)

/-- Each RW-F write to a commit-bound field is tagged with the group named in CGROUP_SELECT when the write is
accepted: the field is then dirty in that group, its one shadow value is the value written, and it belongs to that
group alone. (R65) -/
def Obligations.CommitBoundWriteTagged : Prop :=
  ∀ (s : State) (acc : Accessor) (addr v : Word) (r : Reg) (i j : Nat), s.reachable acc = true →
    s.judgeAccess acc true addr.toNat = none → regAt addr.toNat = some (r, i, j) → commitBound r = true →
    r.addr i j = addr.toNat →
    ∃ t, exec (.registerWrite acc addr v) s = .next t ∧ t.reg r i j = s.keptValue r i v ∧
      (∀ r' i' j', r'.addr i' j' ≠ r.addr i j → t.reg r' i' j' = s.reg r' i' j') ∧
      (∃ d, t.dirtyAt addr.toNat = some d ∧ d.group = fld (s.reg .CGROUP_SELECT) 0 4 ∧
        ((s.group (fld (s.reg .CGROUP_SELECT) 0 4)).state ≠ 1 → d.serial = none)) ∧
      (∀ a, a ≠ addr.toNat → t.dirtyAt a = s.dirtyAt a) ∧
      t = { s with regs := t.regs, commit := t.commit, needles := t.needles } ∧
      (r ≠ .SKEIN_NEEDLE → r ≠ .SKEIN_CONFIG → t.needles = s.needles)

/-- A COMMIT of group g: every field dirty in g that has a head becomes pending, the group is PENDING on the heads of
those fields, or on the reference head alone when it has none, and COMMIT_COUNT rises; no active value moves
(R66). -/
def Obligations.CommitMakesPending : Prop :=
  ∀ (s : State) (acc : Accessor) (v : Word) (g : Fin 16), s.Accepts acc .COMMIT_CONTROL →
    s.keptValue .COMMIT_CONTROL 0 v = wordOf (2 ^ g.val) →
    ∃ t, exec (.commit acc v) s = .next t ∧ (t.group g).state = 1 ∧ (t.group g).refHead = s.refHead ∧
      t.commit.count = s.commit.count + 1 ∧ t.active = s.active ∧
      (∀ a h, a ∈ s.dirtyIn g → s.headOfAddr a = some h →
        t.dirtyAt a = some ⟨g, some (t.group g).serial⟩ ∧ h ∈ t.waitingOf g) ∧
      (∀ a, a ∈ s.dirtyIn g → s.headOfAddr a = none → t.dirtyAt a = none) ∧
      (s.dirtyIn g = [] → s.pendingIn g = [] → (s.group g).state ≠ 1 → t.waitingOf g = [s.refHead]) ∧
      (∀ k : Nat, k ≠ g.val → t.group k = s.group k) ∧
      t = { s with regs := t.regs, commit := t.commit }

/-- PATTERN_CONTROL: an accepted LOAD or PROGRAM begins its operation, with the policy, the owner key and the channel
list of that moment; while an operation, a restitch or a zero fill is under way it is refused with BUSY, and
changes nothing but the result (R41, R43, R98). PATTERN_OPERATION_FINISH: the checks' first failure is the result,
posted as a PATTERN event and, for a load, recorded; a PROGRAM that passes copies the whole staging area into its slot,
or ends with READ where the area cannot be read;
a LOAD that passes starts a restitch in service and starts service in floor mode; with no operation nothing
happens (R41 to R43, R54). Where the manual leaves a point open the statement follows the model's choice in log
entries 83, 84, 87 and 88. -/
def Obligations.PatternOperations : Prop :=
  ((∀ (s : State) (acc : Accessor) (source : Fin 4) (target : Fin 2), s.Accepts acc .PATTERN_CONTROL → s.patternBusy = false →
     source.val ≠ 3 → ∃ t, exec (.patternLoad acc source target) s = .next t ∧
       t.pat.op = some ⟨.load, source, 0, fld (s.stored .SIG_POLICY) 0 2, s.ownerKey .OWNER_KEY_X, s.ownerKey .OWNER_KEY_Y,
         s.channelsInService⟩ ∧
       t = { s with regs := t.regs, pat := { s.pat with op := t.pat.op } }) ∧
   (∀ (s : State) (acc : Accessor) (source : Fin 4) (target : Fin 2), s.Accepts acc .PATTERN_CONTROL → s.patternBusy = false →
     ∃ t, exec (.patternProgram acc source target) s = .next t ∧
       t.pat.op = some ⟨.program, 0, target + 1, fld (s.stored .SIG_POLICY) 0 2, s.ownerKey .OWNER_KEY_X,
         s.ownerKey .OWNER_KEY_Y, s.channelsInService⟩ ∧
       t = { s with regs := t.regs, pat := { s.pat with op := t.pat.op } }) ∧
   (∀ (s : State) (acc : Accessor) (source : Fin 4) (target : Fin 2), s.Accepts acc .PATTERN_CONTROL → s.patternBusy = true →
     ∃ t, exec (.patternLoad acc source target) s = .next t ∧ t.pat.code = 7 ∧ t.pat.sect = 0xFF ∧
       t = { s with regs := t.regs, pat := { s.pat with code := t.pat.code, sect := t.pat.sect } }) ∧
   (∀ (s : State) (acc : Accessor) (v : Word), s.Accepts acc .PATTERN_LOCK →
     ∃ t, exec (.patternLockWrite acc v) s = .next t ∧ t.pat.lock = bitAt v 0 ∧ t.pat.lockWritten = true ∧
       t = { s with regs := t.regs, pat := { s.pat with lock := bitAt v 0, lockWritten := true } } ∧
       (∀ w,
         exec (.patternLockWrite acc w) t = .next (t.violation acc true (Reg.addr .PATTERN_LOCK) 5))) ∧
   (∀ (s : State) (acc : Accessor) (v : Word), s.Accepts acc .KEY_LOCK →
     ∃ t, exec (.keyLockWrite acc v) s = .next t ∧ t.pat.keyLock = bitAt v 0 ∧ t.pat.keyLockWritten = true ∧
       t = { s with regs := t.regs, pat := { s.pat with keyLock := bitAt v 0, keyLockWritten := true } }) ∧
   (∀ (s : State) (acc : Accessor) (v : Word), s.Accepts acc .OWNER_KEY_Y 7 →
     ∃ t, exec (.ownerKeyStore acc v) s = .next t ∧ t.reg .OWNER_KEY_Y 7 = v ∧
       (∀ n : Fin 8, t.stored .OWNER_KEY_X n = s.reg .OWNER_KEY_X n) ∧ t.stored .OWNER_KEY_Y 7 = v ∧
       (∀ n : Fin 7, t.stored .OWNER_KEY_Y n = s.reg .OWNER_KEY_Y n) ∧ t = { s with regs := t.regs, nv := t.nv })) ∧
  ((∀ (s : State) (flashOk : Bool) (c : LoadCheck), s.pat.op = none → exec (.patternOperationFinish ⟨flashOk, c⟩) s = .next s) ∧
   (∀ (s : State) (op : PatOp) (flashOk : Bool) (c : LoadCheck) (code sec : Nat), s.pat.op = some op → op.kind = .load →
     ¬ (s.boot.mode ≠ 1 ∧ op.map.length < 2) → s.patternOutcome op flashOk = .error (code, sec) → code ≠ patOk →
     exec (.patternOperationFinish ⟨flashOk, c⟩) s =
       .next ((({ s with pat := { s.pat with op := none, code := code, sect := sec } }).event 0x81
         [byteOf code, byteOf op.source, byteOf sec, 1, byteOf op.target]).recordOpen 0x02 classB [(8, code)])) ∧
   (∀ (s : State) (op : PatOp) (p : Pattern) (c : LoadCheck), s.pat.op = some op → op.kind = .program →
     s.patternOutcome op true = .ok p → s.stagingReadable = true →
     exec (.patternOperationFinish ⟨true, c⟩) s =
       .next (({ s.setFlash op.target s.stagedBytes with
         pat := { (s.setFlash op.target s.stagedBytes).pat with op := none, code := patOk, sect := noSection } }).event 0x81
           [byteOf patOk, 0, byteOf noSection, 2, byteOf op.target])) ∧
   (∀ (s : State) (op : PatOp) (p : Pattern) (c : LoadCheck), s.pat.op = some op → op.kind = .program →
     s.patternOutcome op true = .ok p → s.stagingReadable = false →
     exec (.patternOperationFinish ⟨true, c⟩) s = .next ((s.spoilSlot op.target).endPattern op patRead noSection)) ∧
   (∀ (s : State) (op : PatOp) (flashOk : Bool) (p : Pattern) (c : LoadCheck), s.pat.op = some op → op.kind = .load →
     s.boot.mode = 2 → 2 ≤ op.map.length → s.patternOutcome op flashOk = .ok p →
     exec (.patternOperationFinish ⟨flashOk, c⟩) s = .next (s.startRestitch op p c)) ∧
   (∀ (s : State) (op : PatOp) (flashOk : Bool) (p : Pattern) (c : LoadCheck), s.pat.op = some op → op.kind = .load →
     s.boot.mode = 1 → s.patternOutcome op flashOk = .ok p →
     exec (.patternOperationFinish ⟨flashOk, c⟩) s = .next (s.startService op p c)) ∧
   (∀ (s : State) (op : PatOp) (p : Pattern) (c : LoadCheck), ((List.range 8).filter (fun h =>
       ((s.pattern.head? h).isSome || (p.head? h).isSome) && s.stillWaits p h)).isEmpty = false →
     ∃ t, s.startRestitch op p c = t ∧ t = { s with pat := t.pat } ∧ t.pat.running = s.pat.running ∧ t.pat.op = none ∧
       ∃ z, t.pat.restitch = some z ∧ z.pattern = p ∧ z.switched = false ∧
         z.check = c ∧ z.newMap = if op.map = s.store.chanList then none else some op.map) ∧
   (∀ (s : State) (p : Pattern) (map : List Nat) (c : LoadCheck), c.skeins = [] →
     ∃ t, s.clearRetired p map c = t ∧ (∀ n, n < 96 → (t.skein n).retired = false ∧ (t.skein n).queued = false) ∧
       (∀ m, m < 32 → (t.needle m).retired = (c.needles.map Fin.val).contains m ∧ (t.needle m).queued = false) ∧
       (∀ k, k < 8 → (t.core k).retired = (c.cores.map Fin.val).contains k ∧ (t.core k).queued = false) ∧
       (∀ e ∈ t.ledger.queue, e.kind = .channel ∧ e.index ∈ map) ∧ t.ledger.entries = s.ledger.entries))

/-- The transfer at head h's bind-off: every field pending for h takes its shadow value in the active set and is dirty
no more; no other active value moves, and shadow values stay (R67). -/
def Obligations.CommitTransfer : Prop :=
  ∀ (s : State) (h : Nat),
    (∀ (r : Reg) (i j : Nat) (d : Dirty), regAt (r.addr i j) = some (r, i, j) → s.dirtyAt (r.addr i j) = some d →
      d.serial.isSome = true → s.headOfAddr (r.addr i j) = some h →
      (s.transfer h).act r i j = s.reg r i j ∧ (s.transfer h).dirtyAt (r.addr i j) = none) ∧
    (∀ (r : Reg) (i j : Nat), s.headOfAddr (r.addr i j) ≠ some h →
      (s.transfer h).act r i j = s.act r i j ∧ (s.transfer h).dirtyAt (r.addr i j) = s.dirtyAt (r.addr i j)) ∧
    (s.transfer h).regs = s.regs

/-- BIND_OFF of a live head of the running pattern: FC counts it, the commit transfer and the console's values take
effect (none of them in freeze), a queued retirement is carried out, needles are assigned, skeins are judged and
the frame's lines are set; a head with a new timing to come first shows its stand-in frames under the old one; a head
that a restitch waits for switches instead; and every line of the frame that ends has been sent first (R18, R30, R46, R50, R67, R151, R173, R193, R401). Where the manual leaves a point open the statement follows the model's choice in log entries 16, 81 and 82. -/
def Obligations.BindOff : Prop :=
  (∀ (s : State) (h : Nat), (s.head h).begun = false → s.scanOut h = s) ∧
  (∀ (s u : State) (h : Fin 8) (r : HeadRec), u = s.scanOut h → s.pat.restitch = none → u.pat.filling = false →
    u.liveHead h = some r → (u.head h).nextTiming = none → exec (.bindOff h) s = .next (
      let s1 := u.modHead r.head (fun q => { q with fc := q.fc + 1, bindTb := u.time.tb.toNat })
      let s2 := if r.head = s1.refHead then s1.countCfn else s1
      let s3 := (if s2.frozen then s2 else (s2.transfer r.head).consoleApply r.head).retireAt r.head
      let s4 := (s3.assignNeedles r.head).abortTests
      let s5 := (s4.pattern.stack r.head).foldl (fun s n => s.judgeSkein r.head n) s4
      (((s5.openFrame r 2).settlePorts u).settleGpo u).meetWaits r.head)) ∧
  (∀ (s u : State) (h : Fin 8) (r new : HeadRec), u = s.scanOut h → s.pat.restitch = none → u.pat.filling = false →
    u.liveHead h = some r → (u.head h).nextTiming = some new → new.head = h.val → (u.head h).standinLeft = 0 →
    exec (.bindOff h) s = .next ((u.startTiming new).headBindOff new 2 true) ∧
    ((u.startTiming new).head h).nextTiming = none ∧ (u.startTiming new).pattern.head? h = some new) ∧
  (∀ (s u : State) (h : Fin 8) (r new : HeadRec) (k : Nat), u = s.scanOut h → s.pat.restitch = none →
    u.liveHead h = some r → (u.head h).nextTiming = some new → (u.head h).standinLeft = k + 1 →
    exec (.bindOff h) s = .next ((u.modHead h (fun q => { q with standinLeft := k })).headBindOff r 3 true)) ∧
  (∀ (s : State) (h : Fin 8), s.pat.restitch = none → s.liveHead h = none → exec (.bindOff h) s = .next s) ∧
  (∀ (s : State) (h : Fin 8) (z : Restitch), s.pat.restitch = some z → z.waiting.contains h.val = true →
    exec (.bindOff h) s = .next ((s.scanOut h).switchHead z h)) ∧
  (∀ (s : State) (r : HeadRec) (st : Nat), ∃ t, s.openFrame r st = t ∧ (t.head r.head).state = st ∧
    (t.head r.head).bindLine = (frameLines r.vActive r.vTotal (s.act .HEAD_FRAME_CONTROL r.head)).1 ∧
    (t.head r.head).castLine = (frameLines r.vActive r.vTotal (s.act .HEAD_FRAME_CONTROL r.head)).2.1 ∧
    (t.head r.head).fc = (s.head r.head).fc ∧ (t.head r.head).scanned = r.vActive ∧ t = { s with heads := t.heads })

/-- CAST_ON, GAUGE_BAND, LINE_CLOSE and LINE_COMPOSED of a live head (R147, R194, R195, R197, R198): a line that begins
scan-out is complete by then (R196), and look-up table entries that fail parity are counted, with a record for the
first of a frame (R187). The witness and
HEAD_FAILURE: a frame's CRC and FC are held at its end, an armed witness whose tag is that frame compares, ARM of
a frame still to come only arms, and one of a frame gone by is missed; a failed head is failed until the next
load, with one event and one class C record, and a further failure is recorded as secondary (R205 to R207, R399).
Where the manual leaves a point open the statement follows the model's choice in log entries 39, 89 and 90. -/
def Obligations.HeadEventsAndFailure : Prop :=
  ((∀ (s : State) (h : Fin 8) (r : HeadRec), s.liveHead h = some r →
     exec (.castOn h) s = .next (
       let s1 := s.modHead h (fun q => { q with
         line := q.castLine, frameFc := q.fc, hank := [], closed := [], begun := true, scanned := 0, lastFrameWork := q.frameWork
         lastPeakWork := q.peakWork, frameWork := 0, peakWork := 0 })
       let s2 := s1.offers h (s1.sourcesRead h)
       let s3 := (s.pattern.stack h).foldl (fun s n => s.latchSkein h n) s2
       let s4 := if s3.sourceChanged h then s3.readmit h else s3
       (s.pattern.stack h).foldl State.openRungs ((s4.applyAdmission h).gaugeRestore r))) ∧
   (∀ (s u : State) (h : Fin 8) (r : HeadRec) (band : Nat), s.liveHead h = some r → 16 * band + 15 < r.vActive →
     u = s.scanTo h (16 * band + 15) →
     ((u.gauge r).enable = true → (u.gauge r).shedLow ≤ u.leadAt r (16 * band + 15)) →
     ∃ t, exec (.gaugeBand h band) s = .next t ∧ (t.head h).line = 16 * band + 15 ∧
       (t.head h).lead = u.leadAt r (16 * band + 15) ∧
       (t.head h).minLead = min (u.head h).minLead (u.leadAt r (16 * band + 15)) ∧ t = { u with heads := t.heads } ∧
       (∀ k : Nat, k ≠ h.val → t.head k = u.head k)) ∧
   (∀ (s u : State) (h : Fin 8) (r : HeadRec) (band : Nat), s.liveHead h = some r → 16 * band + 15 < r.vActive →
     u = s.scanTo h (16 * band + 15) →
     (u.gauge r).enable = true → u.leadAt r (16 * band + 15) < (u.gauge r).shedLow →
     exec (.gaugeBand h band) s = .next (
       let lead := u.leadAt r (16 * band + 15)
       let s1 := u.modHead h (fun q => { q with line := 16 * band + 15, line0Done := true, lead := lead })
       ((s1.shed h lead).modHead h (fun q => { q with shedFrame := true })).modHead h (fun q =>
         { q with minLead := min q.minLead lead }))) ∧
   (∀ (s u : State) (h : Fin 8) (r : HeadRec) (line : Nat), s.liveHead h = some r → line < r.vActive →
     u = (if line = 0 then s else s.scanTo h (line - 1)) → (u.head h).hank.any (fun p => p.1 == line) = true →
     ∃ t, exec (.lineClose h line) s = .next t ∧
       (t.head h).line = (if line = 0 then r.vTotal - 1 else line - 1) ∧ (t.head h).closed = (u.head h).closed ∧
       (t.head h).closeCount = (u.head h).closeCount ∧ t = { u with heads := t.heads }) ∧
   (∀ (s u : State) (h : Fin 8) (r : HeadRec) (line : Nat), s.liveHead h = some r → line < r.vActive →
     u = (if line = 0 then s else s.scanTo h (line - 1)) → (u.head h).hank.any (fun p => p.1 == line) = false →
     (u.head h).closed.contains line = false → u.pattern.stack h = [] →
     ∃ t, exec (.lineClose h line) s = .next t ∧ (t.head h).closed = line :: (u.head h).closed ∧
       (t.head h).closeCount = (u.head h).closeCount ∧ t = { u with heads := t.heads }) ∧
   (∀ (s : State) (h : Fin 8) (r : HeadRec) (line : Nat), s.liveHead h = some r → line + 1 < r.vActive →
     (s.head h).begun = true → (s.head h).scanned ≤ line →
     ∃ t, exec (.lineClose h (line + 1)) s = .next t ∧ (t.head h).scanned = line + 1 ∧ (t.head h).line = line ∧
       (∀ y, (s.head h).scanned ≤ y → y ≤ line → (t.head h).hank.any (fun p => p.1 == y) = true)) ∧
   (∀ (s : State) (h : Fin 8) (r : HeadRec) (line : Nat) (bad : List LutFault), s.liveHead h = some r → line < r.vActive →
     (s.head h).hank.any (fun p => p.1 == line) = false → s.slotFree r line = true → s.lineWaits r line = false →
     ∃ t u : State, exec (.lineComposed h ⟨line, bad⟩) s = .next t ∧
       t = u.lutParity h (s.hankLine r line (bad.map (fun f => lutKey f.bank f.table f.index))).2 ∧
       mapGet [] (u.head h).hank line = (s.hankLine r line (bad.map (fun f => lutKey f.bank f.table f.index))).1 ∧
       (u.head h).peakWork = max (s.head h).peakWork (s.lineWork r line) ∧ u = { s with heads := u.heads } ∧
       (∀ k : Nat, k ≠ h.val → u.head k = s.head k)) ∧
   (∀ (s : State) (h : Nat), s.lutParity h [] = s) ∧
   (∀ (s : State) (h k : Nat) (ks : List Nat), (s.head h).parityThisFrame = false →
     ∃ t : State, s.lutParity h (k :: ks) = t.record 0x09 classA [(8, h), (8, k / 2 ^ 20)] (k % 2 ^ 20) (some h) ∧
       (t.head h).parityCount = min max32 ((s.head h).parityCount + (k :: ks).length) ∧ (t.head h).parityThisFrame = true ∧
       t = { s with heads := t.heads })) ∧
  ((∀ (s u : State) (h : Fin 8) (r : HeadRec), s.pattern.owner? h = some r → s.liveHead r.head = some r →
     (s.head r.head).begun = true → u = s.scanTo r.head (r.vActive - 1) → (u.head h).armed = false →
     ∃ t, exec (.witnessCrcFinal h) s = .next t ∧ (t.head h).lastFc = (u.head r.head).frameFc ∧
       (t.head h).lastCrc = wordOf (u.witnessCrc h r) ∧ t = { u with heads := t.heads }) ∧
   (∀ (s u : State) (h : Fin 8) (r : HeadRec), s.pattern.owner? h = some r → s.liveHead r.head = some r →
     (s.head r.head).begun = true → u = s.scanTo r.head (r.vActive - 1) →
     (u.head h).armed = true → (u.head h).tag = (u.head r.head).frameFc →
     exec (.witnessCrcFinal h) s = .next (
       let crc := wordOf (u.witnessCrc h r)
       (u.modHead h (fun q => { q with lastCrc := crc, lastFc := (u.head r.head).frameFc })).witnessResult
         h (if crc = (u.head h).expect then 1 else 2) crc (u.head r.head).frameFc)) ∧
   (∀ (s : State) (h : Fin 8) (r : HeadRec), s.pattern.owner? h = some r → (s.head r.head).begun = false →
     exec (.witnessCrcFinal h) s = .next s) ∧
   (∀ (s : State) (acc : Accessor) (h : Fin 8) (v : Word), s.Accepts acc .WITNESS_CONTROL h →
     bitAt (s.keptValue .WITNESS_CONTROL h v) 0 = true →
     1 ≤ (s.reg .WITNESS_TAG h - (s.head (((s.pattern.owner? h).map (·.head)).getD h)).fc).toNat →
     (s.reg .WITNESS_TAG h - (s.head (((s.pattern.owner? h).map (·.head)).getD h)).fc).toNat < 2 ^ 31 →
     ∃ t, exec (.witnessArm acc h v) s = .next t ∧ (t.head h).armed = true ∧ (t.head h).tag = s.reg .WITNESS_TAG h ∧
       (t.head h).expect = s.reg .WITNESS_EXPECT h ∧ (t.head h).result = (s.head h).result ∧
       t = { s with regs := t.regs, heads := t.heads }) ∧
   (∀ (s : State) (h : Fin 8) (part : HeadPart) (r : HeadRec), s.pattern.owner? h = some r → (s.head r.head).state ≠ 4 →
     exec (.headFailure h part) s = .next (
       (((s.modHead r.head (fun q => { q with state := 4 })).event 0x95 [byteOf (partCode part)] h).record 0x0A classC
         [(8, h), (8, partCode part)] (s.head r.head).line (some r.head)).settlePorts s)) ∧
   (∀ (s : State) (h : Fin 8) (part : HeadPart) (r : HeadRec), s.pattern.owner? h = some r → (s.head r.head).state = 4 →
     exec (.headFailure h part) s =
       .next (s.record 0x0A classC [(8, h), (8, partCode part)] (s.head r.head).line (some r.head) true)) ∧
   (∀ (s : State) (h : Fin 8) (part : HeadPart), s.pattern.owner? h = none → exec (.headFailure h part) s = .next s))

/-- LUT_PORT_DATA stores the entry that LUT_PORT_ADDR names and moves INDEX to the next, round the end of the table;
an index beyond the table stores nothing, and a write for an absent stage has no effect (R184, R186). -/
def Obligations.LutPort : Prop :=
  (∀ (s : State) (acc : Accessor) (h : Fin 8) (v : Word), s.Accepts acc .LUT_PORT_DATA h →
    s.lutPresent h (lutTable (s.reg .LUT_PORT_ADDR h)) = true →
    fld (s.reg .LUT_PORT_ADDR h) 0 16 ≤ lutLast (lutTable (s.reg .LUT_PORT_ADDR h)) →
    ∃ t, exec (.lutPortDataWrite acc h v) s = .next t ∧
      mapGet 0 (t.head h).lut (lutKey (fld (s.reg .LUT_PORT_ADDR h) 20 1) (lutTable (s.reg .LUT_PORT_ADDR h))
        (fld (s.reg .LUT_PORT_ADDR h) 0 16)) = (s.keptValue .LUT_PORT_DATA h v).truncate 16 ∧
      t.reg .LUT_PORT_ADDR h = lutNext (s.reg .LUT_PORT_ADDR h) ∧ t = { s with regs := t.regs, heads := t.heads } ∧
      (∀ k : Nat, k ≠ h.val → t.head k = s.head k)) ∧
  (∀ (s : State) (acc : Accessor) (h : Fin 8) (v : Word), s.Accepts acc .LUT_PORT_DATA h →
    s.lutPresent h (lutTable (s.reg .LUT_PORT_ADDR h)) = false →
    exec (.lutPortDataWrite acc h v) s = .next (s.written .LUT_PORT_DATA h 0 v)) ∧
  (∀ (s : State) (acc : Accessor) (h : Fin 8) (v : Word), s.Accepts acc .LUT_PORT_DATA h →
    s.lutPresent h (lutTable (s.reg .LUT_PORT_ADDR h)) = true →
    lutLast (lutTable (s.reg .LUT_PORT_ADDR h)) < fld (s.reg .LUT_PORT_ADDR h) 0 16 →
    ∃ t, exec (.lutPortDataWrite acc h v) s = .next t ∧ t = { s with regs := t.regs } ∧
      t.reg .LUT_PORT_ADDR h = lutNext (s.reg .LUT_PORT_ADDR h)) ∧
  (∀ w : Word, fld w 0 16 < lutLast (lutTable w) → fld (lutNext w) 0 16 = fld w 0 16 + 1 ∧
    fld (lutNext w) 16 16 = fld w 16 16) ∧
  (∀ w : Word, fld w 0 16 = lutLast (lutTable w) → fld (lutNext w) 0 16 = 0)

/-- ROUTE_POST and POST_WRITTEN: an accepted post waits to be written; a refused one has no effect but POST_RESULT,
UNBOUND for a route that carries none and FULL for a route without room or in reset. POST_RESULT answers the last
ROUTE_POST alone. A post written in full advances PUT over all of it; one with a failed write leaves PUT, and its producer learns STORE (R77, R80, R93,
R95). BALE_FETCH and BALE_START: a fetch takes the rest of its 256-byte unit while no more than 8 bales wait; a
start moves the oldest fetched bale to the started ones; a bale whose fetch failed, or with a fence beyond 31, is
bad by the route, with a TAG of 0 and an OPCODE left open where nothing was fetched (the model's choice, log 129);
one that waits on a fence, or whose consumer has no room, stays (R78, R83, R86, R87, R303). -/
def Obligations.RoutePosting : Prop :=
  ((∀ (s : State) (acc : Accessor) (v : Word), s.Accepts acc .ROUTE_POST →
     s.postStatus (fld (s.keptValue .ROUTE_POST 0 v) 0 4) 1 = 1 →
     ∃ t, exec (.routePost acc v) s = .next t ∧
       t.routes.posts = s.routes.posts ++ [⟨fld (s.keptValue .ROUTE_POST 0 v) 0 4,
         [(List.range 16).flatMap (fun k => leBytes 4 (s.reg .BALE_STAGE k).toNat)], .stage (s.routes.stageSerial + 1)⟩] ∧
       t.routes.postResult = s.routes.postResult ∧
       t.routes.stageSerial = s.routes.stageSerial + 1 ∧
       t = { s with regs := t.regs, routes := { s.routes with posts := t.routes.posts, stageSerial := t.routes.stageSerial } }) ∧
   (∀ (s : State) (acc : Accessor) (v : Word), s.Accepts acc .ROUTE_POST →
     s.postStatus (fld (s.keptValue .ROUTE_POST 0 v) 0 4) 1 ≠ 1 →
     ∃ t, exec (.routePost acc v) s = .next t ∧
       t.routes.postResult = s.postStatus (fld (s.keptValue .ROUTE_POST 0 v) 0 4) 1 ∧
       t.routes.stageSerial = s.routes.stageSerial + 1 ∧
       t = { s with regs := t.regs, routes := { s.routes with
         postResult := t.routes.postResult, stageSerial := t.routes.stageSerial } }) ∧
   (∀ (s : State) (r n : Nat), s.inbound r = false → s.postStatus r n = postUnbound) ∧
   (∀ (s : State) (r n : Nat), s.inbound r = true →
     (s.routeBusyReset r = true ∨ (s.route r).depth < (s.route r).occupancy + s.postsAhead r + n) →
     s.postStatus r n = postFull) ∧
   (∀ (s : State) (r n : Nat), s.inbound r = true → s.routeBusyReset r = false →
     (s.route r).occupancy + s.postsAhead r + n ≤ (s.route r).depth → s.postStatus r n = postPosted) ∧
   (∀ s : State, s.routes.posts = [] → exec .postWritten s = .next s) ∧
   (∀ (s t : State) (r : Nat) (bales : List Bale) (rest : List Post),
     s.routes.posts = ⟨r, bales, .stage s.routes.stageSerial⟩ :: rest → s.routes.resetWait = [] →
     ({ s with routes := { s.routes with posts := rest } } : State).writeBales r (s.route r).put bales = (t, true) →
     ∃ u, exec .postWritten s = .next u ∧ (u.route r).put = ((t.route r).put + bales.length) % 65536 ∧
       u.routes.postResult = postPosted ∧ u.store = t.store ∧ u.routes.posts = rest) ∧
   (∀ (s t : State) (r : Nat) (bales : List Bale) (rest : List Post),
     s.routes.posts = ⟨r, bales, .stage s.routes.stageSerial⟩ :: rest → s.routes.resetWait = [] →
     ({ s with routes := { s.routes with posts := rest } } : State).writeBales r (s.route r).put bales = (t, false) →
     ∃ u, exec .postWritten s = .next u ∧ u.routes.routes = s.routes.routes ∧ u.routes.postResult = postStore ∧
       u.routes.posts = rest)) ∧
  ((∀ (s : State) (r : Fin 16), s.holding = false → s.inbound r = true → (s.route r).resetting = none →
     (s.route r).fetched.length + min (4 - (s.route r).nextFetch % (s.route r).depth % 4) (s.route r).unfetched ≤ 8 →
     exec (.baleFetch r) s =
       .next (State.fetchMany s r (min (4 - (s.route r).nextFetch % (s.route r).depth % 4) (s.route r).unfetched))) ∧
   (∀ (s : State) (r : Nat), ∃ t f, s.fetchOne r = t ∧ (t.route r).fetched = (s.route r).fetched ++ [f] ∧
     f.index = (s.route r).nextFetch ∧
     (∀ b, s.storeRead ((s.route r).slotAddr (s.route r).nextFetch) 64 = .ok b → f.data = some b) ∧
     (∀ e, s.storeRead ((s.route r).slotAddr (s.route r).nextFetch) 64 = .error e → f.data = none) ∧
     t.store = s.store ∧ (t.route r).put = (s.route r).put ∧ (t.route r).take = (s.route r).take) ∧
   (∀ (s : State) (r : Fin 16), s.holding = true → exec (.baleFetch r) s = .next s ∧ exec (.baleStart r) s = .next s) ∧
   (∀ (s : State) (r : Fin 16) (i : Nat) (b : Bale) (rest : List Fetched), (s.route r).resetting = none →
     (s.route r).fetched = ⟨i, some b⟩ :: rest → baleFlag b flagFenceWait = false → baleFlag b flagFenceSignal = false →
     s.consumerReady r = true → s.otherTurn r = false → opcodeReason (s.consumer r) (baleOpcode b) = none →
     ∃ t, exec (.baleStart r) s = .next t ∧ (t.route r).fetched = rest ∧
       (t.route r).started = (s.route r).started ++ [⟨i, b, false, false, false, false⟩] ∧
       (t.route r).take = (s.route r).take ∧ t.store = s.store ∧ t = { s with routes := t.routes } ∧
       (∀ k : Nat, k ≠ r.val → t.route k = s.route k)) ∧
   (∀ (s : State) (r : Fin 16) (i : Nat) (rest : List Fetched), (s.route r).resetting = none → s.holding = false →
     (s.route r).fetched = ⟨i, none⟩ :: rest →
     ∃ opcode : Byte, exec (.baleStart r) s = .next (
       ((({ s with freeCount := s.freeCount + 1 } : State).modRoute r (fun q => { q with
           fetched := q.fetched.tail, started := q.started ++ [⟨i, [], true, true, true, true⟩] })).modRoute r (fun q =>
         { q with badCount := satInc q.badCount })).event 0x84
           ([byteOf r, opcode] ++ leBytes 2 i ++ [0xFF]) 0xFF 0 |>.record 0x03 classA [] i)) ∧
   (∀ (s : State) (r : Fin 16) (i : Nat) (b : Bale) (rest : List Fetched), (s.route r).resetting = none →
     (s.route r).fetched = ⟨i, some b⟩ :: rest → baleFlag b flagFenceWait = true → baleFence b < 32 →
     s.fenceMet (baleFence b) (baleWaitValue b) = false → exec (.baleStart r) s = .next s) ∧
   (∀ (s : State) (f v : Nat), v < 65536 →
     (s.fenceMet f v = true ↔ ((s.fence f : Int) - v) % 65536 < 32768)))

/-- BALE_COMPLETE: COMPLETION is posted for each complete bale that asks for it, once, and TAKE passes the complete
bales at the head of the ring, signalling their fences; a bale that is not complete stops TAKE (R78, R84, R87).
The bales of the commit and cue executor and NOP: NOP completes at once; COMMIT commits the groups of its mask;
REG_WRITE makes its writes in pair order, each judged as the owner's, and is bad with PAYLOAD when COUNT lies
outside 1 to 6 (R66, R85, R86). -/
def Obligations.BalesExecuted : Prop :=
  ((∀ (s : State) (r : Fin 16), exec (.baleComplete r) s = .next (
     let s1 := s.reportDone r (s.route r).started
     let s2 := s1.modRoute r (fun q => { q with started := q.started.map (fun b =>
       { b with reported := b.reported || b.done }) })
     s2.passDone r (s2.route r).started)) ∧
   (∀ (s : State) (r : Nat) (b : Started) (rest : List Started), b.done = false → s.passDone r (b :: rest) = s) ∧
   (∀ (s : State) (r : Nat) (b : Started) (rest : List Started), b.done = true → baleFlag b.data flagFenceSignal = false →
     s.passDone r (b :: rest) =
       (s.modRoute r (fun q => { q with take := (q.take + 1) % 65536, started := rest })).passDone r rest) ∧
   (∀ (s : State) (r : Nat) (b : Started) (rest : List Started), b.done = true → baleFlag b.data flagFenceSignal = true →
     baleFence b.data < 32 →
     s.passDone r (b :: rest) =
       ((s.modRoute r (fun q => { q with take := (q.take + 1) % 65536, started := rest })).signalFence
         (baleFence b.data)).passDone r rest) ∧
   (∀ (s : State) (f : Nat), ∃ t, s.signalFence f = t ∧ t.fence f = (s.fence f + 1) % 65536 ∧
     (∀ g, g ≠ f → t.fence g = s.fence g) ∧ t = { s with routes := { s.routes with fences := t.routes.fences } }) ∧
   (∀ (s : State) (r : Nat) (b : Started) (rest : List Started), (b.done && !b.reported) = false ∨
       baleFlag b.data flagEventOnDone = false → s.reportDone r (b :: rest) = s.reportDone r rest) ∧
   (∀ (s : State) (r : Nat) (b : Started) (rest : List Started), b.done = true → b.reported = false →
     baleFlag b.data flagEventOnDone = true →
     s.reportDone r (b :: rest) = (s.event 0x83 ([byteOf r, byteOf b.bad.toNat] ++ leBytes 2 b.index) 0xFF
       (baleTag b.data)).reportDone r rest)) ∧
  ((∀ (s : State) (r : Fin 16) (b : Started), s.holding = false → s.nextStarted r 0 = some b →
     exec (.nopBale r) s = .next (s.modStarted r b.index (fun x => { x with taken := true, done := true }))) ∧
   (∀ (s : State) (r : Fin 16) (b : Started), s.holding = false → s.consumer r = .executor → s.nextStarted r 1 = some b →
     exec (.commitBale r) s = .next
       ((s.commitMask (leAt b.data 8 2)).modStarted r b.index (fun x => { x with taken := true, done := true }))) ∧
   (∀ (s : State) (r : Fin 16) (b : Started), s.holding = false → s.consumer r = .executor → s.nextStarted r 2 = some b →
     1 ≤ leAt b.data 8 1 → leAt b.data 8 1 ≤ 6 →
     exec (.regWriteBale r) s = .next (
       ((regWritePairs b.data).foldl (fun s p => (s.writeAccess .bale p.1 p.2).1)
         (s.modStarted r b.index (fun x => { x with taken := true }))).finishBale r b.index false)) ∧
   (∀ (s : State) (r : Fin 16) (b : Started), s.holding = false → s.consumer r = .executor → s.nextStarted r 2 = some b →
     (leAt b.data 8 1 = 0 ∨ 6 < leAt b.data 8 1) →
     exec (.regWriteBale r) s =
       .next ((s.modStarted r b.index (fun x => { x with taken := true })).refuseBale r b 2)) ∧
   (∀ (s : State) (r i : Nat) (bad : Bool) (b : Started), b ∈ (s.route r).started → b.index = i →
     { b with done := true, bad := bad } ∈ ((s.finishBale r i bad).route r).started) ∧
   (∀ b : Bale, (regWritePairs b).length = leAt b 8 1 ∧ ∀ k, k < leAt b 8 1 →
     (regWritePairs b)[k]? = some (leAt b (16 + 8 * k) 4, wordOf (leAt b (20 + 8 * k) 4))))

/-- ROUTE_CONTROL and ROUTE_RESET_DONE: a reset with nothing started puts PUT and TAKE to 0 and posts ROUTE_RESET with
the bales abandoned; with bales started it waits for them and drops those only fetched; a reset while one waits is
absorbed (R53, R93). EVENT_RELEASE moves TAKE of ROUTE[15] by the count written or the occupancy, whichever is
smaller; a write of FENCE_COUNT sets that fence alone (R87, R89, R94). -/
def Obligations.RouteControls : Prop :=
  ((∀ (s : State) (acc : Accessor) (v : Word), s.Accepts acc .ROUTE_CONTROL →
     bitAt (s.keptValue .ROUTE_CONTROL 0 v) 4 = true →
     exec (.routeReset acc v) s =
       .next ((s.written .ROUTE_CONTROL 0 0 v).resetRoute (fld (s.keptValue .ROUTE_CONTROL 0 v) 0 4) 0 none)) ∧
   (∀ (s : State) (r : Nat), r ≠ 15 → s.routeBusyReset r = false → s.routes.posts.any (fun p => p.route == r) = false →
     (s.route r).started = [] → s.pat.filling = false →
     s.resetRoute r 0 none = (s.modRoute r (fun q => { q with
       put := 0, take := 0, fetched := [], started := [], resetting := none })).event 0x82
         ([byteOf r, 0] ++ leBytes 2 (s.route r).occupancy)) ∧
   (∀ (s : State) (r : Nat), s.routeBusyReset r = false → s.routes.posts.any (fun p => p.route == r) = false →
     (s.route r).started ≠ [] →
     s.resetRoute r 0 none = s.modRoute r (fun q => { q with
       fetched := [], resetting := some ⟨0, (s.route r).occupancy - (s.route r).started.length, none, 0⟩ })) ∧
   (∀ (s : State) (r : Nat), s.routeBusyReset r = true → s.resetRoute r 0 none = s) ∧
   (∀ (s : State) (r : Nat), s.routeBusyReset r = false → s.routes.posts.any (fun p => p.route == r) = true →
     s.resetRoute r 0 none = { s with routes := { s.routes with resetWait := s.routes.resetWait ++ [(r, ⟨0, 0, none, 0⟩)] } }) ∧
   (∀ (s : State) (r : Fin 16) (z : Resetting), (s.route r).resetting = some z → (s.route r).started.all (·.done) = true →
     exec (.routeResetDone r) s = .next ((s.completeBales r).finishReset r z)) ∧
   (∀ (s : State) (r : Fin 16), (s.route r).resetting = none → exec (.routeResetDone r) s = .next s)) ∧
  ((∀ (s : State) (acc : Accessor) (v : Word), s.Accepts acc .EVENT_RELEASE →
     ∃ t, exec (.eventRelease acc v) s = .next t ∧
       (t.route 15).take = ((s.route 15).take + min (fld (s.keptValue .EVENT_RELEASE 0 v) 0 13) (s.route 15).occupancy) % 65536 ∧
       (t.route 15).put = (s.route 15).put ∧ (∀ r, r ≠ 15 → t.route r = s.route r) ∧
       t = { s with regs := t.regs, routes := { s.routes with routes := t.routes.routes } }) ∧
   (∀ (s : State) (acc : Accessor) (f : Fin 32) (v : Word), s.Accepts acc .FENCE_COUNT f →
     ∃ t, exec (.fenceCountWrite acc f v) s = .next t ∧ t.fence f = v.toNat % 65536 ∧
       (∀ g : Nat, g ≠ f.val → t.fence g = s.fence g) ∧
       t = { s with regs := t.regs, routes := { s.routes with fences := t.routes.fences } }))

/-- Reads, writes and scrub of the Store's channels (R99 to R102, R107): a clean read changes nothing; a corrected one
adds its words to STORE_CE_COUNT of its channel alone; an uncorrectable one poisons its block, counts, latches the
address and is recorded; reads of poisoned blocks and of retiring channels change nothing; a skein writes nothing.
A channel's retirement trigger puts it in the retirement queue with STATE 5 and its class C record; its reads then
fail and its writes are refused as RETIRED; a further trigger of a queued or retired channel is a secondary
record. The end of a zero fill with no restitch under way ends step 7, and then the power-on load or floor mode
follows (R106 to R108, R376). Where the manual leaves a point open the statement follows the model's choice in log
entries 20, 21 and 38. -/
def Obligations.StoreService : Prop :=
  ((∀ (s : State) (cls : ReqClass) (a : Nat), exec (.storeReadServed cls a .clean) s = .next s) ∧
   (∀ (s : State) (cls : ReqClass) (a c words : Nat), s.channelOf a = some c → s.channelGone c = false →
     s.store.poison.contains (a / 64) = false →
     ∃ t : State, exec (.storeReadServed cls a (.corrected words)) s = .next t ∧
       (t.channel c).ceCount = min 0xFFFFFFFF ((s.channel c).ceCount + words) ∧
       (t.channel c).ueCount = (s.channel c).ueCount ∧ (∀ k, k ≠ c → t.channel k = s.channel k) ∧
       t = { s with store := { s.store with channels := t.store.channels } }) ∧
   (∀ (s : State) (cls : ReqClass) (a c : Nat), s.channelOf a = some c → s.channelGone c = false →
     s.store.poison.contains (a / 64) = false → fld (s.reg .STORE_RETIRE_THRESHOLD) 0 16 = 0 →
     ∃ t : State, exec (.storeReadServed cls a .uncorrectable) s = .next (t.record 0x04 classA [(8, c), (8, classCode cls)] a) ∧
       (t.channel c).ueCount = satInc (s.channel c).ueCount ∧ (t.channel c).lastError = a ∧
       (t.channel c).state = (s.channel c).state ∧
       (∀ b, t.store.poison.contains b = true ↔ b = a / 64 ∨ s.store.poison.contains b = true) ∧
       t.store.mem = s.store.mem ∧ (∀ k, k ≠ c → t.channel k = s.channel k) ∧
       t = { s with store := { s.store with channels := t.store.channels, poison := t.store.poison } }) ∧
   (∀ (s : State) (cls : ReqClass) (a : Nat) (e : Ecc),
     (s.channelOf a = none ∨ s.store.poison.contains (a / 64) = true ∨ (∃ c, s.channelOf a = some c ∧ s.channelGone c = true)) →
     exec (.storeReadServed cls a e) s = .next s) ∧
   (∀ (s : State) (cls : ReqClass) (a : Nat) (bs : List Byte), cls ≠ .skeins →
     ∃ t e, s.storeWrite a bs = (t, e) ∧ exec (.storeWriteServed cls a bs) s = .next t ∧
       t = { s with store := { s.store with mem := t.store.mem, poison := t.store.poison } }) ∧
   (∀ (s : State) (a : Nat) (bs : List Byte), exec (.storeWriteServed .skeins a bs) s = .next s) ∧
   (∀ (s : State) (a n : Nat), s.inRingRegion a n = true → s.writeFault false a n = some causeProtected ∨
     s.writeFault false a n = some causeDecode) ∧
   (∀ (s : State) (e : Ecc), s.store.scrubPeriod = 0 → exec (.patrolScrub e) s = .next s) ∧
   (∀ (s : State), s.store.scrubPeriod ≠ 0 → s.storeSpan ≠ 0 →
     ∃ t : State, exec (.patrolScrub .clean) s = .next t ∧
       t.store.scrubNext = (if s.store.scrubNext * 64 + 64 < s.storeSpan then s.store.scrubNext + 1 else 0) ∧
       t = { s with store := { s.store with scrubNext := t.store.scrubNext, scrubPeriod := t.store.scrubPeriod } }) ∧
   (∀ (s : State) (acc : Accessor) (v : Word), s.Accepts acc .STORE_SCRUB_PERIOD →
     ∃ t : State, exec (.storeScrubPeriodWrite acc v) s = .next t ∧ t.reg .STORE_SCRUB_PERIOD = s.keptValue .STORE_SCRUB_PERIOD 0 v ∧
       (fld (s.keptValue .STORE_SCRUB_PERIOD 0 v) 0 8 = 0 → t.store.scrubPeriod = 0) ∧
       (fld (s.keptValue .STORE_SCRUB_PERIOD 0 v) 0 8 ≠ 0 → s.store.scrubPeriod = 0 →
         t.store.scrubPeriod = fld (s.keptValue .STORE_SCRUB_PERIOD 0 v) 0 8 ∧ t.store.scrubNext = 0) ∧
       (fld (s.keptValue .STORE_SCRUB_PERIOD 0 v) 0 8 ≠ 0 → s.store.scrubPeriod ≠ 0 →
         t.store.scrubPeriod = s.store.scrubPeriod ∧ t.store.scrubNext = s.store.scrubNext) ∧
       t = { s with regs := t.regs, store := { s.store with scrubPeriod := t.store.scrubPeriod
                                                            scrubNext := t.store.scrubNext } })) ∧
  ((∀ (s : State) (c : Fin 8), s.channelGone c = false → s.store.chanList.contains c.val = true →
     ∃ t u : State, exec (.channelAlert c) s = .next (u.enqueue .channel c 3) ∧ u = t.record 0x04 classC [(8, c.val), (8, 3)] 0 ∧
       (t.channel c).state = 5 ∧ (t.channel c).cause = 3 ∧ (∀ k : Nat, k ≠ c.val → t.channel k = s.channel k) ∧
       t = { s with store := { s.store with channels := t.store.channels } }) ∧
   (∀ (s : State) (c : Fin 8), s.channelGone c = true →
     exec (.channelAlert c) s = .next (s.record 0x04 classC [(8, c.val), (8, 3)] 0 none true)) ∧
   (∀ (s : State) (c : Fin 8), s.channelGone c = false → s.store.chanList.contains c.val = false →
     exec (.channelAlert c) s = .next s) ∧
   (∀ (s : State) (a c : Nat), s.channelOf a = some c → s.channelGone c = true → s.readFault a = some causePoison ∧
     (∀ n, s.inRingRegion a n = false → s.stagingBusy = false → s.writeFault false a n = some causeRetired)) ∧
   (∀ (s : State), s.pat.filling = false → exec .storeZeroFillDone s = .next s) ∧
   (∀ (s : State), s.pat.filling = true → s.pat.restitch = none →
     s.power.state ≠ 4 → s.boot.buttonFloor = false →
     ∃ t : State, exec .storeZeroFillDone s = .next (t.beginPattern .powerOn (1 + fld (t.stored .SLOT_PREFERENCE) 0 1) 0) ∧
       t = ({ s with pat := { s.pat with filling := false } } : State).stepEnds 7) ∧
   (∀ (s : State), s.pat.filling = true → s.pat.restitch = none → s.power.state ≠ 4 → s.boot.buttonFloor = true →
     exec .storeZeroFillDone s =
       .next ((({ s with pat := { s.pat with filling := false } } : State).stepEnds 7).enterFloor 1)) ∧
   (∀ (s : State) (z : Restitch), s.pat.filling = true → s.pat.restitch = some z →
     exec .storeZeroFillDone s = .next (s.fillEnds z)))

/-- Porter registers (R113, R115, R116, R128): GO arms the shadow set, which is live at once on an idle channel and
waits on a busy one; CLEAR with nothing in flight disarms and idles the channel, its loop counters 0; with writes
in flight, of a transfer under way, failed or halting too, it waits for them, and PORTER_CLEAR_DONE ends it. PORTER_TRANSFER_DONE confirms the oldest transfer
whose responses have returned: in register mode the transfer completes; a READ_BACK that fails is a bus error.
PORTER_BUS_ERROR stops a register-mode or ERRSTOP channel, which halts with its record and PORTER_HALT event once
its writes in flight drain; writes that fail while CLEAR waits have one secondary record among them (R114, R116, R125,
R127). Where the manual leaves a point open the statement follows
the model's choice in log entries 43, 44 and 45. -/
def Obligations.PorterControls : Prop :=
  ((∀ (s : State) (acc : Accessor) (n : Fin 16), s.Accepts acc .PORTER_CONTROL n → (s.porterCh n).state ≠ 0 →
     ∃ t : State, exec (.porterGo acc n) s = .next t ∧ t.porterCh n = { s.porterCh n with armed := true } ∧
       (∀ k : Nat, k ≠ n.val → t.porterCh k = s.porterCh k) ∧ t = { s with regs := t.regs, porter := t.porter }) ∧
   (∀ (s : State) (acc : Accessor) (n : Fin 16), s.Accepts acc .PORTER_CONTROL n → (s.porterCh n).state = 0 →
     (s.porterCh n).clearing = false → (s.porterShadow n).mode = 2 →
     ∃ t : State, exec (.porterGo acc n) s = .next t ∧ (t.porterCh n).state = 1 ∧ (t.porterCh n).pc = 0 ∧
       (t.porterCh n).live = s.porterShadow n ∧ (t.porterCh n).armed = false ∧ (t.porterCh n).loops = [] ∧
       (t.porterCh n).status = 0 ∧ (t.porterCh n).doneCount = (s.porterCh n).doneCount ∧
       t = { s with regs := t.regs, porter := t.porter }) ∧
   (∀ (s : State) (acc : Accessor) (n : Fin 16), s.Accepts acc .PORTER_CONTROL n → (s.porterCh n).state = 0 →
     (s.porterCh n).clearing = false → (s.porterShadow n).mode = 1 → (s.porterShadow n).count ≠ 0 →
     ∃ t : State, exec (.porterGo acc n) s = .next t ∧ (t.porterCh n).state = 1 ∧ (t.porterCh n).starting = true ∧
       (t.porterCh n).live = s.porterShadow n ∧ (t.porterCh n).armed = false ∧
       t = { s with regs := t.regs, porter := t.porter }) ∧
   (∀ (s : State) (acc : Accessor) (n : Fin 16), s.Accepts acc .PORTER_CONTROL n → (s.porterCh n).busy = false →
     ∃ t : State, exec (.porterClear acc n) s = .next t ∧ (t.porterCh n).state = 0 ∧ (t.porterCh n).armed = false ∧
       (t.porterCh n).clearing = false ∧ (t.porterCh n).loops = [] ∧ (t.porterCh n).fault = none ∧
       (t.porterCh n).mismatch = false ∧ (t.porterCh n).halting = false ∧
       (t.porterCh n).doneCount = (s.porterCh n).doneCount ∧ (t.porterCh n).badCount = (s.porterCh n).badCount ∧
       (∀ k : Nat, k ≠ n.val → t.porterCh k = s.porterCh k) ∧ t = { s with regs := t.regs, porter := t.porter }) ∧
   (∀ (s : State) (acc : Accessor) (n : Fin 16), s.Accepts acc .PORTER_CONTROL n → (s.porterCh n).busy = true →
     (s.porterCh n).error = none →
     ∃ t : State, exec (.porterClear acc n) s = .next t ∧ (t.porterCh n).clearing = true ∧ (t.porterCh n).loops = [] ∧
       (t.porterCh n).starting = (s.porterCh n).starting ∧ (t.porterCh n).unconfirmed = (s.porterCh n).unconfirmed ∧ (t.porterCh n).armed = (s.porterCh n).armed ∧
       t = { s with regs := t.regs, porter := t.porter }) ∧
   (∀ (s : State) (n : Fin 16), (s.porterCh n).clearing = false → exec (.porterClearDone n) s = .next s) ∧
   (∀ (s : State) (n : Fin 16), (s.porterCh n).clearing = true → (s.porterCh n).goAfter = false →
     (s.porterCh n).starting = false → (s.porterCh n).live.mode ≠ 3 →
     ∃ t : State, exec (.porterClearDone n) s = .next t ∧ (t.porterCh n).state = 0 ∧ (t.porterCh n).unconfirmed = [] ∧
       (t.porterCh n).clearing = false ∧ (t.porterCh n).armed = false ∧
       (∀ k : Nat, k ≠ n.val → t.porterCh k = s.porterCh k) ∧ t = { s with porter := t.porter }) ∧
   (∀ (s : State) (n : Nat), ∃ t : State, s.porterComplete n = t ∧ ∃ u : State, t = u.porterIdle n ∧
     (u.porterCh n).doneCount = (s.porterCh n).doneCount + 1)) ∧
  ((∀ (s : State) (n : Fin 16) (i : Nat) (t : Transfer) (rest : List InFlight), (s.porterCh n).starting = false →
     (s.porterCh n).clearing = false → (s.porterCh n).halting = false → (s.porterCh n).error = none →
     (s.porterCh n).unconfirmed = ⟨i, t, []⟩ :: rest → t.readBack = false → (s.porterCh n).live.mode = 1 →
     exec (.porterTransferDone n) s =
       .next ((s.modPorter n (fun p => { p with unconfirmed := settleFlight rest })).porterComplete n)) ∧
   (∀ (s : State) (n : Fin 16) (i : Nat) (t : Transfer) (rest : List InFlight), s.holding = true →
     (s.porterCh n).unconfirmed = ⟨i, t, []⟩ :: rest → t.readBack = true → exec (.porterTransferDone n) s = .next s) ∧
   (∀ (s : State) (n : Fin 16) (i : Nat) (e : BusErr), s.holding = true → (s.porterCh n).clearing = false →
     (s.porterCh n).halting = false → (s.porterCh n).error = some (i, e) → (s.porterCh n).live.mode = 3 →
     exec (.porterBusError n none) s = .next s) ∧
   (∀ (s : State) (n : Fin 16) (i : Nat) (e : BusErr), (s.porterCh n).starting = false → (s.porterCh n).clearing = false →
     (s.porterCh n).halting = false → (s.porterCh n).error = some (i, e) → (s.porterCh n).live.mode = 1 →
     ∃ t : State, exec (.porterBusError n none) s = .next t ∧ (t.porterCh n).halting = true ∧
       (t.porterCh n).fault = some ((s.porterCh n).fault.getD e) ∧ (t.porterCh n).error = some (i, e) ∧
       (t.porterCh n).state = (s.porterCh n).state ∧ (∀ k : Nat, k ≠ n.val → t.porterCh k = s.porterCh k) ∧
       t = { s with porter := t.porter }) ∧
   (∀ (s : State) (n : Fin 16) (i : Nat) (e : BusErr), (s.porterCh n).halting = true → (s.porterCh n).error = some (i, e) →
     ∃ t : State, exec (.porterHalt n) s = .next ((t.record 0x05 classB [(8, n.val), (8, e.cause), (8, e.write.toNat)] e.addr).event
         0xA1 ([byteOf n, byteOf e.cause, byteOf e.write.toNat, 0, 0, 0, 0, 0] ++ leBytes 8 e.addr)) ∧
       (t.porterCh n).state = 2 ∧ (t.porterCh n).halting = false ∧ (t.porterCh n).unconfirmed = [] ∧
       (t.porterCh n).fault = (s.porterCh n).fault ∧ (∀ k : Nat, k ≠ n.val → t.porterCh k = s.porterCh k) ∧
       t = { s with porter := t.porter }) ∧
   (∀ (s : State) (n : Fin 16), (s.porterCh n).halting = false → exec (.porterHalt n) s = .next s) ∧
   (∀ (s : State) (n : Fin 16) (f : LateFail), (s.porterCh n).starting = false → (s.porterCh n).error = none →
     (s.porterCh n).state = 2 →
     exec (.porterBusError n (some f)) s =
       .next (s.record 0x05 classB [(8, n.val), (8, causeCode f.cause), (8, 1)] f.addr none true)) ∧
   (∀ (s : State) (n : Fin 16) (f : LateFail), (s.porterCh n).starting = false → (s.porterCh n).error = none →
     (s.porterCh n).state ≠ 2 → (s.porterCh n).halting = false → (s.porterCh n).clearing = true →
     (s.porterCh n).clearRecorded = false →
     ∃ t : State, exec (.porterBusError n (some f)) s =
         .next (t.record 0x05 classA [(8, n.val), (8, causeCode f.cause)] f.addr none true) ∧
       (t.porterCh n) = { s.porterCh n with clearRecorded := true } ∧ t = { s with porter := t.porter } ∧
       exec (.porterBusError n (some f)) t = .next t))

/-- Program mode (R117 to R119): the fetched instruction of the opcode runs. A MOVE, FILL or CHECK whose data moved
waits for its confirmation with the pc past it; one that failed leaves its bus error; a COMPARE needs none, and
with its stop flag ends the program on a mismatch; LOOP counts down its counter; END completes the program once
all is confirmed; an opcode above 7 and an instruction that cannot be fetched stop the channel. WAIT and SIGNAL
(R120, R121): a WAIT whose condition holds goes on at once, and otherwise waits with STATE 3 until
PORTER_WAIT_DONE finds that it holds; SIGNAL without POST increments its fence, and with POST hands its bale to
the post unit; both wait for every earlier instruction's confirmation. Where the manual leaves a point open the
statement follows the model's choice in log entries 40, 42, 43, 46, 47, 48, 49, 50, 51, 134 and 135. -/
def Obligations.PorterPrograms : Prop :=
  ((∀ (s u : State) (n : Fin 16) (b : List Byte), s.programReady n = true → s.fetchInstr n = .ok b →
     (instrTransfer opMove b).count ≠ 0 → leAt b 0 1 = 1 → (s.launch n (s.porterCh n).pc (instrTransfer opMove b)).moveData n (instrTransfer opMove b) = (u, .ok) →
     exec (.programMove n) s = .next (u.nextInstr n)) ∧
   (∀ (s u : State) (n : Fin 16) (b : List Byte), s.programReady n = true → s.fetchInstr n = .ok b →
     (instrTransfer opFill b).count ≠ 0 → leAt b 0 1 = 5 → (s.launch n (s.porterCh n).pc (instrTransfer opFill b)).moveData n (instrTransfer opFill b) = (u, .ok) →
     exec (.programFill n) s = .next (u.nextInstr n)) ∧
   (∀ (s u : State) (n : Fin 16) (b : List Byte), s.programReady n = true → s.fetchInstr n = .ok b →
     (instrTransfer opCheck b).count ≠ 0 → leAt b 0 1 = 7 → (s.launch n (s.porterCh n).pc (instrTransfer opCheck b)).moveData n (instrTransfer opCheck b) = (u, .ok) →
     exec (.programCheck n) s = .next (u.nextInstr n)) ∧
   (∀ (s u : State) (n : Fin 16) (b : List Byte) (e : BusErr), s.programReady n = true → s.fetchInstr n = .ok b →
     (instrTransfer opFill b).count ≠ 0 → leAt b 0 1 = 5 → (s.launch n (s.porterCh n).pc (instrTransfer opFill b)).moveData n (instrTransfer opFill b) = (u, .failed e) →
     exec (.programFill n) s = .next ((u.launchFails n (s.porterCh n).pc e).nextInstr n)) ∧
   (∀ (s : State) (n i : Nat) (tr : Transfer), ∃ t : State, s.launch n i tr = t ∧ (t.porterCh n).state = 1 ∧
     (t.porterCh n).unconfirmed = (s.porterCh n).unconfirmed ++ [⟨i, tr, []⟩] ∧ t = { s with porter := t.porter } ∧
     (∀ k : Nat, k ≠ n → t.porterCh k = s.porterCh k)) ∧
   (∀ (s : State) (n i : Nat) (e : BusErr), ∃ t : State, s.launchFails n i e = t ∧ (t.porterCh n).error = some (i, e) ∧
     t = { s with porter := t.porter } ∧ (∀ k : Nat, k ≠ n → t.porterCh k = s.porterCh k)) ∧
   (∀ (s u : State) (n : Fin 16) (b : List Byte), s.programReady n = true → s.fetchInstr n = .ok b →
     (instrTransfer opCompare b).count ≠ 0 → leAt b 0 1 = 6 → natBit (leAt b 1 1) 1 = false →
     (s.launch n (s.porterCh n).pc (instrTransfer opCompare b)).moveData n (instrTransfer opCompare b) = (u, .ok) →
     exec (.programCompare n) s = .next ((u.landed n).nextInstr n)) ∧
   (∀ (s u : State) (n : Fin 16) (b : List Byte), s.programReady n = true → s.fetchInstr n = .ok b →
     (instrTransfer opCompare b).count ≠ 0 → leAt b 0 1 = 6 → natBit (leAt b 1 1) 1 = true →
     (s.porterCh n).confirmed = true →
     (s.launch n (s.porterCh n).pc (instrTransfer opCompare b)).moveData n (instrTransfer opCompare b) = (u, .ok) →
     ((u.landed n).porterCh n).mismatch = true →
     exec (.programCompare n) s = .next (((u.landed n).modPorter n (fun p => { p with status := 2 })).porterComplete n)) ∧
   (∀ (s : State) (n : Fin 16) (b : List Byte), s.programReady n = true → s.fetchInstr n = .ok b → leAt b 0 1 = 2 →
     leAt b 2 1 ≤ 3 → leAt b 8 4 ≤ (s.porterCh n).pc →
     ∃ (t : State) (left : Nat), exec (.programLoop n) s = .next t ∧
       (mapGet 0 (s.porterCh n).loops (leAt b 2 1) = 0 → left = leAt b 4 4 - 1) ∧
       (mapGet 0 (s.porterCh n).loops (leAt b 2 1) ≠ 0 → left = mapGet 0 (s.porterCh n).loops (leAt b 2 1) - 1) ∧
       (t.porterCh n).loops = mapSet 0 (s.porterCh n).loops (leAt b 2 1) left ∧
       (t.porterCh n).pc = (if left = 0 then (s.porterCh n).pc + 1 else leAt b 8 4) ∧ t = { s with porter := t.porter } ∧
       (∀ k : Nat, k ≠ n.val → t.porterCh k = s.porterCh k)) ∧
   (∀ (s : State) (n : Fin 16) (b : List Byte), s.programReady n = true → s.fetchInstr n = .ok b → leAt b 0 1 = 0 →
     exec (.programEnd n) s = .next (if (s.porterCh n).confirmed = true then s.porterComplete n else s)) ∧
   (∀ (s : State) (n : Fin 16) (b : List Byte), s.programReady n = true → s.fetchInstr n = .ok b → 7 < leAt b 0 1 →
     exec (.programEnd n) s =
       .next (s.porterStop n (s.porterCh n).pc ⟨(s.porterCh n).instrAddr, false, causeOpcode⟩)) ∧
   (∀ (s : State) (n : Fin 16) (e : BusErr), s.programReady n = true → s.fetchInstr n = .error e →
     exec (.programEnd n) s = .next (s.porterStop n (s.porterCh n).pc e)) ∧
   (∀ (s : State) (n : Nat) (t : Transfer) (e : BusErr), t.refusal = some e → s.moveData n t = (s, .failed e))) ∧
  ((∀ (s : State) (n : Fin 16) (b : List Byte) (w : WaitFor), s.programReady n = true → s.fetchInstr n = .ok b →
     leAt b 0 1 = 3 → (s.porterCh n).confirmed = true → waitFor b = some w →
     ∃ u : State, u = s.modPorter n (fun p => { p with waitMet := false }) ∧
       (u.waitHolds n w = true → exec (.programWait n) s = .next (u.nextInstr n)) ∧
       (u.waitHolds n w = false →
         exec (.programWait n) s = .next (u.modPorter n (fun p => { p with waiting := some w, state := 3 })))) ∧
   (∀ (s : State) (n : Fin 16) (b : List Byte), s.programReady n = true → s.fetchInstr n = .ok b →
     leAt b 0 1 = 3 → (s.porterCh n).confirmed = false → exec (.programWait n) s = .next s) ∧
   (∀ b : List Byte, leAt b 2 1 = 0 → leAt b 3 1 ≤ 31 → waitFor b = some (.fence (leAt b 3 1) (leAt b 8 2))) ∧
   (∀ b : List Byte, leAt b 2 1 = 1 → leAt b 3 1 ≤ 7 → waitFor b = some (.bindOff (leAt b 3 1))) ∧
   (∀ b : List Byte, leAt b 2 1 = 2 → waitFor b = some (.tb (leAt b 8 8))) ∧
   (∀ (s : State) (n : Nat) (v : Nat), s.waitHolds n (.tb v) = true ↔ v ≤ s.time.tb.toNat) ∧
   (∀ (s : State) (n : Fin 16) (w : WaitFor), (s.porterCh n).waiting = some w → s.waitHolds n w = true →
     ∃ t : State, exec (.porterWaitDone n) s = .next t ∧ (t.porterCh n).pc = (s.porterCh n).pc + 1 ∧
       (t.porterCh n).state = 1 ∧ (t.porterCh n).waiting = none ∧ t = { s with porter := t.porter } ∧
       (∀ k : Nat, k ≠ n.val → t.porterCh k = s.porterCh k)) ∧
   (∀ (s : State) (n : Fin 16) (w : WaitFor), (s.porterCh n).waiting = some w → s.waitHolds n w = false →
     exec (.porterWaitDone n) s = .next s) ∧
   (∀ (s : State) (n : Fin 16) (b : List Byte), s.programReady n = true → s.fetchInstr n = .ok b →
     leAt b 0 1 = 4 → (s.porterCh n).confirmed = true → natBit (leAt b 1 1) 2 = false → natBit (leAt b 1 1) 3 = true →
     leAt b 3 1 ≤ 31 → exec (.programSignal n) s = .next ((s.signalFence (leAt b 3 1)).nextInstr n)) ∧
   (∀ (s : State) (n : Fin 16) (b : List Byte) (bale : Bale), s.programReady n = true → s.fetchInstr n = .ok b →
     leAt b 0 1 = 4 → (s.porterCh n).confirmed = true → natBit (leAt b 1 1) 2 = true → natBit (leAt b 1 1) 3 = false →
     leAt b 2 1 ≤ 15 → leAt b 8 8 < 2 ^ 35 → s.storeRead (leAt b 8 8) 64 = .ok bale →
     exec (.programSignal n) s = .next ((s.postInternal (leAt b 2 1) bale (.porter n none)).nextInstr n)) ∧
   (∀ (s : State) (n : Nat), ∃ t : State, s.nextInstr n = t ∧ (t.porterCh n).pc = (s.porterCh n).pc + 1 ∧
     t = { s with porter := t.porter }))

/-- List mode (R78, R123): the next started descriptor of the channel's route runs when its operation is the one of
the command; its data moved, it waits for confirmation; a COUNT of 0 completes at once; a COMPARE that finds a
difference is bad with MISMATCH; while the channel holds a bus error or is not in list mode no descriptor starts.
Where the manual leaves a point open the statement follows the model's choice in log entries 40, 41 and 43. -/
def Obligations.PorterDescriptors : Prop :=
  (∀ (s : State) (n : Fin 16) (r : Nat), (s.porterCh n).live.mode = 3 → (s.porterCh n).state ≠ 2 →
    (s.porterCh n).clearing = false → (s.porterCh n).halting = false → (s.porterCh n).error = none → s.holding = false →
    s.routeFor (.porter n) = some r → (s.porterShadow n).mode = 3 →
    ∃ u : State, u = s.modPorter n (fun p => { p with live := p.live.retake (s.porterShadow n) }) ∧
      (∀ b, s.nextStarted r 0x40 = some b → exec (.descriptorMove n) s = .next (u.runDescriptor n r 0 b)) ∧
      (∀ b, s.nextStarted r 0x41 = some b → exec (.descriptorFill n) s = .next (u.runDescriptor n r 1 b)) ∧
      (∀ b, s.nextStarted r 0x42 = some b → exec (.descriptorCompare n) s = .next (u.runDescriptor n r 2 b)) ∧
      (∀ b, s.nextStarted r 0x43 = some b → exec (.descriptorCheck n) s = .next (u.runDescriptor n r 3 b))) ∧
  (∀ (s u : State) (n r op : Nat) (b : Started), (descriptorTransfer op b.data).count ≠ 0 → op ≠ opCompare →
    ((s.modStarted r b.index (fun x => { x with taken := true })).launch n b.index (descriptorTransfer op b.data)).moveData n
      (descriptorTransfer op b.data) = (u, .ok) →
    s.runDescriptor n r op b = u) ∧
  (∀ (s u : State) (n r op : Nat) (b : Started) (e : BusErr), (descriptorTransfer op b.data).count ≠ 0 →
    ((s.modStarted r b.index (fun x => { x with taken := true })).launch n b.index (descriptorTransfer op b.data)).moveData n
      (descriptorTransfer op b.data) = (u, .failed e) →
    s.runDescriptor n r op b = u.launchFails n b.index e) ∧
  (∀ (s u : State) (n r : Nat) (b : Started), (descriptorTransfer opCompare b.data).count ≠ 0 →
    ((s.modStarted r b.index (fun x => { x with taken := true })).launch n b.index (descriptorTransfer opCompare b.data)).moveData
      n (descriptorTransfer opCompare b.data) = (u, .ok) → (u.porterCh n).mismatch = true →
    s.runDescriptor n r opCompare b =
      u.launchFails n b.index ⟨(descriptorTransfer opCompare b.data).src, false, causeMismatch⟩) ∧
  (∀ (s : State) (n r op : Nat) (b : Started), (descriptorTransfer op b.data).count = 0 →
    s.runDescriptor n r op b =
      ((((s.modStarted r b.index (fun x => { x with taken := true })).modPorter n (fun p => p.zeroCount op)).finishBale r
        b.index false).descriptorDone n)) ∧
  (∀ (s : State) (n : Fin 16), (s.porterCh n).live.mode ≠ 3 ∨ (s.porterCh n).error.isSome = true →
    exec (.descriptorMove n) s = .next s ∧ exec (.descriptorFill n) s = .next s ∧
    exec (.descriptorCompare n) s = .next s ∧ exec (.descriptorCheck n) s = .next s)

/-- SDI sources (R129, R136, R142): a line of a running source with a signal goes to its row of the woven frame, its samples
written or held in the FIFO; the first row begins a frame and the last line of the frame, of its second field where there
are two, ends it; a failing CRC is counted and makes the frame corrupt. A lock takes the signal and its payload and
discards the frame in progress; a source that does not run ignores lines; a signal that is not one single link of 4:2:2
10-bit at one of the four rates is refused. ST 2110 packets (R130, R132): a source not running, or without the path, ignores
its packets; a first copy of a sequence number takes its place in the flow, at once when it is the next, and a second copy
within the window does not; a copy beyond it counts as late; the packets of a frame enter it in sequence order. Where the
manual leaves a point open the statement follows the model's choice in log entries 18, 118, 139 and 140. -/
def Obligations.SourceReception : Prop :=
  ((∀ (s : State) (i : Fin 4) (l : SdiLine), l.payload = none → (s.srcRuns i = false ∨ (s.source i).signal = none) →
     exec (.sdiLine i l) s = .next s) ∧
   (∀ (s : State) (i : Fin 4) (l : SdiLine) (g : SdiSignal) (f : FrameSt), s.srcRuns i = true → (s.source i).signal = some g →
     s.holding = false → (s.source i).fifo = [] → (s.source i).frame = some f → f.ended = false →
     l.payload = none → l.crcOk = true → sdiRow g l ≠ 0 →
     ∃ t u : State, t = s.modSource i (fun q => { q with fifo := [] }) ∧
       u = t.writeSegment i ⟨sdiRow g l, 0, l.samples.map (·.toNat)⟩ ∧
       exec (.sdiLine i l) s = .next (if sdiLast g l = true then u.endFrame i else u)) ∧
   (∀ (s : State) (i : Fin 4) (l : SdiLine) (g : SdiSignal), s.srcRuns i = true → (s.source i).signal = some g →
     s.holding = false → (s.source i).fifo = [] → l.payload = none → l.crcOk = true → sdiRow g l = 0 →
     ∃ t : State, t = s.modSource i (fun q => { q with fifo := [] }) ∧
       exec (.sdiLine i l) s = .next ((t.beginFrame i).lineIn i g l)) ∧
   (∀ (s : State) (i : Fin 4) (l : SdiLine) (g : SdiSignal) (f : FrameSt), s.srcRuns i = true → (s.source i).signal = some g →
     l.payload = none → l.crcOk = false → sdiRow g l ≠ 0 → s.holding = true → (s.source i).frame = some f → f.ended = false →
     ∃ t u : State, exec (.sdiLine i l) s = .next (if sdiLast g l = true then u.endFrame i else u) ∧
       u = t.takeSegment i ⟨sdiRow g l, 0, l.samples.map (·.toNat)⟩ ∧
       (t.source i).crcErrors = satInc (s.source i).crcErrors ∧ (t.source i).frame = some { f with corrupt := true } ∧
       t = { s with sources := t.sources } ∧ (∀ k : Nat, k ≠ i.val → t.source k = s.source k)) ∧
   (∀ (g : SdiSignal) (l : SdiLine), g.woven = true → sdiRow g l = 2 * l.line + l.field.val) ∧
   (∀ (g : SdiSignal) (l : SdiLine), g.woven = false → sdiRow g l = l.line) ∧
   (∀ (s : State) (i : Fin 4) (g : SdiSignal), srcEnabled (s.reg .SRC_CONFIG i) = false →
     ∃ t : State, exec (.sdiCarrierLock i g) s = .next t ∧ (t.source i).signal = some g ∧ (t.source i).frame = none ∧
       (t.source i).payload = g.payload.getD 0 ∧ (t.source i).state = (s.source i).state ∧
       t = { s with sources := t.sources } ∧ (∀ k : Nat, k ≠ i.val → t.source k = s.source k)) ∧
   (∀ (s : State) (i : Fin 4) (g : SdiSignal), srcEnabled (s.reg .SRC_CONFIG i) = true →
     ∃ t : State, exec (.sdiCarrierLock i g) s = .next (t.evaluate i) ∧ (t.source i).signal = some g ∧
       (t.source i).frame = none ∧ (t.source i).newest = (s.source i).newest ∧ t = { s with sources := t.sources }) ∧
   (∀ (s : State) (i : Nat) (g : SdiSignal), i < 4 → (s.source i).signal = some g →
     (g.rateCode.val = 0 ∨ g.link ≠ .single ∨ g.sampling = false) →
     s.evaluate i = (s.discardFrame i).setSrcState i srcRefused 1)) ∧
  ((∀ (s : State) (i : Fin 8) (p : Fin 2) (k : RtpPacket),
     (s.srcRuns (i + 4) = false ∨ srcPath (s.reg .SRC_CONFIG (i + 4)) p = false) →
     exec (.st2110Packet i p k) s = .next s) ∧
   (∀ (s : State) (i : Fin 8) (p : Fin 2) (k : RtpPacket), s.srcRuns (i + 4) = true →
     srcPath (s.reg .SRC_CONFIG (i + 4)) p = true →
     ∃ u : State, u = ((s.setPath (i + 4) p true).drainFifo (i + 4)).settleFlow (i + 4) false ∧
       (u.seqSeen (i + 4) k.seq = some false → exec (.st2110Packet i p k) s = .next u) ∧
       (u.seqSeen (i + 4) k.seq = some true → exec (.st2110Packet i p k) s =
         .next (u.modSource (i + 4) (fun q => { q with lates := satInc q.lates }))) ∧
       (u.seqSeen (i + 4) k.seq = none → (u.source (i + 4)).past k.seq = false →
         ∃ t : State, exec (.st2110Packet i p k) s =
             .next ((t.modSource (i + 4) (fun q => q.wait k u.time.tb.toNat)).settleFlow (i + 4) false) ∧
           (t.source (i + 4)).seen.head? = some (k.seq, u.time.tb.toNat) ∧
           t = { u with sources := t.sources } ∧ (∀ n : Nat, n ≠ i + 4 → t.source n = u.source n))) ∧
   (∀ (s : State) (i : Fin 8) (p : Fin 2) (k : RtpPacket), s.srcRuns (i + 4) = true →
     srcPath (s.reg .SRC_CONFIG (i + 4)) p = true → s.pathUp (i + 4) p = true →
     (s.source (i + 4)).fifo = [] → (s.source (i + 4)).early = [] → (s.source (i + 4)).lastSeq = some (k.seq - 1) → s.seqSeen (i + 4) k.seq = none →
     ∃ t : State, exec (.st2110Packet i p k) s = .next (t.takePacket (i + 4) k) ∧
       (t.source (i + 4)).early = [] ∧ (t.source (i + 4)).frame = (s.source (i + 4)).frame ∧
       t = { s with sources := t.sources }) ∧
   (∀ (s : State) (i : Nat) (k : RtpPacket) (f : FrameSt), (s.source i).awaiting = false → (s.source i).frame = some f →
     f.ended = false → (s.source i).lastSeq = some (k.seq - 1) →
     (s.source i).prevRow ≤ (packetStart k (s.source i).prevRow).1 →
     ∃ t : State, s.takePacket i k = t.packetIn i k ∧ (t.source i).lastSeq = some k.seq ∧ (t.source i).frame = some f ∧
       (t.source i).losses = min max32 (s.source i).losses ∧ t = { s with sources := t.sources }) ∧
   (∀ (s : State) (i p : Nat), s.pathUp i p = true → s.setPath i p true = s))

/-- SOURCE_FRAME_COMPLETE (R136, R138, R140, R142): a clean frame becomes the newest, the one before counting as a drop if
no head took it, and the source is LOCKED; a corrupt one counts, and under CORRUPT_POLICY 1 does not become the
newest; one that did not match its size or format counts as that too, and leaves the source's state; a frame that had no
buffer only ends. A frame not ended, or no frame, changes nothing but what waits in the FIFO and the flow. Where the manual
leaves a point open the statement follows the model's choice in log entries 12 and 140. -/
def Obligations.FrameCompletes : Prop :=
  (∀ (s : State) (i : Fin 12) (f : FrameSt) (k : Nat), s.holding = false → (s.source i).fifo = [] → (s.source i).early = [] →
    (s.source i).frame = some f → f.ended = true → f.corrupt = false → f.mismatch = false → f.buf = some k →
    (s.source i).state ≠ srcRefused → (s.source i).state ≠ srcDisabled →
    ∃ t : State, exec (.sourceFrameComplete i) s = .next (t.setSrcState i srcLocked 0) ∧
      (t.source i).newest = some k ∧ (t.source i).frame = none ∧ (t.source i).taken = false ∧
      (t.source i).frames = (s.source i).frames + 1 ∧ (t.source i).corrupts = (s.source i).corrupts ∧
      (t.source i).drops = (if (s.source i).newest.isSome = true ∧ (s.source i).taken = false
        then satInc (s.source i).drops else (s.source i).drops) ∧
      t = { s with sources := t.sources } ∧ (∀ n : Nat, n ≠ i.val → t.source n = s.source n)) ∧
  (∀ (s : State) (i : Fin 12) (f : FrameSt) (k : Nat), s.holding = false → (s.source i).fifo = [] → (s.source i).early = [] →
    (s.source i).frame = some f → f.ended = true → f.corrupt = true → f.mismatch = false → f.buf = some k →
    srcDiscards (s.reg .SRC_CONFIG i) = true → (s.source i).state ≠ srcRefused → (s.source i).state ≠ srcDisabled →
    ∃ t : State, exec (.sourceFrameComplete i) s = .next (t.setSrcState i srcLocked 0) ∧
      (t.source i).newest = (s.source i).newest ∧ (t.source i).frame = none ∧
      (t.source i).corrupts = satInc (s.source i).corrupts ∧ t = { s with sources := t.sources }) ∧
  (∀ (s : State) (i : Fin 12) (f : FrameSt) (k : Nat), s.holding = false → (s.source i).fifo = [] → (s.source i).early = [] →
    (s.source i).frame = some f → f.ended = true → f.mismatch = true → f.buf = some k →
    srcDiscards (s.reg .SRC_CONFIG i) = true →
    ∃ t : State, exec (.sourceFrameComplete i) s = .next t ∧
      (t.source i).newest = (s.source i).newest ∧ (t.source i).frame = none ∧ (t.source i).state = (s.source i).state ∧
      (t.source i).corrupts = satInc (s.source i).corrupts ∧ (t.source i).mismatches = satInc (s.source i).mismatches ∧
      t = { s with sources := t.sources }) ∧
  (∀ (s : State) (i : Fin 12), (s.source i).early = [] → s.holding = true → exec (.sourceFrameComplete i) s = .next s)

/-- A source that stops (R140, R143): the frame in progress is discarded, the newest goes on being offered, and a
LOCKED source enters HOLDING with its record, as does one that searched with a signal (the model's reading, log 141);
after LOSS_HOLD it enters LOST and offers nothing. A path that goes
down posts PATH_STATE, and is recorded when the source uses two paths. Accepted writes of a source's configuration
take effect at once (R141, R144, R62), those of a network setting only on a network source: the frame in progress is discarded and the newest becomes invalid from the next
cast-on; SRC_BASE_HIGH applies both words of its pair, and SRC_BASE_LOW alone changes nothing else. Where the
manual leaves a point open the statement follows the model's choice in log entries 118 and 141. -/
def Obligations.SourceLossAndSettings : Prop :=
  ((∀ (s : State) (i : Fin 4), (s.source i).state = srcLocked →
     ∃ t : State, exec (.sourceSignalLoss i) s = .next ((t.setSrcState i srcHolding 0).recordOpen 0x06 classA [(8, i.val)]) ∧
       (t.source i).signal = none ∧ (t.source i).newest = (s.source i).newest ∧
       (t.source i).frame = none ∧ t = { s with sources := t.sources }) ∧
   (∀ (s : State) (i : Fin 8), (s.source (i + 4)).state = srcLocked →
     ∃ t : State, exec (.sourcePacketTimeout i) s =
         .next ((t.setSrcState (i + 4) srcHolding 0).recordOpen 0x06 classA [(8, i.val + 4)]) ∧
       (t.source (i + 4)).newest = (s.source (i + 4)).newest ∧ t = { s with sources := t.sources }) ∧
   (∀ (s : State) (i : Fin 4), (s.source i).state ≠ srcLocked → (s.source i).state ≠ srcSearching →
     ∃ t : State, exec (.sourceSignalLoss i) s = .next t ∧ t = { s with sources := t.sources } ∧
       (t.source i).state = (s.source i).state) ∧
   (∀ (s : State) (i : Fin 12), (s.source i).state = srcHolding → srcLossHold (s.reg .SRC_CONFIG i) ≠ 0 →
     exec (.sourceLost i) s = .next ((s.modSource i (fun q => { q with newest := none })).setSrcState i srcLost 0)) ∧
   (∀ (s : State) (i : Fin 12), (s.source i).state ≠ srcHolding ∨ srcLossHold (s.reg .SRC_CONFIG i) = 0 →
     exec (.sourceLost i) s = .next s) ∧
   (∀ (s : State) (i : Fin 8) (p : Fin 2), s.pathUp (i + 4) p = false → exec (.pathDown i p) s = .next s) ∧
   (∀ (s : State) (i : Fin 8) (p : Fin 2), s.pathUp (i + 4) p = true → fld (s.reg .SRC_CONFIG (i + 4)) 4 2 ≠ 3 →
     exec (.pathDown i p) s = .next (s.setPath (i + 4) p false)) ∧
   (∀ (s : State) (i : Fin 8) (p : Fin 2), s.pathUp (i + 4) p = true → fld (s.reg .SRC_CONFIG (i + 4)) 4 2 = 3 →
     exec (.pathDown i p) s = .next ((s.setPath (i + 4) p false).recordOpen 0x06 classA [(8, i.val + 4)])) ∧
   (∀ (s : State) (i st reason : Nat), (s.source i).state ≠ st →
     s.setSrcState i st reason = (s.modSource i (fun q => { q with state := st, reason := reason })).event 0xA8
       [byteOf i, byteOf st, byteOf reason])) ∧
  ((∀ (s : State) (acc : Accessor) (i : Fin 12) (v : Word), s.Accepts acc .SRC_CONFIG i →
     exec (.srcConfigWrite acc i v) s = .next ((s.written .SRC_CONFIG i 0 v).wroteSrcConfig s i)) ∧
   (∀ (s old : State) (i : Nat), ∃ t : State, s.wroteSrcConfig old i = t.regroup old ∧
     (t.source i).joined = s.wantedGroup i) ∧
   (∀ (s : State) (acc : Accessor) (i : Fin 12) (v : Word), s.Accepts acc .SRC_NET_FORMAT i →
     exec (.srcNetFormatWrite acc i v) s = .next (if i.val < 4 then s.written .SRC_NET_FORMAT i 0 v
       else (s.written .SRC_NET_FORMAT i 0 v).restartSource i)) ∧
   (∀ (s : State) (acc : Accessor) (i : Fin 12) (v : Word), s.Accepts acc .SRC_NET_SIZE i →
     exec (.srcNetSizeWrite acc i v) s = .next (if i.val < 4 then s.written .SRC_NET_SIZE i 0 v
       else (s.written .SRC_NET_SIZE i 0 v).restartSource i)) ∧
   (∀ (s : State) (acc : Accessor) (i : Fin 12) (v : Word), s.Accepts acc .SRC_BASE_HIGH i →
     ∃ t : State, exec (.srcBaseHighWrite acc i v) s = .next (t.restartSource i) ∧
       t.srcBase i = (s.reg .SRC_BASE_LOW i).toNat + 2 ^ 32 * (s.keptValue .SRC_BASE_HIGH i v).toNat ∧
       t = { s with regs := t.regs, pairs := t.pairs }) ∧
   (∀ (s : State) (i : Nat), ∃ t : State, s.restartSource i = t ∧ (t.source i).frame = none ∧
       (t.source i).newest = (s.source i).newest ∧
       ((s.source i).newest.isSome = true → (t.source i).dropNewest = true)))

/-- Skein reads (R23, R153, R154, R160, R161, R166): a skein issues its next needed block while it has fewer than 32
reads out, a slot of the block's channel is free, fewer than 512 credits are used, and it is its turn; a read that returns gives its block to the frame; one that returns
an error is counted, and recorded once a frame; a read for a line already closed is discarded. Parity errors of
skeins and failures of needles (R164, R175, R399, R400): the unit is queued for retirement with its class C
record, and a skein shows stand-in colour from the next line to be composed; a unit already queued or retired gets
a secondary record alone. Where the manual leaves a point open the statement follows the model's choice in log
entries 21 and 38. -/
def Obligations.SkeinReadsAndFailures : Prop :=
  ((∀ (s : State) (n : Fin 96) (a y : Nat) (q : SkeinRec), (s.skein n).outstanding.length < 32 → s.creditsUsed < 512 →
     s.nextRead n = some (a, y) → s.slotFor a = true → s.pattern.skein? n = some q → s.firstSkein q.head = some n.val →
     s.headTurn q.head = true →
     ∃ t : State, exec (.skeinReadIssue n) s = .next t ∧
       (t.skein n).outstanding = (s.skein n).outstanding ++ [(a, y)] ∧
       (t.skein n).fetchLine = max (s.skein n).fetchLine (y + 1) ∧ (t.skein n).blocks = (s.skein n).blocks ∧
       t.store.skeinTurn = some q.head ∧
       t = { s with skeins := t.skeins, store := { s.store with skeinTurn := some q.head } } ∧ (∀ k : Nat, k ≠ n.val → t.skein k = s.skein k)) ∧
   (∀ (s : State) (n : Fin 96), (32 ≤ (s.skein n).outstanding.length ∨ 512 ≤ s.creditsUsed ∨ s.nextRead n = none ∨
       (∀ a y, s.nextRead n = some (a, y) → s.slotFor a = false) ∨
       (∀ q, s.pattern.skein? n = some q → s.firstSkein q.head ≠ some n.val ∨ s.headTurn q.head = false)) →
     exec (.skeinReadIssue n) s = .next s) ∧
   (∀ (s : State) (n : Fin 96) (i a y : Nat) (b : List Byte), (s.skein n).outstanding[i]? = some (a, y) →
     s.storeRead a 256 = .ok b → y ≠ 65536 → (s.skein n).closedLines.any (fun c => c.1 == y) = false →
     ∃ t : State, exec (.skeinReadReturn n i) s = .next t ∧
       (t.skein n).outstanding = (s.skein n).outstanding.eraseIdx i ∧
       (t.skein n).blocks = (a, b) :: (s.skein n).blocks.filter (fun c => c.1 != a) ∧
       (t.skein n).served = (a, y) :: (s.skein n).served ∧
       (t.skein n).badFetch = (s.skein n).badFetch ∧ t = { s with skeins := t.skeins } ∧
       (∀ k : Nat, k ≠ n.val → t.skein k = s.skein k)) ∧
   (∀ (s : State) (n : Fin 96) (i a y : Nat) (e : Nat × Nat), (s.skein n).outstanding[i]? = some (a, y) →
     s.storeRead a 256 = .error e → (s.skein n).badThisFrame = false →
     ∃ t : State, exec (.skeinReadReturn n i) s =
         .next (t.record 0x07 classA [(8, n.val), (8, e.2)] e.1 ((s.pattern.skein? n).map (·.head))) ∧
       (t.skein n).badFetch = satInc (s.skein n).badFetch ∧ (t.skein n).badThisFrame = true ∧
       (t.skein n).outstanding = (s.skein n).outstanding.eraseIdx i ∧ t = { s with skeins := t.skeins } ∧
       (∀ k : Nat, k ≠ n.val → t.skein k = s.skein k)) ∧
   (∀ (s : State) (n : Fin 96) (i : Nat), (s.skein n).outstanding[i]? = none → exec (.skeinReadReturn n i) s = .next s)) ∧
  ((∀ (s : State) (n : Fin 96) (p : SkeinPart) (bad : Bool), (s.skein n).retired = false → (s.skein n).queued = false →
     ∃ t : State, exec (.skeinParityError n p bad) s = .next ((t.record 0x07 classC [(8, n.val), (8, partCause p)] 0
         ((s.pattern.skein? n).map (·.head))).enqueue .skein n (partCause p)) ∧
       (t.skein n).queued = true ∧ (t.skein n).cause = partCause p ∧ (t.skein n).transparent = bad ∧
       (t.skein n).standinFrom = some (s.composeNext (((s.pattern.skein? n).map (·.head)).getD 0)) ∧
       t = { s with skeins := t.skeins } ∧ (∀ k : Nat, k ≠ n.val → t.skein k = s.skein k)) ∧
   (∀ (s : State) (n : Fin 96) (p : SkeinPart) (bad : Bool), ((s.skein n).retired = true ∨ (s.skein n).queued = true) →
     exec (.skeinParityError n p bad) s =
       .next (s.record 0x07 classC [(8, n.val), (8, partCause p)] 0 ((s.pattern.skein? n).map (·.head)) true)) ∧
   (∀ (s : State) (kind : RetireKind) (i cause : Nat), ∃ t : State, s.enqueue kind i cause = t ∧
     t.ledger.queue = s.ledger.queue ++ [⟨kind, i, cause⟩] ∧
     t = { s with ledger := { s.ledger with queue := t.ledger.queue } }) ∧
   (∀ (s : State) (m : Fin 32), ((s.needle m).retired = true ∨ (s.needle m).queued = true) →
     exec (.needleFailure m) s = .next (s.record 0x08 classC [(8, m.val), (8, 1)] 0 (some (s.needleOwner m)) true)) ∧
   (∀ (s : State) (m : Fin 32), (s.needle m).retired = false → (s.needle m).queued = false →
     (∀ n : Nat, n < 96 → (s.skein n).needle ≠ some m.val) →
     ∃ t : State, exec (.needleFailure m) s =
         .next ((t.record 0x08 classC [(8, m.val), (8, 1)] 0 (some (s.needleOwner m))).enqueue .needle m 1) ∧
       (t.needle m).queued = true ∧ (t.needle m).cause = 1 ∧ (t.needle m).retired = false ∧
       t = { s with needles := t.needles } ∧ (∀ k : Nat, k ≠ m.val → t.needle k = s.needle k)))

/-- Background self-test (R176, R177): one idle needle at a time while tests are enabled; a pass counts, a failure
queues the needle with cause 2; a write that brings a needle into service aborts its test, which is abandoned, counts as abandoned
and has no result. Where the manual leaves a point open the statement follows the model's choice in log entry 19. -/
def Obligations.NeedleTests : Prop :=
  (∀ (s : State) (m : Fin 32), bitAt (s.reg .NEEDLE_TEST_CONTROL) 0 = true → s.inService m = false →
    (s.needle m).retired = false → (s.needle m).queued = false → s.needles.any (fun p => p.2.testing) = false →
    ∃ t : State, exec (.needleTestStart m) s = .next t ∧ (t.needle m).testing = true ∧ (t.needle m).draining = false ∧
      t = { s with needles := t.needles } ∧ (∀ k : Nat, k ≠ m.val → t.needle k = s.needle k)) ∧
  (∀ (s : State) (m : Fin 32), (bitAt (s.reg .NEEDLE_TEST_CONTROL) 0 = false ∨ s.inService m = true ∨
      (s.needle m).retired = true ∨ (s.needle m).queued = true ∨ s.needles.any (fun p => p.2.testing) = true) →
    exec (.needleTestStart m) s = .next s) ∧
  (∀ (s : State) (m : Fin 32), (s.needle m).testing = true → (s.needle m).draining = false →
    ∃ t : State, exec (.needleTestDone m true) s = .next t ∧ (t.needle m).testing = false ∧ (t.needle m).lastTest = 1 ∧
      (t.needle m).passes = satInc (s.needle m).passes ∧ t = { s with needles := t.needles } ∧
      (∀ k : Nat, k ≠ m.val → t.needle k = s.needle k)) ∧
  (∀ (s : State) (m : Fin 32), (s.needle m).testing = true → (s.needle m).draining = false →
    exec (.needleTestDone m false) s =
      .next ((s.modNeedle m (fun q => { q with testing := false, lastTest := 2 })).failNeedle m 2)) ∧
  (∀ (s : State) (m : Fin 32) (pass : Bool), ((s.needle m).testing = false ∨ (s.needle m).draining = true) →
    exec (.needleTestDone m pass) s = .next s) ∧
  (∀ (s : State) (m : Fin 32), (s.needle m).testing = true → (s.needle m).draining = true →
    ∃ t : State, exec (.needleTestAbandon m) s = .next t ∧ (t.needle m).testing = false ∧ (t.needle m).lastTest = 3 ∧
      (t.needle m).abandons = satInc (s.needle m).abandons ∧ t = { s with needles := t.needles }) ∧
  (∀ (s : State) (m : Fin 32), ((s.needle m).testing = false ∨ (s.needle m).draining = false) →
    exec (.needleTestAbandon m) s = .next s) ∧
  (∀ (s : State) (acc : Accessor) (n : Fin 96) (v : Word), s.Accepts acc .SKEIN_NEEDLE n →
    exec (.registerWrite acc (BitVec.ofNat 32 (Reg.addr .SKEIN_NEEDLE n 0)) v) s =
      .next (s.tagWrite .SKEIN_NEEDLE n 0 (s.keptValue .SKEIN_NEEDLE n v)).abortTests) ∧
  (∀ (s : State) (m : Nat), (s.needle m).testing = true → s.inService m = true → s.needles.any (fun p => p.1 == m) = true →
    s.needles.Pairwise (fun p q => p.1 < q.1) → (s.abortTests.needle m).draining = true)

/-- DisplayPort (R202, R203): hot plug is seen; the sink is read and training starts where the port is driven; the end of a training leaves
TRAINED when the link carries the raster and TOO_SLOW when not, and FAILED when it found no rate; a lost lock
trains again; RETRAIN of DP_CONFIG trains a link that has read its sink; a sink unplugged leaves NO_SINK. Every
change is carried to the ports' events. Where the manual leaves a point open the statement follows the model's
choice in log entry 13. -/
def Obligations.DisplayPort : Prop :=
  (∀ (s : State) (p : Fin 4), ∃ t : State, exec (.dpHpdHigh p) s = .next t ∧ (t.dpPort p).hpd = true ∧
    (t.dpPort p).state = (s.dpPort p).state ∧ t = { s with dp := t.dp } ∧ (∀ k : Nat, k ≠ p.val → t.dpPort k = s.dpPort k)) ∧
  (∀ (s : State) (p : Fin 4) (k : SinkCaps), (s.dpPort p).hpd = true → (s.portUse p).isSome = true →
    (s.dpPort p).sink = none →
    ∃ t u : State, exec (.dpSinkRead p k) s = .next ((u.startTraining p 0).settlePorts u) ∧ u = t.settlePorts s ∧
      (t.dpPort p).state = 1 ∧ (t.dpPort p).sink = some { k with edid := k.edid.take 512 } ∧ t = { s with dp := t.dp }) ∧
  (∀ (s : State) (p : Fin 4) (k : SinkCaps), (s.dpPort p).hpd = true → s.outputOff = false → (s.portUse p).isNone = true →
    (s.dpPort p).sink = none →
    ∃ t : State, exec (.dpSinkRead p k) s = .next t ∧ (t.dpPort p).sink = some { k with edid := k.edid.take 512 } ∧
      (t.dpPort p).state = (s.dpPort p).state ∧ t = { s with dp := t.dp }) ∧
  (∀ (s : State) (p : Fin 4) (k : SinkCaps), ((s.dpPort p).hpd = false ∨ s.outputOff = true ∨ (s.dpPort p).sink.isSome = true) →
    exec (.dpSinkRead p k) s = .next s) ∧
  (∀ (s : State) (p n : Nat), ∃ t : State, s.startTraining p n = t ∧ (t.dpPort p).state = 2 ∧ (t.dpPort p).attempts = n ∧
    (t.dpPort p).trainings = min 4294967296 ((s.dpPort p).trainings + 1) ∧ t = { s with dp := t.dp }) ∧
  (∀ (s : State) (p : Fin 4) (n : Nat), (s.dpPort p).state = 2 → (s.dpPort p).attempts = 0 →
    (trainSteps (s.trainStart p).1 (s.trainStart p).2).length ≤ n →
    ∃ t : State, exec (.dpTrainingDone p n) s = .next (t.settlePorts s) ∧ (t.dpPort p).state = 5 ∧
      (t.dpPort p).lanes = 0 ∧ t = { s with dp := t.dp }) ∧
  (∀ (s : State) (p : Fin 4) (n : Nat) (k : SinkCaps), (s.dpPort p).sink = some k →
    (trainSteps (s.trainStart p).1 (s.trainStart p).2)[0]? =
      some (min (dpMaxRate (s.reg .DP_CONFIG p)) k.maxRate.val, min (dpMaxLanes (s.reg .DP_CONFIG p)) (laneCount k.maxLanes)) ∧
    (∀ x y, (trainSteps (s.trainStart p).1 (s.trainStart p).2)[n]? = some x →
      (trainSteps (s.trainStart p).1 (s.trainStart p).2)[n + 1]? = some y →
      (y.2 = x.2 ∧ y.1 + 1 = x.1) ∨ (y.1 = 0 ∧ x.1 = 0 ∧ 2 * y.2 = x.2))) ∧
  (∀ (s : State) (p : Fin 4) (n code lanes : Nat), (s.dpPort p).state = 2 →
    (trainSteps (s.trainStart p).1 (s.trainStart p).2)[n]? = some (code, lanes) →
    ∃ t : State, exec (.dpTrainingDone p n) s = .next (t.settlePorts s) ∧
      (t.dpPort p).lanes = lanes ∧ (t.dpPort p).rate = code ∧
      ((t.dpPort p).state = 3 ↔ dpUsable (t.dpPort p).lanes (t.dpPort p).rate (dpBpc (s.reg .DP_CONFIG p))
        ((((s.portUse p).bind s.portRaster).map PortRaster.rate).getD 0) = true) ∧
      ((t.dpPort p).state = 3 ∨ (t.dpPort p).state = 4) ∧ t = { s with dp := t.dp }) ∧
  (∀ (s : State) (p : Fin 4) (n : Nat), (s.dpPort p).state ≠ 2 → exec (.dpTrainingDone p n) s = .next s) ∧
  (∀ (s : State) (p : Fin 4), (s.dpPort p).hpd = true → (s.dpPort p).state = 3 →
    exec (.dpHpdPulse p true) s = .next ((s.startTraining p 1).settlePorts s)) ∧
  (∀ (s : State) (p : Fin 4), exec (.dpHpdPulse p false) s = .next s) ∧
  (∀ (s : State) (p : Fin 4), ∃ t : State, exec (.dpUnplug p) s = .next (t.settlePorts s) ∧ (t.dpPort p).hpd = false ∧
    (t.dpPort p).state = 0 ∧ (t.dpPort p).sink = none ∧ t = { s with dp := t.dp }) ∧
  (∀ (s : State) (acc : Accessor) (p : Fin 4) (v : Word), s.Accepts acc .DP_CONFIG p → 2 ≤ (s.dpPort p).state →
    (s.portUse p).isSome = true → ∃ u : State, u = s.written .DP_CONFIG p 0 (v ||| 0x1000) ∧
    exec (.dpRetrain acc p v) s = .next ((u.startTraining p 0).settlePorts u)) ∧
  (∀ (s : State) (acc : Accessor) (p : Fin 4) (v : Word), s.Accepts acc .DP_CONFIG p → (s.dpPort p).state < 2 →
    exec (.dpConfigWrite acc p v) s = .next (s.written .DP_CONFIG p 0 v))

/-- Raster jobs (R210 to R212, R219, Table 10-4): a valid TARGET begins a frame in the context's bin memory, an
invalid one is bad with reason 2 and leaves no target; a TEXTURE loads its slot or is bad with 3; a DRAW with no
target, with an empty slot or after the bins filled is bad with 2, 3 or 4, and otherwise its triangles are binned;
END_FRAME makes every tile of the target available. With every core retired each of them is bad with 6. The end of
draws and frames, and growth (R210, R219, R220, R222): the oldest open DRAW completes once all it brought is binned and no GROW
wait runs, and a bin memory that fills under POLICY GROW starts the wait and posts the bytes short; a frame whose tiles are all done ends, and its END_FRAME completes, bad with 5 when a tile write
failed; GROW waits that expire post PARTIAL_ENTER with a record and binning goes on under R220; a write of
RE_BIN_GROW_SIZE adds its extent, at most 8, when it lies inside a raster bin region. Where the manual leaves a
point open the statement follows the model's choice in log entries 22, 24, 25 and 26. -/
def Obligations.RasterJobsAndFrames : Prop :=
  ((∀ (s : State) (c : Fin 4) (r : Nat) (b : Started), s.rasterJob c 0x20 = some (r, b) → s.noCore = false →
     (targetOf b.data).valid = true →
     ∃ t : State, exec (.targetBale c) s = .next ((t.scribbleBin c).finishBale r b.index false) ∧
       (t.context c).target = some (targetOf b.data) ∧ (t.context c).textures = [] ∧ (t.context c).tris = [] ∧
       (t.context c).binBase = s.pair .RE_BIN_BASE_LOW c ∧
       t.binCapacity c = s.binCapacity c ∧ (t.context c).binFull = false ∧ (t.context c).drawing = none ∧
       t = { s with raster := { s.raster with contexts := t.raster.contexts } } ∧
       (∀ k : Nat, k ≠ c.val → t.context k = s.context k)) ∧
   (∀ (s : State) (c : Fin 4) (r : Nat) (b : Started), s.rasterJob c 0x20 = some (r, b) → s.noCore = false →
     (targetOf b.data).valid = false →
     ∃ t : State, exec (.targetBale c) s = .next (t.refuseBale r b 2) ∧ (t.context c).target = none ∧
       t = { s with raster := { s.raster with contexts := t.raster.contexts } }) ∧
   (∀ (s : State) (c : Fin 4) (r : Nat) (b : Started), s.rasterJob c 0x21 = some (r, b) → s.noCore = false →
     (textureOf b.data).valid = true →
     ∃ t : State, exec (.textureBale c) s = .next ((t.scribbleBin c).finishBale r b.index false) ∧
       mapGet none (t.context c).textures (textureOf b.data).slot = some (textureOf b.data) ∧
       (t.context c).used = (s.context c).used + 32 ∧
       t = { s with raster := { s.raster with contexts := t.raster.contexts } }) ∧
   (∀ (s : State) (c : Fin 4) (r : Nat) (b : Started), s.rasterJob c 0x21 = some (r, b) → s.noCore = false →
     (textureOf b.data).valid = false → exec (.textureBale c) s = .next (s.refuseBale r b 3)) ∧
   (∀ (s : State) (c : Fin 4) (r : Nat) (b : Started) (g : ReTarget), s.rasterJob c 0x22 = some (r, b) → s.noCore = false →
     (s.context c).target = some g → leAt b.data 0x1D 1 = 0xFF → (s.context c).binFull = false →
     ∃ t : State, exec (.drawBale c) s = .next (t.bin c) ∧ (t.context c).toBin = s.drawTris (s.context c) b.data ∧
       (t.context c).target = some g ∧ (t.context c).drawing = some b.index ∧ t = (s.modStarted r b.index (fun x => { x with taken := true })).modContext c
         (fun q => { q with toBin := s.drawTris (s.context c) b.data, drawing := some b.index })) ∧
   (∀ (s : State) (c : Fin 4) (r : Nat) (b : Started), s.rasterJob c 0x22 = some (r, b) → s.noCore = false →
     (s.context c).target = none → exec (.drawBale c) s = .next (s.refuseBale r b 2)) ∧
   (∀ (s : State) (c : Fin 4) (r : Nat) (b : Started) (g : ReTarget), s.rasterJob c 0x22 = some (r, b) → s.noCore = false →
     (s.context c).target = some g → (s.context c).binFull = true → leAt b.data 0x1D 1 = 0xFF →
     exec (.drawBale c) s = .next (s.refuseBale r b 4)) ∧
   (∀ (s : State) (c : Fin 4) (r : Nat) (b : Started) (g : ReTarget), s.rasterJob c 0x23 = some (r, b) → s.noCore = false →
     (s.context c).target = some g → c.val ≠ 0 →
     ∃ t : State, exec (.endFrameBale c) s = .next t ∧ (t.context c).rendering = true ∧
       (t.context c).tiles.map (·.index) = List.range g.tiles ∧ (∀ x ∈ (t.context c).tiles, x.core = none) ∧
       t.store = s.store ∧ (∀ k : Nat, k ≠ c.val → t.context k = s.context k)) ∧
   (∀ (s : State) (c : Fin 4) (r : Nat) (b : Started) (op : Nat) (f : Nat → Started → State), s.rasterJob c op = some (r, b) →
     s.noCore = true → s.takeJob c op f = s.refuseBale r b 6) ∧
   (∀ (s : State) (c : Fin 4), s.holding = true → exec (.targetBale c) s = .next s ∧ exec (.textureBale c) s = .next s ∧
     exec (.drawBale c) s = .next s ∧ exec (.endFrameBale c) s = .next s)) ∧
  ((∀ (s : State) (c : Fin 4) (d : Nat × Started) (rest : List (Nat × Started)), s.openDraws c = d :: rest →
     ((s.context c).drawing ≠ some d.2.index ∨ ((s.context c).toBin = [] ∧ (s.context c).growWait = false)) →
     exec (.drawBinned c) s = .next (s.finishBale d.1 d.2.index false)) ∧
   (∀ (s : State) (c : Fin 4) (d : Nat × Started) (rest : List (Nat × Started)), s.openDraws c = d :: rest →
     (s.context c).drawing = some d.2.index → ((s.context c).toBin ≠ [] ∨ (s.context c).growWait = true) →
     exec (.drawBinned c) s = .next s) ∧
   (∀ (s : State) (c : Fin 4), s.openDraws c = [] → exec (.drawBinned c) s = .next s) ∧
   (∀ (s : State) (c : Nat) (g : ReTarget) (n : Nat), (s.context c).partialOn = false →
     bitAt (s.reg .RE_CONTEXT_CONTROL c) 1 = false → ∃ t : State, s.binOverflow c g n =
       (t.event 0xC0 ([byteOf c, 0, 0, 0] ++ leBytes 4 n), false) ∧ (t.context c).growWait = true ∧
       (t.context c).grows = satInc (s.context c).grows ∧ (t.context c).toBin = (s.context c).toBin ∧
       t = { s with raster := { s.raster with contexts := t.raster.contexts } }) ∧
   (∀ (s : State) (c : Fin 4), (s.context c).rendering = true → (s.context c).tiles = [] →
     s.routeFor (.raster c) = none → (s.holding = false ∨ (s.context c).writeBad = false) →
     ∃ t : State, exec (.endFrameDone c) s = .next t ∧ (t.context c).rendering = false ∧ (t.context c).target = none ∧ (t.context c).partialOn = false ∧
       (t.context c).frames = satInc (s.context c).frames ∧ (t.context c).extents = [] ∧
       t = { s with raster := { s.raster with contexts := t.raster.contexts } }) ∧
   (∀ (s : State) (c : Fin 4) (r : Nat) (b : Started), (s.context c).rendering = true → (s.context c).tiles = [] →
     s.routeFor (.raster c) = some r →
     (s.route r).started.find? (fun b => b.taken && !b.done && baleOpcode b.data == 0x23) = some b →
     ∃ t : State, (t.context c).rendering = false ∧ (t.context c).frames = satInc (s.context c).frames ∧
       t = { s with raster := { s.raster with contexts := t.raster.contexts } } ∧
       ((s.context c).writeBad = false → exec (.endFrameDone c) s = .next (t.finishBale r b.index false)) ∧
       ((s.context c).writeBad = true → s.holding = false → exec (.endFrameDone c) s = .next (t.refuseBale r b 5)) ∧
       ((s.context c).writeBad = true → s.holding = true → exec (.endFrameDone c) s = .next s)) ∧
   (∀ (s : State) (c : Fin 4), ((s.context c).rendering = false ∨ (s.context c).tiles ≠ []) →
     exec (.endFrameDone c) s = .next s) ∧
   (∀ (s : State) (c : Fin 4), (s.context c).growWait = true →
     ∃ t : State, exec (.growWaitExpiry c) s = .next (((t.event 0xC1 [byteOf c]).record 0x0D classA [] c).bin c) ∧
       (t.context c).growWait = false ∧ (t.context c).partialOn = true ∧
       t = { s with raster := { s.raster with contexts := t.raster.contexts } }) ∧
   (∀ (s : State) (c : Fin 4), (s.context c).growWait = false → exec (.growWaitExpiry c) s = .next s) ∧
   (∀ (s : State) (acc : Accessor) (c : Fin 4) (v : Word), s.Accepts acc .RE_BIN_GROW_SIZE c →
     (s.context c).extents.length < 8 → (s.context c).growWait = false →
     s.inRasterBin (s.pair .RE_BIN_GROW_LOW c) (4096 * (s.keptValue .RE_BIN_GROW_SIZE c v).toNat) = true →
     ∃ t : State, exec (.reBinGrowWrite acc c v) s = .next t ∧
       (t.context c).extents = (s.context c).extents ++
         [(s.pair .RE_BIN_GROW_LOW c, 4096 * (s.keptValue .RE_BIN_GROW_SIZE c v).toNat)] ∧
       t = { s with regs := t.regs, raster := { s.raster with contexts := t.raster.contexts } }) ∧
   (∀ (s : State) (acc : Accessor) (c : Fin 4) (v : Word), s.Accepts acc .RE_BIN_GROW_SIZE c →
     8 ≤ (s.context c).extents.length → exec (.reBinGrowWrite acc c v) s = .next (s.written .RE_BIN_GROW_SIZE c 0 v)))

/-- Cores (R216, R217, R221, R223, R224): an idle core in service takes the pass the scheduler gives it, and its end
parks the tile or finishes it; a core that fails takes no further pass, gives its tiles back and is queued for
retirement; self-tests run on idle cores while enabled; the throttle level follows the temperature and each change
is an event. Where the manual leaves a point open the statement follows the model's choice in log entries 27 and
28. -/
def Obligations.RasterCores : Prop :=
  (∀ (s : State) (k : Fin 8) (c i : Nat), (s.core k).retired = false → (s.core k).queued = false →
    (s.core k).busy = none → s.holding = false → s.passFor k = some (c, i) → (s.core k).testing = false →
    ∃ t : State, exec (.tilePassStart k) s = .next t ∧ (t.core k).busy = some (c, i) ∧
      (t.core k).lastServed = (if c = 0 then (s.core k).lastServed else c) ∧ (t.core k).passes = (s.core k).passes ∧
      (∀ m : Nat, m ≠ k.val → t.core m = s.core m) ∧ (∀ m, m ≠ c → t.context m = s.context m) ∧
      t = { s with raster := { s.raster with contexts := t.raster.contexts, cores := t.raster.cores } }) ∧
  (∀ (s : State) (k : Fin 8), ((s.core k).retired = true ∨ (s.core k).queued = true ∨ (s.core k).busy.isSome = true ∨
    s.holding = true) → exec (.tilePassStart k) s = .next s) ∧
  (∀ (s : State) (k : Fin 8), (s.core k).busy = none → exec (.tilePassDone k) s = .next s) ∧
  (∀ (s : State) (k : Fin 8) (c i : Nat) (x : ReTile), (s.core k).busy = some (c, i) →
    (s.context c).tiles.find? (fun t => t.index == i) = some x →
    ∃ t : State, (t.core k).busy = none ∧ (t.core k).passes = (s.core k).passes + 1 ∧
      t = { s with raster := { s.raster with cores := t.raster.cores } } ∧
      (1 < x.passes → exec (.tilePassDone k) s =
        .next (t.modTile c i (fun t => { t with passes := t.passes - 1, parked := true }))) ∧
      (x.passes ≤ 1 → s.holding = true → exec (.tilePassDone k) s = .next s) ∧
      (x.passes ≤ 1 → s.holding = false → exec (.tilePassDone k) s = .next ((t.finishTile c i false).modContext c (fun q =>
        { q with tiles := q.tiles.filter (fun t => t.index != i) })))) ∧
  (∀ (s : State) (k : Fin 8), ((s.core k).retired = true ∨ (s.core k).queued = true) →
    exec (.rasterCoreFailure k) s = .next (s.record 0x0E classC [] k none true)) ∧
  (∀ (s : State) (k : Fin 8), (s.core k).retired = false → (s.core k).queued = false →
    ∃ t u : State, exec (.rasterCoreFailure k) s = .next u ∧
      u = { t with ledger := { t.ledger with queue := t.ledger.queue ++ [⟨.core, k, 1⟩] } } ∧
      (∃ v : State, t = v.record 0x0E classC [] k ∧ (v.core k).queued = true ∧ (v.core k).busy = none ∧
        (∀ m : Nat, m ≠ k.val → v.core m = s.core m) ∧
        v = { s with raster := { s.raster with contexts := v.raster.contexts, cores := v.raster.cores } })) ∧
  (∀ (s : State) (k : Fin 8), bitAt (s.reg .RE_TEST_CONTROL) 0 = true → (s.core k).retired = false →
    (s.core k).queued = false → (s.core k).testing = false → (s.core k).busy = none →
    (∀ c : Nat, c < 4 → (s.context c).tiles.any (fun t => t.core == some k.val) = false) →
    ∃ t : State, exec (.coreTestStart k) s = .next t ∧ (t.core k).testing = true ∧
      (∀ m : Nat, m ≠ k.val → t.core m = s.core m) ∧ t = { s with raster := { s.raster with cores := t.raster.cores } }) ∧
  (∀ (s : State) (k : Fin 8), (s.core k).testing = true →
    (∃ t : State, exec (.coreTestDone k .pass) s = .next t ∧ (t.core k).testing = false ∧ (t.core k).lastTest = 1 ∧
      t = { s with raster := { s.raster with cores := t.raster.cores } }) ∧
    exec (.coreTestDone k .fail) s =
      .next ((s.modCore k (fun q => { q with testing := false, lastTest := 2 })).failCore k 2)) ∧
  (∀ (s : State) (k : Fin 8) (r : TestResult), (s.core k).testing = false → exec (.coreTestDone k r) s = .next s) ∧
  (∀ (s : State) (n : Nat), 100 ≤ n → s.raster.throttle ≠ 2 → exec (.reThrottleUp n) s =
    .next ((({ s with raster := { s.raster with throttle := 2 } } : State).event 0xC3 [byteOf 2]).record 0x0D classD [] n)) ∧
  (∀ (s : State) (n : Nat), 95 ≤ n → n < 100 → s.raster.throttle = 0 → exec (.reThrottleUp n) s =
    .next (({ s with raster := { s.raster with throttle := 1 } } : State).event 0xC3 [byteOf 1])) ∧
  (∀ (s : State) (n : Nat), n < 95 → exec (.reThrottleUp n) s = .next s) ∧
  (∀ s : State, s.raster.throttle = 0 → exec .reThrottleDown s = .next s) ∧
  (∀ s : State, 0 < s.raster.throttle → s.raster.throttle ≤ 2 → exec .reThrottleDown s = .next
    (({ s with raster := { s.raster with throttle := s.raster.throttle - 1 } } : State).event 0xC3
      [byteOf (s.raster.throttle - 1)]))

/-- The block engine (R231 to R235, R237): GO takes the command as its registers stand, unless one waits or runs; a
route's COPY or FILL bale waits with the others; an operation that may start takes the lowest free slot, and its
bursts issue; the end of DEAD_TIME lets the next burst go; a unit whose read fails is left unwritten with reason
READ and a write that fails gives WRITE, the first failure standing; no bale starts while the register operation and the
routes' bales hold four slots; an operation whose units have all gone ends, counted, clean or bad. Where the manual leaves a point open the statement follows the model's choice in log entries 29, 30
and 31. -/
def Obligations.BlockEngine : Prop :=
  (∀ (s : State) (acc : Accessor) (v : Word), s.Accepts acc .BE_CONTROL → s.regOpBusy = false →
    ∃ t : State, exec (.beCopyGo acc v) s = .next t ∧ exec (.beFillGo acc v) s = .next t ∧
      t.block.regWait = some (s.regOp (bitAt (s.reg .BE_OP) 0) (bitAt v 1)) ∧
      t = { s with regs := t.regs, block := { s.block with regWait := t.block.regWait } }) ∧
  (∀ (s : State) (acc : Accessor) (v : Word), s.Accepts acc .BE_CONTROL → s.regOpBusy = true →
    exec (.beCopyGo acc v) s = .next (s.written .BE_CONTROL 0 0 (v ||| 1)) ∧
    exec (.beFillGo acc v) s = .next (s.written .BE_CONTROL 0 0 (1 ||| v))) ∧
  (∀ (s : State) (r : Fin 16) (b : Started), s.consumer r = .block → s.holding = false → s.nextStarted r 0x30 = some b →
    ∃ t : State, exec (.beCopyBale r) s = .next t ∧
      t.block.waiting = s.block.waiting ++ [baleOp false r b.index b.data] ∧ t.store = s.store ∧
      t = { s with routes := t.routes, block := { s.block with waiting := t.block.waiting } }) ∧
  (∀ (s : State) (r : Fin 16) (b : Started), s.consumer r = .block → s.holding = false → s.nextStarted r 0x31 = some b →
    ∃ t : State, exec (.beFillBale r) s = .next t ∧
      t.block.waiting = s.block.waiting ++ [baleOp true r b.index b.data] ∧ t.store = s.store ∧
      t = { s with routes := t.routes, block := { s.block with waiting := t.block.waiting } }) ∧
  (∀ (s u : State) (o : BlockOp) (k : Nat) (r : BlockRun), s.holding = false → s.nextOp = some o →
    (List.range 4).find? (fun k => (s.slotAt k).isNone) = some k → s.runBlock o = (r, u) → o.bale = none →
    exec .beOpStart s =
      .next ((({ u with block := { u.block with regWait := none } } : State).setSlot k (some r)).drive)) ∧
  (∀ (s : State), s.holding = true ∨ s.nextOp = none → exec .beOpStart s = .next s) ∧
  (∀ (s : State), exec .beDeadTimeExpiry s = .next (({ s with block := { s.block with deadTime := false } } : State).drive)) ∧
  (∀ (s : State) (k : Fin 4) (r : BlockRun), s.slotAt k = some r → r.todo = [] → r.reason = 0 → r.op.bale = none →
    r.op.eventOnDone = false →
    ∃ t : State, exec (.beOpDone k) s = .next t ∧ t.slotAt k = none ∧ t.block.opCount = satInc s.block.opCount ∧
      t.block.regBad = false ∧ t.block.regReason = 0 ∧ t.block.badCount = s.block.badCount ∧ t = { s with block := t.block }) ∧
  (∀ (s : State) (k : Fin 4) (r : BlockRun), s.slotAt k = some r → r.todo = [] → r.reason ≠ 0 → r.op.bale = none →
    r.op.eventOnDone = false →
    ∃ t : State, exec (.beOpDone k) s = .next (t.record 0x0F classA [] r.fault) ∧ t.slotAt k = none ∧
      t.block.opCount = satInc s.block.opCount ∧ t.block.badCount = satInc s.block.badCount ∧ t.block.regBad = true ∧
      t.block.regReason = r.reason ∧ t.block.faultAddr = r.fault ∧ t = { s with block := t.block }) ∧
  (∀ (s : State) (k : Fin 4), s.slotAt k = none → exec (.beOpDone k) s = .next s) ∧
  (∀ (s : State) (k : Fin 4) (r : BlockRun), s.slotAt k = some r → s.holding = true → r.reason ≠ 0 → r.op.bale ≠ none →
    exec (.beOpDone k) s = .next s) ∧
  (∀ (s : State) (r : BlockRun) (d a n : Nat) (e : Nat × Nat), s.storeRead a n = .error e →
    s.moveUnit ⟨d, .read a n⟩ r = (s, r.fails 9 e.1)) ∧
  (∀ (s : State) (r : BlockRun) (m : UnitMove) (bs : List Byte) (e : Option (Nat × Nat)) (u : State),
    s.unitData r m.data = .ok bs → s.storeWrite m.dst bs = (u, e) →
    ∃ t : State, (s.moveUnit m r).1 = t ∧ t = { u with block := t.block } ∧
      t.block.bytes = u.block.bytes + BitVec.ofNat 64 (s.landing m.dst bs.length) ∧
      (s.moveUnit m r).2.reason = (if r.reason = 0 then (if e.isSome then 0xA else 0) else r.reason)) ∧
  (∀ (s : State) (r : BlockRun) (a n : Nat) (bs : List Byte), r.kept = [] → s.storeRead a n = .ok bs →
    s.unitData r (.read a n) = .ok bs) ∧
  (∀ (s : State) (r : Nat), s.consumer r = .block →
    4 ≤ (s.blockRoutes.map s.openCount).foldl (· + ·) (if s.regOpBusy then 1 else 0) →
    (s.route r).resetting = none → (∀ f b rest, (s.route r).fetched = f :: rest → f.data = some b →
      (baleFlag b flagFenceWait || baleFlag b flagFenceSignal) = false) → (∀ f ∈ (s.route r).fetched, f.data.isSome = true) →
    s.startBale r = s)

/-- The time base's source (R239, R240): in standby power TB_SOURCE_SWITCH takes the source the state calls for and
discards the fraction; before standby power, or on that source already, nothing changes; a tick steps TB by 1 on TCLK,
by Table 12-1 on LFCLK, and not before the edge of a switch back. Compare channels (R241 to R247, R255, R258, R259): an
enabled channel matches in service and bring-up when its live value is crossed, the period being added in that cycle,
and in debug hold it counts HOLD_SKIP and adds the periods instead; a match fires its actions, after those of lower
channels, and with no copy of a bale counts a fault; none fires without a crossing; writes of VALUE, PERIOD
and CONFIG wait to become live, and CMP_WRITE_LIVE makes them so; enabling reads the bale again, and a bale read
that fails posts CMP_BALE_FAULT with a record and leaves no copy. Where the manual leaves a point open the statement
follows the model's choice in log entries 1 and 14. -/
def Obligations.TimeBaseAndCompare : Prop :=
  ((∀ s : State, s.power.standby = true → s.time.lfclk ≠ s.wantsLfclk →
     ∃ t : State, exec .tbSourceSwitch s = .next t ∧ t.time.lfclk = s.wantsLfclk ∧ t.time.lfAcc = 0 ∧
       t.time.tb = s.time.tb ∧ t = { s with time := { s.time with lfclk := s.wantsLfclk, lfAcc := 0 } }) ∧
   (∀ s : State, s.power.standby = false ∨ s.time.lfclk = s.wantsLfclk → exec .tbSourceSwitch s = .next s) ∧
   (∀ s : State, s.wantsLfclk = true ↔ s.holding = true ∨ s.boot.clocks = false) ∧
   (∀ s : State, s.time.lfclk = false → s.boot.clocks = true → s.tbStep = (1, 0)) ∧
   (∀ s : State, s.time.lfclk = true → s.wantsLfclk = true →
     s.tbStep = (3051 + (s.time.lfAcc + 97) / 128, (s.time.lfAcc + 97) % 128)) ∧
   (∀ s : State, s.time.lfclk = true → s.wantsLfclk = false → s.tbStep = (0, s.time.lfAcc)) ∧
   (∀ s : State, s.pending = [] → s.power.standby = true → s.settleCycle.wantsLfclk = true →
     ∃ t u : State, step s = .next t ∧ u = s.settleCycle ∧
       t.time.tb = u.time.tb + BitVec.ofNat 64 u.tbStep.1 ∧ t.time.lfAcc = u.tbStep.2 ∧
       t = { u with time := { u.time with cmp := t.time.cmp, tb := t.time.tb, lfAcc := t.time.lfAcc } })) ∧
  ((∀ (s : State) (n : Fin 32) (v : BitVec 64), (s.cmp n).crossed = some v → (∀ k < n.val, (s.cmp k).crossed = none) →
     exec (.cmpMatch n) s =
       .next (((s.modCmp n (fun c => { c with crossed := none })).cmpFire n v).settleGpo s)) ∧
   (∀ (s : State) (n : Nat) (v : BitVec 64), cmpPost (s.reg .CMP_CONFIG n) = false →
     cmpAction (s.reg .CMP_CONFIG n) = 0 → cmpEvent (s.reg .CMP_CONFIG n) = false →
     ∃ t : State, s.cmpFire n v = t ∧ (t.cmp n).matchCount = (s.cmp n).matchCount + 1 ∧
       (t.cmp n).faultCount = (if (s.cmp n).bale = none then satInc (s.cmp n).faultCount else (s.cmp n).faultCount) ∧
       (t.cmp n).live = (s.cmp n).live ∧ (t.cmp n).enable = (s.cmp n).enable ∧
       (∀ k : Nat, k ≠ n → t.cmp k = s.cmp k) ∧ t = { s with time := { s.time with cmp := t.time.cmp } }) ∧
   (∀ (s : State) (n : Fin 32), (∀ k ≤ n.val, (s.cmp k).crossed = none) →
     exec (.cmpMatch n) s = .next (s.settleGpo s)) ∧
   (∀ (s : State) (d n : Nat), (s.cmp n).enable = true → s.holding = false → s.cmpActive = true →
     crosses s.time.tb d (s.cmp n).live = true →
     ∃ t : State, s.judgeCmp d n = t ∧ (t.cmp n).crossed = some (s.cmp n).live ∧
       (t.cmp n).live = (s.cmp n).live + (s.cmp n).period.setWidth 64 ∧
       t = { s with time := { s.time with cmp := t.time.cmp } }) ∧
   (∀ (s : State) (d n : Nat), ((s.cmp n).enable = false ∨ (s.holding = false ∧ (s.cmpActive = false ∨
     crosses s.time.tb d (s.cmp n).live = false))) → s.judgeCmp d n = s) ∧
   (∀ (s : State) (d n : Nat), (s.cmp n).enable = true → s.holding = true →
     ∃ (t : State) (k : Nat), s.judgeCmp d n = t ∧ k = crossings s.time.tb d (s.cmp n).live (s.cmp n).period.toNat ∧
       (t.cmp n).crossed = (s.cmp n).crossed ∧ (t.cmp n).holdSkip = min 0xFFFF ((s.cmp n).holdSkip + k) ∧
       (t.cmp n).live = (s.cmp n).live + BitVec.ofNat 64 (k * (s.cmp n).period.toNat) ∧
       t = { s with time := { s.time with cmp := t.time.cmp } }) ∧
   (∀ (s : State) (n : Nat), (s.cmp n).bale = none →
     ∃ t : State, s.cmpHandOver n = t ∧ (t.cmp n).faultCount = satInc (s.cmp n).faultCount ∧ t.routes = s.routes) ∧
   (∀ (s : State) (n : Nat) (b : Bale), (s.cmp n).bale = some b → cmpPost (s.reg .CMP_CONFIG n) = true →
     s.cmpHandOver n = (s.postInternal (cmpRoute (s.reg .CMP_CONFIG n)) b (.cmp n)).readCmpBale n false) ∧
   (∀ (s : State) (n : Fin 32), (s.cmp n).configDue = false → (s.cmp n).valueDue = true →
     ∃ t : State, exec (.cmpWriteLive n) s = .next (t.settleGpo s) ∧
       (t.cmp n).live = BitVec.ofNat 64 (s.pair .CMP_VALUE_LOW n) ∧ (t.cmp n).valueDue = false ∧
       (t.cmp n).enable = (s.cmp n).enable ∧ t = { s with time := { s.time with cmp := t.time.cmp } }) ∧
   (∀ (s : State) (n : Fin 32), (s.cmp n).configDue = true → bitAt (s.reg .CMP_CONFIG n) 1 = false →
     ∃ t : State, exec (.cmpWriteLive n) s = .next (t.settleGpo s) ∧
       (t.cmp n).enable = bitAt (s.reg .CMP_CONFIG n) 0 ∧ (t.cmp n).period = s.reg .CMP_PERIOD n ∧
       (t.cmp n).configDue = false ∧ t = { s with time := { s.time with cmp := t.time.cmp } }) ∧
   (∀ (s : State) (acc : Accessor) (n : Fin 32) (v : Word), s.Accepts acc .CMP_CONFIG n →
     ∃ t : State, exec (.cmpConfigWrite acc n v) s = .next t ∧ (t.cmp n).configDue = true ∧
       (t.cmp n).enable = (s.cmp n).enable ∧ (t.cmp n).live = (s.cmp n).live ∧
       (bitAt (s.keptValue .CMP_CONFIG n v) 0 = true → bitAt (s.reg .CMP_CONFIG n) 0 = false →
         (t.cmp n).reading = some (s.pair .CMP_BALE_ADDR_LOW n) ∧ (t.cmp n).bale = none) ∧
       (∀ k : Nat, k ≠ n.val → t.cmp k = s.cmp k) ∧ t = { s with regs := t.regs, time := { s.time with cmp := t.time.cmp } }) ∧
   (∀ (s : State) (acc : Accessor) (n : Fin 32) (v : Word), s.Accepts acc .CMP_VALUE_HIGH n →
     ∃ t : State, exec (.cmpValueHighWrite acc n v) s = .next t ∧ (t.cmp n).valueDue = true ∧
       (t.cmp n).live = (s.cmp n).live ∧
       t.pair .CMP_VALUE_LOW n = (s.reg .CMP_VALUE_LOW n).toNat + 2 ^ 32 * (s.keptValue .CMP_VALUE_HIGH n v).toNat ∧
       t = { s with regs := t.regs, pairs := t.pairs, time := { s.time with cmp := t.time.cmp } }) ∧
   (∀ (s : State) (acc : Accessor) (n : Fin 32) (v : Word), s.Accepts acc .CMP_BALE_ADDR_HIGH n →
     ∃ t : State, exec (.cmpBaleAddrHighWrite acc n v) s = .next t ∧ (t.cmp n).bale = none ∧
       (t.cmp n).reading = some (t.pair .CMP_BALE_ADDR_LOW n) ∧
       t.pair .CMP_BALE_ADDR_LOW n =
         (s.reg .CMP_BALE_ADDR_LOW n).toNat + 2 ^ 32 * (s.keptValue .CMP_BALE_ADDR_HIGH n v).toNat ∧
       t = { s with regs := t.regs, pairs := t.pairs, time := { s.time with cmp := t.time.cmp } }) ∧
   (∀ (s : State) (n : Fin 32) (a : Nat) (b : List Byte), (s.cmp n).reading = some a →
     s.storeRead a 64 = .ok b →
     ∃ t : State, exec (.cmpBaleReadDone n) s = .next t ∧ (t.cmp n).bale = some b ∧ (t.cmp n).reading = none ∧
       t = { s with time := { s.time with cmp := t.time.cmp } }) ∧
   (∀ (s : State) (n : Fin 32) (a : Nat) (e : Nat × Nat), (s.cmp n).reading = some a →
     s.storeRead a 64 = .error e →
     ∃ t : State, exec (.cmpBaleReadDone n) s = .next ((t.event 0xD2 ([byteOf n, byteOf e.2, 0, 0, 0, 0, 0, 0] ++
         leBytes 8 a)).record 0x10 classA [] a) ∧
       (t.cmp n).bale = none ∧ (t.cmp n).reading = none ∧ t = { s with time := { s.time with cmp := t.time.cmp } }) ∧
   (∀ (s : State) (n : Fin 32), (s.cmp n).reading = none → exec (.cmpBaleReadDone n) s = .next s))

/-- Counters and GPIO (R248 to R253, R256): each TCLK cycle counts by the mode; a wrap counts and posts CNT_WRAP, no more than once in a millisecond; elsewhere
CNT_WRAP does nothing; CNT_LOAD puts the counter at its value, and takes the place of a wrap of that cycle; a pulse's end opens its cue; a RAW input follows at
once, a FILTERED one when its time has passed. Where the manual leaves a point open the statement follows the
model's choice in log entries 1 and 15. -/
def Obligations.CountersAndGpio : Prop :=
  (∀ (s : State) (k : Fin 8) (x : Word × Bool), (s.cnt k).wrapFrom = some x → bitAt (s.reg .CNT_CONFIG k) 4 = false →
    ∃ t : State, exec (.cntWrap k) s = .next t ∧
      (t.cnt k) = { s.cnt k with wrapFrom := none, wraps := (s.cnt k).wraps + 1 } ∧
      t = { s with time := { s.time with cnt := t.time.cnt } } ∧ (∀ n : Nat, n ≠ k.val → t.cnt n = s.cnt n)) ∧
  (∀ (s : State) (k : Fin 8) (x : Word × Bool), (s.cnt k).wrapFrom = some x → bitAt (s.reg .CNT_CONFIG k) 4 = true →
    (s.cnt k).lastEvent = none →
    ∃ t : State, exec (.cntWrap k) s =
        .next (t.event 0xD0 ([byteOf k, 0, 0, 0] ++ leBytes 4 ((s.cnt k).wraps + 1).toNat)) ∧
      (t.cnt k).wraps = (s.cnt k).wraps + 1 ∧ (t.cnt k).count = (s.cnt k).count ∧ (t.cnt k).lastEvent = some s.time.tb.toNat ∧
      t = { s with time := { s.time with cnt := t.time.cnt } }) ∧
  (∀ (s : State) (k : Fin 8), (s.cnt k).wrapFrom = none → exec (.cntWrap k) s = .next s) ∧
  (∀ (s : State) (k : Nat), ∃ t : State, s.cntTick k = t ∧ (t.cnt k).count = (s.cntNext k).1.count ∧
    (t.cnt k).reload = (s.cntNext k).1.reload ∧ (t.cnt k).down = (s.cntNext k).1.down ∧
    ((s.cntNext k).2 = true → (t.cnt k).wrapFrom = some ((s.cnt k).reload, (s.cnt k).down)) ∧
    (∀ n : Nat, n ≠ k → t.cnt n = s.cnt n) ∧ t = { s with time := { s.time with cnt := t.time.cnt } }) ∧
  (∀ (c : CntSt) (g : Bool) (v : Word), c.count = 0 → cntStep c 2 g v = ({ c with count := v, reload := v }, true)) ∧
  (∀ (c : CntSt) (g : Bool) (v : Word), c.count ≠ 0 → cntStep c 2 g v = ({ c with count := c.count - 1 }, false)) ∧
  (∀ (c : CntSt) (v : Word), cntStep c 3 false v = (c, false) ∧
    cntStep c 3 true v = ({ c with count := c.count + 1 }, c.count == 0xFFFFFFFF)) ∧
  (∀ (s : State) (acc : Accessor) (k : Fin 8) (v : Word), s.Accepts acc .CNT_LOAD k →
    ∃ t : State, exec (.cntLoadWrite acc k v) s = .next t ∧ (t.cnt k).count = v ∧ (t.cnt k).wraps = (s.cnt k).wraps ∧
      (t.cnt k).wrapFrom = none ∧ (∀ r d, (s.cnt k).wrapFrom = some (r, d) → (t.cnt k).reload = r) ∧
      (∀ n : Nat, n ≠ k.val → t.cnt n = s.cnt n) ∧ t = { s with regs := t.regs, time := { s.time with cnt := t.time.cnt } }) ∧
  (∀ (s : State) (p : Fin 8), s.time.gpoPulse.getLsbD p = true →
    ∃ t : State, exec (.gpoPulseEnd p) s = .next (t.settleGpo s) ∧ t.time.gpoCue.getLsbD p = false ∧
      t.time.gpoPulse.getLsbD p = false ∧ (∀ q : Fin 8, q ≠ p → t.time.gpoCue.getLsbD q = s.time.gpoCue.getLsbD q) ∧
      t = { s with time := { s.time with gpoCue := t.time.gpoCue, gpoPulse := t.time.gpoPulse } }) ∧
  (∀ (s : State) (p : Fin 8), s.time.gpoPulse.getLsbD p = false → exec (.gpoPulseEnd p) s = .next (s.settleGpo s)) ∧
  (∀ (s : State) (p : Fin 8) (level : Bool), s.boot.regsUp = true → s.pattern.gpioFn p ≠ 1 →
    ∃ t : State, exec (.gpiInputChange p level) s = .next t ∧ t.gpiLevel p = level ∧ t.time.gpiIn.getLsbD p = level ∧
      t = { s with time := { s.time with gpiIn := t.time.gpiIn, gpiState := t.time.gpiState } }) ∧
  (∀ (s : State) (p : Fin 8) (level : Bool), s.pattern.gpioFn p = 1 →
    ∃ t : State, exec (.gpiInputChange p level) s = .next t ∧ t.gpiLevel p = s.gpiLevel p ∧
      t.time.gpiIn.getLsbD p = level ∧ t = { s with time := { s.time with gpiIn := t.time.gpiIn } }) ∧
  (∀ (s : State) (p : Fin 8), s.boot.regsUp = true →
    ∃ t : State, exec (.gpiFilterExpiry p) s = .next t ∧ t.gpiLevel p = s.time.gpiIn.getLsbD p ∧
      t = { s with time := { s.time with gpiState := t.time.gpiState } }) ∧
  (∀ s : State, ∃ t : State, s.settleGpo s = t ∧ (∀ q, t.gpoDriven q = s.gpoDriven q) ∧
    t = { s with time := { s.time with gpoTripped := t.time.gpoTripped } })

/-- Addresses, links and console data of the network (R131, R262, R264, R279, R280, R286, R288): ARP and ICMP echoes
for the port's own address are answered while it is ready; a port asks for a lease under a transaction identifier, and
of the answers to it an OFFER is asked for, an ACK gives the lease, and any other server's message is discarded; the
lease's expiry takes it away with a record; a query is answered by reports; a link comes up over a supplied module at
the speed chosen, and not where the far end runs at another; a link change posts NET_LINK, a port that becomes ready
joins its groups, and a write of NET_CONFIG drops the link; a write of NET_ADDRESS that leaves no address records its
loss; console data for no universe of the pattern, in preview or of another start code is only counted as ignored. Where the manual leaves a point open the statement follows the model's choice in log
entries 8, 33, 34, 37, 77, 149 and 150. -/
def Obligations.NetworkPorts : Prop :=
  (∀ (s : State) (p : Fin 2) (m : BitVec 48) (a : Word), s.netReady p = true → s.boot.regsUp = true →
    exec (.arpRequest p m a (s.addressOf p)) s = .next (s.sendNet p 0 (.arpReply m a))) ∧
  (∀ (s : State) (p : Fin 2) (m : BitVec 48) (a b : Word), (s.netReady p = false ∨ b ≠ s.addressOf p) →
    exec (.arpRequest p m a b) s = .next s) ∧
  (∀ (s : State) (p : Fin 2) (a : Word) (msg : List Byte), s.netReady p = true → s.boot.regsUp = true →
    (24 + msg.length ≤ 1500 → exec (.icmpEcho p a (s.addressOf p) msg) s = .next (s.sendNet p 0 (.icmpReply a msg))) ∧
    (1500 < 24 + msg.length → exec (.icmpEcho p a (s.addressOf p) msg) s = .next s)) ∧
  (∀ (s : State) (p dscp : Nat) (m : NetMsg), ∃ t : State, s.sendNet p dscp m = t ∧
    t.wire = s.wire ++ [.net p (s.vlanTag p) dscp m] ∧ (t.netPort p).tx = satInc (s.netPort p).tx ∧
    t = { s with wire := t.wire, net := { s.net with ports := t.net.ports } }) ∧
  (∀ (s : State) (p : Fin 2) (r : DhcpReply), s.dhcpRuns p = true → (s.netPort p).xid = some r.xid →
    r.chaddr = Config.portMac p → r.kind = 5 →
    ∃ t : State, exec (.dhcpReply p ⟨r.kind, r.xid, r.chaddr⟩ ⟨r.address, r.netmask, r.gateway⟩ r.server) s = .next (t.settleJoins s p) ∧ t.addressOf p = r.address ∧
      (t.netPort p).netmask = r.netmask ∧ (t.netPort p).gateway = r.gateway ∧ (t.netPort p).xid = none ∧
      t = { s with net := { s.net with ports := t.net.ports } }) ∧
  (∀ (s : State) (p : Fin 2) (r : DhcpReply), s.dhcpRuns p = true → (s.netPort p).xid = some r.xid →
    r.chaddr = Config.portMac p → r.kind = 2 → (s.netPort p).leased = false →
    exec (.dhcpReply p ⟨r.kind, r.xid, r.chaddr⟩ ⟨r.address, r.netmask, r.gateway⟩ r.server) s = .next (s.sendNet p 0 (.dhcpRequest r.xid r.address r.server))) ∧
  (∀ (s : State) (p : Fin 2) (r : DhcpReply), (s.dhcpRuns p = false ∨ (s.netPort p).xid ≠ some r.xid ∨
    r.chaddr ≠ Config.portMac p) → exec (.dhcpReply p ⟨r.kind, r.xid, r.chaddr⟩ ⟨r.address, r.netmask, r.gateway⟩ r.server) s = .next (s.netDiscard p)) ∧
  (∀ s : State, ∀ p : Nat, s.netReady p = true → ∀ g, s.groupsOf p = [g] → ∀ u : State, u.netReady p = false →
    s.settleJoins u p = s.sendNet p 48 (.igmpJoin g.1 g.2)) ∧
  (∀ (s : State) (p : Fin 2), s.dhcpOn p = true → (s.netPort p).leased = true → s.net.owner = .none →
    ∃ t : State, exec (.dhcpLeaseExpiry p) s = .next (t.record 0x12 classA [(8, p.val)] 0) ∧ t.addressOf p = 0 ∧
      t = { s with net := { s.net with ports := t.net.ports } }) ∧
  (∀ (s : State) (p : Fin 2), s.dhcpRuns p = true →
    ∃ (t : State) (x : Word), exec (.dhcpLeaseRequest p) s = .next (t.sendNet p 0 (if (s.netPort p).leased then
        .dhcpRequest x (s.netPort p).address 0 else .dhcpDiscover x)) ∧ (t.netPort p).xid = some x ∧
      (t.netPort p).leased = (s.netPort p).leased ∧
      t = { s with freeCount := s.freeCount + 1, net := { s.net with ports := t.net.ports } }) ∧
  (∀ (s : State) (p : Fin 2), s.dhcpRuns p = false → exec (.dhcpLeaseRequest p) s = .next s) ∧
  (∀ (s : State) (p : Fin 2) (g : Option Word) (l : List Word), s.boot.regsUp = false →
    exec (.igmpQuery p ⟨g, l⟩) s = .next s) ∧
  (∀ (s : State) (p : Fin 2) (g : Word × Word), s.boot.regsUp = true → s.groupsOf p = [g] → s.netReady p = true →
    exec (.igmpQuery p ⟨none, []⟩) s = .next (s.sendNet p 48 (.igmpJoin g.1 g.2)) ∧
    exec (.igmpQuery p ⟨some g.1, []⟩) s = .next (s.sendNet p 48 (.igmpJoin g.1 g.2)) ∧
    (g.2 ≠ 0 → exec (.igmpQuery p ⟨some g.1, [g.2]⟩) s = .next (s.sendNet p 48 (.igmpJoin g.1 g.2)))) ∧
  (∀ (s : State) (p : Fin 2), s.boot.regsUp = true → (s.netPort p).link = false → s.linkable p = true →
    ∃ t : State, exec (.netLink p true (s.speedChosen p)) s = .next ((t.event 0xD9 [byteOf p, 1, byteOf (s.speedChosen p)]).settleJoins s p) ∧
      (t.netPort p).link = true ∧ (t.netPort p).speed = s.speedChosen p ∧
      t = { s with net := { s.net with ports := t.net.ports } }) ∧
  (∀ (s : State) (p : Fin 2) (speed : Nat), s.boot.regsUp = true → (s.linkable p = false ∨ speed ≠ s.speedChosen p) →
    exec (.netLink p true speed) s = .next s) ∧
  (∀ (s : State) (p : Nat), (s.sfpModule p = none ∨ s.chassis.sfpFault.getLsbD p = true) → s.linkable p = false) ∧
  (∀ (s : State) (p : Fin 2) (speed : Nat), s.boot.regsUp = true → (s.netPort p).link = true →
    ∃ t : State, exec (.netLink p false speed) s = .next (((t.event 0xD9 [byteOf p, 0, byteOf (s.netPort p).speed]).record
        0x12 classA [(8, p.val)] 0).settleJoins s p) ∧
      (t.netPort p).link = false ∧ (t.netPort p).speed = 0 ∧ t = { s with net := { s.net with ports := t.net.ports } }) ∧
  (∀ (s u : State) (p : Nat), (s.addressOf p = 0 ∨ u.addressOf p ≠ 0) → u.settleAddress s p = u) ∧
  (∀ (s u : State) (p : Nat), s.addressOf p ≠ 0 → u.addressOf p = 0 →
    u.settleAddress s p = u.record 0x12 classA [(8, p)] 0) ∧
  (∀ (s : State) (acc : Accessor) (p : Fin 2) (v : Word), s.Accepts acc .NET_CONFIG p → (s.netPort p).link = false →
    ∃ t : State, exec (.netConfigWrite acc p v) s = .next (t.settleAddress s p) ∧ t.stored .NET_CONFIG p = s.keptValue .NET_CONFIG p v ∧
      t.reg .NET_CONFIG p = s.keptValue .NET_CONFIG p v ∧ (t.netPort p).link = false ∧
      t = { s with regs := t.regs, nv := t.nv, net := { s.net with ports := t.net.ports } }) ∧
  (∀ (s : State) (p : Fin 2) (k : E131), s.netReady p = true → s.boot.regsUp = true →
    ((∀ r ∈ s.pattern.universes, r.universe' ≠ k.number) ∨ k.preview = true ∨ k.startCode ≠ 0) →
    exec (.e131Packet p k) s = .next s.consoleIgnore) ∧
  (∀ (s : State) (p : Fin 2) (k : E131) (u : Nat), s.netReady p = true → s.boot.regsUp = true →
    s.pattern.universes.findIdx? (fun r => r.universe' == k.number) = some u → k.preview = false → k.startCode = 0 →
    k.priority ≤ 200 → exec (.e131Packet p k) s = .next (s.takeConsole u k)) ∧
  (∀ (s : State) (u : Nat) (k : E131), (s.universe' u).sources = [] → k.terminated = false →
    ∃ t : State, s.takeConsole u k = t.updateUniverse u { (s.universe' u) with
        sources := [⟨k.cid, k.priority, k.sequence.toNat, s.net.packetOrder + 1, padTo 512 k.slots⟩], heard := true } ∧
      t = { s with net := { s.net with packetOrder := s.net.packetOrder + 1 } }) ∧
  (∀ (s : State) (u : Fin 64) (cid : BitVec 128), (s.universe' u).sources.any (fun q => q.cid == cid) = true →
    exec (.e131SourceTimeout u cid) s = .next (s.updateUniverse u { (s.universe' u) with
      sources := (s.universe' u).sources.filter (fun q => q.cid != cid) })) ∧
  (∀ (s : State) (u : Fin 64) (cid : BitVec 128), (s.universe' u).sources.any (fun q => q.cid == cid) = false →
    exec (.e131SourceTimeout u cid) s = .next s)

/-- Which Purl requests run (R61, R265, R267, R270, R271, R273, R274, R379): on a port Purl does not serve, a request is discarded; one
of an unknown session, or of one bound to another address, is refused, a WRITE so refused leaving its violation; a repeat
gets the response kept, through the port it came by, and runs no second time, a repeat of one in flight gets none; a
seventeenth request of a session in flight is BUSY; one that finds others of its session in flight waits for them, and
those that wait run in their order; session 0 is one for each address and UDP port; a challenge's session number and
nonce are none of those given before. Claims and
the end of an owner session (R271, R272, R286, R287): step 1 answers with a challenge, or BUSY while the address
is locked out, or OWNED; step 2 with the right MAC makes the client the owner, with a wrong one is AUTH, recorded
and locks the address out, and the MAC is judged before ownership; an offer lasts 2 s; the lockout ends; RELEASE
and a timeout end the session, the timeout with its record. Where the manual leaves a point open the statement
follows the model's choice in log entries 36, 53, 54, 56 and 57. -/
def Obligations.PurlSessions : Prop :=
  ((∀ (s : State) (req : PurlReq) (b : PurlBody), s.PurlRuns req b.opcode → (b.ownerOnly = false ∨ s.ownerReq req = true) →
     s.purl req b = s.runPurl req b) ∧
   (∀ (s : State) (req : PurlReq) (b : PurlBody), s.PurlRuns req b.opcode → b.ownerOnly = true → s.ownerReq req = false →
     s.purl req b = (s.notOwnerLeaves req b).answer req b.opcode stNotOwner [] b.param) ∧
   (∀ (s : State) (req : PurlReq) (b : PurlBody), s.purlServed req.client.net = false →
     s.purl req b = s.netDiscard req.client.net) ∧
   (∀ (s : State) (req : PurlReq) (b : PurlBody), s.purlServed req.client.net = true → s.keptReply req b.opcode = none →
     s.flightOf req = [] → s.sessionRefusal req b.opcode = some stSession →
     s.purl req b = s.purlReply req b.opcode stSession [] false none b.param) ∧
   (∀ (s : State) (req : PurlReq) (b : PurlBody), s.purlServed req.client.net = true → s.keptReply req b.opcode = none →
     s.flightOf req = [] → s.sessionRefusal req b.opcode = some stNotOwner →
     s.purl req b = (s.notOwnerLeaves req b).purlReply req b.opcode stNotOwner [] false none b.param) ∧
   (∀ (s : State) (req : PurlReq) (b : PurlBody) (m : NetMsg), s.purlServed req.client.net = true →
     s.keptReply req b.opcode = some m →
     ∃ t : State, s.purl req b = t ∧ t.wire = s.wire ++ [.net req.client.net (s.vlanTag req.client.net)
         (fld (s.reg .PURL_CONFIG) 16 6) (m.to req.client)] ∧
       t.net.duplicateCount = satInc s.net.duplicateCount ∧ t.regs = s.regs ∧ t.store = s.store ∧ t.routes = s.routes ∧
       t = { s with wire := t.wire, net := t.net }) ∧
   (∀ (s : State) (req : PurlReq) (b : PurlBody), s.purlServed req.client.net = true → s.keptReply req b.opcode = none →
     s.net.flight.any (fun f => f.names req b.opcode) = true →
     s.purl req b = { s with net := { s.net with duplicateCount := satInc s.net.duplicateCount } }) ∧
   (∀ (s : State) (req : PurlReq) (b : PurlBody), s.purlServed req.client.net = true → s.keptReply req b.opcode = none →
     s.net.flight.any (fun f => f.names req b.opcode) = false → 16 ≤ (s.flightOf req).length →
     s.purl req b = s.answer req b.opcode stBusy [] b.param) ∧
   (∀ (s : State) (req : PurlReq) (b : PurlBody), s.purlServed req.client.net = true → s.keptReply req b.opcode = none →
     s.net.flight.any (fun f => f.names req b.opcode) = false → (s.flightOf req).length < 16 → s.flightOf req ≠ [] →
     ∃ t : State, s.purl req b = t ∧
       t.net.flight = s.net.flight ++ [⟨req.client, req.session, req.seq, b, false⟩] ∧
       t = { s with net := { s.net with flight := t.net.flight } }) ∧
   (∀ (s : State) (req : PurlReq) (n : Nat), s.flightOf req = [] → State.runHeld req n s = s) ∧
   (∀ (s : State) (req : PurlReq) (n : Nat) (f : Flight), s.flightOf req = [f] → f.begun = false →
     State.runHeld req (n + 1) s = State.runHeld req n (({ s with net := { s.net with
       flight := s.net.flight.erase f } } : State).judgePurl ⟨f.client, f.seq, f.session⟩ f.body)) ∧
   (∀ (s : State) (a : Nat) (req : PurlReq) (ws : List Word) (w : Bool), s.notOwnerLeaves req (.write a ws w) =
     (s.writeAccess (.purl req.client req.session) a (ws.headD 0)).1) ∧
   (∀ (c d : Client), sameSession c 0 d 0 = true ↔ (c.addr = d.addr ∧ c.port = d.port)) ∧
   (∀ s : State, s.net.offers.length + 2 < 2 ^ 32 → ∃ o, s.freshOffer.1 = o ∧ o.session ≠ 0 ∧ (∀ x ∈ s.net.offers, x.session ≠ o.session ∧ x.nonce ≠ o.nonce) ∧
     o.live = true ∧ o.secret = s.net.secret) ∧
   (∀ (s : State) (req : PurlReq) (op : Nat), req.session ≠ 0 → s.net.owner = .none → s.net.offers = [] →
     s.sessionRefusal req op = some stSession) ∧
   (∀ (s : State) (req : PurlReq) (c : Client) (op : Nat), req.session ≠ 0 → s.net.owner = .purl c req.session →
     c ≠ req.client → s.sessionRefusal req op = some stNotOwner)) ∧
  ((∀ (s : State) (req : PurlReq), s.PurlRuns req opClaim → req.session = 0 →
     s.net.lockouts.contains req.client.addr = false → s.owned = false →
     ∃ (t : State) (o : Offer), exec (.claimChallenge req) s =
         .next (t.purlReply req opClaim stChallenge (beBytes 32 o.nonce.toNat) true (some o.session)) ∧
       t.net.offers = s.net.offers ++ [o] ∧ o.live = true ∧ o.secret = s.net.secret ∧
       t = { s with freeCount := s.freeCount + 1, net := { s.net with offers := t.net.offers } }) ∧
   (∀ (s : State) (req : PurlReq), s.PurlRuns req opClaim → req.session = 0 →
     s.net.lockouts.contains req.client.addr = true → exec (.claimChallenge req) s = .next (s.answer req opClaim stBusy)) ∧
   (∀ (s : State) (req : PurlReq), s.PurlRuns req opClaim → req.session = 0 →
     s.net.lockouts.contains req.client.addr = false → s.owned = true →
     exec (.claimChallenge req) s = .next (s.answer req opClaim stOwned)) ∧
   (∀ (s : State) (req : PurlReq) (o : Offer) (mac : BitVec 256), s.PurlRuns req opClaim → req.session ≠ 0 →
     s.ownerReq req = false → s.owned = false →
     s.net.offers.find? (fun o => o.session == req.session && o.live) = some o →
     beBytes 32 mac.toNat = o.mac (beBytes 4 req.client.addr.toNat ++ beBytes 2 req.client.port.toNat) →
     exec (.claimResponse req mac) s = .next ((((s.spendOffer req.session).beginOwner
       (.purl req.client req.session)).ownerEvent ownerClaimed 0 req.client.addr.toNat).answer req opClaim stOk)) ∧
   (∀ (s : State) (req : PurlReq) (o : Offer) (mac : BitVec 256), s.PurlRuns req opClaim → req.session ≠ 0 →
     s.ownerReq req = false → s.net.offers.find? (fun o => o.session == req.session && o.live) = some o →
     beBytes 32 mac.toNat ≠ o.mac (beBytes 4 req.client.addr.toNat ++ beBytes 2 req.client.port.toNat) →
     ∃ t : State, exec (.claimResponse req mac) s =
         .next ((t.record 0x11 classB [(8, req.client.net.val)] req.client.addr.toNat).answer req opClaim stAuth) ∧
       t.net.lockouts.contains req.client.addr = true ∧ t.net.authFailCount = satInc s.net.authFailCount ∧
       t.net.owner = s.net.owner ∧ t = { s with net := t.net }) ∧
   (∀ (s : State) (session : Word), ∃ t : State, exec (.claimSessionExpiry session) s = .next t ∧
     (∀ o ∈ t.net.offers, o.session = session → o.live = false) ∧ t.net.owner = s.net.owner ∧
     t = { s with net := { s.net with offers := t.net.offers }, usb := { s.usb with offer := t.usb.offer } }) ∧
   (∀ (s : State) (a : Word), ∃ t : State, exec (.claimLockoutEnd a) s = .next t ∧ t.net.lockouts.contains a = false ∧
     (∀ b, b ≠ a → t.net.lockouts.contains b = s.net.lockouts.contains b) ∧
     t = { s with net := { s.net with lockouts := t.net.lockouts } }) ∧
   (∀ (s : State) (req : PurlReq), s.PurlRuns req opRelease → s.ownerReq req = true →
     exec (.purlRelease req) s = .next (((({ s with net := { s.net with owner := .none } } : State)).ownerEvent ownerReleased
       0 req.client.addr.toNat).answer req opRelease stOk)) ∧
   (∀ (s : State) (c : Client) (n : Word), s.net.owner = .purl c n →
     exec .ownerTimeout s = .next (((({ s with net := { s.net with owner := .none } } : State)).ownerEvent ownerTimedOut 0
       c.addr.toNat).record 0x11 classB [(8, ownerTimedOut)] c.addr.toNat)) ∧
   (∀ (s : State), (∀ c n, s.net.owner ≠ .purl c n) → exec .ownerTimeout s = .next s))

/-- Purl READ, WRITE and POST (R59, R61, R74, R80, R269): a READ of 1 to 351 words answers the words up to the first
refused; a WRITE by the owner carries its words out up to the first refused, and by another is NOT_OWNER with a
violation; an accepted POST is in flight until it is written; a post refused is FULL or UNBOUND; a count out of
range is MALFORMED. Where the manual leaves a point open the statement follows the model's choice in log entries
58 and 59. -/
def Obligations.PurlRegisters : Prop :=
  (∀ (s u : State) (req : PurlReq) (a : Word) (n : Nat) (ws : List Word), s.PurlRuns req opRead → 1 ≤ n → n ≤ 351 →
    State.readRun (.purl req.client req.session) n s a.toNat = (u, ws) →
    exec (.purlRead req a n) s = .next (u.answer req opRead (if ws.length = n then stOk else stRefused)
      (beBytes 2 ws.length ++ [0, 0] ++ ws.flatMap (fun w => beBytes 4 w.toNat)))) ∧
  (∀ (s : State) (req : PurlReq) (a : Word) (n : Nat), s.PurlRuns req opRead → (n = 0 ∨ 351 < n) →
    exec (.purlRead req a n) s = .next (s.answer req opRead stMalformed)) ∧
  (∀ (s u : State) (req : PurlReq) (a : Word) (ws : List Word) (k : Nat), s.PurlRuns req opWrite → s.ownerReq req = true →
    ws ≠ [] → ws.length ≤ 350 → State.writeRun (.purl req.client req.session) s a.toNat ws 0 = (u, k) →
    exec (.purlWrite req a ws) s =
      .next (u.answer req opWrite (if k = ws.length then stOk else stRefused) (beBytes 2 k ++ [0, 0]))) ∧
  (∀ (s : State) (req : PurlReq) (a : Word) (ws : List Word), s.PurlRuns req opWrite → s.ownerReq req = false →
    exec (.purlWrite req a ws) s =
      .next (((s.writeAccess (.purl req.client req.session) a.toNat (ws.headD 0)).1).answer req opWrite stNotOwner)) ∧
  (∀ (s u : State) (req : PurlReq) (r : Nat) (bales : List Bale), s.PurlRuns req opPost → s.ownerReq req = true → r ≤ 15 →
    bales ≠ [] → bales.length ≤ 22 → bales.any (fun b => b.length != 64) = false →
    s.acceptPost r bales (.purl req) = (u, 1) →
    exec (.purlPost req r bales) s =
      .next (u.modNet (fun n => { n with flight := n.flight ++ [⟨req.client, req.session, req.seq, .post r bales, true⟩] }))) ∧
  (∀ (s u : State) (req : PurlReq) (r : Nat) (bales : List Bale), s.PurlRuns req opPost → s.ownerReq req = true → r ≤ 15 →
    bales ≠ [] → bales.length ≤ 22 → bales.any (fun b => b.length != 64) = false →
    s.acceptPost r bales (.purl req) = (u, 2) →
    exec (.purlPost req r bales) s = .next (u.answer req opPost stFull [] r)) ∧
  (∀ (s u : State) (req : PurlReq) (r : Nat) (bales : List Bale), s.PurlRuns req opPost → s.ownerReq req = true → r ≤ 15 →
    bales ≠ [] → bales.length ≤ 22 → bales.any (fun b => b.length != 64) = false →
    s.acceptPost r bales (.purl req) = (u, 3) →
    exec (.purlPost req r bales) s = .next (u.answer req opPost stUnbound [] r)) ∧
  (∀ (s : State) (req : PurlReq) (r : Nat) (bales : List Bale), s.PurlRuns req opPost → s.ownerReq req = false →
    exec (.purlPost req r bales) s = .next (s.answer req opPost stNotOwner [] r))

/-- Purl Store transfers and capture pages (R275 to R277): reads and writes of the Store carry a CRC over address and
data; a write whose CHECK differs changes no byte; a failed access is STORE. CAPTURE with no region is NO_REGION,
with no page free BUSY; release and timeout free the page. Where the manual leaves a point open the statement
follows the model's choice in log entries 60 and 61. -/
def Obligations.PurlStoreAndPages : Prop :=
  (∀ (s : State) (req : PurlReq) (a n : Nat) (bs : List Byte), s.PurlRuns req opStoreRead → 1 ≤ n → n ≤ 1392 → a < 2 ^ 64 →
    s.storeRead a n = .ok bs → exec (.purlStoreRead req a n) s =
      .next (s.answer req opStoreRead stOk (beBytes 8 a ++ bs ++ beBytes 4 (crc32 (beBytes 8 a ++ bs))))) ∧
  (∀ (s : State) (req : PurlReq) (a n : Nat) (e : Nat × Nat), s.PurlRuns req opStoreRead → 1 ≤ n → n ≤ 1392 → a < 2 ^ 64 →
    s.storeRead a n = .error e → exec (.purlStoreRead req a n) s = .next (s.answer req opStoreRead stStore)) ∧
  (∀ (s t : State) (req : PurlReq) (a : Nat) (d : List Byte) (check : Word), s.PurlRuns req opStoreWrite →
    s.ownerReq req = true → d ≠ [] → d.length ≤ 1396 → a < 2 ^ 64 → check.toNat = crc32 (beBytes 8 a ++ d) →
    s.storeWrite a d false true = (t, none) →
    exec (.purlStoreWrite req a d check) s = .next (t.answer req opStoreWrite stOk)) ∧
  (∀ (s : State) (req : PurlReq) (a : Nat) (d : List Byte) (check : Word), s.PurlRuns req opStoreWrite →
    s.ownerReq req = true → d ≠ [] → d.length ≤ 1396 → a < 2 ^ 64 → check.toNat ≠ crc32 (beBytes 8 a ++ d) →
    exec (.purlStoreWrite req a d check) s = .next (s.answer req opStoreWrite stCheck)) ∧
  (∀ (s : State) (req : PurlReq) (a n : Nat), s.PurlRuns req opCapture → s.ownerReq req = true →
    s.pattern.poolBase = none →
    exec (.purlCaptureLedger req) s = .next (s.answer req opCapture stNoRegion) ∧
    exec (.purlCapturePowerLog req) s = .next (s.answer req opCapture stNoRegion) ∧
    exec (.purlCaptureRelease req n) s = .next (s.answer req opCapture stNoRegion) ∧
    (1 ≤ n → n ≤ 4096 → a < 2 ^ 64 → exec (.purlCaptureStore req a n) s = .next (s.answer req opCapture stNoRegion))) ∧
  (∀ (s t : State) (req : PurlReq) (base k : Nat) (c : Instr) (cap : Capture) (data : List Byte), s.PurlRuns req opCapture →
    s.ownerReq req = true → s.pattern.poolBase = some base → s.freeIndex = some k → s.captured cap = .ok data →
    s.buildPage base k false data = some t →
    (c = .purlCaptureLedger req ∧ cap = .ledger ∨ c = .purlCapturePowerLog req ∧ cap = .powerLog ∨
      ∃ a n, c = .purlCaptureStore req a n ∧ cap = .store a n ∧ 1 ≤ n ∧ n ≤ 4096 ∧ a < 2 ^ 64) →
    exec c s = .next (t.answer req opCapture stOk ([byteOf k, 0, 0, 0] ++ beBytes 8 (pageAddr base k) ++
      beBytes 4 data.length ++ beBytes 4 (crc32 (beBytes 8 (pageAddr base k) ++ data)))) ∧
    t.page k = some ⟨false, data.length, []⟩ ∧ t.regs = s.regs) ∧
  (∀ (s : State) (req : PurlReq) (base a n : Nat), s.PurlRuns req opCapture → s.ownerReq req = true →
    s.pattern.poolBase = some base → s.freeIndex = none →
    exec (.purlCaptureLedger req) s = .next (s.answer req opCapture stBusy) ∧
    exec (.purlCapturePowerLog req) s = .next (s.answer req opCapture stBusy) ∧
    (1 ≤ n → n ≤ 4096 → a < 2 ^ 64 → exec (.purlCaptureStore req a n) s = .next (s.answer req opCapture stBusy))) ∧
  (∀ (s : State) (req : PurlReq) (base k : Nat), s.PurlRuns req opCapture → s.ownerReq req = true →
    s.pattern.poolBase = some base → k ≤ 3 → s.purlHolds k = true →
    ∃ t : State, exec (.purlCaptureRelease req k) s = .next t ∧ t.page k = none ∧
      (∀ j, j ≠ k → t.page j = s.page j) ∧ t.store = s.store ∧ t.regs = s.regs) ∧
  (∀ (s : State) (k : Fin 4), s.purlHolds k = true →
    ∃ t : State, exec (.purlCaptureTimeout k) s = .next t ∧ t.page k = none ∧
      t.net.captureDiscards = satInc s.net.captureDiscards ∧ t = { s with net := t.net }) ∧
  (∀ (s : State) (k : Fin 4), s.purlHolds k = false → exec (.purlCaptureTimeout k) s = .next s)

/-- Frames and EVENTs (R262, R265, R278, R288): a frame whose FCS fails, or longer than 1 522 bytes with a tag and 1 518
without, is discarded and counted; with no link nothing is received; a good frame is counted and taken apart. EVENT sends the owner up to 21
bales of ROUTE[15] not sent before, and nothing when none is due. Where the manual leaves a point open the
statement follows the model's choice in log entries 62, 75, 76 and 78. -/
def Obligations.FramesAndEvents : Prop :=
  (∀ (s : State) (p : Fin 2) (f : List Byte) (ok : Bool), (s.boot.regsUp = false ∨ (s.netPort p).link = false) →
    exec (.ethernetFrame p f ok) s = .next s) ∧
  (∀ (s : State) (p : Fin 2) (f : List Byte), s.boot.regsUp = true → (s.netPort p).link = true →
    ∃ t : State, exec (.ethernetFrame p f false) s = .next t ∧
      (t.netPort p).discards = satInc (s.netPort p).discards ∧ (t.netPort p).fcsErrors = satInc (s.netPort p).fcsErrors ∧
      (t.netPort p).rx = (s.netPort p).rx ∧ t = { s with net := { s.net with ports := t.net.ports } }) ∧
  (∀ (s : State) (p : Fin 2) (f : List Byte), s.boot.regsUp = true → (s.netPort p).link = true →
    (if (untag f).vid.isSome then 1518 else 1514) < f.length → exec (.ethernetFrame p f true) s = .next (s.netDiscard p)) ∧
  (∀ (s : State) (p : Fin 2) (f : List Byte), s.boot.regsUp = true → (s.netPort p).link = true →
    f.length ≤ (if (untag f).vid.isSome then 1518 else 1514) →
    exec (.ethernetFrame p f true) s = .next ((s.modPort p (fun q => { q with rx := satInc q.rx })).goodFrame p f)) ∧
  (∀ (s : State) (c : Client) (n : Word), s.net.owner = .purl c n → s.purlServed c.net = true → s.eventsDue ≠ 0 →
    ∃ t : State, exec .event s = .next t ∧
      t.wire = s.wire ++ [.net c.net (s.vlanTag c.net) (fld (s.reg .PURL_CONFIG) 16 6) (.purl c opEvent 0 0 s.net.eventSeq n
        (beBytes 2 s.eventFirst ++ beBytes 2 (min 21 s.eventsDue) ++
          (List.range (min 21 s.eventsDue)).flatMap (fun k => s.sentBale (s.eventFirst + k))))] ∧
      t.net.eventNext = (s.eventFirst + min 21 s.eventsDue) % 65536 ∧ t.net.eventSeq = s.net.eventSeq + 1 ∧
      t.routes = s.routes ∧ t.store = s.store) ∧
  (∀ (s : State), (s.eventsDue = 0 ∨ ∀ c n, s.net.owner ≠ .purl c n) → exec .event s = .next s)

/-- Vendor requests (R289 to R295): none is served while the port is not connected. Registers are read and written as
R59 says, a write by another than the owner is NOT_OWNER with a violation; GET_RESULT answers the record and keeps
it; a claim starts with a challenge, unless the party is locked out or the unit is owned, and succeeds by MAC or
service button; a wrong MAC is AUTH, recorded and counted; RELEASE ends the session and normal operation returns;
SET_SECRET stores the secret unless KEY_LOCK is set, when it leaves a violation LOCKED; a request outside the table is MALFORMED. Where the manual
leaves a point open the statement follows the model's choice in log entries 65, 66, 67 and 68. -/
def Obligations.UsbRequests : Prop :=
  (∀ (s : State) (run : State → State), s.usbLive = false → s.usbRequest run = s) ∧
  (∀ (s u : State) (a : Word) (n : Nat) (ws : List Word), s.usbLive = true → 1 ≤ n → n ≤ 128 →
    State.readRun .usb n s.usbBegun a.toNat = (u, ws) →
    exec (.readReg a n) s = .next (if ws.length = n
      then (u.usbRecord rqReadReg stOk n).send (.usbData 0 (ws.flatMap (fun w => leBytes 4 w.toNat)))
      else u.usbEnd rqReadReg stRefused ws.length)) ∧
  (∀ (s u : State) (a : Word) (ws : List Word) (k : Nat), s.usbLive = true → s.net.owner = .usb → ws ≠ [] → ws.length ≤ 128 →
    State.writeRun .usb s.usbBegun a.toNat ws 0 = (u, k) →
    exec (.writeReg a ws) s = .next (u.usbEnd rqWriteReg (if k = ws.length then stOk else stRefused) k)) ∧
  (∀ (s : State) (a : Word) (ws : List Word), s.usbLive = true → s.net.owner ≠ .usb → ws ≠ [] → ws.length ≤ 128 →
    exec (.writeReg a ws) s =
      .next (((s.usbBegun.writeAccess .usb a.toNat (ws.headD 0)).1).usbEnd rqWriteReg stNotOwner)) ∧
  (∀ (s : State), s.usbLive = true →
    ∃ t : State, exec .getResult s = .next t ∧ t.wire = s.wire ++ [.usbData 0 s.usbBegun.resultRecord] ∧
      t = { s with wire := t.wire, usb := { s.usb with grace := false } }) ∧
  (∀ (s : State), s.usbLive = true → s.net.lockouts.contains 0 = false → s.owned = false →
    ∃ (t : State) (o : Offer), exec .claimNonce s = .next t ∧ t.usb.offer = some o ∧ o.live = true ∧ o.secret = s.net.secret ∧
      t.wire = s.wire ++ [.usbData 0 (beBytes 32 o.nonce.toNat ++ leBytes 4 o.session.toNat)] ∧
      t = { s with wire := t.wire, freeCount := s.freeCount + 1, usb := { s.usb with
        grace := false, offer := some o, request := rqClaimNonce, result := stOk, completed := 0 } }) ∧
  (∀ (s : State), s.usbLive = true → (s.net.lockouts.contains 0 = true ∨ s.owned = true) →
    ∃ r, exec .claimNonce s = .next (s.usbBegun.usbEnd rqClaimNonce r) ∧
      r = if s.net.lockouts.contains 0 = true then stBusy else stOwned) ∧
  (∀ (s : State) (mac : BitVec 256), s.usbLive = true → (s.chassis.button = true ∨ s.usbMacOk mac = true) →
    s.owned = false → ∃ t : State, exec (.usbClaim mac) s =
      .next (((t.beginOwner .usb).ownerEvent ownerClaimed 1 0).usbEnd rqClaim stOk) ∧
      t = { s with usb := { s.usb with grace := false, offer := t.usb.offer } } ∧
      (∀ o, t.usb.offer = some o → o.live = false)) ∧
  (∀ (s : State) (mac : BitVec 256), s.usbLive = true → s.chassis.button = false → s.usbMacOk mac = false →
    ∃ t : State, exec (.usbClaim mac) s = .next ((t.record 0x13 classB [] 0).usbEnd rqClaim stAuth) ∧
      t.net.authFailCount = satInc s.net.authFailCount ∧ t.net.owner = s.net.owner ∧ t.net.lockouts.contains 0 = true ∧
      (∀ o, t.usb.offer = some o → o.live = false)) ∧
  (∀ (s : State), s.usbLive = true → s.net.owner = .usb →
    ∃ t : State, exec .usbRelease s = .next ((t.ownerEvent ownerReleased 1 0).usbEnd rqRelease stOk) ∧
      t.net.owner = .none ∧ t.usb.mode = .normal ∧ t.regs = s.regs) ∧
  (∀ (s : State) (k : BitVec 256), s.usbLive = true → s.net.owner = .usb →
    (s.pat.keyLock = false →
      exec (.setSecret k) s = .next ((s.usbBegun.modNet (fun n => { n with secret := k })).usbEnd rqSetSecret stOk)) ∧
    (s.pat.keyLock = true → ∃ (t : State) (a : Nat), exec (.setSecret k) s =
      .next ((t.violation .usb true a whyLocked).usbEnd rqSetSecret stRefused) ∧
      t = { s with freeCount := s.freeCount + 1, usb := { s.usb with grace := false } })) ∧
  (∀ (s : State) (b : Byte), s.usbLive = true → b.toNat ≠ rqGetResult →
    exec (.usbMalformedRequest b) s = .next (s.usbBegun.usbEnd b.toNat stMalformed)) ∧
  (∀ (s : State), s.usbLive = true → s.boot.mode ≠ 1 → s.net.owner ≠ .usb →
    exec .usbRelease s = .next (s.usbBegun.usbEnd rqRelease stNotOwner) ∧
    exec .setModeNormal s = .next (s.usbBegun.usbEnd rqSetMode stNotOwner) ∧
    exec .usbCaptureLedger s = .next (s.usbBegun.usbEnd rqCapture stNotOwner))

/-- Posts and the modes over USB (R291, R302 to R305): an accepted POST waits to be written, a refused one is FULL or
UNBOUND, one of no or more than 8 bales is MALFORMED; SET_MODE moves between normal, freeze and debug hold, and
naming the present mode changes nothing; floor mode serves none of these. Where the manual leaves a point open the
statement follows the model's choice in log entries 65, 66, 72 and 120. -/
def Obligations.UsbPostsAndModes : Prop :=
  (∀ (s u : State) (r : Nat) (b : List Bale), s.usbLive = true → s.boot.mode ≠ 1 → s.net.owner = .usb →
    balesMalformed r b = false → s.usbBegun.acceptPost r b .usb = (u, 1) → exec (.usbPost r b) s = .next u) ∧
  (∀ (s u : State) (r : Nat) (b : List Bale), s.usbLive = true → s.boot.mode ≠ 1 → s.net.owner = .usb →
    balesMalformed r b = false → s.usbBegun.acceptPost r b .usb = (u, 2) →
    exec (.usbPost r b) s = .next (u.usbEnd rqPost stFull)) ∧
  (∀ (s u : State) (r : Nat) (b : List Bale), s.usbLive = true → s.boot.mode ≠ 1 → s.net.owner = .usb →
    balesMalformed r b = false → s.usbBegun.acceptPost r b .usb = (u, 3) →
    exec (.usbPost r b) s = .next (u.usbEnd rqPost stUnbound)) ∧
  (∀ (s : State) (r : Nat) (b : List Bale), s.usbLive = true → (b = [] ∨ 8 < b.length) →
    exec (.usbPost r b) s = .next (s.usbBegun.usbEnd rqPost stMalformed)) ∧
  (∀ (s : State) (r : Nat) (b : List Bale), s.usbLive = true → s.boot.mode = 1 →
    exec .setModeNormal s = .next (s.usbBegun.usbEnd rqSetMode stFloor) ∧
    exec .setModeFreeze s = .next (s.usbBegun.usbEnd rqSetMode stFloor) ∧
    exec .setModeDebugHold s = .next (s.usbBegun.usbEnd rqSetMode stFloor) ∧
    (balesMalformed r b = false → exec (.usbPost r b) s = .next (s.usbBegun.usbEnd rqPost stFloor))) ∧
  (∀ (s : State), s.usbLive = true → s.boot.mode ≠ 1 → s.net.owner = .usb →
    (∃ t : State, exec .setModeNormal s = .next (t.usbEnd rqSetMode stOk) ∧ t.usb = { s.usb with grace := false, mode := .normal } ∧
      t.regs = s.regs ∧ t.net = s.net ∧ (s.usb.mode ≠ .debugHold → t.routes = s.routes) ∧
      (s.usb.mode = .normal → t = s.usbBegun)) ∧
    (∃ t : State, exec .setModeFreeze s = .next (t.usbEnd rqSetMode stOk) ∧ t.usb = { s.usb with grace := false, mode := .freeze } ∧
      t.regs = s.regs ∧ t.net = s.net ∧ (s.usb.mode ≠ .debugHold → t.routes = s.routes) ∧
      (s.usb.mode = .freeze → t = s.usbBegun)) ∧
    (∃ t : State, exec .setModeDebugHold s = .next (t.usbEnd rqSetMode stOk) ∧
      t.usb = { s.usb with grace := false, mode := .debugHold } ∧
      t.regs = s.regs ∧ t.net = s.net ∧ (s.usb.mode ≠ .debugHold → t.routes = s.usbBegun.settleCycle.routes) ∧
      (s.usb.mode = .debugHold → t = s.usbBegun)))

/-- Uploads on EP2 (R296 to R298): BULK_SETUP within its bounds arms an upload, outside them is MALFORMED and arms
nothing, in the other mode of operation is REFUSED; EP2 answers STALL while none is armed and NAK while a slot is
being erased; a block is written as it arrives, a failed write ends the upload with STORE; when all is written the
result is OK and CHECK is set. Where the manual leaves a point open the statement follows the model's choice in
log entries 69 and 70. -/
def Obligations.UsbUploads : Prop :=
  (∀ (s : State) (a n : Nat), s.usbLive = true → s.net.owner = .usb → s.boot.mode ≠ 1 → 1 ≤ n → n ≤ 4194304 → a % 64 = 0 →
    a + n ≤ s.storeSpan → ∃ t : State, exec (.bulkSetupStore a n) s = .next (t.usbEnd rqBulkSetup stOk) ∧
      t.usb.upload = some ⟨0, a, n, 0, [], 0xFFFFFFFF, false⟩ ∧
      t = { s with usb := { s.usb with grace := false, upload := t.usb.upload, result := t.usb.result } }) ∧
  (∀ (s : State) (a n : Nat), s.usbLive = true → s.net.owner = .usb →
    (n = 0 ∨ 4194304 < n ∨ a % 64 ≠ 0 ∨ s.storeSpan < a + n) →
    exec (.bulkSetupStore a n) s = .next (s.usbBegun.usbEnd rqBulkSetup stMalformed)) ∧
  (∀ (s : State) (a n : Nat), s.usbLive = true → s.net.owner = .usb → s.boot.mode ≠ 1 → 1 ≤ n → a % 64 = 0 → a + n ≤ 4194304 →
    ∃ t : State, exec (.bulkSetupStaging a n) s = .next (t.usbEnd rqBulkSetup stOk) ∧
      t.usb.upload = some ⟨1, s.stagingBase + a, n, 0, [], 0xFFFFFFFF, false⟩ ∧
      t = { s with usb := { s.usb with grace := false, upload := t.usb.upload, result := t.usb.result } }) ∧
  (∀ (s : State) (k : Fin 2) (n : Nat), s.usbLive = true → s.net.owner = .usb → s.boot.mode = 1 → 1 ≤ n → n ≤ 4194304 →
    ∃ t : State, exec (.bulkSetupSlot k 0 n) s = .next (t.usbEnd rqBulkSetup stOk) ∧
      t.usb.upload = some ⟨k.val + 2, 0, n, 0, [], 0xFFFFFFFF, true⟩ ∧ t.slotBytes (k.val + 1) = [] ∧
      t = { s with pat := t.pat, usb := { s.usb with grace := false, upload := t.usb.upload, result := t.usb.result } }) ∧
  (∀ (s : State) (k : Fin 2) (a n : Nat), s.usbLive = true → s.net.owner = .usb → 1 ≤ n → n ≤ 4194304 →
    (a ≠ 0 → exec (.bulkSetupSlot k a n) s = .next (s.usbBegun.usbEnd rqBulkSetup stMalformed)) ∧
    (s.boot.mode ≠ 1 → exec (.bulkSetupSlot k 0 n) s = .next (s.usbBegun.usbEnd rqBulkSetup stRefused))) ∧
  (∀ (s : State) (u : Upload), s.usb.upload = some u → exec .slotEraseDone s =
    .next { s with usb := { s.usb with upload := some { u with erasing := false } } }) ∧
  (∀ (s : State) (p : List Byte), s.usbLive = true →
    (s.usb.upload = none → exec (.ep2Data p) s = .next (s.send .usbStall)) ∧
    (∀ u, s.usb.upload = some u → u.remaining ≠ 0 → u.erasing = true → exec (.ep2Data p) s = .next (s.send (.usbNak 2)))) ∧
  (∀ (s t : State) (u : Upload) (p : List Byte), s.usbLive = true → s.usb.upload = some u → u.erasing = false → u.kind ≤ 1 →
    u.held = [] → u.remaining = p.length → p ≠ [] → p.length ≤ 64 → s.storeWrite (u.base + u.offset) p = (t, none) →
    exec (.ep2Data p) s = .next ((t.modUsb (fun q => { q with upload := some { u with
      remaining := 0, held := [], offset := u.offset + p.length, crc := p.foldl (crcByte 0xEDB88320) u.crc } })).send
      .usbAck)) ∧
  (∀ (s t : State) (u : Upload) (p : List Byte) (e : Nat × Nat), s.usbLive = true → s.usb.upload = some u →
    u.erasing = false → u.kind ≤ 1 → u.held = [] → u.remaining = p.length → p ≠ [] → p.length ≤ 64 →
    s.storeWrite (u.base + u.offset) p = (t, some e) →
    exec (.ep2Data p) s = .next ((t.modUsb (fun q => { q with upload := none, result := stStore })).send .usbAck)) ∧
  (∀ (s : State) (u : Upload) (p : List Byte), s.usbLive = true → s.usb.upload = some u → u.erasing = false →
    u.held.length + p.length < 64 → 0 < p.length → p.length < u.remaining →
    exec (.ep2Data p) s = .next ((s.modUsb (fun q => { q with upload := some { u with
      remaining := u.remaining - p.length, held := u.held ++ p } })).send .usbAck)) ∧
  (∀ (s : State) (u : Upload), s.usb.upload = some u → u.remaining = 0 →
    ∃ t : State, exec .bulkUploadDone s = .next t ∧ t.usb = { s.usb with
        upload := none, result := stOk, check := wordOf (u.crc.xor 0xFFFFFFFF) } ∧
      (u.kind ≤ 1 → t = { s with usb := t.usb }) ∧
      (2 ≤ u.kind → t.pat = (s.checkSlot (u.kind - 1)).pat ∧ t = { s with usb := t.usb, pat := t.pat })) ∧
  (∀ (s : State), (s.usb.upload = none ∨ ∃ u, s.usb.upload = some u ∧ u.remaining ≠ 0) →
    exec .bulkUploadDone s = .next s)

/-- Capture pages on EP1 and events on EP3 (R276, R299 to R301, R305): a capture takes a free page of the pool and
queues it, or is BUSY; without a region, and in floor mode, the one on-chip buffer serves; EP1 sends the head page
packet by packet and frees it with its last, and answers NAK with none queued; a timeout discards the head page
and counts; EP3 sends the owner the next bale, and NAK when the owner is not on USB or no bale is due. Where the
manual leaves a point open the statement follows the model's choice in log entries 60, 73 and 74. -/
def Obligations.UsbPages : Prop :=
  (∀ (s t : State) (base k : Nat) (c : Instr) (cap : Capture) (data : List Byte), s.usbLive = true → s.net.owner = .usb →
    s.boot.mode ≠ 1 → s.pattern.poolBase = some base → s.freeIndex = some k → s.usbBegun.captured cap = .ok data →
    (c = .usbCaptureLedger ∧ cap = .ledger ∨ c = .usbCapturePowerLog ∧ cap = .powerLog ∨
      ∃ a n, c = .usbCaptureStore a n ∧ cap = .store a n ∧ 1 ≤ n ∧ n ≤ 4096 ∧ a < 2 ^ 64) →
    s.usbBegun.buildPage base k true (padTo 4096 data) = some t →
    exec c s = .next ((t.modUsb (fun u => { u with queue := u.queue ++ [k], check := wordOf (crc32 (padTo 4096 data)) })).usbEnd
      rqCapture stOk)) ∧
  (∀ (s : State) (base : Nat), s.usbLive = true → s.net.owner = .usb → s.boot.mode ≠ 1 → s.pattern.poolBase = some base →
    s.freeIndex = none →
    exec .usbCaptureLedger s = .next (s.usbBegun.usbEnd rqCapture stBusy) ∧
    exec .usbCapturePowerLog s = .next (s.usbBegun.usbEnd rqCapture stBusy) ∧
    (∀ a n, 1 ≤ n → n ≤ 4096 → a < 2 ^ 64 →
      exec (.usbCaptureStore a n) s = .next (s.usbBegun.usbEnd rqCapture stBusy))) ∧
  (∀ (s : State), s.usbLive = true → s.net.owner = .usb → (s.boot.mode = 1 ∨ s.pattern.poolBase = none) →
    s.net.chipPage = none → ∃ t : State, exec .usbCaptureLedger s = .next (t.usbEnd rqCapture stOk) ∧
      t.net.chipPage = some ⟨true, s.ledgerPage.length, padTo 4096 s.ledgerPage⟩ ∧ t.usb.queue = s.usb.queue ++ [4] ∧
      t = { s with net := { s.net with chipPage := t.net.chipPage }
                   usb := { s.usb with grace := false, queue := t.usb.queue, check := t.usb.check } }) ∧
  (∀ (s : State), s.usbLive = true → s.net.owner = .usb → (s.boot.mode = 1 ∨ s.pattern.poolBase = none) →
    s.net.chipPage ≠ none → exec .usbCaptureLedger s = .next (s.usbBegun.usbEnd rqCapture stBusy) ∧
      exec .usbCapturePowerLog s = .next (s.usbBegun.usbEnd rqCapture stBusy)) ∧
  (∀ (s : State) (a n : Nat), s.usbLive = true → s.net.owner = .usb → s.boot.mode = 1 → 1 ≤ n → n ≤ 4096 → a < 2 ^ 64 →
    exec (.usbCaptureStore a n) s = .next (s.usbBegun.usbEnd rqCapture stFloor)) ∧
  (∀ (s : State), s.usbLive = true → s.usb.queue = [] → exec .ep1PacketAck s = .next (s.send (.usbNak 1))) ∧
  (∀ (s : State) (k : Nat) (q : List Nat), s.usbLive = true → s.usb.queue = k :: q →
    ∃ t : State, exec .ep1PacketAck s = .next t ∧
      t.wire = s.wire ++ [.usbData 1 (slice (s.pageData k) (s.bulkPacket * s.usb.packets) s.bulkPacket)] ∧
      (s.bulkPacket * (s.usb.packets + 1) < 4096 → t = { s with
        wire := t.wire, freeCount := s.freeCount + 1, usb := { s.usb with packets := s.usb.packets + 1 } }) ∧
      (4096 ≤ s.bulkPacket * (s.usb.packets + 1) → t = { s with
        wire := t.wire, freeCount := s.freeCount + 1, usb := { s.usb with queue := q, packets := 0 }, net := t.net } ∧
        (k ≠ 4 → t.page k = none ∧ ∀ j, j ≠ k → t.page j = s.page j) ∧ (k = 4 → t.net.chipPage = none))) ∧
  (∀ (s : State) (k : Nat) (q : List Nat), s.usb.queue = k :: q →
    ∃ t : State, exec .usbCaptureTimeout s = .next t ∧
      t.usb = { s.usb with queue := q, packets := 0, captureDiscards := satInc s.usb.captureDiscards } ∧
      t = { s with usb := t.usb, net := t.net } ∧
      (k ≠ 4 → t.page k = none ∧ ∀ j, j ≠ k → t.page j = s.page j) ∧ (k = 4 → t.net.chipPage = none)) ∧
  (∀ (s : State), s.usb.queue = [] → exec .usbCaptureTimeout s = .next s) ∧
  (∀ (s : State), s.usbLive = true → s.net.owner = .usb → s.eventsDue ≠ 0 → exec .ep3PacketAck s = .next { s with
    wire := s.wire ++ [.usbData 3 (s.sentBale s.eventFirst)], freeCount := s.freeCount + 1
    net := { s.net with eventNext := (s.eventFirst + 1) % 65536 } }) ∧
  (∀ (s : State), s.usbLive = true → (s.net.owner ≠ .usb ∨ s.eventsDue = 0) →
    exec .ep3PacketAck s = .next (s.send (.usbNak 3)))

/-- The bus (R289, R294, R306 to R308): a bus reset counts, discards a request partly received, breaks off the upload
and starts the grace of a USB owner; the host that has given an address reads the descriptors of Tables 14-1 and 14-2; a grace that runs out ends the session; loss of VBUS ends it at once and
disconnects; VBUS present connects the pull-up once the device may; an accepted write of 1 to USB_PORT_DISABLE
ends the session, frees the queued pages and lets the pull-up be removed, after which the port is disabled. Where
the manual leaves a point open the statement follows the model's choice in log entries 63, 64, 69, 71 and 153. -/
def Obligations.UsbBus : Prop :=
  (∀ (s : State) (stage : UsbStage), s.usbLive = true →
    ∃ t : State, exec (.usbBusReset stage) s = .next (t.usbState 2 usbReset) ∧
      t.usb.busResets = satInc s.usb.busResets ∧ t.usb.upload = none ∧ t.usb.packets = 0 ∧
      (t.usb.grace = true ↔ s.net.owner = .usb) ∧ t.usb.queue = s.usb.queue ∧
      t.usb.partialDiscards = (if stage = .outPartial then satInc s.usb.partialDiscards else s.usb.partialDiscards) ∧
      (s.usb.upload ≠ none → t.usb.result = stIncomplete) ∧ (s.usb.upload = none → t.usb.result = s.usb.result) ∧
      t = { s with usb := t.usb }) ∧
  (∀ (s : State) (stage : UsbStage), s.usbLive = false → exec (.usbBusReset stage) s = .next s) ∧
  (∀ (s : State), s.usb.grace = true → s.net.owner = .usb →
    ∃ t : State, exec .usbGraceExpiry s = .next (t.ownerEvent ownerTimedOut 1 0) ∧ t.net.owner = .none ∧
      t.usb = { s.usb with grace := false, mode := .normal } ∧ t.regs = s.regs) ∧
  (∀ (s : State), s.usb.grace = false → exec .usbGraceExpiry s = .next s) ∧
  (∀ (s : State), s.usb.vbus = true →
    ∃ t : State, exec (.vbusChange false) s = .next ((t.usbState 0 usbVbusLost).endUsbOpen usbVbusLost) ∧
      t.usb.vbus = false ∧ t.usb.pullup = false ∧ t.usb.upload = none ∧ t.usb.packets = 0 ∧ t = { s with usb := t.usb }) ∧
  (∀ (s : State) (cause : Nat), s.net.owner = .usb → (s.endUsbOpen cause).net.owner = .none ∧
    (s.endUsbOpen cause).usb = { s.usb with grace := false, mode := .normal }) ∧
  (∀ (s : State) (cause : Nat), s.net.owner ≠ .usb → s.endUsbOpen cause = s) ∧
  (∀ (s : State), s.usb.vbus = false → s.usb.disabled = false → s.boot.usbPhyOk = true → s.boot.mode ≠ 0 →
    s.usb.pullup = false → exec (.vbusChange true) s =
      .next (({ s with usb := { s.usb with vbus := true, pullup := true } } : State).usbState 1 usbHost)) ∧
  (∀ (s : State) (b : Bool), s.usb.vbus = b → exec (.vbusChange b) s = .next s) ∧
  (∀ (s : State) (st cause : Nat), (s.usb.state = st → s.usbState st cause = s) ∧
    (s.usb.state ≠ st → s.usbState st cause =
      ({ s with usb := { s.usb with state := st } } : State).event 0xE0 [byteOf st, byteOf cause])) ∧
  (∀ (s : State) (e : EnumStep) (b : Bool), s.usbLive = true → e ≠ .addressed → exec (.usbEnumeration e b) s =
    .next (({ s with usb := { s.usb with highSpeed := b } } : State).usbState (enumState e) usbHost)) ∧
  (∀ (s : State) (b : Bool), s.usbLive = true → ∃ d : UsbDescriptors, exec (.usbEnumeration .addressed b) s =
      .next ((({ s with usb := { s.usb with highSpeed := b } } : State).usbState 3 usbHost).send (.usbDescriptors d)) ∧
    d.bcdUsb = 0x0200 ∧ d.deviceClass = 0 ∧ d.maxPacket0 = 64 ∧ d.vendor = 0x3A7C ∧ d.product = 0x0096 ∧ d.bcdDevice = 0x0200 ∧
    d.configurations = 1 ∧ d.interfaces = 1 ∧ d.attributes = 0xC0 ∧ d.maxPower = 0 ∧ d.interfaceClass = 0xFF ∧
    d.interfaceSubclass = 0 ∧ d.interfaceProtocol = 0 ∧ d.endpoints.length = 4 ∧
    d.endpoints[1]? = some ⟨1, .bulk, true, if b then 512 else 64, none⟩ ∧
    d.endpoints[2]? = some ⟨2, .bulk, false, if b then 512 else 64, none⟩ ∧
    d.endpoints[3]? = some ⟨3, .interrupt, true, 64, some 1⟩) ∧
  (∀ (s : State) (acc : Accessor) (v : Word), s.Accepts acc .USB_PORT_DISABLE → bitAt v 0 = true →
    ∃ t : State, exec (.usbPortDisableWrite acc v) s = .next t ∧ t.usb.disabled = true ∧ t.usb.disableWritten = true ∧
      t.usb.removalDue = true ∧ t.usb.queue = [] ∧ t.usb.packets = 0 ∧ t.net.owner ≠ .usb ∧ t.usb.pullup = s.usb.pullup ∧
      t.usb.vbus = s.usb.vbus) ∧
  (∀ (s : State) (acc : Accessor) (v : Word), s.Accepts acc .USB_PORT_DISABLE → bitAt v 0 = false →
    exec (.usbPortDisableWrite acc v) s = .next ((s.written .USB_PORT_DISABLE 0 0 v).modUsb (fun u =>
      { u with disableWritten := true }))) ∧
  (∀ (s : State), s.usb.removalDue = true → exec .usbPullupRemoval s =
    .next (({ s with usb := { s.usb with removalDue := false, pullup := false, highSpeed := false } } : State).usbState 5
      usbDisabled)) ∧
  (∀ (s : State), s.usb.removalDue = false → exec .usbPullupRemoval s = .next s)

/-- Caravan frames received (R311, R313, R315 to R321, R325, R327, R328): with the bypass closed a frame passes by; an
unsound one is counted; an ECHO is answered on its own port with its SENT, but by no unit that listens, which also
forwards nothing; an ECHO_REPLY sets that port's link
delay; a CALL or BEAT that the unit sent itself, or that is not later than the last of its origin, goes no
further; any other is forwarded, up to 31 hops, with its hop and delay added; a CALL feeds the membership,
CFN_SEEN and an election, a BEAT that is followed sets lead, period and the CFN of the next bind-off; the pull of a
head moves at most 20 ppm and so as to drive its error towards 0. Where the
manual leaves a point open the statement follows the model's choice in log entries 93, 95, 97 and 100. -/
def Obligations.CaravanFrames : Prop :=
  (∀ (s : State) (p : CaravanPort) (f : List Byte) (c : Instr), c ∈ [.call p f, .beat p f, .echo p f, .echoReply p f] →
    (s.caravan.bypassOpen = false → exec c s = .next s) ∧
    (s.caravan.bypassOpen = true → caravanSound f = false →
      exec c s = .next { s with caravan := { s.caravan with checkErrors := satInc s.caravan.checkErrors } })) ∧
  (∀ (s : State) (p : CaravanPort) (f : List Byte), s.caravan.bypassOpen = true → caravanSound f = true →
    beAt f 3 1 = typeEcho → s.caravan.state ≤ 1 → exec (.echo p f) s = .next s) ∧
  (∀ (s : State) (p : CaravanPort) (f : List Byte), s.caravan.bypassOpen = true → caravanSound f = true →
    beAt f 3 1 = typeEcho → 2 ≤ s.caravan.state → ∃ n : Nat, exec (.echo p f) s =
      .next (s.send (.caravan p (s.caravanFrame typeEchoReply (slice f 0x18 4 ++ beBytes 4 n))))) ∧
  (∀ (s : State) (f : List Byte), s.caravan.bypassOpen = true → caravanSound f = true → beAt f 3 1 = typeEchoReply →
    exec (.echoReply .east f) s = .next { s with caravan := { s.caravan with
      eastDelay := (s.roundTrip (beAt f 0x18 4) - beAt f 0x1C 4) / 2 } } ∧
    exec (.echoReply .west f) s = .next { s with caravan := { s.caravan with
      westDelay := (s.roundTrip (beAt f 0x18 4) - beAt f 0x1C 4) / 2 } }) ∧
  (∀ (s : State) (p : CaravanPort) (f : List Byte) (c : Instr), c ∈ [.call p f, .beat p f] →
    s.caravan.bypassOpen = true → caravanSound f = true → (beAt f 3 1 = typeCall ∨ beAt f 3 1 = typeBeat) →
    ((BitVec.ofNat 64 (beAt f 4 8) = s.caravan.priority ∧ wordOf (beAt f 0x0C 4) = s.boot.bootTag) ∨
      s.laterSequence (BitVec.ofNat 64 (beAt f 4 8)) (wordOf (beAt f 0x0C 4)) (beAt f 0x12 2) = false) →
    exec c s = .next s) ∧
  (∀ (s : State) (p : CaravanPort) (f : List Byte), s.caravan.bypassOpen = true → caravanSound f = true →
    beAt f 3 1 = typeCall → BitVec.ofNat 64 (beAt f 4 8) ≠ s.caravan.priority →
    s.laterSequence (BitVec.ofNat 64 (beAt f 4 8)) (wordOf (beAt f 0x0C 4)) (beAt f 0x12 2) = true →
    ∃ t : State, exec (.call p f) s = .next t ∧
      t.wire = s.wire ++ (if 2 ≤ s.caravan.state ∧ beAt f 0x10 1 < 31 then [.caravan (otherPort p) (caravanSeal ((patch (patch f 0x10
        (beBytes 1 (beAt f 0x10 1 + 1))) 0x14 (beBytes 4 (beAt f 0x14 4 + s.incomingDelay p + 600))).take 44))] else []) ∧
      t.laterSequence (BitVec.ofNat 64 (beAt f 4 8)) (wordOf (beAt f 0x0C 4)) (beAt f 0x12 2) = false ∧
      t.caravan.cfnSeen.toNat = max s.caravan.cfnSeen.toNat (beAt f 0x18 4 % 2 ^ 32) ∧
      (s.caravan.members.length < 31 → ∃ m ∈ t.caravan.members, m.origin = BitVec.ofNat 64 (beAt f 4 8)) ∧
      (31 ≤ s.caravan.members.length → (∀ m ∈ s.caravan.members, m.origin ≠ BitVec.ofNat 64 (beAt f 4 8)) →
        t.caravan.members = s.caravan.members ∧ t.caravan.oversize = true ∧ t.caravan.ignored = satInc s.caravan.ignored) ∧
      t.caravan.state = s.caravan.state ∧ t = { s with wire := t.wire, caravan := t.caravan }) ∧
  (∀ (s : State) (p : CaravanPort) (f : List Byte), s.caravan.bypassOpen = true → caravanSound f = true →
    beAt f 3 1 = typeCall → BitVec.ofNat 64 (beAt f 4 8) = s.caravan.priority → wordOf (beAt f 0x0C 4) ≠ s.boot.bootTag →
    s.laterSequence (BitVec.ofNat 64 (beAt f 4 8)) (wordOf (beAt f 0x0C 4)) (beAt f 0x12 2) = true →
    ∃ t : State, exec (.call p f) s = .next t ∧
      t.caravan.duplicate = some (s.caravan.priority, wordOf (beAt f 0x0C 4)) ∧
      (s.caravan.duplicate ≠ none → t = { s with wire := t.wire, caravan := t.caravan })) ∧
  (∀ (s : State) (p : CaravanPort) (f : List Byte), s.caravan.bypassOpen = true → caravanSound f = true →
    beAt f 3 1 = typeBeat → BitVec.ofNat 64 (beAt f 4 8) ≠ s.caravan.priority →
    s.laterSequence (BitVec.ofNat 64 (beAt f 4 8)) (wordOf (beAt f 0x0C 4)) (beAt f 0x12 2) = true →
    s.follows (BitVec.ofNat 64 (beAt f 4 8)) (wordOf (beAt f 0x0C 4)) = true →
    ∃ t : State, exec (.beat p f) s = .next t ∧ t.caravan.state = 3 ∧ t.caravan.lead = BitVec.ofNat 64 (beAt f 4 8) ∧
      t.caravan.leadTag = wordOf (beAt f 0x0C 4) ∧ t.caravan.period = beAt f 0x1C 4 ∧
      t.caravan.cfnNext = some (wordOf (beAt f 0x18 4)) ∧ t.caravan.cfn = s.caravan.cfn ∧
      t.caravan.leadMembers = beAt f 0x24 1 ∧ t.caravan.members = s.caravan.members ∧
      (∃ b ∈ t.caravan.heard, b.origin = BitVec.ofNat 64 (beAt f 4 8) ∧ b.tb = s.time.tb.toNat)) ∧
  (∀ (s : State) (p : CaravanPort) (f : List Byte), s.caravan.bypassOpen = true → caravanSound f = true →
    beAt f 3 1 = typeBeat → BitVec.ofNat 64 (beAt f 4 8) ≠ s.caravan.priority →
    s.laterSequence (BitVec.ofNat 64 (beAt f 4 8)) (wordOf (beAt f 0x0C 4)) (beAt f 0x12 2) = true →
    s.follows (BitVec.ofNat 64 (beAt f 4 8)) (wordOf (beAt f 0x0C 4)) = false →
    ∃ t : State, exec (.beat p f) s = .next t ∧ t = { s with wire := t.wire, caravan := { s.caravan with
      seqs := t.caravan.seqs, cfnSeen := t.caravan.cfnSeen, heard := t.caravan.heard } } ∧
      (∃ b ∈ t.caravan.heard, b.origin = BitVec.ofNat 64 (beAt f 4 8) ∧ b.tb = s.time.tb.toNat)) ∧
  (∀ (m : Fin 20001) (up : Bool) (e p : Int), p - 20000 ≤ pullTowards m up e p ∧ pullTowards m up e p ≤ p + 20000 ∧
    (0 < e → p < 0 → p < pullTowards m up e p) ∧ (0 < e → 0 ≤ p → 0 ≤ pullTowards m up e p) ∧
    (e < 0 → 0 < p → pullTowards m up e p < p) ∧ (e < 0 → p ≤ 0 → pullTowards m up e p ≤ 0))

/-- Caravan timers and loss (R310, R315 to R319, R326): ECHO and CALL go out on both ports of an active member, a CALL
under the next SEQUENCE; a listening window ends in an election; a window of CALLs makes the best unit lead and
the others wait; the lead sends BEAT k; a follower without its lead's BEATs unlocks its heads, records it and
follows another origin that it hears, or elects; an origin not heard leaves the table, which is then not oversize; a
lost link is recorded. Where the manual leaves a point open the statement follows the model's choice in log entries
93, 94, 96, 97, 99, 154 and 155. -/
def Obligations.CaravanTimers : Prop :=
  (∀ (s : State), (s.caravan.bypassOpen = false ∨ s.caravan.state ≤ 1) →
    exec .echoTimer s = .next s ∧ exec .callTimer s = .next s) ∧
  (∀ (s : State), s.caravan.bypassOpen = true → 2 ≤ s.caravan.state → ∃ f, exec .echoTimer s =
      .next { s with wire := s.wire ++ [.caravan .east f, .caravan .west f] } ∧
    f = s.caravanFrame typeEcho (beBytes 4 (s.time.tb.toNat % 0x100000000))) ∧
  (∀ (s : State), s.caravan.bypassOpen = true → 2 ≤ s.caravan.state → (s.caravan.state = 2 → s.caravan.waitingBeat = false) →
    ∃ (f : List Byte) (t : State), exec .callTimer s = .next t ∧ t = { s with
      wire := s.wire ++ [.caravan .east f, .caravan .west f]
      caravan := { s.caravan with seq := s.caravan.seq + 1 } } ∧
      f = t.caravanFrame typeCall (beBytes 4 (max s.caravan.cfnSeen.toNat s.caravan.cfn.toNat) ++ [byteOf s.caravan.state])) ∧
  (∀ (s : State), (s.caravan.state = 1 ∨ s.caravan.state = 2 ∧ s.caravan.waitingBeat = true) →
    ∃ t : State, exec .electionTimer s = .next t ∧ t.caravan = { s.caravan with
      state := 2, waitingBeat := false, best := s.caravan.priority, bestTag := s.boot.bootTag, cfnSeen := t.caravan.cfnSeen } ∧
      (s.caravan.state = 1 → t.caravan.cfnSeen = s.caravan.cfn) ∧
      (s.caravan.state = 2 → t.caravan.cfnSeen.toNat = max s.caravan.cfnSeen.toNat s.caravan.cfn.toNat) ∧
      t.wire = s.wire) ∧
  (∀ (s : State), s.caravan.state = 2 → s.caravan.waitingBeat = false → s.caravan.best = s.caravan.priority →
    s.caravan.bestTag = s.boot.bootTag →
    ∃ t : State, exec .electionTimer s = .next t ∧ t.caravan.state = 4 ∧ t.caravan.lead = s.caravan.priority ∧
      t.caravan.leadTag = s.boot.bootTag ∧ ∃ k : Word, t.caravan.cfnNext = some (k + 1) ∧
        k.toNat = max s.caravan.cfnSeen.toNat s.caravan.cfn.toNat) ∧
  (∀ (s : State), s.caravan.state = 2 → s.caravan.waitingBeat = false →
    (s.caravan.best ≠ s.caravan.priority ∨ s.caravan.bestTag ≠ s.boot.bootTag) →
    exec .electionTimer s = .next { s with caravan := { s.caravan with waitingBeat := true } }) ∧
  (∀ (s : State), (s.caravan.state = 0 ∨ 3 ≤ s.caravan.state) → exec .electionTimer s = .next s) ∧
  (∀ (s : State), s.caravan.state ≠ 4 → exec .beatSend s = .next s) ∧
  (∀ (s : State) (r : HeadRec), s.caravan.state = 4 → s.pattern.heads.find? (fun r => r.head == s.refHead) = some r →
    ∃ (t : State) (f body : List Byte), exec .beatSend s = .next t ∧
      t.wire = s.wire ++ [.caravan .east f, .caravan .west f] ∧
      f = ({ s with caravan := { s.caravan with seq := s.caravan.seq + 1 } } : State).caravanFrame typeBeat body ∧
      body = beBytes 4 (s.caravan.cfnNext.getD (s.caravan.cfn + 1)).toNat ++
        beBytes 4 (nanoseconds (framePeriod r / 1000000000)) ++ beBytes 4 (s.dueTime r) ++
        [byteOf (s.caravan.members.length + 1)] ∧
      t.caravan = { s.caravan with seq := s.caravan.seq + 1, period := nanoseconds (framePeriod r / 1000000000) }) ∧
  (∀ (s : State), s.caravan.state ≠ 3 → exec .leadLoss s = .next s) ∧
  (∀ (s : State), s.caravan.state = 3 → s.otherLead = none →
    ∃ t : State, exec .leadLoss s = .next t ∧ t.caravan.state = 2 ∧ t.caravan.cause = 1 ∧
    t.caravan.best = s.caravan.priority ∧ t.caravan.cfn = s.caravan.cfn ∧ t.caravan.barriers = s.caravan.barriers ∧
    (∀ h, h < 8 → (t.head h).locked = false ∧ (t.head h).pull = (s.head h).pull)) ∧
  (∀ (s : State) (b : HeardBeat), s.caravan.state = 3 → s.otherLead = some b →
    ∃ t : State, exec .leadLoss s = .next t ∧ t.caravan.state = 3 ∧ t.caravan.lead = b.origin ∧ t.caravan.leadTag = b.tag ∧
    t.caravan.period = b.period ∧ t.caravan.cfn = s.caravan.cfn ∧
    (∀ h, h < 8 → (t.head h).locked = false ∧ (t.head h).pull = (s.head h).pull)) ∧
  (∀ (s : State) (b : HeardBeat), s.otherLead = some b → b ∈ s.caravan.heard ∧
    (b.origin ≠ s.caravan.lead ∨ b.tag ≠ s.caravan.leadTag) ∧ (s.time.tb.toNat - b.tb) * 10 ≤ 3 * s.caravan.period) ∧
  (∀ (s : State) (o : BitVec 64), ∃ t : State, exec (.memberAgeing o) s = .next t ∧
    t.caravan.members = s.caravan.members.filter (fun m => m.origin != o) ∧
    (∀ x, t.caravan.duplicate = some x → s.caravan.duplicate = some x ∧ x.1 ≠ o) ∧
    t.caravan.oversize = (s.caravan.oversize && decide (31 ≤ t.caravan.members.length)) ∧
    t = { s with caravan := { s.caravan with members := t.caravan.members, duplicate := t.caravan.duplicate
                                             oversize := t.caravan.oversize } }) ∧
  (∀ (s : State) (up : Bool),
    exec (.caravanLink .east up) s = .next (if s.caravan.eastLink = true ∧ up = false
      then ({ s with caravan := { s.caravan with eastLink := up } } : State).record 0x14 classA [(8, 0)] 0
      else { s with caravan := { s.caravan with eastLink := up } }) ∧
    exec (.caravanLink .west up) s = .next (if s.caravan.westLink = true ∧ up = false
      then ({ s with caravan := { s.caravan with westLink := up } } : State).record 0x14 classA [(8, 1)] 0
      else { s with caravan := { s.caravan with westLink := up } }))

/-- Barrier commits (R322 to R324): a write of a mask arms a free slot and posts; a mask of 0 arms nothing; a late
barrier, and one that finds all slots taken, is refused with no other effect; at line 0 of frame k − 1 the
barriers of k commit and leave their slots, others wait; cancelling frees the slots named. Where the manual leaves
a point open the statement follows the model's choice in log entries 98 and 99. -/
def Obligations.CaravanBarriers : Prop :=
  (∀ (s : State) (acc : Accessor) (v : Word), s.Accepts acc .CARAVAN_BARRIER_COMMIT → fld v 0 16 = 0 →
    exec (.caravanBarrierCommit acc v) s = .next (s.written .CARAVAN_BARRIER_COMMIT 0 0 v)) ∧
  (∀ (s : State) (acc : Accessor) (v : Word) (i : Nat), s.Accepts acc .CARAVAN_BARRIER_COMMIT → fld v 0 16 ≠ 0 →
    s.barrierLate (s.reg .CARAVAN_BARRIER_CFN) = false → (List.range 8).find? (fun i => (s.barrier i).isNone) = some i →
    ∃ t : State, exec (.caravanBarrierCommit acc v) s = .next (t.event 0xEA ([byteOf i, byteOf barAccepted] ++
        leBytes 2 (fld v 0 16) ++ leBytes 4 (s.reg .CARAVAN_BARRIER_CFN).toNat)) ∧
      t.barrier i = some ⟨s.reg .CARAVAN_BARRIER_CFN, BitVec.ofNat 16 (fld v 0 16)⟩ ∧
      (∀ k, k ≠ i → t.barrier k = s.barrier k) ∧ t.caravan.barrierResult = barAccepted ∧ t.caravan.barrierSlot = i ∧
      t = { s with regs := t.regs, caravan := { s.caravan with
        barriers := t.caravan.barriers, barrierResult := barAccepted, barrierSlot := i } }) ∧
  (∀ (s : State) (acc : Accessor) (v : Word), s.Accepts acc .CARAVAN_BARRIER_COMMIT → fld v 0 16 ≠ 0 →
    s.barrierLate (s.reg .CARAVAN_BARRIER_CFN) = true →
    ∃ t : State, exec (.caravanBarrierCommit acc v) s = .next t ∧ t.caravan.barriers = s.caravan.barriers ∧
      t.caravan.barrierResult = barLate ∧ t.commit = s.commit) ∧
  (∀ (s : State) (acc : Accessor) (v : Word), s.Accepts acc .CARAVAN_BARRIER_COMMIT → fld v 0 16 ≠ 0 →
    s.barrierLate (s.reg .CARAVAN_BARRIER_CFN) = false → (∀ i, i < 8 → s.barrier i ≠ none) →
    ∃ t : State, exec (.caravanBarrierCommit acc v) s = .next t ∧ t.caravan.barriers = s.caravan.barriers ∧
      t.caravan.barrierResult = barFull ∧ t.commit = s.commit) ∧
  (∀ (s : State), (∀ i b, i < 8 → s.barrier i = some b → b.cfn - 1 ≠ s.caravan.cfn) →
    exec .barrierFire s = .next (s.modHead s.refHead (fun q => { q with line0Done := true }))) ∧
  (∀ (s : State), ∃ t : State, exec .barrierFire s = .next t ∧
    (∀ i, i < 8 → t.barrier i = match s.barrier i with
      | none => none
      | some b => if b.cfn - 1 = s.caravan.cfn then none else some b) ∧
    (∀ i, 8 ≤ i → t.barrier i = s.barrier i) ∧ (t.head s.refHead).line0Done = true) ∧
  (∀ (s : State) (i : Nat) (b : Barrier), i < 8 → s.barrier i = some b → b.cfn - 1 = s.caravan.cfn →
    (∀ k c, k < 8 → k ≠ i → s.barrier k = some c → c.cfn - 1 ≠ s.caravan.cfn) →
    exec .barrierFire s = .next ((((s.freeBarrier i).commitMask b.mask.toNat).barrierResult i barFired b).modHead s.refHead
      (fun q => { q with line0Done := true }))) ∧
  (∀ (s : State) (acc : Accessor) (v : Word), s.Accepts acc .CARAVAN_BARRIER_CANCEL →
    ∃ t : State, exec (.caravanBarrierCancel acc v) s = .next t ∧
      (∀ i, i < 8 → t.barrier i = if bitAt v i = true then none else s.barrier i) ∧
      (∀ i, 8 ≤ i → t.barrier i = s.barrier i) ∧ t.commit = s.commit)

/-- Chassis inputs (R332 to R336, R339, R386): a fan that stops is reported and recorded once, and reported when it runs again;
POWER and STATUS are off without standby power, and POWER is red under the latch; the button level;
an SFP module in or out, and one over its current limit; DP_PWR folded back and its retry; a GPO that opens by its
protection, and every GPO is open outside service and debug hold. Where the manual leaves a point open the statement
follows the model's choice in log entry 101. -/
def Obligations.Chassis : Prop :=
  (∀ (s : State) (f : Fin 5) (rpm : Nat), ∃ u : State,
    exec (.fanStop f rpm) s = .next (if s.chassis.fanStopped.getLsbD f.val = decide (rpm < 1000) then u
      else if rpm < 1000 then (u.event 0xF0 [byteOf f.val, 1]).record 0x15 classD [(16, rpm)] f.val
      else u.event 0xF0 [byteOf f.val, 0]) ∧
    (∀ k, k < 5 → u.chassis.fanStopped.getLsbD k = if k = f.val then decide (rpm < 1000) else s.chassis.fanStopped.getLsbD k) ∧
    mapGet 0 u.chassis.fanRpm f.val = rpm ∧
    u = { s with chassis := { s.chassis with fanStopped := u.chassis.fanStopped, fanRpm := u.chassis.fanRpm } }) ∧
  (∀ (s : State), (s.power.standby = false → s.ledPower = ledOff ∧ s.ledStatus = ledOff) ∧
    (s.power.standby = true → s.power.latch = true → s.ledPower = ledRed) ∧
    (∀ f g, f < 5 → g < 5 → g ≠ f → s.chassis.fanStopped.getLsbD g = true → s.fanDuty f = 100)) ∧
  (∀ (s : State) (b : Bool), exec (.serviceButton b) s = .next { s with
    chassis := { s.chassis with button := b }, boot := { s.boot with buttonHeld := s.boot.buttonHeld && b } }) ∧
  (∀ (s : State) (p : Fin 2) (m : SfpModule), s.sfpModule p.val = none →
    ∃ u : State, exec (.sfpModuleChange p (some m)) s = .next (u.event 0xF1 [byteOf p.val, 1]) ∧
    u.sfpModule p.val = some m ∧ (u.chassis.sfpFault.getLsbD p.val = s.chassis.sfpFault.getLsbD p.val) ∧
    u = { s with chassis := { s.chassis with sfpModules := u.chassis.sfpModules, sfpFault := u.chassis.sfpFault } }) ∧
  (∀ (s : State) (p : Fin 2) (m : SfpModule), s.sfpModule p.val = some m →
    (∃ u : State, exec (.sfpModuleChange p none) s = .next ((u.event 0xF1 [byteOf p.val, 0]).setLink p.val false) ∧
    u.sfpModule p.val = none ∧ u.chassis.sfpFault.getLsbD p.val = false ∧
    u = { s with chassis := { s.chassis with sfpModules := u.chassis.sfpModules, sfpFault := u.chassis.sfpFault } }) ∧
    (∀ k, exec (.sfpModuleChange p (some k)) s = .next s)) ∧
  (∀ (s : State) (p : Fin 2), s.sfpModule p.val = none → exec (.sfpModuleChange p none) s = .next s) ∧
  (∀ (s : State) (p : Fin 2), (s.sfpModule p.val).isSome = true → s.chassis.sfpFault.getLsbD p.val = false →
    ∃ u : State, exec (.sfpPowerFault p) s =
      .next (((u.event 0xF1 [byteOf p.val, 2]).record 0x16 classA [] p.val).setLink p.val false) ∧
    u.chassis.sfpFault.getLsbD p.val = true ∧ u.sfpOn p.val = false ∧
    u = { s with chassis := { s.chassis with sfpFault := u.chassis.sfpFault } }) ∧
  (∀ (s : State) (p : Fin 2), (s.sfpModule p.val = none ∨ s.chassis.sfpFault.getLsbD p.val = true) →
    exec (.sfpPowerFault p) s = .next s) ∧
  (∀ (s : State) (p : Fin 4), s.chassis.dpFault.getLsbD p.val = false →
    ∃ u : State, exec (.dpPwrFoldback p) s = .next ((u.event 0xF2 [byteOf p.val, 1]).record 0x17 classA [] p.val) ∧
    u.chassis.dpFault.getLsbD p.val = true ∧ u = { s with chassis := { s.chassis with dpFault := u.chassis.dpFault } }) ∧
  (∀ (s : State) (p : Fin 4), s.chassis.dpFault.getLsbD p.val = true → exec (.dpPwrFoldback p) s = .next s ∧
    exec (.dpPwrRetry p false) s = .next s ∧
    ∃ u : State, exec (.dpPwrRetry p true) s = .next (u.event 0xF2 [byteOf p.val, 0]) ∧
    u.chassis.dpFault.getLsbD p.val = false ∧ u = { s with chassis := { s.chassis with dpFault := u.chassis.dpFault } }) ∧
  (∀ (s : State) (p : Fin 8), s.gpoDriven p.val = true → s.time.gpoTripped.getLsbD p.val = false →
    ∃ u : State, exec (.gpoOverload p) s = .next ((u.event 0xF3 [byteOf p.val]).record 0x18 classA [] p.val) ∧
    u.time.gpoTripped.getLsbD p.val = true ∧ u = { s with time := { s.time with gpoTripped := u.time.gpoTripped } }) ∧
  (∀ (s : State) (p : Fin 8), (s.gpoDriven p.val = false ∨ s.time.gpoTripped.getLsbD p.val = true) →
    exec (.gpoOverload p) s = .next s) ∧
  (∀ (s : State) (p : Fin 8), s.mode < 2 → s.gpoDriven p.val = false)

/-- The rail sequence (R347 to R351, R354, R374, R376): a start needs standby, a unit that is off, no latch and mains,
and resets the system domain; a rail is enabled when its delay has passed; a rail that reaches its level within
its window is up, one that does not during a start latches the unit and starts the reverse order; FLOOR_START and
the timers start what was left to start; RESET_STRETCH releases the resets once every rail of the sequence is up.
Where the manual leaves a point open the statement follows the model's choice in log entries 104, 105 and 115. -/
def Obligations.PowerSequence : Prop :=
  (∀ (s : State), s.power.standby = true → s.power.state = 0 → s.power.latch = false → s.mains = true →
    ∃ t : State, exec .start s = .next t ∧ t.power.state = 1 ∧ t.power.standby = true ∧ t.power.latch = false ∧
      t.boot.inReset = true ∧ t.boot.mode = 0 ∧ t.boot.attempts = 0 ∧ t.store.mem = [] ∧ t.pat.running = none ∧
      t.net.owner = .none ∧ (∀ r, r < 13 → (t.rail r).state = 0)) ∧
  (∀ (s : State), (s.power.standby = false ∨ s.power.state ≠ 0 ∨ s.power.latch = true ∨ s.mains = false) →
    exec .start s = .next s ∧ (s.power.after = .fullStart → exec .resetSystemTimer s = .next s)) ∧
  (∀ (s : State), s.power.after = .fullStart → exec .resetSystemTimer s = exec .start s) ∧
  (∀ (s : State), s.power.after ≠ .fullStart → exec .resetSystemTimer s = .next s) ∧
  (∀ (s : State) (r : Fin 13), s.power.standby = true → s.power.state = 1 → s.power.offTable = false →
    s.power.reverse = [] → s.boardHeld (railBoard r.val) = false → (s.rail r.val).state = 0 →
    ∃ t : State, exec (.railEnableTimer r) s = .next t ∧ (t.rail r.val).state = 1 ∧
      (∀ k, k ≠ r.val → t.rail k = s.rail k) ∧ t = { s with power := t.power, wire := t.wire }) ∧
  (∀ (s : State) (r : Fin 13), (s.power.standby = false ∨ (s.rail r.val).state ≠ 0 ∨ s.boardHeld (railBoard r.val) = true) →
    exec (.railEnableTimer r) s = .next s) ∧
  (∀ (s : State) (r : Fin 16) (g : RailReading), (s.rail r.val).state ≠ 1 → exec (.railWindowExpiry r g) s =
    .next (s.modRail r.val (fun q => { q with mv := g.millivolts, pg := g.powerGood, limiting := g.limiting }))) ∧
  (∀ (s : State) (r : Fin 16) (g : RailReading), (s.rail r.val).state = 1 → s.railReached r.val g = true →
    ∃ t : State, exec (.railWindowExpiry r g) s = .next t ∧ t.rail r.val = { s.rail r.val with
        mv := g.millivolts, pg := g.powerGood, limiting := g.limiting, state := 2, lastRetry := s.time.tb.toNat } ∧
      (∀ k, k ≠ r.val → t.rail k = s.rail k)) ∧
  (∀ (s : State) (r : Fin 16) (g : RailReading), r.val < 14 → (s.rail r.val).state = 1 → s.railReached r.val g = false →
    s.power.state = 1 → s.boot.inReset = true → ∃ t : State, exec (.railWindowExpiry r g) s = .next t ∧ t.power.latch = true ∧
      t.power.startFail = satInc s.power.startFail ∧ (t.rail r.val).state = 4 ∧
      t.power.reverse = t.reverseOrder ∧ t.power.after = (if r.val ≤ 5 then .stay else .floorStart)) ∧
  (∀ (s : State) (r : Nat) (q : List Nat), s.power.reverse = r :: q → s.boot.inReset = true →
    ∃ t : State, exec .reverseOffStep s = .next t ∧ (t.rail r).state = 0 ∧ (∀ k, k ≠ r → t.rail k = s.rail k) ∧
      t.power.reverse = q ∧ t.power.state = (if q.isEmpty then 0 else s.power.state) ∧
      t = { s with power := t.power, wire := t.wire }) ∧
  (∀ (s : State), s.power.reverse = [] → exec .reverseOffStep s = .next s) ∧
  (∀ (s : State), s.power.standby = true → s.power.state = 0 → s.power.latch = true → s.power.after = .floorStart →
    s.mains = true → ∃ t : State, exec .floorStart s = .next t ∧ t.power.state = 4 ∧ t.power.boardsOff = 7 ∧
      t.power.latch = true ∧ t.boot.inReset = true) ∧
  (∀ (s : State), (s.power.state ≠ 0 ∨ s.power.after ≠ .floorStart ∨ s.mains = false) → exec .floorStart s = .next s) ∧
  (∀ (s : State), s.boot.inReset = true → s.boot.held = false → s.wholeOff = false → (s.power.state = 1 ∨ s.power.state = 4) →
    s.sequenceUp = true → ∃ t : State, exec .resetStretchEnd s = .next t ∧ t.boot.inReset = false ∧
      t.boot.cause = s.boot.nextCause ∧ t.boot.releaseTb = s.time.tb.toNat ∧ t.boot.boardsUp = ~~~s.power.boardsOff ∧
      t.power.state = (if s.power.state = 1 then 2 else 4) ∧ t = { s with power := t.power, boot := t.boot, wire := t.wire }) ∧
  (∀ (s : State), (s.boot.inReset = false ∨ s.boot.held = true ∨ s.wholeOff = true ∨ s.sequenceUp = false) →
    exec .resetStretchEnd s = .next s) ∧
  (∀ (s : State) (r : Fin 13), (s.rail r.val).state = 5 → s.wholeOff = false → s.boardHeld (railBoard r.val) = false →
    ∃ t : State, exec (.retryTimer r) s = .next t ∧ (t.rail r.val).state = 1 ∧ (∀ k, k ≠ r.val → t.rail k = s.rail k) ∧
      (t.rail r.val).retries = (s.rail r.val).retries ∧ t = { s with power := t.power, wire := t.wire }) ∧
  (∀ (s : State) (r : Fin 13), ((s.rail r.val).state ≠ 5 ∨ s.wholeOff = true ∨ s.boardHeld (railBoard r.val) = true) →
    exec (.retryTimer r) s = .next s)

/-- Rail faults (R352 to R354, R357, R366): a gate that holds its limit on an accessory output latches it off, during
a start it is a start failure; a sample records voltages and counts consecutive samples beyond a level, and with
no fault changes no rail's state but between up and warning; a rail of the off table goes off; the retry limit
turns retry into the shutting down of its group, and the third reset reaction in 60 s latches the unit. Where the
manual leaves a point open the statement follows the model's choice in log entries 105 and 106. -/
def Obligations.RailFaults : Prop :=
  (∀ (s : State) (r : Fin 16), (railGated r.val = false ∨ s.railOn r.val = false) → exec (.gateCurrentLimit r) s = .next s) ∧
  (∀ (s : State) (r : Fin 16), 14 ≤ r.val → s.railOn r.val = true →
    ∃ t : State, exec (.gateCurrentLimit r) s = .next t ∧ (t.rail r.val).state = 6 ∧
      t.power.accLatched.getLsbD (r.val - 14) = true) ∧
  (∀ (s : State) (r : Fin 16), r.val < 14 → railGated r.val = true → s.railOn r.val = true → s.power.state = 1 →
    s.boot.inReset = true → ∃ t : State, exec (.gateCurrentLimit r) s = .next t ∧ t.power.latch = true ∧
      t.power.startFail = satInc s.power.startFail ∧ (t.rail r.val).state = 4 ∧ t.power.reverse = t.reverseOrder) ∧
  (∀ (s : State) (gs : List RailReading), s.power.standby = false → exec (.railSample gs) s = .next s) ∧
  (∀ (s : State) (gs : List RailReading), s.power.standby = true → s.starting = true → s.power.offTable = false →
    gs.length = 16 → ∃ t : State, exec (.railSample gs) s = .next t ∧
      (∀ r g, gs[r]? = some g → ((s.rail r).state = 1 → s.railReached r g = true →
        t.rail r = { s.rail r with mv := g.millivolts, pg := g.powerGood, limiting := g.limiting, state := 2
                                   lastRetry := s.time.tb.toNat }) ∧
        (((s.rail r).state ≠ 1 ∨ s.railReached r g = false) →
          t.rail r = { s.rail r with mv := g.millivolts, pg := g.powerGood, limiting := g.limiting })) ∧
      t = { s with power := { s.power with rails := t.power.rails } }) ∧
  (∀ (r : Nat) (levels : Word) (q : RailSt) (g : RailReading),
    400 * g.millivolts + levelAt r (fld levels 8 8) < 400 * railNominal r →
    (judge r levels false q g).1.uvRun = min 4 (q.uvRun + 1) ∧
    ((railGated r && g.limiting && !q.limiting) = false → q.uvRun = 2 → (judge r levels false q g).2.2 = some kindUv)) ∧
  (∀ (r : Nat) (levels : Word) (q : RailSt) (g : RailReading),
    400 * railNominal r ≤ 400 * g.millivolts + levelAt r (fld levels 8 8) → (judge r levels false q g).1.uvRun = 0) ∧
  (∀ (s : State) (r : Nat), r ≤ 12 → fld (s.railConfig r) 0 2 = 1 → 6 ≤ r →
    s.nextReaction r = (if s.retriesMade r < fld (s.railConfig r) 4 3 then 1 else 2)) ∧
  (∀ (s : State) (r : Nat), r ≤ 5 → fld (s.railConfig r) 0 2 = 1 → s.nextReaction r = 3) ∧
  (∀ (s : State) (r : Fin 16), s.power.offTable = true → r.val ≤ 12 → s.railOn r.val = true → s.boot.inReset = true →
    ∃ t : State, exec (.offTableStep r) s = .next t ∧ (t.rail r.val).state = 0 ∧ (∀ k, k ≠ r.val → t.rail k = s.rail k) ∧
      (t.allOff = true → t.power.offTable = false ∧ t.power.state = 0)) ∧
  (∀ (s : State) (r : Fin 16), s.power.offTable = false → s.boardHeld (railBoard r.val) = false →
    exec (.offTableStep r) s = .next s)

/-- Modules, mains and heat (R345, R357, R358, R360, R364): a module's change is kept and reported once; AC-fail
raises PFW, a start then begins to shut down; its delay starts the off table; a return in time withdraws PFW; a
thermal warning is recorded; a trip latches and shuts down, once; POS counts seconds with 12V_MAIN up, and
its write to the FRAM succeeds, or leaves FRAM_FAULT and what the FRAM held. Where the manual leaves a point open the
statement follows the model's choice in log entries 107, 108, 112 and 157. -/
def Obligations.MainsAndHeat : Prop :=
  (∀ (s : State) (i : Fin 2) (c : PsuCond), mapGet default s.power.psus i.val = c → exec (.psuChange i c) s = .next s) ∧
  (∀ (s : State) (i : Fin 2), mapGet default s.power.psus i.val ≠ .delivering →
    exec (.psuChange i .delivering) s = .next (({ s with power := { s.power with
      psus := mapSet default s.power.psus i.val .delivering } } : State).psvEvent 0xF8 [byteOf i.val, 0])) ∧
  (∀ (s : State) (i : Fin 2) (c : PsuCond), mapGet default s.power.psus i.val ≠ c → c ≠ .delivering →
    ∃ k : Nat, exec (.psuChange i c) s = .next ((({ s with power := { s.power with
      psus := mapSet default s.power.psus i.val c } } : State).psvRecordOpen [(8, k)]).psvEvent 0xF8
      [byteOf i.val, byteOf (psuCode c)])) ∧
  (∀ (s : State), s.power.standby = true → s.power.state ≠ 0 → s.power.pfw = false →
    ∃ (t : State) (k : Nat), exec .acFail s = .next (if s.starting = true
        then ((t.psvRecordOpen [(8, k)]).psvEvent 0xF9 [1]).startOff .mainsStart
        else (t.psvRecordOpen [(8, k)]).psvEvent 0xF9 [1]) ∧
      t = { s with power := { s.power with mainsDown := true, pfw := true }, boot := { s.boot with nextCause := 5 } }) ∧
  (∀ (s : State), (s.power.standby = false ∨ s.power.state = 0 ∧ s.power.after ≠ .fullStart) →
    exec .acFail s = .next { s with power := { s.power with mainsDown := true } }) ∧
  (∀ (s : State), s.power.standby = true → s.power.state = 0 → s.power.after = .fullStart →
    exec .acFail s = .next { s with power := { s.power with mainsDown := true, after := .mainsStart }
                                    boot := { s.boot with nextCause := 5 } }) ∧
  (∀ (s : State), s.power.pfw = true → s.power.mainsDown = true → s.power.state ≠ 0 → s.power.after ≠ .mainsStart →
    exec .pfwDelayExpiry s = .next ((({ s with power := { s.power with mainsLoss := satInc s.power.mainsLoss } } : State).psvEvent
      0xF9 [2]).startOff .mainsStart)) ∧
  (∀ (s : State), (s.power.pfw = false ∨ s.power.mainsDown = false ∨ s.power.state = 0 ∨ s.power.after = .mainsStart) →
    exec .pfwDelayExpiry s = .next s) ∧
  (∀ (s : State), s.power.pfw = true → s.power.after ≠ .mainsStart → exec .mainsReturn s =
    .next (({ s with power := { s.power with mainsDown := false, pfw := false, pfwCount := satInc s.power.pfwCount }
                     boot := { s.boot with nextCause := s.boot.cause } } : State).psvEvent 0xF9 [0])) ∧
  (∀ (s : State), s.power.after = .mainsStart → exec .mainsReturn s =
    exec .start { s with power := { s.power with mainsDown := false } }) ∧
  (∀ (s : State), s.power.pfw = false → s.power.after ≠ .mainsStart →
    exec .mainsReturn s = .next { s with power := { s.power with mainsDown := false } }) ∧
  (∀ (s : State) (t : Byte), exec (.thermalWarning t) s = .next ((s.psvRecordOpen [(8, kindThermal)]).psvEvent 0xFC [1, t])) ∧
  (∀ (s : State) (t : Byte), s.power.state ≠ 0 → s.power.thermal = false →
    ∃ u : State, exec (.thermalTrip t) s = .next (u.startOff .thermalStart) ∧ u.power.latch = true ∧
      u.power.thermal = true ∧ u.power.trips = satInc s.power.trips ∧ u.power.first.isSome = true ∧
      (∀ f, s.power.first = some f → u.power.first = some f)) ∧
  (∀ (s : State) (t : Byte), (s.power.state = 0 ∨ s.power.thermal = true) → exec (.thermalTrip t) s = .next s) ∧
  (∀ (s : State), s.power.standby = true → s.power.state = 0 → s.power.after = .thermalStart → s.mains = true →
    ∃ t : State, exec .thermalRestart s = .next t ∧ t.power.state = 4 ∧ t.power.boardsOff = 7 ∧ t.boot.inReset = true) ∧
  (∀ (s : State), (s.power.state ≠ 0 ∨ s.power.after ≠ .thermalStart) → exec .thermalRestart s = .next s) ∧
  (∀ (s : State), (s.rail 0).state ≠ 2 → (s.rail 0).state ≠ 3 → exec .posTick s = .next s) ∧
  (∀ (s : State), ((s.rail 0).state = 2 ∨ (s.rail 0).state = 3) → ∃ t : State, exec .posTick s = .next t ∧
    t.power.pos = BitVec.ofNat 32 (min 0xFFFFFFFF (s.power.pos.toNat + 1)) ∧
    (t = { s with freeCount := s.freeCount + 1, power := { s.power with pos := t.power.pos } } ∨
      (t.power.framFault = some s.power.fram ∧ t.framBytes = s.framBytes)))

/-- The supervisor link (R361 to R363): the master sends a word with its CRC, and none to a failed slave; a sound
reply of the word sent ends the retries and delivers what it carries; a failed exchange is counted and sent again,
up to three times; the fourth in a row fails the slave, and its board is then held off; a slave answers one word
late, switches its rails and answers ERROR to a word it cannot take; its watchdog switches them off. Where the
manual leaves a point open the statement follows the model's choice in log entries 111, 113 and 117. -/
def Obligations.SupervisorLink : Prop :=
  (∀ (s : State) (b : Board) (c : Byte) (d : BitVec 16), s.power.standby = true → (s.slave (boardOf b - 1)).state ≠ 2 →
    ∃ t : State, exec (.supervisorPoll b c d) s = .next t ∧
      t.wire = s.wire ++ [.supervisor b (linkWord c.toNat d.toNat)] ∧
      (t.slave (boardOf b - 1)).lastWord = linkWord c.toNat d.toNat ∧
      (∀ k, k ≠ boardOf b - 1 → t.slave k = s.slave k) ∧
      t = { s with wire := t.wire, power := { s.power with slaves := t.power.slaves } }) ∧
  (∀ (s : State) (b : Board) (c : Byte) (d : BitVec 16) (w : Word),
    (s.power.standby = false ∨ (s.slave (boardOf b - 1)).state = 2) →
    exec (.supervisorPoll b c d) s = .next s ∧ exec (.supervisorReply b w) s = .next s) ∧
  (∀ (s : State) (b : Board) (w : Word), s.power.standby = true → (s.slave (boardOf b - 1)).state ≠ 2 →
    linkSound w = true → fld w 24 8 = fld (s.slave (boardOf b - 1)).lastWord 24 8 →
    ∃ t : State, exec (.supervisorReply b w) s = .next t ∧ (t.slave (boardOf b - 1)).state = 0 ∧
      (t.slave (boardOf b - 1)).tries = 0 ∧ t.wire = s.wire ∧
      (fld w 24 8 = 3 → (boardRails (boardOf b)).contains (boardFeed (boardOf b) + fld (s.slave (boardOf b - 1)).lastWord 8 16) =
        true → (t.rail (boardFeed (boardOf b) + fld (s.slave (boardOf b - 1)).lastWord 8 16)).mv = fld w 8 16)) ∧
  (∀ (s : State) (b : Board) (w : Word), s.power.standby = true → (s.slave (boardOf b - 1)).state ≠ 2 →
    linkSound w = false → (s.slave (boardOf b - 1)).tries < 3 →
    ∃ t : State, exec (.supervisorReply b w) s = .next (t.psvEvent 0xFB [byteOf (boardOf b), 0]) ∧
      t.wire = s.wire ++ [.supervisor b (s.slave (boardOf b - 1)).lastWord] ∧
      t.slave (boardOf b - 1) = { s.slave (boardOf b - 1) with
        state := 1, tries := (s.slave (boardOf b - 1)).tries + 1, retry := min 0xFF ((s.slave (boardOf b - 1)).retry + 1)
        crc := min 0xFF ((s.slave (boardOf b - 1)).crc + 1) }) ∧
  (∀ (s : State) (b : Board) (w : Word), s.power.standby = true → (s.slave (boardOf b - 1)).state ≠ 2 →
    linkSound w = false → 3 ≤ (s.slave (boardOf b - 1)).tries →
    ∃ t : State, exec (.supervisorReply b w) s = .next (t.slaveFails (boardOf b)) ∧
      (t.slave (boardOf b - 1)).crc = min 0xFF ((s.slave (boardOf b - 1)).crc + 1) ∧
      t = { s with power := { s.power with slaves := t.power.slaves } }) ∧
  (∀ (s : State) (b : Board), (s.power.state = 0 ∨ s.wholeOff = true) → ∃ t : State,
    s.slaveFails (boardOf b) = t ∧ (t.slave (boardOf b - 1)).state = 2 ∧ t.boardHeld (boardOf b) = true ∧
    t.power.first.isSome = true) ∧
  (∀ (s : State) (b : Board) (w : Word) (n : Nat), ∃ (t : State) (r : Word), exec (.slaveWord b w n) s = .next t ∧
    t.wire = s.wire ++ [.slaveReply b (s.slave (boardOf b - 1)).reply] ∧ (t.slave (boardOf b - 1)).reply = r ∧
    (∀ k, k ≠ boardOf b - 1 → t.slave k = s.slave k) ∧
    (n ≠ 32 → r = linkWord cmdError 1 ∧ (t.slave (boardOf b - 1)).rails = (s.slave (boardOf b - 1)).rails) ∧
    (n = 32 → linkSound w = false →
      r = linkWord cmdError 2 ∧ (t.slave (boardOf b - 1)).rails = (s.slave (boardOf b - 1)).rails) ∧
    (n = 32 → linkSound w = true → 6 ≤ fld w 24 8 →
      r = linkWord cmdError 3 ∧ (t.slave (boardOf b - 1)).rails = (s.slave (boardOf b - 1)).rails) ∧
    (n = 32 → linkSound w = true → fld w 24 8 = 1 → r = linkWord cmdEnable (t.slave (boardOf b - 1)).rails.toNat ∧
      (t.slave (boardOf b - 1)).rails = (s.slave (boardOf b - 1)).rails |||
        BitVec.ofNat 4 (fld w 8 16 % 2 ^ (boardRails (boardOf b)).length)) ∧
    (n = 32 → linkSound w = true → fld w 24 8 = 2 → r = linkWord cmdDisable (t.slave (boardOf b - 1)).rails.toNat ∧
      (t.slave (boardOf b - 1)).rails = (s.slave (boardOf b - 1)).rails &&&
        ~~~ (BitVec.ofNat 4 (fld w 8 16 % 2 ^ (boardRails (boardOf b)).length))) ∧
    t = { s with wire := t.wire, power := { s.power with slaves := t.power.slaves } }) ∧
  (∀ (s : State) (b : Board), ∃ t : State, exec (.slaveWatchdog b) s = .next t ∧
    t.slave (boardOf b - 1) = { s.slave (boardOf b - 1) with rails := 0 } ∧
    (∀ k, k ≠ boardOf b - 1 → t.slave k = s.slave k) ∧
    (∀ r, t.rail r = if railBoard r = boardOf b ∧ r < 13 then { s.rail r with pg := false, limiting := false } else s.rail r) ∧
    t = { s with power := { s.power with slaves := t.power.slaves, rails := t.power.rails } })

/-- Commands of the power supervisor (R351, R352, R355, R365, R368, R373, R376): CLEAR_LATCH is taken from USB alone
and makes a full start; CLEAR_RECORD, CLEAR_COUNTERS and RESTART_GROUP; ACC_CONTROL switches the accessory outputs
in service; STBY_5V coming up starts TB at 0 and polls, and its loss keeps what FRAM keeps. Where the manual
leaves a point open the statement follows the model's choice in log entries 109, 110 and 113. -/
def Obligations.PowerCommands : Prop :=
  (∀ (s : State), s.Accepts .usb .PSV_COMMAND → ∃ t : State, exec (.clearLatch .usb) s = .next (t.startOff .fullStart) ∧
    t.power.latch = false ∧ t.power.thermal = false ∧ t.power.result = 3 ∧ t.boot.nextCause = 2 ∧
    t = { s with regs := t.regs, power := t.power, boot := t.boot }) ∧
  (∀ (s : State) (acc : Accessor), acc ≠ .usb → s.Accepts acc .PSV_COMMAND → ∃ t : State, exec (.clearLatch acc) s = .next t ∧
    t.power.latch = s.power.latch ∧ t.power.result = 2 ∧
    t = { s with regs := t.regs, power := { s.power with result := 2 } }) ∧
  (∀ (s : State) (acc : Accessor), s.Accepts acc .PSV_COMMAND → ∃ t : State, exec (.clearRecord acc) s = .next t ∧
    t.power.first = none ∧ t = { s with regs := t.regs, power := { s.power with first := none, result := 1 } }) ∧
  (∀ (s : State) (acc : Accessor), s.Accepts acc .PSV_COMMAND → ∃ t : State, exec (.clearCounters acc) s = .next t ∧
    (∀ r, r < 16 → t.rail r = { s.rail r with uvWarn := 0, uvFault := 0, ovWarn := 0, ovFault := 0, retry := 0 }) ∧
    t.power.result = 1 ∧ t = { s with regs := t.regs, power := { s.power with rails := t.power.rails, result := 1 } }) ∧
  (∀ (s : State) (acc : Accessor) (b : Fin 4), s.Accepts acc .PSV_COMMAND →
    (b.val = 0 ∨ s.power.latch = true ∨ s.wholeOff = true) → ∃ t : State, exec (.restartGroup acc b) s = .next t ∧
    t = { s with regs := t.regs, power := { s.power with result := 2 } }) ∧
  (∀ (s : State) (acc : Accessor) (b : Fin 4), s.Accepts acc .PSV_COMMAND → b.val ≠ 0 → s.power.latch = false →
    s.wholeOff = false → s.boardHeld b.val = true → (s.slave (b.val - 1)).state ≠ 2 →
    ∃ t : State, exec (.restartGroup acc b) s = .next t ∧ t.boardHeld b.val = false ∧ t.power.result = 3 ∧
      (t.rail (boardFeed b.val)).state = 1 ∧
      (∀ r, r ∈ boardRails b.val → r ≠ boardFeed b.val → (t.rail r).state = 0) ∧
      (∀ r, r ∉ boardRails b.val → t.rail r = s.rail r)) ∧
  (∀ (s : State) (acc : Accessor) (v : Word) (k : Fin 2), s.Accepts acc .ACC_CONTROL → s.boot.mode = 2 →
    (bitAt v k.val = false → (s.rail (14 + k.val)).state ≠ 6 → ∃ t : State, exec (.accControlWrite acc v) s = .next t ∧
      (t.rail (14 + k.val)).state = 0) ∧
    (bitAt v k.val = true → (s.rail (14 + k.val)).state = 0 → ∃ t : State, exec (.accControlWrite acc v) s = .next t ∧
      (t.rail (14 + k.val)).state = 1) ∧
    (bitAt v k.val = true → bitAt (s.reg .ACC_CONTROL) k.val = false → s.power.accLatched.getLsbD k.val = true →
      ∃ t : State, exec (.accControlWrite acc v) s = .next t ∧
      (t.rail (14 + k.val)).state = 1 ∧ t.power.accLatched.getLsbD k.val = false)) ∧
  (∀ (s : State) (a : BitVec 3), s.power.standby = true → exec (.standbyUp a) s = .next s) ∧
  (∀ (s : State), s.power.standby = false → ∃ t : State, exec (.standbyUp 7) s = .next t ∧ t.power.standby = true ∧
    t.power.state = 0 ∧ t.time.tb = 0 ∧ t.boot.buttonHeld = s.chassis.button ∧ t.boot.nextCause = 0 ∧
    (t.rail 13).state = 2 ∧ t.power.latch = s.power.latch) ∧
  (∀ (s : State), ∃ t : State, exec .standbyLost s = .next t ∧ t.power.standby = false ∧ t.power.latch = false ∧
    t.power.first = s.power.fram.first ∧ t.power.pos = s.power.fram.pos ∧ t.power.trips = s.power.fram.trips ∧ t.regs = s.nv ∧
    t.boot.inReset = true ∧ t.time.tb = 0 ∧ t.store.mem = [] ∧ t.net.secret = s.net.secret ∧
    (∀ r, r < 16 → (t.rail r).state = 0 ∧ (t.rail r).uvFault = (mapGet default s.power.fram.rails r).uvFault ∧
      (t.rail r).retry = (mapGet default s.power.fram.rails r).retry) ∧
    (s.power.framFault = none → t.power.first = s.power.first ∧ t.power.pos = s.power.pos))

/-- Bring-up and resets (R105, R370, R371, R374, R376, R384, R397, R408): the VCO's lock ends step 5; a clock fault
resets the unit warm, the third in 60 s holds it, and its record follows; a warm reset keeps the Ledger, the flash
slots, the rails and the stored settings, and asserts each board reset; the boot ROM releases the registers and ends step 6; training maps the
channels that passed, and with fewer than two enters floor mode; a failed lock or check is tried three times;
CLEAR with its key empties the Ledger, and its scan marks a failed entry. Where the manual leaves a point open the
statement follows the model's choice in log entries 86, 104 and 114. -/
def Obligations.BringUp : Prop :=
  (∀ (s : State), s.released = true → s.boot.vcoLock = false → ∃ t : State, exec (.vcoLock true) s = .next t ∧
    t.boot.vcoLock = true ∧ t.boot.clocks = true ∧ t.boot.step = 5 ∧ t = { s with boot := t.boot }) ∧
  (∀ (s : State) (b : Bool), (s.released = false ∨ s.boot.vcoLock = true ∨ b = false) → exec (.vcoLock b) s = .next s) ∧
  (∀ (s : State) (c : Fin 7) (d : BitVec 16), (c.val = 5 ∨ s.boot.clocks = false ∨ s.boot.inReset = true) →
    exec (.clockFault c d) s = .next s) ∧
  (∀ (s : State) (c : Fin 7) (d : BitVec 16), c.val ≠ 5 → s.boot.clocks = true → s.boot.inReset = false →
    ∃ t : State, exec (.clockFault c d) s =
        .next (t.record' (mkEntry s 0x1B classD d.toNat (if c.val = 6 then 0xFF else c.val) none false)) ∧
      t.boot.inReset = true ∧ t.boot.clocks = false ∧ t.ledger.entries = s.ledger.entries ∧
      t.boot.faults = s.boot.faults.filter (fun x => decide (s.time.tb.toNat - x ≤ 6000000000)) ++ [s.time.tb.toNat] ∧
      (t.boot.faults.length < 3 → t.boot.nextCause = 4 ∧ t.boot.held = s.boot.held ∧
        t.boot.warmCount = satInc s.boot.warmCount) ∧
      (3 ≤ t.boot.faults.length → t.boot.held = true)) ∧
  (∀ (s : State) (acc : Accessor) (v : Word), s.Accepts acc .RESET_CONTROL → bitAt v 0 = true → fld v 16 16 = 0x5A5A →
    ∃ t : State, exec (.warmReset acc v) s = .next t ∧ t.boot.inReset = true ∧ t.boot.regsUp = false ∧ t.boot.mode = 0 ∧
      t.boot.nextCause = 3 ∧ t.boot.warmCount = satInc s.boot.warmCount ∧ t.ledger.entries = s.ledger.entries ∧
      t.ledger.generation = s.ledger.generation ∧ t.store.mem = [] ∧ t.heads = [] ∧ t.routes = default ∧ t.active = [] ∧
      t.net.owner = .none ∧ t.net.secret = s.net.secret ∧
      ((∀ op, s.pat.op = some op → op.kind ≠ .program) → t.pat.slotA = s.pat.slotA ∧ t.pat.slotB = s.pat.slotB) ∧
      t.pat.running = none ∧ t.nv = s.nv ∧ t.time.tb = s.time.tb ∧ (∀ r, r < 14 → t.rail r = s.rail r) ∧
      (∀ b, b < 3 → s.power.standby = true → (s.slave b).state ≠ 2 →
        OutMsg.supervisor (boardName (b + 1)) (linkWord cmdBoardReset 1) ∈ t.wire)) ∧
  (∀ (s : State) (acc : Accessor) (v : Word), s.Accepts acc .RESET_CONTROL → (bitAt v 0 = false ∨ fld v 16 16 ≠ 0x5A5A) →
    exec (.warmReset acc v) s = .next (s.written .RESET_CONTROL 0 0 v)) ∧
  (∀ (s : State) (b : Bool), s.bootReady = true → ∃ t : State, exec (.bringUp true b) s = .next t ∧ t.boot.regsUp = true ∧
    t.boot.step = 6 ∧ t.boot.usbPhyOk = b ∧ t.boot.attempts = 0 ∧ t.ledger.up = true ∧ t.power.heldRecords = [] ∧
    t.time.gpiState = s.time.gpiIn) ∧
  (∀ (s : State) (a b : Bool), (s.bootReady = false ∨ a = false) → exec (.bringUp a b) s = .next s) ∧
  (∀ (s : State) (tr : BitVec 8) (m : List (BitVec 16)), (s.boot.regsUp = false ∨ s.boot.step ≠ 6 ∨ s.pat.filling = true) →
    exec (.storeTrainingDone tr m) s = .next s) ∧
  (∀ (s : State) (tr : BitVec 8) (m : List (BitVec 16)), s.boot.regsUp = true → s.boot.step = 6 → s.pat.filling = false →
    (∀ c, (s.channel c).state ≠ 3 ∧ (s.channel c).state ≠ 4) →
    ∃ t : State, exec (.storeTrainingDone tr m) s = .next t ∧
      (2 ≤ ((List.range 8).filter (fun c => tr.getLsbD c)).length → t.pat.filling = true ∧ t.boot = s.boot ∧
        t.store.chanList = (List.range 8).filter (fun c => tr.getLsbD c) ∧ t.store.mem = [] ∧
        (∀ c, c < 8 → (t.channel c).state = if tr.getLsbD c = true then 2 else 4)) ∧
      (((List.range 8).filter (fun c => tr.getLsbD c)).length < 2 → s.pat.running = none → t.boot.mode = 1 ∧ t.boot.floorCause = 3 ∧
        t.pat.filling = false)) ∧
  (∀ (s : State), s.released = true → s.boot.step < 6 → ∃ t : State, exec .bringUpRetry s = .next t ∧ t.boot.inReset = true ∧
    t.boot.attempts = s.boot.attempts + 1 ∧ (t.boot.held = true ↔ 2 ≤ s.boot.attempts) ∧
    t.ledger.entries = s.ledger.entries) ∧
  (∀ (s : State), (s.released = false ∨ 6 ≤ s.boot.step) → exec .bringUpRetry s = .next s) ∧
  (∀ (s : State) (acc : Accessor) (v : Word), s.Accepts acc .LEDGER_CONTROL → bitAt v 0 = true → fld v 16 16 = 0x4C44 →
    ∃ t : State, exec (.ledgerClear acc v) s = .next (t.ledgerEvent 0) ∧ t.ledger.entries = [] ∧ t.ledger.parity = false ∧
      t.ledger.generation = s.ledger.generation + 1 ∧ t.ledger.overflow = 0 ∧ t.ledger.countA = 0 ∧
      t = { s with regs := t.regs, ledger := t.ledger }) ∧
  (∀ (s : State) (acc : Accessor) (v : Word), s.Accepts acc .LEDGER_CONTROL → (bitAt v 0 = false ∨ fld v 16 16 ≠ 0x4C44) →
    exec (.ledgerClear acc v) s = .next (s.written .LEDGER_CONTROL 0 0 v)) ∧
  (∀ (s : State) (k : Fin 64), s.ledger.up = true → k.val < s.ledger.entries.length →
    ∃ t : State, exec (.ledgerParityScan k true) s = .next t ∧ t.ledger.parity = true ∧ k.val ∈ t.ledger.badParity ∧
      (∀ i, i ≠ k.val → (i ∈ t.ledger.badParity ↔ i ∈ s.ledger.badParity)) ∧ t.ledger.entries = s.ledger.entries) ∧
  (∀ (s : State) (k : Fin 64) (b : Bool), (s.ledger.up = false ∨ b = false ∨ s.ledger.entries.length ≤ k.val) →
    exec (.ledgerParityScan k b) s = .next s)

/-- The register space and its addresses agree: decoding the address of any register at any of its indices gives that
register and those indices back, and an address that decodes belongs to the register it decodes to; so no two
registers share an address (R7, R16, R56). -/
def Obligations.RegisterSpace : Prop :=
  (∀ (r : Reg) (i j : Nat), i < r.row.count → j < r.row.count' → regAt (r.addr i j) = some (r, i, j)) ∧
  (∀ (a : Nat) (r : Reg) (i j : Nat), regAt a = some (r, i, j) →
    r.addr i j = a ∧ a % 4 = 0 ∧ i < r.row.count ∧ j < r.row.count') ∧
  (∀ (r r' : Reg) (i j i' j' : Nat), i < r.row.count → j < r.row.count' → i' < r'.row.count → j' < r'.row.count' →
    r.addr i j = r'.addr i' j' → r = r' ∧ i = i' ∧ j = j')

/-- Every command of the table is carried out: exec answers a next state for it in every state, and so does every
step. -/
def Obligations.CommandsComplete : Prop :=
  (∀ (c : Instr) (s : State), ∃ t, exec c s = .next t) ∧ (∀ s : State, ∃ t, step s = .next t)

/-- One who is not the owner changes no register, no active value, nothing kept in FRAM and nothing of the pattern: of
a run of words it writes, none is accepted (R59, R63, R267, R410); the owner itself and the lock stand as they
were. -/
def Obligations.NonOwnerWritesNothing : Prop :=
  ∀ (s : State) (acc : Accessor) (a : Nat) (vs : List Word), s.isOwner acc = false →
    ∃ u, State.writeRun acc s a vs 0 = (u, 0) ∧ u.regs = s.regs ∧ u.active = s.active ∧ u.nv = s.nv ∧
      u.pat = s.pat ∧ u.commit = s.commit ∧ u.net = s.net ∧ u.boot = s.boot ∧
      (∀ acc', u.isOwner acc' = s.isOwner acc')
end

