-- ==== Sys2Proof/Laws/Map.lean ====
section
/-! SUPPORT. Laws of sparse maps and of the Store's bytes: reading after writing, and the canonical form. -/

namespace Sys2Proof.Machine

variable {α : Type}

theorem mapGet_insert (d : α) (m : SMap α) (i j : Nat) (x : α) :
    mapGet d (mapInsert i x m) j = if j = i then x else mapGet d m j := by
  induction m with
  | nil => simp [mapInsert, mapGet, eq_comm]
  | cons p m ih =>
    obtain ⟨k, v⟩ := p
    by_cases h1 : i < k
    · simp [mapInsert, mapGet, h1, eq_comm]
    · by_cases h2 : i = k
      · subst h2
        by_cases h3 : j = i
        · simp [mapInsert, mapGet, h3]
        · simp [mapInsert, mapGet, h3, Ne.symm h3]
      · by_cases h3 : j = i
        · subst h3
          simp [mapInsert, mapGet, h1, h2, Ne.symm h2, ih]
        · simp [mapInsert, mapGet, h1, h2, h3, ih]

theorem mapGet_erase (d : α) (m : SMap α) (i j : Nat) :
    mapGet d (mapErase i m) j = if j = i then d else mapGet d m j := by
  induction m with
  | nil => simp [mapErase, mapGet]
  | cons p m ih =>
    obtain ⟨k, v⟩ := p
    by_cases h : k = i
    · subst h
      rw [mapErase, if_pos rfl, ih, mapGet]
      by_cases h3 : j = k
      · rw [if_pos h3, if_pos h3]
      · rw [if_neg h3, if_neg h3, if_neg (Ne.symm h3)]
    · by_cases h3 : k = j
      · subst h3
        simp [mapErase, mapGet, h]
      · simp [mapErase, mapGet, ih, h, h3]

/-- Reading a key after any write. -/
theorem mapGet_mapSet [DecidableEq α] (d : α) (m : SMap α) (i j : Nat) (x : α) :
    mapGet d (mapSet d m i x) j = if j = i then x else mapGet d m j := by
  by_cases h : x = d
  · simp [mapSet, h, mapGet_erase]
  · simp [mapSet, h, mapGet_insert]

@[simp] theorem mapGet_mapSet_same [DecidableEq α] (d : α) (m : SMap α) (i : Nat) (x : α) :
    mapGet d (mapSet d m i x) i = x := by simp [mapGet_mapSet]

theorem mapGet_mapSet_ne [DecidableEq α] (d : α) (m : SMap α) {i j : Nat} (x : α) (h : j ≠ i) :
    mapGet d (mapSet d m i x) j = mapGet d m j := by simp [mapGet_mapSet, h]

@[simp] theorem mapGet_mapUpdate_same [DecidableEq α] (d : α) (m : SMap α) (i : Nat) (f : α → α) :
    mapGet d (mapUpdate d m i f) i = f (mapGet d m i) := by simp [mapUpdate]

theorem mapGet_mapUpdate_ne [DecidableEq α] (d : α) (m : SMap α) {i j : Nat} (f : α → α) (h : j ≠ i) :
    mapGet d (mapUpdate d m i f) j = mapGet d m j := by simp [mapUpdate, mapGet_mapSet_ne _ _ _ h]

/-! ### The canonical form -/

/-- The canonical form above a bound: keys exceed it and rise, values differ from the default. -/
def mapWfFrom [DecidableEq α] (d : α) : Nat → SMap α → Prop
  | _, [] => True
  | lo, (k, v) :: m => lo ≤ k ∧ v ≠ d ∧ mapWfFrom d (k + 1) m

theorem mapWf_iff [DecidableEq α] (d : α) (m : SMap α) : mapWf d m = true ↔ mapWfFrom d 0 m := by
  have gen : ∀ (m : SMap α) (k : Nat) (v : α), mapWf d ((k, v) :: m) = true ↔ (v ≠ d ∧ mapWfFrom d (k + 1) m) := by
    intro m
    induction m with
    | nil => intro k v; simp [mapWf, mapWfFrom]
    | cons p m ih =>
      intro k v
      obtain ⟨k', v'⟩ := p
      simp [mapWf, mapWfFrom, ih k' v', Nat.succ_le_iff, and_assoc]
  cases m with
  | nil => simp [mapWf, mapWfFrom]
  | cons p m => obtain ⟨k, v⟩ := p; simp [gen, mapWfFrom]

theorem mapWfFrom_mono [DecidableEq α] (d : α) {m : SMap α} {lo lo' : Nat} (h : lo' ≤ lo) (w : mapWfFrom d lo m) :
    mapWfFrom d lo' m := by
  cases m with
  | nil => trivial
  | cons p m => obtain ⟨k, v⟩ := p; exact ⟨Nat.le_trans h w.1, w.2⟩

theorem mapWfFrom_insert [DecidableEq α] (d : α) (i : Nat) {x : α} (hx : x ≠ d) {m : SMap α} {lo : Nat} (hi : lo ≤ i)
    (w : mapWfFrom d lo m) : mapWfFrom d lo (mapInsert i x m) := by
  induction m generalizing lo with
  | nil => exact ⟨hi, hx, trivial⟩
  | cons p m ih =>
    obtain ⟨k, v⟩ := p
    obtain ⟨w1, w2, w3⟩ := w
    unfold mapInsert
    split
    · exact ⟨hi, hx, by omega, w2, w3⟩
    · split
      · rename_i h; subst h; exact ⟨hi, hx, w3⟩
      · exact ⟨w1, w2, ih (by omega) w3⟩

theorem mapWfFrom_erase [DecidableEq α] (d : α) (i : Nat) {m : SMap α} {lo : Nat} (w : mapWfFrom d lo m) :
    mapWfFrom d lo (mapErase i m) := by
  induction m generalizing lo with
  | nil => trivial
  | cons p m ih =>
    obtain ⟨k, v⟩ := p
    obtain ⟨w1, w2, w3⟩ := w
    unfold mapErase
    split
    · exact mapWfFrom_mono d (by omega) (ih w3)
    · exact ⟨w1, w2, ih w3⟩

/-- A write keeps the canonical form. -/
theorem mapWf_mapSet [DecidableEq α] (d : α) {m : SMap α} (i : Nat) (x : α) (w : mapWf d m = true) :
    mapWf d (mapSet d m i x) = true := by
  rw [mapWf_iff] at *
  unfold mapSet
  split
  · exact mapWfFrom_erase d i w
  · exact mapWfFrom_insert d i (by assumption) (Nat.zero_le _) w

/-! ### The Store's bytes -/

theorem memWrite_wf {m : List Host.Cell} (a : Nat) (bs : List Byte) (w : Memory.wf m = true) :
    Memory.wf (memWrite m a bs) = true := by
  induction bs generalizing m a with
  | nil => exact w
  | cons b bs ih => exact ih (a + 1) (mapWf_mapSet 0 a b w)

/-- A byte after a write: the byte written inside the range, what it was outside. -/
theorem mapGet_memWrite (m : List Host.Cell) (a : Nat) (bs : List Byte) (j : Nat) :
    mapGet (0 : Byte) (memWrite m a bs) j = if a ≤ j ∧ j < a + bs.length then bs.getD (j - a) 0 else mapGet 0 m j := by
  induction bs generalizing m a with
  | nil => simp only [memWrite, List.length_nil]; rw [if_neg (by omega)]
  | cons b bs ih =>
    simp only [memWrite, ih, List.length_cons]
    by_cases h1 : a + 1 ≤ j ∧ j < a + 1 + bs.length
    · rw [if_pos h1, if_pos (by omega), show j - a = (j - (a + 1)) + 1 by omega]; rfl
    · rw [if_neg h1, mapGet_mapSet]
      by_cases h2 : j = a
      · subst h2; simp
      · rw [if_neg h2, if_neg (by omega)]

/-- Reading back what was written. -/
theorem memBytes_eq (m : List Host.Cell) (a n : Nat) :
    memBytes m a n = (List.range n).map (fun i => mapGet (0 : Byte) m (a + i)) := by
  induction n generalizing a with
  | zero => rfl
  | succ n ih =>
    rw [memBytes, ih, List.range_succ_eq_map]
    simp [Nat.add_assoc, Nat.add_comm 1]

theorem memBytes_memWrite_same (m : List Host.Cell) (a : Nat) (bs : List Byte) :
    memBytes (memWrite m a bs) a bs.length = bs := by
  rw [memBytes_eq]
  apply List.ext_getElem
  · simp
  · intro i h1 h2
    simp only [List.getElem_map, List.getElem_range, mapGet_memWrite]
    rw [if_pos (by omega), Nat.add_sub_cancel_left]
    simp [List.getD_eq_getElem?_getD, h2]

theorem memBytes_memWrite_apart (m : List Host.Cell) (a b n : Nat) (bs : List Byte)
    (h : b + n ≤ a ∨ a + bs.length ≤ b) : memBytes (memWrite m a bs) b n = memBytes m b n := by
  rw [memBytes_eq, memBytes_eq]
  apply List.map_congr_left
  intro i hi
  simp at hi
  rw [mapGet_memWrite, if_neg (by omega)]

end Sys2Proof.Machine
end

