-- ==== Sys2Proof/Laws/State.lean ====
section
/-! SUPPORT. What each named update of State does to each field: the field it writes, and the others unchanged. -/

namespace Sys2Proof.Machine

variable (s : State)

/-! ### modHead -/

@[simp] theorem State.modHead_regs (i : Nat) (f : HeadSt → HeadSt) : (s.modHead i f).regs = s.regs := rfl
@[simp] theorem State.modHead_active (i : Nat) (f : HeadSt → HeadSt) : (s.modHead i f).active = s.active := rfl
@[simp] theorem State.modHead_nv (i : Nat) (f : HeadSt → HeadSt) : (s.modHead i f).nv = s.nv := rfl
@[simp] theorem State.modHead_pairs (i : Nat) (f : HeadSt → HeadSt) : (s.modHead i f).pairs = s.pairs := rfl
@[simp] theorem State.modHead_pat (i : Nat) (f : HeadSt → HeadSt) : (s.modHead i f).pat = s.pat := rfl
@[simp] theorem State.modHead_commit (i : Nat) (f : HeadSt → HeadSt) : (s.modHead i f).commit = s.commit := rfl
@[simp] theorem State.modHead_ledger (i : Nat) (f : HeadSt → HeadSt) : (s.modHead i f).ledger = s.ledger := rfl
@[simp] theorem State.modHead_routes (i : Nat) (f : HeadSt → HeadSt) : (s.modHead i f).routes = s.routes := rfl
@[simp] theorem State.modHead_store (i : Nat) (f : HeadSt → HeadSt) : (s.modHead i f).store = s.store := rfl
@[simp] theorem State.modHead_porter (i : Nat) (f : HeadSt → HeadSt) : (s.modHead i f).porter = s.porter := rfl
@[simp] theorem State.modHead_sources (i : Nat) (f : HeadSt → HeadSt) : (s.modHead i f).sources = s.sources := rfl
@[simp] theorem State.modHead_skeins (i : Nat) (f : HeadSt → HeadSt) : (s.modHead i f).skeins = s.skeins := rfl
@[simp] theorem State.modHead_needles (i : Nat) (f : HeadSt → HeadSt) : (s.modHead i f).needles = s.needles := rfl
@[simp] theorem State.modHead_heads (i : Nat) (f : HeadSt → HeadSt) : (s.modHead i f).heads = mapUpdate default s.heads i f := rfl
@[simp] theorem State.modHead_dp (i : Nat) (f : HeadSt → HeadSt) : (s.modHead i f).dp = s.dp := rfl
@[simp] theorem State.modHead_raster (i : Nat) (f : HeadSt → HeadSt) : (s.modHead i f).raster = s.raster := rfl
@[simp] theorem State.modHead_block (i : Nat) (f : HeadSt → HeadSt) : (s.modHead i f).block = s.block := rfl
@[simp] theorem State.modHead_time (i : Nat) (f : HeadSt → HeadSt) : (s.modHead i f).time = s.time := rfl
@[simp] theorem State.modHead_net (i : Nat) (f : HeadSt → HeadSt) : (s.modHead i f).net = s.net := rfl
@[simp] theorem State.modHead_usb (i : Nat) (f : HeadSt → HeadSt) : (s.modHead i f).usb = s.usb := rfl
@[simp] theorem State.modHead_caravan (i : Nat) (f : HeadSt → HeadSt) : (s.modHead i f).caravan = s.caravan := rfl
@[simp] theorem State.modHead_chassis (i : Nat) (f : HeadSt → HeadSt) : (s.modHead i f).chassis = s.chassis := rfl
@[simp] theorem State.modHead_power (i : Nat) (f : HeadSt → HeadSt) : (s.modHead i f).power = s.power := rfl
@[simp] theorem State.modHead_boot (i : Nat) (f : HeadSt → HeadSt) : (s.modHead i f).boot = s.boot := rfl
@[simp] theorem State.modHead_wire (i : Nat) (f : HeadSt → HeadSt) : (s.modHead i f).wire = s.wire := rfl
@[simp] theorem State.modHead_freeCount (i : Nat) (f : HeadSt → HeadSt) : (s.modHead i f).freeCount = s.freeCount := rfl
@[simp] theorem State.modHead_pending (i : Nat) (f : HeadSt → HeadSt) : (s.modHead i f).pending = s.pending := rfl

/-! ### modSkein -/

@[simp] theorem State.modSkein_regs (i : Nat) (f : SkeinSt → SkeinSt) : (s.modSkein i f).regs = s.regs := rfl
@[simp] theorem State.modSkein_active (i : Nat) (f : SkeinSt → SkeinSt) : (s.modSkein i f).active = s.active := rfl
@[simp] theorem State.modSkein_nv (i : Nat) (f : SkeinSt → SkeinSt) : (s.modSkein i f).nv = s.nv := rfl
@[simp] theorem State.modSkein_pairs (i : Nat) (f : SkeinSt → SkeinSt) : (s.modSkein i f).pairs = s.pairs := rfl
@[simp] theorem State.modSkein_pat (i : Nat) (f : SkeinSt → SkeinSt) : (s.modSkein i f).pat = s.pat := rfl
@[simp] theorem State.modSkein_commit (i : Nat) (f : SkeinSt → SkeinSt) : (s.modSkein i f).commit = s.commit := rfl
@[simp] theorem State.modSkein_ledger (i : Nat) (f : SkeinSt → SkeinSt) : (s.modSkein i f).ledger = s.ledger := rfl
@[simp] theorem State.modSkein_routes (i : Nat) (f : SkeinSt → SkeinSt) : (s.modSkein i f).routes = s.routes := rfl
@[simp] theorem State.modSkein_store (i : Nat) (f : SkeinSt → SkeinSt) : (s.modSkein i f).store = s.store := rfl
@[simp] theorem State.modSkein_porter (i : Nat) (f : SkeinSt → SkeinSt) : (s.modSkein i f).porter = s.porter := rfl
@[simp] theorem State.modSkein_sources (i : Nat) (f : SkeinSt → SkeinSt) : (s.modSkein i f).sources = s.sources := rfl
@[simp] theorem State.modSkein_skeins (i : Nat) (f : SkeinSt → SkeinSt) : (s.modSkein i f).skeins = mapUpdate default s.skeins i f := rfl
@[simp] theorem State.modSkein_needles (i : Nat) (f : SkeinSt → SkeinSt) : (s.modSkein i f).needles = s.needles := rfl
@[simp] theorem State.modSkein_heads (i : Nat) (f : SkeinSt → SkeinSt) : (s.modSkein i f).heads = s.heads := rfl
@[simp] theorem State.modSkein_dp (i : Nat) (f : SkeinSt → SkeinSt) : (s.modSkein i f).dp = s.dp := rfl
@[simp] theorem State.modSkein_raster (i : Nat) (f : SkeinSt → SkeinSt) : (s.modSkein i f).raster = s.raster := rfl
@[simp] theorem State.modSkein_block (i : Nat) (f : SkeinSt → SkeinSt) : (s.modSkein i f).block = s.block := rfl
@[simp] theorem State.modSkein_time (i : Nat) (f : SkeinSt → SkeinSt) : (s.modSkein i f).time = s.time := rfl
@[simp] theorem State.modSkein_net (i : Nat) (f : SkeinSt → SkeinSt) : (s.modSkein i f).net = s.net := rfl
@[simp] theorem State.modSkein_usb (i : Nat) (f : SkeinSt → SkeinSt) : (s.modSkein i f).usb = s.usb := rfl
@[simp] theorem State.modSkein_caravan (i : Nat) (f : SkeinSt → SkeinSt) : (s.modSkein i f).caravan = s.caravan := rfl
@[simp] theorem State.modSkein_chassis (i : Nat) (f : SkeinSt → SkeinSt) : (s.modSkein i f).chassis = s.chassis := rfl
@[simp] theorem State.modSkein_power (i : Nat) (f : SkeinSt → SkeinSt) : (s.modSkein i f).power = s.power := rfl
@[simp] theorem State.modSkein_boot (i : Nat) (f : SkeinSt → SkeinSt) : (s.modSkein i f).boot = s.boot := rfl
@[simp] theorem State.modSkein_wire (i : Nat) (f : SkeinSt → SkeinSt) : (s.modSkein i f).wire = s.wire := rfl
@[simp] theorem State.modSkein_freeCount (i : Nat) (f : SkeinSt → SkeinSt) : (s.modSkein i f).freeCount = s.freeCount := rfl
@[simp] theorem State.modSkein_pending (i : Nat) (f : SkeinSt → SkeinSt) : (s.modSkein i f).pending = s.pending := rfl

/-! ### modNeedle -/

@[simp] theorem State.modNeedle_regs (i : Nat) (f : NeedleSt → NeedleSt) : (s.modNeedle i f).regs = s.regs := rfl
@[simp] theorem State.modNeedle_active (i : Nat) (f : NeedleSt → NeedleSt) : (s.modNeedle i f).active = s.active := rfl
@[simp] theorem State.modNeedle_nv (i : Nat) (f : NeedleSt → NeedleSt) : (s.modNeedle i f).nv = s.nv := rfl
@[simp] theorem State.modNeedle_pairs (i : Nat) (f : NeedleSt → NeedleSt) : (s.modNeedle i f).pairs = s.pairs := rfl
@[simp] theorem State.modNeedle_pat (i : Nat) (f : NeedleSt → NeedleSt) : (s.modNeedle i f).pat = s.pat := rfl
@[simp] theorem State.modNeedle_commit (i : Nat) (f : NeedleSt → NeedleSt) : (s.modNeedle i f).commit = s.commit := rfl
@[simp] theorem State.modNeedle_ledger (i : Nat) (f : NeedleSt → NeedleSt) : (s.modNeedle i f).ledger = s.ledger := rfl
@[simp] theorem State.modNeedle_routes (i : Nat) (f : NeedleSt → NeedleSt) : (s.modNeedle i f).routes = s.routes := rfl
@[simp] theorem State.modNeedle_store (i : Nat) (f : NeedleSt → NeedleSt) : (s.modNeedle i f).store = s.store := rfl
@[simp] theorem State.modNeedle_porter (i : Nat) (f : NeedleSt → NeedleSt) : (s.modNeedle i f).porter = s.porter := rfl
@[simp] theorem State.modNeedle_sources (i : Nat) (f : NeedleSt → NeedleSt) : (s.modNeedle i f).sources = s.sources := rfl
@[simp] theorem State.modNeedle_skeins (i : Nat) (f : NeedleSt → NeedleSt) : (s.modNeedle i f).skeins = s.skeins := rfl
@[simp] theorem State.modNeedle_needles (i : Nat) (f : NeedleSt → NeedleSt) : (s.modNeedle i f).needles = mapUpdate default s.needles i f := rfl
@[simp] theorem State.modNeedle_heads (i : Nat) (f : NeedleSt → NeedleSt) : (s.modNeedle i f).heads = s.heads := rfl
@[simp] theorem State.modNeedle_dp (i : Nat) (f : NeedleSt → NeedleSt) : (s.modNeedle i f).dp = s.dp := rfl
@[simp] theorem State.modNeedle_raster (i : Nat) (f : NeedleSt → NeedleSt) : (s.modNeedle i f).raster = s.raster := rfl
@[simp] theorem State.modNeedle_block (i : Nat) (f : NeedleSt → NeedleSt) : (s.modNeedle i f).block = s.block := rfl
@[simp] theorem State.modNeedle_time (i : Nat) (f : NeedleSt → NeedleSt) : (s.modNeedle i f).time = s.time := rfl
@[simp] theorem State.modNeedle_net (i : Nat) (f : NeedleSt → NeedleSt) : (s.modNeedle i f).net = s.net := rfl
@[simp] theorem State.modNeedle_usb (i : Nat) (f : NeedleSt → NeedleSt) : (s.modNeedle i f).usb = s.usb := rfl
@[simp] theorem State.modNeedle_caravan (i : Nat) (f : NeedleSt → NeedleSt) : (s.modNeedle i f).caravan = s.caravan := rfl
@[simp] theorem State.modNeedle_chassis (i : Nat) (f : NeedleSt → NeedleSt) : (s.modNeedle i f).chassis = s.chassis := rfl
@[simp] theorem State.modNeedle_power (i : Nat) (f : NeedleSt → NeedleSt) : (s.modNeedle i f).power = s.power := rfl
@[simp] theorem State.modNeedle_boot (i : Nat) (f : NeedleSt → NeedleSt) : (s.modNeedle i f).boot = s.boot := rfl
@[simp] theorem State.modNeedle_wire (i : Nat) (f : NeedleSt → NeedleSt) : (s.modNeedle i f).wire = s.wire := rfl
@[simp] theorem State.modNeedle_freeCount (i : Nat) (f : NeedleSt → NeedleSt) : (s.modNeedle i f).freeCount = s.freeCount := rfl
@[simp] theorem State.modNeedle_pending (i : Nat) (f : NeedleSt → NeedleSt) : (s.modNeedle i f).pending = s.pending := rfl

/-! ### modSource -/

@[simp] theorem State.modSource_regs (i : Nat) (f : SrcSt → SrcSt) : (s.modSource i f).regs = s.regs := rfl
@[simp] theorem State.modSource_active (i : Nat) (f : SrcSt → SrcSt) : (s.modSource i f).active = s.active := rfl
@[simp] theorem State.modSource_nv (i : Nat) (f : SrcSt → SrcSt) : (s.modSource i f).nv = s.nv := rfl
@[simp] theorem State.modSource_pairs (i : Nat) (f : SrcSt → SrcSt) : (s.modSource i f).pairs = s.pairs := rfl
@[simp] theorem State.modSource_pat (i : Nat) (f : SrcSt → SrcSt) : (s.modSource i f).pat = s.pat := rfl
@[simp] theorem State.modSource_commit (i : Nat) (f : SrcSt → SrcSt) : (s.modSource i f).commit = s.commit := rfl
@[simp] theorem State.modSource_ledger (i : Nat) (f : SrcSt → SrcSt) : (s.modSource i f).ledger = s.ledger := rfl
@[simp] theorem State.modSource_routes (i : Nat) (f : SrcSt → SrcSt) : (s.modSource i f).routes = s.routes := rfl
@[simp] theorem State.modSource_store (i : Nat) (f : SrcSt → SrcSt) : (s.modSource i f).store = s.store := rfl
@[simp] theorem State.modSource_porter (i : Nat) (f : SrcSt → SrcSt) : (s.modSource i f).porter = s.porter := rfl
@[simp] theorem State.modSource_sources (i : Nat) (f : SrcSt → SrcSt) : (s.modSource i f).sources = mapUpdate default s.sources i f := rfl
@[simp] theorem State.modSource_skeins (i : Nat) (f : SrcSt → SrcSt) : (s.modSource i f).skeins = s.skeins := rfl
@[simp] theorem State.modSource_needles (i : Nat) (f : SrcSt → SrcSt) : (s.modSource i f).needles = s.needles := rfl
@[simp] theorem State.modSource_heads (i : Nat) (f : SrcSt → SrcSt) : (s.modSource i f).heads = s.heads := rfl
@[simp] theorem State.modSource_dp (i : Nat) (f : SrcSt → SrcSt) : (s.modSource i f).dp = s.dp := rfl
@[simp] theorem State.modSource_raster (i : Nat) (f : SrcSt → SrcSt) : (s.modSource i f).raster = s.raster := rfl
@[simp] theorem State.modSource_block (i : Nat) (f : SrcSt → SrcSt) : (s.modSource i f).block = s.block := rfl
@[simp] theorem State.modSource_time (i : Nat) (f : SrcSt → SrcSt) : (s.modSource i f).time = s.time := rfl
@[simp] theorem State.modSource_net (i : Nat) (f : SrcSt → SrcSt) : (s.modSource i f).net = s.net := rfl
@[simp] theorem State.modSource_usb (i : Nat) (f : SrcSt → SrcSt) : (s.modSource i f).usb = s.usb := rfl
@[simp] theorem State.modSource_caravan (i : Nat) (f : SrcSt → SrcSt) : (s.modSource i f).caravan = s.caravan := rfl
@[simp] theorem State.modSource_chassis (i : Nat) (f : SrcSt → SrcSt) : (s.modSource i f).chassis = s.chassis := rfl
@[simp] theorem State.modSource_power (i : Nat) (f : SrcSt → SrcSt) : (s.modSource i f).power = s.power := rfl
@[simp] theorem State.modSource_boot (i : Nat) (f : SrcSt → SrcSt) : (s.modSource i f).boot = s.boot := rfl
@[simp] theorem State.modSource_wire (i : Nat) (f : SrcSt → SrcSt) : (s.modSource i f).wire = s.wire := rfl
@[simp] theorem State.modSource_freeCount (i : Nat) (f : SrcSt → SrcSt) : (s.modSource i f).freeCount = s.freeCount := rfl
@[simp] theorem State.modSource_pending (i : Nat) (f : SrcSt → SrcSt) : (s.modSource i f).pending = s.pending := rfl

/-! ### modPorter -/

@[simp] theorem State.modPorter_regs (i : Nat) (f : PorterSt → PorterSt) : (s.modPorter i f).regs = s.regs := rfl
@[simp] theorem State.modPorter_active (i : Nat) (f : PorterSt → PorterSt) : (s.modPorter i f).active = s.active := rfl
@[simp] theorem State.modPorter_nv (i : Nat) (f : PorterSt → PorterSt) : (s.modPorter i f).nv = s.nv := rfl
@[simp] theorem State.modPorter_pairs (i : Nat) (f : PorterSt → PorterSt) : (s.modPorter i f).pairs = s.pairs := rfl
@[simp] theorem State.modPorter_pat (i : Nat) (f : PorterSt → PorterSt) : (s.modPorter i f).pat = s.pat := rfl
@[simp] theorem State.modPorter_commit (i : Nat) (f : PorterSt → PorterSt) : (s.modPorter i f).commit = s.commit := rfl
@[simp] theorem State.modPorter_ledger (i : Nat) (f : PorterSt → PorterSt) : (s.modPorter i f).ledger = s.ledger := rfl
@[simp] theorem State.modPorter_routes (i : Nat) (f : PorterSt → PorterSt) : (s.modPorter i f).routes = s.routes := rfl
@[simp] theorem State.modPorter_store (i : Nat) (f : PorterSt → PorterSt) : (s.modPorter i f).store = s.store := rfl
@[simp] theorem State.modPorter_porter (i : Nat) (f : PorterSt → PorterSt) : (s.modPorter i f).porter = mapUpdate default s.porter i f := rfl
@[simp] theorem State.modPorter_sources (i : Nat) (f : PorterSt → PorterSt) : (s.modPorter i f).sources = s.sources := rfl
@[simp] theorem State.modPorter_skeins (i : Nat) (f : PorterSt → PorterSt) : (s.modPorter i f).skeins = s.skeins := rfl
@[simp] theorem State.modPorter_needles (i : Nat) (f : PorterSt → PorterSt) : (s.modPorter i f).needles = s.needles := rfl
@[simp] theorem State.modPorter_heads (i : Nat) (f : PorterSt → PorterSt) : (s.modPorter i f).heads = s.heads := rfl
@[simp] theorem State.modPorter_dp (i : Nat) (f : PorterSt → PorterSt) : (s.modPorter i f).dp = s.dp := rfl
@[simp] theorem State.modPorter_raster (i : Nat) (f : PorterSt → PorterSt) : (s.modPorter i f).raster = s.raster := rfl
@[simp] theorem State.modPorter_block (i : Nat) (f : PorterSt → PorterSt) : (s.modPorter i f).block = s.block := rfl
@[simp] theorem State.modPorter_time (i : Nat) (f : PorterSt → PorterSt) : (s.modPorter i f).time = s.time := rfl
@[simp] theorem State.modPorter_net (i : Nat) (f : PorterSt → PorterSt) : (s.modPorter i f).net = s.net := rfl
@[simp] theorem State.modPorter_usb (i : Nat) (f : PorterSt → PorterSt) : (s.modPorter i f).usb = s.usb := rfl
@[simp] theorem State.modPorter_caravan (i : Nat) (f : PorterSt → PorterSt) : (s.modPorter i f).caravan = s.caravan := rfl
@[simp] theorem State.modPorter_chassis (i : Nat) (f : PorterSt → PorterSt) : (s.modPorter i f).chassis = s.chassis := rfl
@[simp] theorem State.modPorter_power (i : Nat) (f : PorterSt → PorterSt) : (s.modPorter i f).power = s.power := rfl
@[simp] theorem State.modPorter_boot (i : Nat) (f : PorterSt → PorterSt) : (s.modPorter i f).boot = s.boot := rfl
@[simp] theorem State.modPorter_wire (i : Nat) (f : PorterSt → PorterSt) : (s.modPorter i f).wire = s.wire := rfl
@[simp] theorem State.modPorter_freeCount (i : Nat) (f : PorterSt → PorterSt) : (s.modPorter i f).freeCount = s.freeCount := rfl
@[simp] theorem State.modPorter_pending (i : Nat) (f : PorterSt → PorterSt) : (s.modPorter i f).pending = s.pending := rfl

/-! ### modDp -/

@[simp] theorem State.modDp_regs (i : Nat) (f : DpSt → DpSt) : (s.modDp i f).regs = s.regs := rfl
@[simp] theorem State.modDp_active (i : Nat) (f : DpSt → DpSt) : (s.modDp i f).active = s.active := rfl
@[simp] theorem State.modDp_nv (i : Nat) (f : DpSt → DpSt) : (s.modDp i f).nv = s.nv := rfl
@[simp] theorem State.modDp_pairs (i : Nat) (f : DpSt → DpSt) : (s.modDp i f).pairs = s.pairs := rfl
@[simp] theorem State.modDp_pat (i : Nat) (f : DpSt → DpSt) : (s.modDp i f).pat = s.pat := rfl
@[simp] theorem State.modDp_commit (i : Nat) (f : DpSt → DpSt) : (s.modDp i f).commit = s.commit := rfl
@[simp] theorem State.modDp_ledger (i : Nat) (f : DpSt → DpSt) : (s.modDp i f).ledger = s.ledger := rfl
@[simp] theorem State.modDp_routes (i : Nat) (f : DpSt → DpSt) : (s.modDp i f).routes = s.routes := rfl
@[simp] theorem State.modDp_store (i : Nat) (f : DpSt → DpSt) : (s.modDp i f).store = s.store := rfl
@[simp] theorem State.modDp_porter (i : Nat) (f : DpSt → DpSt) : (s.modDp i f).porter = s.porter := rfl
@[simp] theorem State.modDp_sources (i : Nat) (f : DpSt → DpSt) : (s.modDp i f).sources = s.sources := rfl
@[simp] theorem State.modDp_skeins (i : Nat) (f : DpSt → DpSt) : (s.modDp i f).skeins = s.skeins := rfl
@[simp] theorem State.modDp_needles (i : Nat) (f : DpSt → DpSt) : (s.modDp i f).needles = s.needles := rfl
@[simp] theorem State.modDp_heads (i : Nat) (f : DpSt → DpSt) : (s.modDp i f).heads = s.heads := rfl
@[simp] theorem State.modDp_dp (i : Nat) (f : DpSt → DpSt) : (s.modDp i f).dp = mapUpdate default s.dp i f := rfl
@[simp] theorem State.modDp_raster (i : Nat) (f : DpSt → DpSt) : (s.modDp i f).raster = s.raster := rfl
@[simp] theorem State.modDp_block (i : Nat) (f : DpSt → DpSt) : (s.modDp i f).block = s.block := rfl
@[simp] theorem State.modDp_time (i : Nat) (f : DpSt → DpSt) : (s.modDp i f).time = s.time := rfl
@[simp] theorem State.modDp_net (i : Nat) (f : DpSt → DpSt) : (s.modDp i f).net = s.net := rfl
@[simp] theorem State.modDp_usb (i : Nat) (f : DpSt → DpSt) : (s.modDp i f).usb = s.usb := rfl
@[simp] theorem State.modDp_caravan (i : Nat) (f : DpSt → DpSt) : (s.modDp i f).caravan = s.caravan := rfl
@[simp] theorem State.modDp_chassis (i : Nat) (f : DpSt → DpSt) : (s.modDp i f).chassis = s.chassis := rfl
@[simp] theorem State.modDp_power (i : Nat) (f : DpSt → DpSt) : (s.modDp i f).power = s.power := rfl
@[simp] theorem State.modDp_boot (i : Nat) (f : DpSt → DpSt) : (s.modDp i f).boot = s.boot := rfl
@[simp] theorem State.modDp_wire (i : Nat) (f : DpSt → DpSt) : (s.modDp i f).wire = s.wire := rfl
@[simp] theorem State.modDp_freeCount (i : Nat) (f : DpSt → DpSt) : (s.modDp i f).freeCount = s.freeCount := rfl
@[simp] theorem State.modDp_pending (i : Nat) (f : DpSt → DpSt) : (s.modDp i f).pending = s.pending := rfl

/-! ### modRoute -/

@[simp] theorem State.modRoute_regs (i : Nat) (f : RouteSt → RouteSt) : (s.modRoute i f).regs = s.regs := rfl
@[simp] theorem State.modRoute_active (i : Nat) (f : RouteSt → RouteSt) : (s.modRoute i f).active = s.active := rfl
@[simp] theorem State.modRoute_nv (i : Nat) (f : RouteSt → RouteSt) : (s.modRoute i f).nv = s.nv := rfl
@[simp] theorem State.modRoute_pairs (i : Nat) (f : RouteSt → RouteSt) : (s.modRoute i f).pairs = s.pairs := rfl
@[simp] theorem State.modRoute_pat (i : Nat) (f : RouteSt → RouteSt) : (s.modRoute i f).pat = s.pat := rfl
@[simp] theorem State.modRoute_commit (i : Nat) (f : RouteSt → RouteSt) : (s.modRoute i f).commit = s.commit := rfl
@[simp] theorem State.modRoute_ledger (i : Nat) (f : RouteSt → RouteSt) : (s.modRoute i f).ledger = s.ledger := rfl
@[simp] theorem State.modRoute_routes (i : Nat) (f : RouteSt → RouteSt) : (s.modRoute i f).routes = { s.routes with routes := mapUpdate default s.routes.routes i f } := rfl
@[simp] theorem State.modRoute_store (i : Nat) (f : RouteSt → RouteSt) : (s.modRoute i f).store = s.store := rfl
@[simp] theorem State.modRoute_porter (i : Nat) (f : RouteSt → RouteSt) : (s.modRoute i f).porter = s.porter := rfl
@[simp] theorem State.modRoute_sources (i : Nat) (f : RouteSt → RouteSt) : (s.modRoute i f).sources = s.sources := rfl
@[simp] theorem State.modRoute_skeins (i : Nat) (f : RouteSt → RouteSt) : (s.modRoute i f).skeins = s.skeins := rfl
@[simp] theorem State.modRoute_needles (i : Nat) (f : RouteSt → RouteSt) : (s.modRoute i f).needles = s.needles := rfl
@[simp] theorem State.modRoute_heads (i : Nat) (f : RouteSt → RouteSt) : (s.modRoute i f).heads = s.heads := rfl
@[simp] theorem State.modRoute_dp (i : Nat) (f : RouteSt → RouteSt) : (s.modRoute i f).dp = s.dp := rfl
@[simp] theorem State.modRoute_raster (i : Nat) (f : RouteSt → RouteSt) : (s.modRoute i f).raster = s.raster := rfl
@[simp] theorem State.modRoute_block (i : Nat) (f : RouteSt → RouteSt) : (s.modRoute i f).block = s.block := rfl
@[simp] theorem State.modRoute_time (i : Nat) (f : RouteSt → RouteSt) : (s.modRoute i f).time = s.time := rfl
@[simp] theorem State.modRoute_net (i : Nat) (f : RouteSt → RouteSt) : (s.modRoute i f).net = s.net := rfl
@[simp] theorem State.modRoute_usb (i : Nat) (f : RouteSt → RouteSt) : (s.modRoute i f).usb = s.usb := rfl
@[simp] theorem State.modRoute_caravan (i : Nat) (f : RouteSt → RouteSt) : (s.modRoute i f).caravan = s.caravan := rfl
@[simp] theorem State.modRoute_chassis (i : Nat) (f : RouteSt → RouteSt) : (s.modRoute i f).chassis = s.chassis := rfl
@[simp] theorem State.modRoute_power (i : Nat) (f : RouteSt → RouteSt) : (s.modRoute i f).power = s.power := rfl
@[simp] theorem State.modRoute_boot (i : Nat) (f : RouteSt → RouteSt) : (s.modRoute i f).boot = s.boot := rfl
@[simp] theorem State.modRoute_wire (i : Nat) (f : RouteSt → RouteSt) : (s.modRoute i f).wire = s.wire := rfl
@[simp] theorem State.modRoute_freeCount (i : Nat) (f : RouteSt → RouteSt) : (s.modRoute i f).freeCount = s.freeCount := rfl
@[simp] theorem State.modRoute_pending (i : Nat) (f : RouteSt → RouteSt) : (s.modRoute i f).pending = s.pending := rfl

/-! ### modChannel -/

@[simp] theorem State.modChannel_regs (i : Nat) (f : ChannelSt → ChannelSt) : (s.modChannel i f).regs = s.regs := rfl
@[simp] theorem State.modChannel_active (i : Nat) (f : ChannelSt → ChannelSt) : (s.modChannel i f).active = s.active := rfl
@[simp] theorem State.modChannel_nv (i : Nat) (f : ChannelSt → ChannelSt) : (s.modChannel i f).nv = s.nv := rfl
@[simp] theorem State.modChannel_pairs (i : Nat) (f : ChannelSt → ChannelSt) : (s.modChannel i f).pairs = s.pairs := rfl
@[simp] theorem State.modChannel_pat (i : Nat) (f : ChannelSt → ChannelSt) : (s.modChannel i f).pat = s.pat := rfl
@[simp] theorem State.modChannel_commit (i : Nat) (f : ChannelSt → ChannelSt) : (s.modChannel i f).commit = s.commit := rfl
@[simp] theorem State.modChannel_ledger (i : Nat) (f : ChannelSt → ChannelSt) : (s.modChannel i f).ledger = s.ledger := rfl
@[simp] theorem State.modChannel_routes (i : Nat) (f : ChannelSt → ChannelSt) : (s.modChannel i f).routes = s.routes := rfl
@[simp] theorem State.modChannel_store (i : Nat) (f : ChannelSt → ChannelSt) : (s.modChannel i f).store = { s.store with channels := mapUpdate default s.store.channels i f } := rfl
@[simp] theorem State.modChannel_porter (i : Nat) (f : ChannelSt → ChannelSt) : (s.modChannel i f).porter = s.porter := rfl
@[simp] theorem State.modChannel_sources (i : Nat) (f : ChannelSt → ChannelSt) : (s.modChannel i f).sources = s.sources := rfl
@[simp] theorem State.modChannel_skeins (i : Nat) (f : ChannelSt → ChannelSt) : (s.modChannel i f).skeins = s.skeins := rfl
@[simp] theorem State.modChannel_needles (i : Nat) (f : ChannelSt → ChannelSt) : (s.modChannel i f).needles = s.needles := rfl
@[simp] theorem State.modChannel_heads (i : Nat) (f : ChannelSt → ChannelSt) : (s.modChannel i f).heads = s.heads := rfl
@[simp] theorem State.modChannel_dp (i : Nat) (f : ChannelSt → ChannelSt) : (s.modChannel i f).dp = s.dp := rfl
@[simp] theorem State.modChannel_raster (i : Nat) (f : ChannelSt → ChannelSt) : (s.modChannel i f).raster = s.raster := rfl
@[simp] theorem State.modChannel_block (i : Nat) (f : ChannelSt → ChannelSt) : (s.modChannel i f).block = s.block := rfl
@[simp] theorem State.modChannel_time (i : Nat) (f : ChannelSt → ChannelSt) : (s.modChannel i f).time = s.time := rfl
@[simp] theorem State.modChannel_net (i : Nat) (f : ChannelSt → ChannelSt) : (s.modChannel i f).net = s.net := rfl
@[simp] theorem State.modChannel_usb (i : Nat) (f : ChannelSt → ChannelSt) : (s.modChannel i f).usb = s.usb := rfl
@[simp] theorem State.modChannel_caravan (i : Nat) (f : ChannelSt → ChannelSt) : (s.modChannel i f).caravan = s.caravan := rfl
@[simp] theorem State.modChannel_chassis (i : Nat) (f : ChannelSt → ChannelSt) : (s.modChannel i f).chassis = s.chassis := rfl
@[simp] theorem State.modChannel_power (i : Nat) (f : ChannelSt → ChannelSt) : (s.modChannel i f).power = s.power := rfl
@[simp] theorem State.modChannel_boot (i : Nat) (f : ChannelSt → ChannelSt) : (s.modChannel i f).boot = s.boot := rfl
@[simp] theorem State.modChannel_wire (i : Nat) (f : ChannelSt → ChannelSt) : (s.modChannel i f).wire = s.wire := rfl
@[simp] theorem State.modChannel_freeCount (i : Nat) (f : ChannelSt → ChannelSt) : (s.modChannel i f).freeCount = s.freeCount := rfl
@[simp] theorem State.modChannel_pending (i : Nat) (f : ChannelSt → ChannelSt) : (s.modChannel i f).pending = s.pending := rfl

/-! ### modContext -/

@[simp] theorem State.modContext_regs (i : Nat) (f : ReContext → ReContext) : (s.modContext i f).regs = s.regs := rfl
@[simp] theorem State.modContext_active (i : Nat) (f : ReContext → ReContext) : (s.modContext i f).active = s.active := rfl
@[simp] theorem State.modContext_nv (i : Nat) (f : ReContext → ReContext) : (s.modContext i f).nv = s.nv := rfl
@[simp] theorem State.modContext_pairs (i : Nat) (f : ReContext → ReContext) : (s.modContext i f).pairs = s.pairs := rfl
@[simp] theorem State.modContext_pat (i : Nat) (f : ReContext → ReContext) : (s.modContext i f).pat = s.pat := rfl
@[simp] theorem State.modContext_commit (i : Nat) (f : ReContext → ReContext) : (s.modContext i f).commit = s.commit := rfl
@[simp] theorem State.modContext_ledger (i : Nat) (f : ReContext → ReContext) : (s.modContext i f).ledger = s.ledger := rfl
@[simp] theorem State.modContext_routes (i : Nat) (f : ReContext → ReContext) : (s.modContext i f).routes = s.routes := rfl
@[simp] theorem State.modContext_store (i : Nat) (f : ReContext → ReContext) : (s.modContext i f).store = s.store := rfl
@[simp] theorem State.modContext_porter (i : Nat) (f : ReContext → ReContext) : (s.modContext i f).porter = s.porter := rfl
@[simp] theorem State.modContext_sources (i : Nat) (f : ReContext → ReContext) : (s.modContext i f).sources = s.sources := rfl
@[simp] theorem State.modContext_skeins (i : Nat) (f : ReContext → ReContext) : (s.modContext i f).skeins = s.skeins := rfl
@[simp] theorem State.modContext_needles (i : Nat) (f : ReContext → ReContext) : (s.modContext i f).needles = s.needles := rfl
@[simp] theorem State.modContext_heads (i : Nat) (f : ReContext → ReContext) : (s.modContext i f).heads = s.heads := rfl
@[simp] theorem State.modContext_dp (i : Nat) (f : ReContext → ReContext) : (s.modContext i f).dp = s.dp := rfl
@[simp] theorem State.modContext_raster (i : Nat) (f : ReContext → ReContext) : (s.modContext i f).raster = { s.raster with contexts := mapUpdate default s.raster.contexts i f } := rfl
@[simp] theorem State.modContext_block (i : Nat) (f : ReContext → ReContext) : (s.modContext i f).block = s.block := rfl
@[simp] theorem State.modContext_time (i : Nat) (f : ReContext → ReContext) : (s.modContext i f).time = s.time := rfl
@[simp] theorem State.modContext_net (i : Nat) (f : ReContext → ReContext) : (s.modContext i f).net = s.net := rfl
@[simp] theorem State.modContext_usb (i : Nat) (f : ReContext → ReContext) : (s.modContext i f).usb = s.usb := rfl
@[simp] theorem State.modContext_caravan (i : Nat) (f : ReContext → ReContext) : (s.modContext i f).caravan = s.caravan := rfl
@[simp] theorem State.modContext_chassis (i : Nat) (f : ReContext → ReContext) : (s.modContext i f).chassis = s.chassis := rfl
@[simp] theorem State.modContext_power (i : Nat) (f : ReContext → ReContext) : (s.modContext i f).power = s.power := rfl
@[simp] theorem State.modContext_boot (i : Nat) (f : ReContext → ReContext) : (s.modContext i f).boot = s.boot := rfl
@[simp] theorem State.modContext_wire (i : Nat) (f : ReContext → ReContext) : (s.modContext i f).wire = s.wire := rfl
@[simp] theorem State.modContext_freeCount (i : Nat) (f : ReContext → ReContext) : (s.modContext i f).freeCount = s.freeCount := rfl
@[simp] theorem State.modContext_pending (i : Nat) (f : ReContext → ReContext) : (s.modContext i f).pending = s.pending := rfl

/-! ### modCore -/

@[simp] theorem State.modCore_regs (i : Nat) (f : CoreSt → CoreSt) : (s.modCore i f).regs = s.regs := rfl
@[simp] theorem State.modCore_active (i : Nat) (f : CoreSt → CoreSt) : (s.modCore i f).active = s.active := rfl
@[simp] theorem State.modCore_nv (i : Nat) (f : CoreSt → CoreSt) : (s.modCore i f).nv = s.nv := rfl
@[simp] theorem State.modCore_pairs (i : Nat) (f : CoreSt → CoreSt) : (s.modCore i f).pairs = s.pairs := rfl
@[simp] theorem State.modCore_pat (i : Nat) (f : CoreSt → CoreSt) : (s.modCore i f).pat = s.pat := rfl
@[simp] theorem State.modCore_commit (i : Nat) (f : CoreSt → CoreSt) : (s.modCore i f).commit = s.commit := rfl
@[simp] theorem State.modCore_ledger (i : Nat) (f : CoreSt → CoreSt) : (s.modCore i f).ledger = s.ledger := rfl
@[simp] theorem State.modCore_routes (i : Nat) (f : CoreSt → CoreSt) : (s.modCore i f).routes = s.routes := rfl
@[simp] theorem State.modCore_store (i : Nat) (f : CoreSt → CoreSt) : (s.modCore i f).store = s.store := rfl
@[simp] theorem State.modCore_porter (i : Nat) (f : CoreSt → CoreSt) : (s.modCore i f).porter = s.porter := rfl
@[simp] theorem State.modCore_sources (i : Nat) (f : CoreSt → CoreSt) : (s.modCore i f).sources = s.sources := rfl
@[simp] theorem State.modCore_skeins (i : Nat) (f : CoreSt → CoreSt) : (s.modCore i f).skeins = s.skeins := rfl
@[simp] theorem State.modCore_needles (i : Nat) (f : CoreSt → CoreSt) : (s.modCore i f).needles = s.needles := rfl
@[simp] theorem State.modCore_heads (i : Nat) (f : CoreSt → CoreSt) : (s.modCore i f).heads = s.heads := rfl
@[simp] theorem State.modCore_dp (i : Nat) (f : CoreSt → CoreSt) : (s.modCore i f).dp = s.dp := rfl
@[simp] theorem State.modCore_raster (i : Nat) (f : CoreSt → CoreSt) : (s.modCore i f).raster = { s.raster with cores := mapUpdate default s.raster.cores i f } := rfl
@[simp] theorem State.modCore_block (i : Nat) (f : CoreSt → CoreSt) : (s.modCore i f).block = s.block := rfl
@[simp] theorem State.modCore_time (i : Nat) (f : CoreSt → CoreSt) : (s.modCore i f).time = s.time := rfl
@[simp] theorem State.modCore_net (i : Nat) (f : CoreSt → CoreSt) : (s.modCore i f).net = s.net := rfl
@[simp] theorem State.modCore_usb (i : Nat) (f : CoreSt → CoreSt) : (s.modCore i f).usb = s.usb := rfl
@[simp] theorem State.modCore_caravan (i : Nat) (f : CoreSt → CoreSt) : (s.modCore i f).caravan = s.caravan := rfl
@[simp] theorem State.modCore_chassis (i : Nat) (f : CoreSt → CoreSt) : (s.modCore i f).chassis = s.chassis := rfl
@[simp] theorem State.modCore_power (i : Nat) (f : CoreSt → CoreSt) : (s.modCore i f).power = s.power := rfl
@[simp] theorem State.modCore_boot (i : Nat) (f : CoreSt → CoreSt) : (s.modCore i f).boot = s.boot := rfl
@[simp] theorem State.modCore_wire (i : Nat) (f : CoreSt → CoreSt) : (s.modCore i f).wire = s.wire := rfl
@[simp] theorem State.modCore_freeCount (i : Nat) (f : CoreSt → CoreSt) : (s.modCore i f).freeCount = s.freeCount := rfl
@[simp] theorem State.modCore_pending (i : Nat) (f : CoreSt → CoreSt) : (s.modCore i f).pending = s.pending := rfl

/-! ### modCmp -/

@[simp] theorem State.modCmp_regs (i : Nat) (f : CmpSt → CmpSt) : (s.modCmp i f).regs = s.regs := rfl
@[simp] theorem State.modCmp_active (i : Nat) (f : CmpSt → CmpSt) : (s.modCmp i f).active = s.active := rfl
@[simp] theorem State.modCmp_nv (i : Nat) (f : CmpSt → CmpSt) : (s.modCmp i f).nv = s.nv := rfl
@[simp] theorem State.modCmp_pairs (i : Nat) (f : CmpSt → CmpSt) : (s.modCmp i f).pairs = s.pairs := rfl
@[simp] theorem State.modCmp_pat (i : Nat) (f : CmpSt → CmpSt) : (s.modCmp i f).pat = s.pat := rfl
@[simp] theorem State.modCmp_commit (i : Nat) (f : CmpSt → CmpSt) : (s.modCmp i f).commit = s.commit := rfl
@[simp] theorem State.modCmp_ledger (i : Nat) (f : CmpSt → CmpSt) : (s.modCmp i f).ledger = s.ledger := rfl
@[simp] theorem State.modCmp_routes (i : Nat) (f : CmpSt → CmpSt) : (s.modCmp i f).routes = s.routes := rfl
@[simp] theorem State.modCmp_store (i : Nat) (f : CmpSt → CmpSt) : (s.modCmp i f).store = s.store := rfl
@[simp] theorem State.modCmp_porter (i : Nat) (f : CmpSt → CmpSt) : (s.modCmp i f).porter = s.porter := rfl
@[simp] theorem State.modCmp_sources (i : Nat) (f : CmpSt → CmpSt) : (s.modCmp i f).sources = s.sources := rfl
@[simp] theorem State.modCmp_skeins (i : Nat) (f : CmpSt → CmpSt) : (s.modCmp i f).skeins = s.skeins := rfl
@[simp] theorem State.modCmp_needles (i : Nat) (f : CmpSt → CmpSt) : (s.modCmp i f).needles = s.needles := rfl
@[simp] theorem State.modCmp_heads (i : Nat) (f : CmpSt → CmpSt) : (s.modCmp i f).heads = s.heads := rfl
@[simp] theorem State.modCmp_dp (i : Nat) (f : CmpSt → CmpSt) : (s.modCmp i f).dp = s.dp := rfl
@[simp] theorem State.modCmp_raster (i : Nat) (f : CmpSt → CmpSt) : (s.modCmp i f).raster = s.raster := rfl
@[simp] theorem State.modCmp_block (i : Nat) (f : CmpSt → CmpSt) : (s.modCmp i f).block = s.block := rfl
@[simp] theorem State.modCmp_time (i : Nat) (f : CmpSt → CmpSt) : (s.modCmp i f).time = { s.time with cmp := mapUpdate default s.time.cmp i f } := rfl
@[simp] theorem State.modCmp_net (i : Nat) (f : CmpSt → CmpSt) : (s.modCmp i f).net = s.net := rfl
@[simp] theorem State.modCmp_usb (i : Nat) (f : CmpSt → CmpSt) : (s.modCmp i f).usb = s.usb := rfl
@[simp] theorem State.modCmp_caravan (i : Nat) (f : CmpSt → CmpSt) : (s.modCmp i f).caravan = s.caravan := rfl
@[simp] theorem State.modCmp_chassis (i : Nat) (f : CmpSt → CmpSt) : (s.modCmp i f).chassis = s.chassis := rfl
@[simp] theorem State.modCmp_power (i : Nat) (f : CmpSt → CmpSt) : (s.modCmp i f).power = s.power := rfl
@[simp] theorem State.modCmp_boot (i : Nat) (f : CmpSt → CmpSt) : (s.modCmp i f).boot = s.boot := rfl
@[simp] theorem State.modCmp_wire (i : Nat) (f : CmpSt → CmpSt) : (s.modCmp i f).wire = s.wire := rfl
@[simp] theorem State.modCmp_freeCount (i : Nat) (f : CmpSt → CmpSt) : (s.modCmp i f).freeCount = s.freeCount := rfl
@[simp] theorem State.modCmp_pending (i : Nat) (f : CmpSt → CmpSt) : (s.modCmp i f).pending = s.pending := rfl

/-! ### modCnt -/

@[simp] theorem State.modCnt_regs (i : Nat) (f : CntSt → CntSt) : (s.modCnt i f).regs = s.regs := rfl
@[simp] theorem State.modCnt_active (i : Nat) (f : CntSt → CntSt) : (s.modCnt i f).active = s.active := rfl
@[simp] theorem State.modCnt_nv (i : Nat) (f : CntSt → CntSt) : (s.modCnt i f).nv = s.nv := rfl
@[simp] theorem State.modCnt_pairs (i : Nat) (f : CntSt → CntSt) : (s.modCnt i f).pairs = s.pairs := rfl
@[simp] theorem State.modCnt_pat (i : Nat) (f : CntSt → CntSt) : (s.modCnt i f).pat = s.pat := rfl
@[simp] theorem State.modCnt_commit (i : Nat) (f : CntSt → CntSt) : (s.modCnt i f).commit = s.commit := rfl
@[simp] theorem State.modCnt_ledger (i : Nat) (f : CntSt → CntSt) : (s.modCnt i f).ledger = s.ledger := rfl
@[simp] theorem State.modCnt_routes (i : Nat) (f : CntSt → CntSt) : (s.modCnt i f).routes = s.routes := rfl
@[simp] theorem State.modCnt_store (i : Nat) (f : CntSt → CntSt) : (s.modCnt i f).store = s.store := rfl
@[simp] theorem State.modCnt_porter (i : Nat) (f : CntSt → CntSt) : (s.modCnt i f).porter = s.porter := rfl
@[simp] theorem State.modCnt_sources (i : Nat) (f : CntSt → CntSt) : (s.modCnt i f).sources = s.sources := rfl
@[simp] theorem State.modCnt_skeins (i : Nat) (f : CntSt → CntSt) : (s.modCnt i f).skeins = s.skeins := rfl
@[simp] theorem State.modCnt_needles (i : Nat) (f : CntSt → CntSt) : (s.modCnt i f).needles = s.needles := rfl
@[simp] theorem State.modCnt_heads (i : Nat) (f : CntSt → CntSt) : (s.modCnt i f).heads = s.heads := rfl
@[simp] theorem State.modCnt_dp (i : Nat) (f : CntSt → CntSt) : (s.modCnt i f).dp = s.dp := rfl
@[simp] theorem State.modCnt_raster (i : Nat) (f : CntSt → CntSt) : (s.modCnt i f).raster = s.raster := rfl
@[simp] theorem State.modCnt_block (i : Nat) (f : CntSt → CntSt) : (s.modCnt i f).block = s.block := rfl
@[simp] theorem State.modCnt_time (i : Nat) (f : CntSt → CntSt) : (s.modCnt i f).time = { s.time with cnt := mapUpdate default s.time.cnt i f } := rfl
@[simp] theorem State.modCnt_net (i : Nat) (f : CntSt → CntSt) : (s.modCnt i f).net = s.net := rfl
@[simp] theorem State.modCnt_usb (i : Nat) (f : CntSt → CntSt) : (s.modCnt i f).usb = s.usb := rfl
@[simp] theorem State.modCnt_caravan (i : Nat) (f : CntSt → CntSt) : (s.modCnt i f).caravan = s.caravan := rfl
@[simp] theorem State.modCnt_chassis (i : Nat) (f : CntSt → CntSt) : (s.modCnt i f).chassis = s.chassis := rfl
@[simp] theorem State.modCnt_power (i : Nat) (f : CntSt → CntSt) : (s.modCnt i f).power = s.power := rfl
@[simp] theorem State.modCnt_boot (i : Nat) (f : CntSt → CntSt) : (s.modCnt i f).boot = s.boot := rfl
@[simp] theorem State.modCnt_wire (i : Nat) (f : CntSt → CntSt) : (s.modCnt i f).wire = s.wire := rfl
@[simp] theorem State.modCnt_freeCount (i : Nat) (f : CntSt → CntSt) : (s.modCnt i f).freeCount = s.freeCount := rfl
@[simp] theorem State.modCnt_pending (i : Nat) (f : CntSt → CntSt) : (s.modCnt i f).pending = s.pending := rfl

/-! ### modPort -/

@[simp] theorem State.modPort_regs (i : Nat) (f : PortSt → PortSt) : (s.modPort i f).regs = s.regs := rfl
@[simp] theorem State.modPort_active (i : Nat) (f : PortSt → PortSt) : (s.modPort i f).active = s.active := rfl
@[simp] theorem State.modPort_nv (i : Nat) (f : PortSt → PortSt) : (s.modPort i f).nv = s.nv := rfl
@[simp] theorem State.modPort_pairs (i : Nat) (f : PortSt → PortSt) : (s.modPort i f).pairs = s.pairs := rfl
@[simp] theorem State.modPort_pat (i : Nat) (f : PortSt → PortSt) : (s.modPort i f).pat = s.pat := rfl
@[simp] theorem State.modPort_commit (i : Nat) (f : PortSt → PortSt) : (s.modPort i f).commit = s.commit := rfl
@[simp] theorem State.modPort_ledger (i : Nat) (f : PortSt → PortSt) : (s.modPort i f).ledger = s.ledger := rfl
@[simp] theorem State.modPort_routes (i : Nat) (f : PortSt → PortSt) : (s.modPort i f).routes = s.routes := rfl
@[simp] theorem State.modPort_store (i : Nat) (f : PortSt → PortSt) : (s.modPort i f).store = s.store := rfl
@[simp] theorem State.modPort_porter (i : Nat) (f : PortSt → PortSt) : (s.modPort i f).porter = s.porter := rfl
@[simp] theorem State.modPort_sources (i : Nat) (f : PortSt → PortSt) : (s.modPort i f).sources = s.sources := rfl
@[simp] theorem State.modPort_skeins (i : Nat) (f : PortSt → PortSt) : (s.modPort i f).skeins = s.skeins := rfl
@[simp] theorem State.modPort_needles (i : Nat) (f : PortSt → PortSt) : (s.modPort i f).needles = s.needles := rfl
@[simp] theorem State.modPort_heads (i : Nat) (f : PortSt → PortSt) : (s.modPort i f).heads = s.heads := rfl
@[simp] theorem State.modPort_dp (i : Nat) (f : PortSt → PortSt) : (s.modPort i f).dp = s.dp := rfl
@[simp] theorem State.modPort_raster (i : Nat) (f : PortSt → PortSt) : (s.modPort i f).raster = s.raster := rfl
@[simp] theorem State.modPort_block (i : Nat) (f : PortSt → PortSt) : (s.modPort i f).block = s.block := rfl
@[simp] theorem State.modPort_time (i : Nat) (f : PortSt → PortSt) : (s.modPort i f).time = s.time := rfl
@[simp] theorem State.modPort_net (i : Nat) (f : PortSt → PortSt) : (s.modPort i f).net = { s.net with ports := mapUpdate default s.net.ports i f } := rfl
@[simp] theorem State.modPort_usb (i : Nat) (f : PortSt → PortSt) : (s.modPort i f).usb = s.usb := rfl
@[simp] theorem State.modPort_caravan (i : Nat) (f : PortSt → PortSt) : (s.modPort i f).caravan = s.caravan := rfl
@[simp] theorem State.modPort_chassis (i : Nat) (f : PortSt → PortSt) : (s.modPort i f).chassis = s.chassis := rfl
@[simp] theorem State.modPort_power (i : Nat) (f : PortSt → PortSt) : (s.modPort i f).power = s.power := rfl
@[simp] theorem State.modPort_boot (i : Nat) (f : PortSt → PortSt) : (s.modPort i f).boot = s.boot := rfl
@[simp] theorem State.modPort_wire (i : Nat) (f : PortSt → PortSt) : (s.modPort i f).wire = s.wire := rfl
@[simp] theorem State.modPort_freeCount (i : Nat) (f : PortSt → PortSt) : (s.modPort i f).freeCount = s.freeCount := rfl
@[simp] theorem State.modPort_pending (i : Nat) (f : PortSt → PortSt) : (s.modPort i f).pending = s.pending := rfl

/-! ### modRail -/

@[simp] theorem State.modRail_regs (i : Nat) (f : RailSt → RailSt) : (s.modRail i f).regs = s.regs := rfl
@[simp] theorem State.modRail_active (i : Nat) (f : RailSt → RailSt) : (s.modRail i f).active = s.active := rfl
@[simp] theorem State.modRail_nv (i : Nat) (f : RailSt → RailSt) : (s.modRail i f).nv = s.nv := rfl
@[simp] theorem State.modRail_pairs (i : Nat) (f : RailSt → RailSt) : (s.modRail i f).pairs = s.pairs := rfl
@[simp] theorem State.modRail_pat (i : Nat) (f : RailSt → RailSt) : (s.modRail i f).pat = s.pat := rfl
@[simp] theorem State.modRail_commit (i : Nat) (f : RailSt → RailSt) : (s.modRail i f).commit = s.commit := rfl
@[simp] theorem State.modRail_ledger (i : Nat) (f : RailSt → RailSt) : (s.modRail i f).ledger = s.ledger := rfl
@[simp] theorem State.modRail_routes (i : Nat) (f : RailSt → RailSt) : (s.modRail i f).routes = s.routes := rfl
@[simp] theorem State.modRail_store (i : Nat) (f : RailSt → RailSt) : (s.modRail i f).store = s.store := rfl
@[simp] theorem State.modRail_porter (i : Nat) (f : RailSt → RailSt) : (s.modRail i f).porter = s.porter := rfl
@[simp] theorem State.modRail_sources (i : Nat) (f : RailSt → RailSt) : (s.modRail i f).sources = s.sources := rfl
@[simp] theorem State.modRail_skeins (i : Nat) (f : RailSt → RailSt) : (s.modRail i f).skeins = s.skeins := rfl
@[simp] theorem State.modRail_needles (i : Nat) (f : RailSt → RailSt) : (s.modRail i f).needles = s.needles := rfl
@[simp] theorem State.modRail_heads (i : Nat) (f : RailSt → RailSt) : (s.modRail i f).heads = s.heads := rfl
@[simp] theorem State.modRail_dp (i : Nat) (f : RailSt → RailSt) : (s.modRail i f).dp = s.dp := rfl
@[simp] theorem State.modRail_raster (i : Nat) (f : RailSt → RailSt) : (s.modRail i f).raster = s.raster := rfl
@[simp] theorem State.modRail_block (i : Nat) (f : RailSt → RailSt) : (s.modRail i f).block = s.block := rfl
@[simp] theorem State.modRail_time (i : Nat) (f : RailSt → RailSt) : (s.modRail i f).time = s.time := rfl
@[simp] theorem State.modRail_net (i : Nat) (f : RailSt → RailSt) : (s.modRail i f).net = s.net := rfl
@[simp] theorem State.modRail_usb (i : Nat) (f : RailSt → RailSt) : (s.modRail i f).usb = s.usb := rfl
@[simp] theorem State.modRail_caravan (i : Nat) (f : RailSt → RailSt) : (s.modRail i f).caravan = s.caravan := rfl
@[simp] theorem State.modRail_chassis (i : Nat) (f : RailSt → RailSt) : (s.modRail i f).chassis = s.chassis := rfl
@[simp] theorem State.modRail_power (i : Nat) (f : RailSt → RailSt) : (s.modRail i f).power = { s.power with rails := mapUpdate default s.power.rails i f } := rfl
@[simp] theorem State.modRail_boot (i : Nat) (f : RailSt → RailSt) : (s.modRail i f).boot = s.boot := rfl
@[simp] theorem State.modRail_wire (i : Nat) (f : RailSt → RailSt) : (s.modRail i f).wire = s.wire := rfl
@[simp] theorem State.modRail_freeCount (i : Nat) (f : RailSt → RailSt) : (s.modRail i f).freeCount = s.freeCount := rfl
@[simp] theorem State.modRail_pending (i : Nat) (f : RailSt → RailSt) : (s.modRail i f).pending = s.pending := rfl

/-! ### modSlave -/

@[simp] theorem State.modSlave_regs (i : Nat) (f : SlaveSt → SlaveSt) : (s.modSlave i f).regs = s.regs := rfl
@[simp] theorem State.modSlave_active (i : Nat) (f : SlaveSt → SlaveSt) : (s.modSlave i f).active = s.active := rfl
@[simp] theorem State.modSlave_nv (i : Nat) (f : SlaveSt → SlaveSt) : (s.modSlave i f).nv = s.nv := rfl
@[simp] theorem State.modSlave_pairs (i : Nat) (f : SlaveSt → SlaveSt) : (s.modSlave i f).pairs = s.pairs := rfl
@[simp] theorem State.modSlave_pat (i : Nat) (f : SlaveSt → SlaveSt) : (s.modSlave i f).pat = s.pat := rfl
@[simp] theorem State.modSlave_commit (i : Nat) (f : SlaveSt → SlaveSt) : (s.modSlave i f).commit = s.commit := rfl
@[simp] theorem State.modSlave_ledger (i : Nat) (f : SlaveSt → SlaveSt) : (s.modSlave i f).ledger = s.ledger := rfl
@[simp] theorem State.modSlave_routes (i : Nat) (f : SlaveSt → SlaveSt) : (s.modSlave i f).routes = s.routes := rfl
@[simp] theorem State.modSlave_store (i : Nat) (f : SlaveSt → SlaveSt) : (s.modSlave i f).store = s.store := rfl
@[simp] theorem State.modSlave_porter (i : Nat) (f : SlaveSt → SlaveSt) : (s.modSlave i f).porter = s.porter := rfl
@[simp] theorem State.modSlave_sources (i : Nat) (f : SlaveSt → SlaveSt) : (s.modSlave i f).sources = s.sources := rfl
@[simp] theorem State.modSlave_skeins (i : Nat) (f : SlaveSt → SlaveSt) : (s.modSlave i f).skeins = s.skeins := rfl
@[simp] theorem State.modSlave_needles (i : Nat) (f : SlaveSt → SlaveSt) : (s.modSlave i f).needles = s.needles := rfl
@[simp] theorem State.modSlave_heads (i : Nat) (f : SlaveSt → SlaveSt) : (s.modSlave i f).heads = s.heads := rfl
@[simp] theorem State.modSlave_dp (i : Nat) (f : SlaveSt → SlaveSt) : (s.modSlave i f).dp = s.dp := rfl
@[simp] theorem State.modSlave_raster (i : Nat) (f : SlaveSt → SlaveSt) : (s.modSlave i f).raster = s.raster := rfl
@[simp] theorem State.modSlave_block (i : Nat) (f : SlaveSt → SlaveSt) : (s.modSlave i f).block = s.block := rfl
@[simp] theorem State.modSlave_time (i : Nat) (f : SlaveSt → SlaveSt) : (s.modSlave i f).time = s.time := rfl
@[simp] theorem State.modSlave_net (i : Nat) (f : SlaveSt → SlaveSt) : (s.modSlave i f).net = s.net := rfl
@[simp] theorem State.modSlave_usb (i : Nat) (f : SlaveSt → SlaveSt) : (s.modSlave i f).usb = s.usb := rfl
@[simp] theorem State.modSlave_caravan (i : Nat) (f : SlaveSt → SlaveSt) : (s.modSlave i f).caravan = s.caravan := rfl
@[simp] theorem State.modSlave_chassis (i : Nat) (f : SlaveSt → SlaveSt) : (s.modSlave i f).chassis = s.chassis := rfl
@[simp] theorem State.modSlave_power (i : Nat) (f : SlaveSt → SlaveSt) : (s.modSlave i f).power = { s.power with slaves := mapUpdate default s.power.slaves i f } := rfl
@[simp] theorem State.modSlave_boot (i : Nat) (f : SlaveSt → SlaveSt) : (s.modSlave i f).boot = s.boot := rfl
@[simp] theorem State.modSlave_wire (i : Nat) (f : SlaveSt → SlaveSt) : (s.modSlave i f).wire = s.wire := rfl
@[simp] theorem State.modSlave_freeCount (i : Nat) (f : SlaveSt → SlaveSt) : (s.modSlave i f).freeCount = s.freeCount := rfl
@[simp] theorem State.modSlave_pending (i : Nat) (f : SlaveSt → SlaveSt) : (s.modSlave i f).pending = s.pending := rfl

/-! ### modPower -/

@[simp] theorem State.modPower_regs (f : PowerSt → PowerSt) : (s.modPower f).regs = s.regs := rfl
@[simp] theorem State.modPower_active (f : PowerSt → PowerSt) : (s.modPower f).active = s.active := rfl
@[simp] theorem State.modPower_nv (f : PowerSt → PowerSt) : (s.modPower f).nv = s.nv := rfl
@[simp] theorem State.modPower_pairs (f : PowerSt → PowerSt) : (s.modPower f).pairs = s.pairs := rfl
@[simp] theorem State.modPower_pat (f : PowerSt → PowerSt) : (s.modPower f).pat = s.pat := rfl
@[simp] theorem State.modPower_commit (f : PowerSt → PowerSt) : (s.modPower f).commit = s.commit := rfl
@[simp] theorem State.modPower_ledger (f : PowerSt → PowerSt) : (s.modPower f).ledger = s.ledger := rfl
@[simp] theorem State.modPower_routes (f : PowerSt → PowerSt) : (s.modPower f).routes = s.routes := rfl
@[simp] theorem State.modPower_store (f : PowerSt → PowerSt) : (s.modPower f).store = s.store := rfl
@[simp] theorem State.modPower_porter (f : PowerSt → PowerSt) : (s.modPower f).porter = s.porter := rfl
@[simp] theorem State.modPower_sources (f : PowerSt → PowerSt) : (s.modPower f).sources = s.sources := rfl
@[simp] theorem State.modPower_skeins (f : PowerSt → PowerSt) : (s.modPower f).skeins = s.skeins := rfl
@[simp] theorem State.modPower_needles (f : PowerSt → PowerSt) : (s.modPower f).needles = s.needles := rfl
@[simp] theorem State.modPower_heads (f : PowerSt → PowerSt) : (s.modPower f).heads = s.heads := rfl
@[simp] theorem State.modPower_dp (f : PowerSt → PowerSt) : (s.modPower f).dp = s.dp := rfl
@[simp] theorem State.modPower_raster (f : PowerSt → PowerSt) : (s.modPower f).raster = s.raster := rfl
@[simp] theorem State.modPower_block (f : PowerSt → PowerSt) : (s.modPower f).block = s.block := rfl
@[simp] theorem State.modPower_time (f : PowerSt → PowerSt) : (s.modPower f).time = s.time := rfl
@[simp] theorem State.modPower_net (f : PowerSt → PowerSt) : (s.modPower f).net = s.net := rfl
@[simp] theorem State.modPower_usb (f : PowerSt → PowerSt) : (s.modPower f).usb = s.usb := rfl
@[simp] theorem State.modPower_caravan (f : PowerSt → PowerSt) : (s.modPower f).caravan = s.caravan := rfl
@[simp] theorem State.modPower_chassis (f : PowerSt → PowerSt) : (s.modPower f).chassis = s.chassis := rfl
@[simp] theorem State.modPower_power (f : PowerSt → PowerSt) : (s.modPower f).power = f s.power := rfl
@[simp] theorem State.modPower_boot (f : PowerSt → PowerSt) : (s.modPower f).boot = s.boot := rfl
@[simp] theorem State.modPower_wire (f : PowerSt → PowerSt) : (s.modPower f).wire = s.wire := rfl
@[simp] theorem State.modPower_freeCount (f : PowerSt → PowerSt) : (s.modPower f).freeCount = s.freeCount := rfl
@[simp] theorem State.modPower_pending (f : PowerSt → PowerSt) : (s.modPower f).pending = s.pending := rfl

/-! ### modBoot -/

@[simp] theorem State.modBoot_regs (f : BootSt → BootSt) : (s.modBoot f).regs = s.regs := rfl
@[simp] theorem State.modBoot_active (f : BootSt → BootSt) : (s.modBoot f).active = s.active := rfl
@[simp] theorem State.modBoot_nv (f : BootSt → BootSt) : (s.modBoot f).nv = s.nv := rfl
@[simp] theorem State.modBoot_pairs (f : BootSt → BootSt) : (s.modBoot f).pairs = s.pairs := rfl
@[simp] theorem State.modBoot_pat (f : BootSt → BootSt) : (s.modBoot f).pat = s.pat := rfl
@[simp] theorem State.modBoot_commit (f : BootSt → BootSt) : (s.modBoot f).commit = s.commit := rfl
@[simp] theorem State.modBoot_ledger (f : BootSt → BootSt) : (s.modBoot f).ledger = s.ledger := rfl
@[simp] theorem State.modBoot_routes (f : BootSt → BootSt) : (s.modBoot f).routes = s.routes := rfl
@[simp] theorem State.modBoot_store (f : BootSt → BootSt) : (s.modBoot f).store = s.store := rfl
@[simp] theorem State.modBoot_porter (f : BootSt → BootSt) : (s.modBoot f).porter = s.porter := rfl
@[simp] theorem State.modBoot_sources (f : BootSt → BootSt) : (s.modBoot f).sources = s.sources := rfl
@[simp] theorem State.modBoot_skeins (f : BootSt → BootSt) : (s.modBoot f).skeins = s.skeins := rfl
@[simp] theorem State.modBoot_needles (f : BootSt → BootSt) : (s.modBoot f).needles = s.needles := rfl
@[simp] theorem State.modBoot_heads (f : BootSt → BootSt) : (s.modBoot f).heads = s.heads := rfl
@[simp] theorem State.modBoot_dp (f : BootSt → BootSt) : (s.modBoot f).dp = s.dp := rfl
@[simp] theorem State.modBoot_raster (f : BootSt → BootSt) : (s.modBoot f).raster = s.raster := rfl
@[simp] theorem State.modBoot_block (f : BootSt → BootSt) : (s.modBoot f).block = s.block := rfl
@[simp] theorem State.modBoot_time (f : BootSt → BootSt) : (s.modBoot f).time = s.time := rfl
@[simp] theorem State.modBoot_net (f : BootSt → BootSt) : (s.modBoot f).net = s.net := rfl
@[simp] theorem State.modBoot_usb (f : BootSt → BootSt) : (s.modBoot f).usb = s.usb := rfl
@[simp] theorem State.modBoot_caravan (f : BootSt → BootSt) : (s.modBoot f).caravan = s.caravan := rfl
@[simp] theorem State.modBoot_chassis (f : BootSt → BootSt) : (s.modBoot f).chassis = s.chassis := rfl
@[simp] theorem State.modBoot_power (f : BootSt → BootSt) : (s.modBoot f).power = s.power := rfl
@[simp] theorem State.modBoot_boot (f : BootSt → BootSt) : (s.modBoot f).boot = f s.boot := rfl
@[simp] theorem State.modBoot_wire (f : BootSt → BootSt) : (s.modBoot f).wire = s.wire := rfl
@[simp] theorem State.modBoot_freeCount (f : BootSt → BootSt) : (s.modBoot f).freeCount = s.freeCount := rfl
@[simp] theorem State.modBoot_pending (f : BootSt → BootSt) : (s.modBoot f).pending = s.pending := rfl

/-! ### modChassis -/

@[simp] theorem State.modChassis_regs (f : ChassisSt → ChassisSt) : (s.modChassis f).regs = s.regs := rfl
@[simp] theorem State.modChassis_active (f : ChassisSt → ChassisSt) : (s.modChassis f).active = s.active := rfl
@[simp] theorem State.modChassis_nv (f : ChassisSt → ChassisSt) : (s.modChassis f).nv = s.nv := rfl
@[simp] theorem State.modChassis_pairs (f : ChassisSt → ChassisSt) : (s.modChassis f).pairs = s.pairs := rfl
@[simp] theorem State.modChassis_pat (f : ChassisSt → ChassisSt) : (s.modChassis f).pat = s.pat := rfl
@[simp] theorem State.modChassis_commit (f : ChassisSt → ChassisSt) : (s.modChassis f).commit = s.commit := rfl
@[simp] theorem State.modChassis_ledger (f : ChassisSt → ChassisSt) : (s.modChassis f).ledger = s.ledger := rfl
@[simp] theorem State.modChassis_routes (f : ChassisSt → ChassisSt) : (s.modChassis f).routes = s.routes := rfl
@[simp] theorem State.modChassis_store (f : ChassisSt → ChassisSt) : (s.modChassis f).store = s.store := rfl
@[simp] theorem State.modChassis_porter (f : ChassisSt → ChassisSt) : (s.modChassis f).porter = s.porter := rfl
@[simp] theorem State.modChassis_sources (f : ChassisSt → ChassisSt) : (s.modChassis f).sources = s.sources := rfl
@[simp] theorem State.modChassis_skeins (f : ChassisSt → ChassisSt) : (s.modChassis f).skeins = s.skeins := rfl
@[simp] theorem State.modChassis_needles (f : ChassisSt → ChassisSt) : (s.modChassis f).needles = s.needles := rfl
@[simp] theorem State.modChassis_heads (f : ChassisSt → ChassisSt) : (s.modChassis f).heads = s.heads := rfl
@[simp] theorem State.modChassis_dp (f : ChassisSt → ChassisSt) : (s.modChassis f).dp = s.dp := rfl
@[simp] theorem State.modChassis_raster (f : ChassisSt → ChassisSt) : (s.modChassis f).raster = s.raster := rfl
@[simp] theorem State.modChassis_block (f : ChassisSt → ChassisSt) : (s.modChassis f).block = s.block := rfl
@[simp] theorem State.modChassis_time (f : ChassisSt → ChassisSt) : (s.modChassis f).time = s.time := rfl
@[simp] theorem State.modChassis_net (f : ChassisSt → ChassisSt) : (s.modChassis f).net = s.net := rfl
@[simp] theorem State.modChassis_usb (f : ChassisSt → ChassisSt) : (s.modChassis f).usb = s.usb := rfl
@[simp] theorem State.modChassis_caravan (f : ChassisSt → ChassisSt) : (s.modChassis f).caravan = s.caravan := rfl
@[simp] theorem State.modChassis_chassis (f : ChassisSt → ChassisSt) : (s.modChassis f).chassis = f s.chassis := rfl
@[simp] theorem State.modChassis_power (f : ChassisSt → ChassisSt) : (s.modChassis f).power = s.power := rfl
@[simp] theorem State.modChassis_boot (f : ChassisSt → ChassisSt) : (s.modChassis f).boot = s.boot := rfl
@[simp] theorem State.modChassis_wire (f : ChassisSt → ChassisSt) : (s.modChassis f).wire = s.wire := rfl
@[simp] theorem State.modChassis_freeCount (f : ChassisSt → ChassisSt) : (s.modChassis f).freeCount = s.freeCount := rfl
@[simp] theorem State.modChassis_pending (f : ChassisSt → ChassisSt) : (s.modChassis f).pending = s.pending := rfl

/-! ### modNet -/

@[simp] theorem State.modNet_regs (f : NetSt → NetSt) : (s.modNet f).regs = s.regs := rfl
@[simp] theorem State.modNet_active (f : NetSt → NetSt) : (s.modNet f).active = s.active := rfl
@[simp] theorem State.modNet_nv (f : NetSt → NetSt) : (s.modNet f).nv = s.nv := rfl
@[simp] theorem State.modNet_pairs (f : NetSt → NetSt) : (s.modNet f).pairs = s.pairs := rfl
@[simp] theorem State.modNet_pat (f : NetSt → NetSt) : (s.modNet f).pat = s.pat := rfl
@[simp] theorem State.modNet_commit (f : NetSt → NetSt) : (s.modNet f).commit = s.commit := rfl
@[simp] theorem State.modNet_ledger (f : NetSt → NetSt) : (s.modNet f).ledger = s.ledger := rfl
@[simp] theorem State.modNet_routes (f : NetSt → NetSt) : (s.modNet f).routes = s.routes := rfl
@[simp] theorem State.modNet_store (f : NetSt → NetSt) : (s.modNet f).store = s.store := rfl
@[simp] theorem State.modNet_porter (f : NetSt → NetSt) : (s.modNet f).porter = s.porter := rfl
@[simp] theorem State.modNet_sources (f : NetSt → NetSt) : (s.modNet f).sources = s.sources := rfl
@[simp] theorem State.modNet_skeins (f : NetSt → NetSt) : (s.modNet f).skeins = s.skeins := rfl
@[simp] theorem State.modNet_needles (f : NetSt → NetSt) : (s.modNet f).needles = s.needles := rfl
@[simp] theorem State.modNet_heads (f : NetSt → NetSt) : (s.modNet f).heads = s.heads := rfl
@[simp] theorem State.modNet_dp (f : NetSt → NetSt) : (s.modNet f).dp = s.dp := rfl
@[simp] theorem State.modNet_raster (f : NetSt → NetSt) : (s.modNet f).raster = s.raster := rfl
@[simp] theorem State.modNet_block (f : NetSt → NetSt) : (s.modNet f).block = s.block := rfl
@[simp] theorem State.modNet_time (f : NetSt → NetSt) : (s.modNet f).time = s.time := rfl
@[simp] theorem State.modNet_net (f : NetSt → NetSt) : (s.modNet f).net = f s.net := rfl
@[simp] theorem State.modNet_usb (f : NetSt → NetSt) : (s.modNet f).usb = s.usb := rfl
@[simp] theorem State.modNet_caravan (f : NetSt → NetSt) : (s.modNet f).caravan = s.caravan := rfl
@[simp] theorem State.modNet_chassis (f : NetSt → NetSt) : (s.modNet f).chassis = s.chassis := rfl
@[simp] theorem State.modNet_power (f : NetSt → NetSt) : (s.modNet f).power = s.power := rfl
@[simp] theorem State.modNet_boot (f : NetSt → NetSt) : (s.modNet f).boot = s.boot := rfl
@[simp] theorem State.modNet_wire (f : NetSt → NetSt) : (s.modNet f).wire = s.wire := rfl
@[simp] theorem State.modNet_freeCount (f : NetSt → NetSt) : (s.modNet f).freeCount = s.freeCount := rfl
@[simp] theorem State.modNet_pending (f : NetSt → NetSt) : (s.modNet f).pending = s.pending := rfl

/-! ### modUsb -/

@[simp] theorem State.modUsb_regs (f : UsbSt → UsbSt) : (s.modUsb f).regs = s.regs := rfl
@[simp] theorem State.modUsb_active (f : UsbSt → UsbSt) : (s.modUsb f).active = s.active := rfl
@[simp] theorem State.modUsb_nv (f : UsbSt → UsbSt) : (s.modUsb f).nv = s.nv := rfl
@[simp] theorem State.modUsb_pairs (f : UsbSt → UsbSt) : (s.modUsb f).pairs = s.pairs := rfl
@[simp] theorem State.modUsb_pat (f : UsbSt → UsbSt) : (s.modUsb f).pat = s.pat := rfl
@[simp] theorem State.modUsb_commit (f : UsbSt → UsbSt) : (s.modUsb f).commit = s.commit := rfl
@[simp] theorem State.modUsb_ledger (f : UsbSt → UsbSt) : (s.modUsb f).ledger = s.ledger := rfl
@[simp] theorem State.modUsb_routes (f : UsbSt → UsbSt) : (s.modUsb f).routes = s.routes := rfl
@[simp] theorem State.modUsb_store (f : UsbSt → UsbSt) : (s.modUsb f).store = s.store := rfl
@[simp] theorem State.modUsb_porter (f : UsbSt → UsbSt) : (s.modUsb f).porter = s.porter := rfl
@[simp] theorem State.modUsb_sources (f : UsbSt → UsbSt) : (s.modUsb f).sources = s.sources := rfl
@[simp] theorem State.modUsb_skeins (f : UsbSt → UsbSt) : (s.modUsb f).skeins = s.skeins := rfl
@[simp] theorem State.modUsb_needles (f : UsbSt → UsbSt) : (s.modUsb f).needles = s.needles := rfl
@[simp] theorem State.modUsb_heads (f : UsbSt → UsbSt) : (s.modUsb f).heads = s.heads := rfl
@[simp] theorem State.modUsb_dp (f : UsbSt → UsbSt) : (s.modUsb f).dp = s.dp := rfl
@[simp] theorem State.modUsb_raster (f : UsbSt → UsbSt) : (s.modUsb f).raster = s.raster := rfl
@[simp] theorem State.modUsb_block (f : UsbSt → UsbSt) : (s.modUsb f).block = s.block := rfl
@[simp] theorem State.modUsb_time (f : UsbSt → UsbSt) : (s.modUsb f).time = s.time := rfl
@[simp] theorem State.modUsb_net (f : UsbSt → UsbSt) : (s.modUsb f).net = s.net := rfl
@[simp] theorem State.modUsb_usb (f : UsbSt → UsbSt) : (s.modUsb f).usb = f s.usb := rfl
@[simp] theorem State.modUsb_caravan (f : UsbSt → UsbSt) : (s.modUsb f).caravan = s.caravan := rfl
@[simp] theorem State.modUsb_chassis (f : UsbSt → UsbSt) : (s.modUsb f).chassis = s.chassis := rfl
@[simp] theorem State.modUsb_power (f : UsbSt → UsbSt) : (s.modUsb f).power = s.power := rfl
@[simp] theorem State.modUsb_boot (f : UsbSt → UsbSt) : (s.modUsb f).boot = s.boot := rfl
@[simp] theorem State.modUsb_wire (f : UsbSt → UsbSt) : (s.modUsb f).wire = s.wire := rfl
@[simp] theorem State.modUsb_freeCount (f : UsbSt → UsbSt) : (s.modUsb f).freeCount = s.freeCount := rfl
@[simp] theorem State.modUsb_pending (f : UsbSt → UsbSt) : (s.modUsb f).pending = s.pending := rfl

/-! ### setReg -/

@[simp] theorem State.setReg_regs (r : Reg) (i j : Nat) (v : Word) : (s.setReg r i j v).regs = mapSet (r.resetValue i j) s.regs (r.addr i j) v := rfl
@[simp] theorem State.setReg_active (r : Reg) (i j : Nat) (v : Word) : (s.setReg r i j v).active = s.active := rfl
@[simp] theorem State.setReg_nv (r : Reg) (i j : Nat) (v : Word) : (s.setReg r i j v).nv = s.nv := rfl
@[simp] theorem State.setReg_pairs (r : Reg) (i j : Nat) (v : Word) : (s.setReg r i j v).pairs = s.pairs := rfl
@[simp] theorem State.setReg_pat (r : Reg) (i j : Nat) (v : Word) : (s.setReg r i j v).pat = s.pat := rfl
@[simp] theorem State.setReg_commit (r : Reg) (i j : Nat) (v : Word) : (s.setReg r i j v).commit = s.commit := rfl
@[simp] theorem State.setReg_ledger (r : Reg) (i j : Nat) (v : Word) : (s.setReg r i j v).ledger = s.ledger := rfl
@[simp] theorem State.setReg_routes (r : Reg) (i j : Nat) (v : Word) : (s.setReg r i j v).routes = s.routes := rfl
@[simp] theorem State.setReg_store (r : Reg) (i j : Nat) (v : Word) : (s.setReg r i j v).store = s.store := rfl
@[simp] theorem State.setReg_porter (r : Reg) (i j : Nat) (v : Word) : (s.setReg r i j v).porter = s.porter := rfl
@[simp] theorem State.setReg_sources (r : Reg) (i j : Nat) (v : Word) : (s.setReg r i j v).sources = s.sources := rfl
@[simp] theorem State.setReg_skeins (r : Reg) (i j : Nat) (v : Word) : (s.setReg r i j v).skeins = s.skeins := rfl
@[simp] theorem State.setReg_needles (r : Reg) (i j : Nat) (v : Word) : (s.setReg r i j v).needles = s.needles := rfl
@[simp] theorem State.setReg_heads (r : Reg) (i j : Nat) (v : Word) : (s.setReg r i j v).heads = s.heads := rfl
@[simp] theorem State.setReg_dp (r : Reg) (i j : Nat) (v : Word) : (s.setReg r i j v).dp = s.dp := rfl
@[simp] theorem State.setReg_raster (r : Reg) (i j : Nat) (v : Word) : (s.setReg r i j v).raster = s.raster := rfl
@[simp] theorem State.setReg_block (r : Reg) (i j : Nat) (v : Word) : (s.setReg r i j v).block = s.block := rfl
@[simp] theorem State.setReg_time (r : Reg) (i j : Nat) (v : Word) : (s.setReg r i j v).time = s.time := rfl
@[simp] theorem State.setReg_net (r : Reg) (i j : Nat) (v : Word) : (s.setReg r i j v).net = s.net := rfl
@[simp] theorem State.setReg_usb (r : Reg) (i j : Nat) (v : Word) : (s.setReg r i j v).usb = s.usb := rfl
@[simp] theorem State.setReg_caravan (r : Reg) (i j : Nat) (v : Word) : (s.setReg r i j v).caravan = s.caravan := rfl
@[simp] theorem State.setReg_chassis (r : Reg) (i j : Nat) (v : Word) : (s.setReg r i j v).chassis = s.chassis := rfl
@[simp] theorem State.setReg_power (r : Reg) (i j : Nat) (v : Word) : (s.setReg r i j v).power = s.power := rfl
@[simp] theorem State.setReg_boot (r : Reg) (i j : Nat) (v : Word) : (s.setReg r i j v).boot = s.boot := rfl
@[simp] theorem State.setReg_wire (r : Reg) (i j : Nat) (v : Word) : (s.setReg r i j v).wire = s.wire := rfl
@[simp] theorem State.setReg_freeCount (r : Reg) (i j : Nat) (v : Word) : (s.setReg r i j v).freeCount = s.freeCount := rfl
@[simp] theorem State.setReg_pending (r : Reg) (i j : Nat) (v : Word) : (s.setReg r i j v).pending = s.pending := rfl

/-! ### setAct -/

@[simp] theorem State.setAct_regs (r : Reg) (i j : Nat) (v : Word) : (s.setAct r i j v).regs = s.regs := rfl
@[simp] theorem State.setAct_active (r : Reg) (i j : Nat) (v : Word) : (s.setAct r i j v).active = mapSet (r.resetValue i j) s.active (r.addr i j) v := rfl
@[simp] theorem State.setAct_nv (r : Reg) (i j : Nat) (v : Word) : (s.setAct r i j v).nv = s.nv := rfl
@[simp] theorem State.setAct_pairs (r : Reg) (i j : Nat) (v : Word) : (s.setAct r i j v).pairs = s.pairs := rfl
@[simp] theorem State.setAct_pat (r : Reg) (i j : Nat) (v : Word) : (s.setAct r i j v).pat = s.pat := rfl
@[simp] theorem State.setAct_commit (r : Reg) (i j : Nat) (v : Word) : (s.setAct r i j v).commit = s.commit := rfl
@[simp] theorem State.setAct_ledger (r : Reg) (i j : Nat) (v : Word) : (s.setAct r i j v).ledger = s.ledger := rfl
@[simp] theorem State.setAct_routes (r : Reg) (i j : Nat) (v : Word) : (s.setAct r i j v).routes = s.routes := rfl
@[simp] theorem State.setAct_store (r : Reg) (i j : Nat) (v : Word) : (s.setAct r i j v).store = s.store := rfl
@[simp] theorem State.setAct_porter (r : Reg) (i j : Nat) (v : Word) : (s.setAct r i j v).porter = s.porter := rfl
@[simp] theorem State.setAct_sources (r : Reg) (i j : Nat) (v : Word) : (s.setAct r i j v).sources = s.sources := rfl
@[simp] theorem State.setAct_skeins (r : Reg) (i j : Nat) (v : Word) : (s.setAct r i j v).skeins = s.skeins := rfl
@[simp] theorem State.setAct_needles (r : Reg) (i j : Nat) (v : Word) : (s.setAct r i j v).needles = s.needles := rfl
@[simp] theorem State.setAct_heads (r : Reg) (i j : Nat) (v : Word) : (s.setAct r i j v).heads = s.heads := rfl
@[simp] theorem State.setAct_dp (r : Reg) (i j : Nat) (v : Word) : (s.setAct r i j v).dp = s.dp := rfl
@[simp] theorem State.setAct_raster (r : Reg) (i j : Nat) (v : Word) : (s.setAct r i j v).raster = s.raster := rfl
@[simp] theorem State.setAct_block (r : Reg) (i j : Nat) (v : Word) : (s.setAct r i j v).block = s.block := rfl
@[simp] theorem State.setAct_time (r : Reg) (i j : Nat) (v : Word) : (s.setAct r i j v).time = s.time := rfl
@[simp] theorem State.setAct_net (r : Reg) (i j : Nat) (v : Word) : (s.setAct r i j v).net = s.net := rfl
@[simp] theorem State.setAct_usb (r : Reg) (i j : Nat) (v : Word) : (s.setAct r i j v).usb = s.usb := rfl
@[simp] theorem State.setAct_caravan (r : Reg) (i j : Nat) (v : Word) : (s.setAct r i j v).caravan = s.caravan := rfl
@[simp] theorem State.setAct_chassis (r : Reg) (i j : Nat) (v : Word) : (s.setAct r i j v).chassis = s.chassis := rfl
@[simp] theorem State.setAct_power (r : Reg) (i j : Nat) (v : Word) : (s.setAct r i j v).power = s.power := rfl
@[simp] theorem State.setAct_boot (r : Reg) (i j : Nat) (v : Word) : (s.setAct r i j v).boot = s.boot := rfl
@[simp] theorem State.setAct_wire (r : Reg) (i j : Nat) (v : Word) : (s.setAct r i j v).wire = s.wire := rfl
@[simp] theorem State.setAct_freeCount (r : Reg) (i j : Nat) (v : Word) : (s.setAct r i j v).freeCount = s.freeCount := rfl
@[simp] theorem State.setAct_pending (r : Reg) (i j : Nat) (v : Word) : (s.setAct r i j v).pending = s.pending := rfl

/-! ### setStored -/

@[simp] theorem State.setStored_regs (r : Reg) (i j : Nat) (v : Word) : (s.setStored r i j v).regs = s.regs := rfl
@[simp] theorem State.setStored_active (r : Reg) (i j : Nat) (v : Word) : (s.setStored r i j v).active = s.active := rfl
@[simp] theorem State.setStored_nv (r : Reg) (i j : Nat) (v : Word) : (s.setStored r i j v).nv = mapSet (r.resetValue i j) s.nv (r.addr i j) v := rfl
@[simp] theorem State.setStored_pairs (r : Reg) (i j : Nat) (v : Word) : (s.setStored r i j v).pairs = s.pairs := rfl
@[simp] theorem State.setStored_pat (r : Reg) (i j : Nat) (v : Word) : (s.setStored r i j v).pat = s.pat := rfl
@[simp] theorem State.setStored_commit (r : Reg) (i j : Nat) (v : Word) : (s.setStored r i j v).commit = s.commit := rfl
@[simp] theorem State.setStored_ledger (r : Reg) (i j : Nat) (v : Word) : (s.setStored r i j v).ledger = s.ledger := rfl
@[simp] theorem State.setStored_routes (r : Reg) (i j : Nat) (v : Word) : (s.setStored r i j v).routes = s.routes := rfl
@[simp] theorem State.setStored_store (r : Reg) (i j : Nat) (v : Word) : (s.setStored r i j v).store = s.store := rfl
@[simp] theorem State.setStored_porter (r : Reg) (i j : Nat) (v : Word) : (s.setStored r i j v).porter = s.porter := rfl
@[simp] theorem State.setStored_sources (r : Reg) (i j : Nat) (v : Word) : (s.setStored r i j v).sources = s.sources := rfl
@[simp] theorem State.setStored_skeins (r : Reg) (i j : Nat) (v : Word) : (s.setStored r i j v).skeins = s.skeins := rfl
@[simp] theorem State.setStored_needles (r : Reg) (i j : Nat) (v : Word) : (s.setStored r i j v).needles = s.needles := rfl
@[simp] theorem State.setStored_heads (r : Reg) (i j : Nat) (v : Word) : (s.setStored r i j v).heads = s.heads := rfl
@[simp] theorem State.setStored_dp (r : Reg) (i j : Nat) (v : Word) : (s.setStored r i j v).dp = s.dp := rfl
@[simp] theorem State.setStored_raster (r : Reg) (i j : Nat) (v : Word) : (s.setStored r i j v).raster = s.raster := rfl
@[simp] theorem State.setStored_block (r : Reg) (i j : Nat) (v : Word) : (s.setStored r i j v).block = s.block := rfl
@[simp] theorem State.setStored_time (r : Reg) (i j : Nat) (v : Word) : (s.setStored r i j v).time = s.time := rfl
@[simp] theorem State.setStored_net (r : Reg) (i j : Nat) (v : Word) : (s.setStored r i j v).net = s.net := rfl
@[simp] theorem State.setStored_usb (r : Reg) (i j : Nat) (v : Word) : (s.setStored r i j v).usb = s.usb := rfl
@[simp] theorem State.setStored_caravan (r : Reg) (i j : Nat) (v : Word) : (s.setStored r i j v).caravan = s.caravan := rfl
@[simp] theorem State.setStored_chassis (r : Reg) (i j : Nat) (v : Word) : (s.setStored r i j v).chassis = s.chassis := rfl
@[simp] theorem State.setStored_power (r : Reg) (i j : Nat) (v : Word) : (s.setStored r i j v).power = s.power := rfl
@[simp] theorem State.setStored_boot (r : Reg) (i j : Nat) (v : Word) : (s.setStored r i j v).boot = s.boot := rfl
@[simp] theorem State.setStored_wire (r : Reg) (i j : Nat) (v : Word) : (s.setStored r i j v).wire = s.wire := rfl
@[simp] theorem State.setStored_freeCount (r : Reg) (i j : Nat) (v : Word) : (s.setStored r i j v).freeCount = s.freeCount := rfl
@[simp] theorem State.setStored_pending (r : Reg) (i j : Nat) (v : Word) : (s.setStored r i j v).pending = s.pending := rfl

/-! ### setPair -/

@[simp] theorem State.setPair_regs (low : Reg) (i : Nat) (v : Nat) : (s.setPair low i v).regs = s.regs := rfl
@[simp] theorem State.setPair_active (low : Reg) (i : Nat) (v : Nat) : (s.setPair low i v).active = s.active := rfl
@[simp] theorem State.setPair_nv (low : Reg) (i : Nat) (v : Nat) : (s.setPair low i v).nv = s.nv := rfl
@[simp] theorem State.setPair_pairs (low : Reg) (i : Nat) (v : Nat) : (s.setPair low i v).pairs = mapSet 0 s.pairs (low.addr i) v := rfl
@[simp] theorem State.setPair_pat (low : Reg) (i : Nat) (v : Nat) : (s.setPair low i v).pat = s.pat := rfl
@[simp] theorem State.setPair_commit (low : Reg) (i : Nat) (v : Nat) : (s.setPair low i v).commit = s.commit := rfl
@[simp] theorem State.setPair_ledger (low : Reg) (i : Nat) (v : Nat) : (s.setPair low i v).ledger = s.ledger := rfl
@[simp] theorem State.setPair_routes (low : Reg) (i : Nat) (v : Nat) : (s.setPair low i v).routes = s.routes := rfl
@[simp] theorem State.setPair_store (low : Reg) (i : Nat) (v : Nat) : (s.setPair low i v).store = s.store := rfl
@[simp] theorem State.setPair_porter (low : Reg) (i : Nat) (v : Nat) : (s.setPair low i v).porter = s.porter := rfl
@[simp] theorem State.setPair_sources (low : Reg) (i : Nat) (v : Nat) : (s.setPair low i v).sources = s.sources := rfl
@[simp] theorem State.setPair_skeins (low : Reg) (i : Nat) (v : Nat) : (s.setPair low i v).skeins = s.skeins := rfl
@[simp] theorem State.setPair_needles (low : Reg) (i : Nat) (v : Nat) : (s.setPair low i v).needles = s.needles := rfl
@[simp] theorem State.setPair_heads (low : Reg) (i : Nat) (v : Nat) : (s.setPair low i v).heads = s.heads := rfl
@[simp] theorem State.setPair_dp (low : Reg) (i : Nat) (v : Nat) : (s.setPair low i v).dp = s.dp := rfl
@[simp] theorem State.setPair_raster (low : Reg) (i : Nat) (v : Nat) : (s.setPair low i v).raster = s.raster := rfl
@[simp] theorem State.setPair_block (low : Reg) (i : Nat) (v : Nat) : (s.setPair low i v).block = s.block := rfl
@[simp] theorem State.setPair_time (low : Reg) (i : Nat) (v : Nat) : (s.setPair low i v).time = s.time := rfl
@[simp] theorem State.setPair_net (low : Reg) (i : Nat) (v : Nat) : (s.setPair low i v).net = s.net := rfl
@[simp] theorem State.setPair_usb (low : Reg) (i : Nat) (v : Nat) : (s.setPair low i v).usb = s.usb := rfl
@[simp] theorem State.setPair_caravan (low : Reg) (i : Nat) (v : Nat) : (s.setPair low i v).caravan = s.caravan := rfl
@[simp] theorem State.setPair_chassis (low : Reg) (i : Nat) (v : Nat) : (s.setPair low i v).chassis = s.chassis := rfl
@[simp] theorem State.setPair_power (low : Reg) (i : Nat) (v : Nat) : (s.setPair low i v).power = s.power := rfl
@[simp] theorem State.setPair_boot (low : Reg) (i : Nat) (v : Nat) : (s.setPair low i v).boot = s.boot := rfl
@[simp] theorem State.setPair_wire (low : Reg) (i : Nat) (v : Nat) : (s.setPair low i v).wire = s.wire := rfl
@[simp] theorem State.setPair_freeCount (low : Reg) (i : Nat) (v : Nat) : (s.setPair low i v).freeCount = s.freeCount := rfl
@[simp] theorem State.setPair_pending (low : Reg) (i : Nat) (v : Nat) : (s.setPair low i v).pending = s.pending := rfl

/-! ### send -/

@[simp] theorem State.send_regs (m : OutMsg) : (s.send m).regs = s.regs := rfl
@[simp] theorem State.send_active (m : OutMsg) : (s.send m).active = s.active := rfl
@[simp] theorem State.send_nv (m : OutMsg) : (s.send m).nv = s.nv := rfl
@[simp] theorem State.send_pairs (m : OutMsg) : (s.send m).pairs = s.pairs := rfl
@[simp] theorem State.send_pat (m : OutMsg) : (s.send m).pat = s.pat := rfl
@[simp] theorem State.send_commit (m : OutMsg) : (s.send m).commit = s.commit := rfl
@[simp] theorem State.send_ledger (m : OutMsg) : (s.send m).ledger = s.ledger := rfl
@[simp] theorem State.send_routes (m : OutMsg) : (s.send m).routes = s.routes := rfl
@[simp] theorem State.send_store (m : OutMsg) : (s.send m).store = s.store := rfl
@[simp] theorem State.send_porter (m : OutMsg) : (s.send m).porter = s.porter := rfl
@[simp] theorem State.send_sources (m : OutMsg) : (s.send m).sources = s.sources := rfl
@[simp] theorem State.send_skeins (m : OutMsg) : (s.send m).skeins = s.skeins := rfl
@[simp] theorem State.send_needles (m : OutMsg) : (s.send m).needles = s.needles := rfl
@[simp] theorem State.send_heads (m : OutMsg) : (s.send m).heads = s.heads := rfl
@[simp] theorem State.send_dp (m : OutMsg) : (s.send m).dp = s.dp := rfl
@[simp] theorem State.send_raster (m : OutMsg) : (s.send m).raster = s.raster := rfl
@[simp] theorem State.send_block (m : OutMsg) : (s.send m).block = s.block := rfl
@[simp] theorem State.send_time (m : OutMsg) : (s.send m).time = s.time := rfl
@[simp] theorem State.send_net (m : OutMsg) : (s.send m).net = s.net := rfl
@[simp] theorem State.send_usb (m : OutMsg) : (s.send m).usb = s.usb := rfl
@[simp] theorem State.send_caravan (m : OutMsg) : (s.send m).caravan = s.caravan := rfl
@[simp] theorem State.send_chassis (m : OutMsg) : (s.send m).chassis = s.chassis := rfl
@[simp] theorem State.send_power (m : OutMsg) : (s.send m).power = s.power := rfl
@[simp] theorem State.send_boot (m : OutMsg) : (s.send m).boot = s.boot := rfl
@[simp] theorem State.send_wire (m : OutMsg) : (s.send m).wire = s.wire ++ [m] := rfl
@[simp] theorem State.send_freeCount (m : OutMsg) : (s.send m).freeCount = s.freeCount := rfl
@[simp] theorem State.send_pending (m : OutMsg) : (s.send m).pending = s.pending := rfl

/-! ### putBlock -/

@[simp] theorem State.putBlock_regs (a : Nat) (bs : List Byte) : (s.putBlock a bs).regs = s.regs := rfl
@[simp] theorem State.putBlock_active (a : Nat) (bs : List Byte) : (s.putBlock a bs).active = s.active := rfl
@[simp] theorem State.putBlock_nv (a : Nat) (bs : List Byte) : (s.putBlock a bs).nv = s.nv := rfl
@[simp] theorem State.putBlock_pairs (a : Nat) (bs : List Byte) : (s.putBlock a bs).pairs = s.pairs := rfl
@[simp] theorem State.putBlock_pat (a : Nat) (bs : List Byte) : (s.putBlock a bs).pat = s.pat := rfl
@[simp] theorem State.putBlock_commit (a : Nat) (bs : List Byte) : (s.putBlock a bs).commit = s.commit := rfl
@[simp] theorem State.putBlock_ledger (a : Nat) (bs : List Byte) : (s.putBlock a bs).ledger = s.ledger := rfl
@[simp] theorem State.putBlock_routes (a : Nat) (bs : List Byte) : (s.putBlock a bs).routes = s.routes := rfl
@[simp] theorem State.putBlock_store (a : Nat) (bs : List Byte) : (s.putBlock a bs).store = { s.store with mem := memWrite s.store.mem a bs, poison := if bs.length = 64 then s.store.poison.filter (· ≠ a / 64) else s.store.poison } := rfl
@[simp] theorem State.putBlock_porter (a : Nat) (bs : List Byte) : (s.putBlock a bs).porter = s.porter := rfl
@[simp] theorem State.putBlock_sources (a : Nat) (bs : List Byte) : (s.putBlock a bs).sources = s.sources := rfl
@[simp] theorem State.putBlock_skeins (a : Nat) (bs : List Byte) : (s.putBlock a bs).skeins = s.skeins := rfl
@[simp] theorem State.putBlock_needles (a : Nat) (bs : List Byte) : (s.putBlock a bs).needles = s.needles := rfl
@[simp] theorem State.putBlock_heads (a : Nat) (bs : List Byte) : (s.putBlock a bs).heads = s.heads := rfl
@[simp] theorem State.putBlock_dp (a : Nat) (bs : List Byte) : (s.putBlock a bs).dp = s.dp := rfl
@[simp] theorem State.putBlock_raster (a : Nat) (bs : List Byte) : (s.putBlock a bs).raster = s.raster := rfl
@[simp] theorem State.putBlock_block (a : Nat) (bs : List Byte) : (s.putBlock a bs).block = s.block := rfl
@[simp] theorem State.putBlock_time (a : Nat) (bs : List Byte) : (s.putBlock a bs).time = s.time := rfl
@[simp] theorem State.putBlock_net (a : Nat) (bs : List Byte) : (s.putBlock a bs).net = s.net := rfl
@[simp] theorem State.putBlock_usb (a : Nat) (bs : List Byte) : (s.putBlock a bs).usb = s.usb := rfl
@[simp] theorem State.putBlock_caravan (a : Nat) (bs : List Byte) : (s.putBlock a bs).caravan = s.caravan := rfl
@[simp] theorem State.putBlock_chassis (a : Nat) (bs : List Byte) : (s.putBlock a bs).chassis = s.chassis := rfl
@[simp] theorem State.putBlock_power (a : Nat) (bs : List Byte) : (s.putBlock a bs).power = s.power := rfl
@[simp] theorem State.putBlock_boot (a : Nat) (bs : List Byte) : (s.putBlock a bs).boot = s.boot := rfl
@[simp] theorem State.putBlock_wire (a : Nat) (bs : List Byte) : (s.putBlock a bs).wire = s.wire := rfl
@[simp] theorem State.putBlock_freeCount (a : Nat) (bs : List Byte) : (s.putBlock a bs).freeCount = s.freeCount := rfl
@[simp] theorem State.putBlock_pending (a : Nat) (bs : List Byte) : (s.putBlock a bs).pending = s.pending := rfl

/-! ### loseEvent -/

@[simp] theorem State.loseEvent_regs : (s.loseEvent).regs = s.regs := rfl
@[simp] theorem State.loseEvent_active : (s.loseEvent).active = s.active := rfl
@[simp] theorem State.loseEvent_nv : (s.loseEvent).nv = s.nv := rfl
@[simp] theorem State.loseEvent_pairs : (s.loseEvent).pairs = s.pairs := rfl
@[simp] theorem State.loseEvent_pat : (s.loseEvent).pat = s.pat := rfl
@[simp] theorem State.loseEvent_commit : (s.loseEvent).commit = s.commit := rfl
@[simp] theorem State.loseEvent_ledger : (s.loseEvent).ledger = s.ledger := rfl
@[simp] theorem State.loseEvent_routes : (s.loseEvent).routes = { s.routes with lostCount := satInc s.routes.lostCount } := rfl
@[simp] theorem State.loseEvent_store : (s.loseEvent).store = s.store := rfl
@[simp] theorem State.loseEvent_porter : (s.loseEvent).porter = s.porter := rfl
@[simp] theorem State.loseEvent_sources : (s.loseEvent).sources = s.sources := rfl
@[simp] theorem State.loseEvent_skeins : (s.loseEvent).skeins = s.skeins := rfl
@[simp] theorem State.loseEvent_needles : (s.loseEvent).needles = s.needles := rfl
@[simp] theorem State.loseEvent_heads : (s.loseEvent).heads = s.heads := rfl
@[simp] theorem State.loseEvent_dp : (s.loseEvent).dp = s.dp := rfl
@[simp] theorem State.loseEvent_raster : (s.loseEvent).raster = s.raster := rfl
@[simp] theorem State.loseEvent_block : (s.loseEvent).block = s.block := rfl
@[simp] theorem State.loseEvent_time : (s.loseEvent).time = s.time := rfl
@[simp] theorem State.loseEvent_net : (s.loseEvent).net = s.net := rfl
@[simp] theorem State.loseEvent_usb : (s.loseEvent).usb = s.usb := rfl
@[simp] theorem State.loseEvent_caravan : (s.loseEvent).caravan = s.caravan := rfl
@[simp] theorem State.loseEvent_chassis : (s.loseEvent).chassis = s.chassis := rfl
@[simp] theorem State.loseEvent_power : (s.loseEvent).power = s.power := rfl
@[simp] theorem State.loseEvent_boot : (s.loseEvent).boot = s.boot := rfl
@[simp] theorem State.loseEvent_wire : (s.loseEvent).wire = s.wire := rfl
@[simp] theorem State.loseEvent_freeCount : (s.loseEvent).freeCount = s.freeCount := rfl
@[simp] theorem State.loseEvent_pending : (s.loseEvent).pending = s.pending := rfl

/-! ### setGroup -/

@[simp] theorem State.setGroup_regs (g : Nat) (x : Group) : (s.setGroup g x).regs = s.regs := rfl
@[simp] theorem State.setGroup_active (g : Nat) (x : Group) : (s.setGroup g x).active = s.active := rfl
@[simp] theorem State.setGroup_nv (g : Nat) (x : Group) : (s.setGroup g x).nv = s.nv := rfl
@[simp] theorem State.setGroup_pairs (g : Nat) (x : Group) : (s.setGroup g x).pairs = s.pairs := rfl
@[simp] theorem State.setGroup_pat (g : Nat) (x : Group) : (s.setGroup g x).pat = s.pat := rfl
@[simp] theorem State.setGroup_commit (g : Nat) (x : Group) : (s.setGroup g x).commit = { s.commit with groups := mapSet default s.commit.groups g x } := rfl
@[simp] theorem State.setGroup_ledger (g : Nat) (x : Group) : (s.setGroup g x).ledger = s.ledger := rfl
@[simp] theorem State.setGroup_routes (g : Nat) (x : Group) : (s.setGroup g x).routes = s.routes := rfl
@[simp] theorem State.setGroup_store (g : Nat) (x : Group) : (s.setGroup g x).store = s.store := rfl
@[simp] theorem State.setGroup_porter (g : Nat) (x : Group) : (s.setGroup g x).porter = s.porter := rfl
@[simp] theorem State.setGroup_sources (g : Nat) (x : Group) : (s.setGroup g x).sources = s.sources := rfl
@[simp] theorem State.setGroup_skeins (g : Nat) (x : Group) : (s.setGroup g x).skeins = s.skeins := rfl
@[simp] theorem State.setGroup_needles (g : Nat) (x : Group) : (s.setGroup g x).needles = s.needles := rfl
@[simp] theorem State.setGroup_heads (g : Nat) (x : Group) : (s.setGroup g x).heads = s.heads := rfl
@[simp] theorem State.setGroup_dp (g : Nat) (x : Group) : (s.setGroup g x).dp = s.dp := rfl
@[simp] theorem State.setGroup_raster (g : Nat) (x : Group) : (s.setGroup g x).raster = s.raster := rfl
@[simp] theorem State.setGroup_block (g : Nat) (x : Group) : (s.setGroup g x).block = s.block := rfl
@[simp] theorem State.setGroup_time (g : Nat) (x : Group) : (s.setGroup g x).time = s.time := rfl
@[simp] theorem State.setGroup_net (g : Nat) (x : Group) : (s.setGroup g x).net = s.net := rfl
@[simp] theorem State.setGroup_usb (g : Nat) (x : Group) : (s.setGroup g x).usb = s.usb := rfl
@[simp] theorem State.setGroup_caravan (g : Nat) (x : Group) : (s.setGroup g x).caravan = s.caravan := rfl
@[simp] theorem State.setGroup_chassis (g : Nat) (x : Group) : (s.setGroup g x).chassis = s.chassis := rfl
@[simp] theorem State.setGroup_power (g : Nat) (x : Group) : (s.setGroup g x).power = s.power := rfl
@[simp] theorem State.setGroup_boot (g : Nat) (x : Group) : (s.setGroup g x).boot = s.boot := rfl
@[simp] theorem State.setGroup_wire (g : Nat) (x : Group) : (s.setGroup g x).wire = s.wire := rfl
@[simp] theorem State.setGroup_freeCount (g : Nat) (x : Group) : (s.setGroup g x).freeCount = s.freeCount := rfl
@[simp] theorem State.setGroup_pending (g : Nat) (x : Group) : (s.setGroup g x).pending = s.pending := rfl

/-! ### setDirty -/

@[simp] theorem State.setDirty_regs (a : Nat) (d : Option Dirty) : (s.setDirty a d).regs = s.regs := rfl
@[simp] theorem State.setDirty_active (a : Nat) (d : Option Dirty) : (s.setDirty a d).active = s.active := rfl
@[simp] theorem State.setDirty_nv (a : Nat) (d : Option Dirty) : (s.setDirty a d).nv = s.nv := rfl
@[simp] theorem State.setDirty_pairs (a : Nat) (d : Option Dirty) : (s.setDirty a d).pairs = s.pairs := rfl
@[simp] theorem State.setDirty_pat (a : Nat) (d : Option Dirty) : (s.setDirty a d).pat = s.pat := rfl
@[simp] theorem State.setDirty_commit (a : Nat) (d : Option Dirty) : (s.setDirty a d).commit = { s.commit with dirty := mapSet none s.commit.dirty a d } := rfl
@[simp] theorem State.setDirty_ledger (a : Nat) (d : Option Dirty) : (s.setDirty a d).ledger = s.ledger := rfl
@[simp] theorem State.setDirty_routes (a : Nat) (d : Option Dirty) : (s.setDirty a d).routes = s.routes := rfl
@[simp] theorem State.setDirty_store (a : Nat) (d : Option Dirty) : (s.setDirty a d).store = s.store := rfl
@[simp] theorem State.setDirty_porter (a : Nat) (d : Option Dirty) : (s.setDirty a d).porter = s.porter := rfl
@[simp] theorem State.setDirty_sources (a : Nat) (d : Option Dirty) : (s.setDirty a d).sources = s.sources := rfl
@[simp] theorem State.setDirty_skeins (a : Nat) (d : Option Dirty) : (s.setDirty a d).skeins = s.skeins := rfl
@[simp] theorem State.setDirty_needles (a : Nat) (d : Option Dirty) : (s.setDirty a d).needles = s.needles := rfl
@[simp] theorem State.setDirty_heads (a : Nat) (d : Option Dirty) : (s.setDirty a d).heads = s.heads := rfl
@[simp] theorem State.setDirty_dp (a : Nat) (d : Option Dirty) : (s.setDirty a d).dp = s.dp := rfl
@[simp] theorem State.setDirty_raster (a : Nat) (d : Option Dirty) : (s.setDirty a d).raster = s.raster := rfl
@[simp] theorem State.setDirty_block (a : Nat) (d : Option Dirty) : (s.setDirty a d).block = s.block := rfl
@[simp] theorem State.setDirty_time (a : Nat) (d : Option Dirty) : (s.setDirty a d).time = s.time := rfl
@[simp] theorem State.setDirty_net (a : Nat) (d : Option Dirty) : (s.setDirty a d).net = s.net := rfl
@[simp] theorem State.setDirty_usb (a : Nat) (d : Option Dirty) : (s.setDirty a d).usb = s.usb := rfl
@[simp] theorem State.setDirty_caravan (a : Nat) (d : Option Dirty) : (s.setDirty a d).caravan = s.caravan := rfl
@[simp] theorem State.setDirty_chassis (a : Nat) (d : Option Dirty) : (s.setDirty a d).chassis = s.chassis := rfl
@[simp] theorem State.setDirty_power (a : Nat) (d : Option Dirty) : (s.setDirty a d).power = s.power := rfl
@[simp] theorem State.setDirty_boot (a : Nat) (d : Option Dirty) : (s.setDirty a d).boot = s.boot := rfl
@[simp] theorem State.setDirty_wire (a : Nat) (d : Option Dirty) : (s.setDirty a d).wire = s.wire := rfl
@[simp] theorem State.setDirty_freeCount (a : Nat) (d : Option Dirty) : (s.setDirty a d).freeCount = s.freeCount := rfl
@[simp] theorem State.setDirty_pending (a : Nat) (d : Option Dirty) : (s.setDirty a d).pending = s.pending := rfl

/-! ### setUniverse -/

@[simp] theorem State.setUniverse_regs (u : Nat) (x : UniverseSt) : (s.setUniverse u x).regs = s.regs := rfl
@[simp] theorem State.setUniverse_active (u : Nat) (x : UniverseSt) : (s.setUniverse u x).active = s.active := rfl
@[simp] theorem State.setUniverse_nv (u : Nat) (x : UniverseSt) : (s.setUniverse u x).nv = s.nv := rfl
@[simp] theorem State.setUniverse_pairs (u : Nat) (x : UniverseSt) : (s.setUniverse u x).pairs = s.pairs := rfl
@[simp] theorem State.setUniverse_pat (u : Nat) (x : UniverseSt) : (s.setUniverse u x).pat = s.pat := rfl
@[simp] theorem State.setUniverse_commit (u : Nat) (x : UniverseSt) : (s.setUniverse u x).commit = s.commit := rfl
@[simp] theorem State.setUniverse_ledger (u : Nat) (x : UniverseSt) : (s.setUniverse u x).ledger = s.ledger := rfl
@[simp] theorem State.setUniverse_routes (u : Nat) (x : UniverseSt) : (s.setUniverse u x).routes = s.routes := rfl
@[simp] theorem State.setUniverse_store (u : Nat) (x : UniverseSt) : (s.setUniverse u x).store = s.store := rfl
@[simp] theorem State.setUniverse_porter (u : Nat) (x : UniverseSt) : (s.setUniverse u x).porter = s.porter := rfl
@[simp] theorem State.setUniverse_sources (u : Nat) (x : UniverseSt) : (s.setUniverse u x).sources = s.sources := rfl
@[simp] theorem State.setUniverse_skeins (u : Nat) (x : UniverseSt) : (s.setUniverse u x).skeins = s.skeins := rfl
@[simp] theorem State.setUniverse_needles (u : Nat) (x : UniverseSt) : (s.setUniverse u x).needles = s.needles := rfl
@[simp] theorem State.setUniverse_heads (u : Nat) (x : UniverseSt) : (s.setUniverse u x).heads = s.heads := rfl
@[simp] theorem State.setUniverse_dp (u : Nat) (x : UniverseSt) : (s.setUniverse u x).dp = s.dp := rfl
@[simp] theorem State.setUniverse_raster (u : Nat) (x : UniverseSt) : (s.setUniverse u x).raster = s.raster := rfl
@[simp] theorem State.setUniverse_block (u : Nat) (x : UniverseSt) : (s.setUniverse u x).block = s.block := rfl
@[simp] theorem State.setUniverse_time (u : Nat) (x : UniverseSt) : (s.setUniverse u x).time = s.time := rfl
@[simp] theorem State.setUniverse_net (u : Nat) (x : UniverseSt) : (s.setUniverse u x).net = { s.net with universes := mapSet default s.net.universes u x } := rfl
@[simp] theorem State.setUniverse_usb (u : Nat) (x : UniverseSt) : (s.setUniverse u x).usb = s.usb := rfl
@[simp] theorem State.setUniverse_caravan (u : Nat) (x : UniverseSt) : (s.setUniverse u x).caravan = s.caravan := rfl
@[simp] theorem State.setUniverse_chassis (u : Nat) (x : UniverseSt) : (s.setUniverse u x).chassis = s.chassis := rfl
@[simp] theorem State.setUniverse_power (u : Nat) (x : UniverseSt) : (s.setUniverse u x).power = s.power := rfl
@[simp] theorem State.setUniverse_boot (u : Nat) (x : UniverseSt) : (s.setUniverse u x).boot = s.boot := rfl
@[simp] theorem State.setUniverse_wire (u : Nat) (x : UniverseSt) : (s.setUniverse u x).wire = s.wire := rfl
@[simp] theorem State.setUniverse_freeCount (u : Nat) (x : UniverseSt) : (s.setUniverse u x).freeCount = s.freeCount := rfl
@[simp] theorem State.setUniverse_pending (u : Nat) (x : UniverseSt) : (s.setUniverse u x).pending = s.pending := rfl

/-! ### setPage -/

@[simp] theorem State.setPage_regs (k : Nat) (p : Option Page) : (s.setPage k p).regs = s.regs := rfl
@[simp] theorem State.setPage_active (k : Nat) (p : Option Page) : (s.setPage k p).active = s.active := rfl
@[simp] theorem State.setPage_nv (k : Nat) (p : Option Page) : (s.setPage k p).nv = s.nv := rfl
@[simp] theorem State.setPage_pairs (k : Nat) (p : Option Page) : (s.setPage k p).pairs = s.pairs := rfl
@[simp] theorem State.setPage_pat (k : Nat) (p : Option Page) : (s.setPage k p).pat = s.pat := rfl
@[simp] theorem State.setPage_commit (k : Nat) (p : Option Page) : (s.setPage k p).commit = s.commit := rfl
@[simp] theorem State.setPage_ledger (k : Nat) (p : Option Page) : (s.setPage k p).ledger = s.ledger := rfl
@[simp] theorem State.setPage_routes (k : Nat) (p : Option Page) : (s.setPage k p).routes = s.routes := rfl
@[simp] theorem State.setPage_store (k : Nat) (p : Option Page) : (s.setPage k p).store = s.store := rfl
@[simp] theorem State.setPage_porter (k : Nat) (p : Option Page) : (s.setPage k p).porter = s.porter := rfl
@[simp] theorem State.setPage_sources (k : Nat) (p : Option Page) : (s.setPage k p).sources = s.sources := rfl
@[simp] theorem State.setPage_skeins (k : Nat) (p : Option Page) : (s.setPage k p).skeins = s.skeins := rfl
@[simp] theorem State.setPage_needles (k : Nat) (p : Option Page) : (s.setPage k p).needles = s.needles := rfl
@[simp] theorem State.setPage_heads (k : Nat) (p : Option Page) : (s.setPage k p).heads = s.heads := rfl
@[simp] theorem State.setPage_dp (k : Nat) (p : Option Page) : (s.setPage k p).dp = s.dp := rfl
@[simp] theorem State.setPage_raster (k : Nat) (p : Option Page) : (s.setPage k p).raster = s.raster := rfl
@[simp] theorem State.setPage_block (k : Nat) (p : Option Page) : (s.setPage k p).block = s.block := rfl
@[simp] theorem State.setPage_time (k : Nat) (p : Option Page) : (s.setPage k p).time = s.time := rfl
@[simp] theorem State.setPage_net (k : Nat) (p : Option Page) : (s.setPage k p).net = { s.net with pages := mapSet none s.net.pages k p } := rfl
@[simp] theorem State.setPage_usb (k : Nat) (p : Option Page) : (s.setPage k p).usb = s.usb := rfl
@[simp] theorem State.setPage_caravan (k : Nat) (p : Option Page) : (s.setPage k p).caravan = s.caravan := rfl
@[simp] theorem State.setPage_chassis (k : Nat) (p : Option Page) : (s.setPage k p).chassis = s.chassis := rfl
@[simp] theorem State.setPage_power (k : Nat) (p : Option Page) : (s.setPage k p).power = s.power := rfl
@[simp] theorem State.setPage_boot (k : Nat) (p : Option Page) : (s.setPage k p).boot = s.boot := rfl
@[simp] theorem State.setPage_wire (k : Nat) (p : Option Page) : (s.setPage k p).wire = s.wire := rfl
@[simp] theorem State.setPage_freeCount (k : Nat) (p : Option Page) : (s.setPage k p).freeCount = s.freeCount := rfl
@[simp] theorem State.setPage_pending (k : Nat) (p : Option Page) : (s.setPage k p).pending = s.pending := rfl

/-! ### usbRecord -/

@[simp] theorem State.usbRecord_regs (request result completed : Nat) : (s.usbRecord request result completed).regs = s.regs := rfl
@[simp] theorem State.usbRecord_active (request result completed : Nat) : (s.usbRecord request result completed).active = s.active := rfl
@[simp] theorem State.usbRecord_nv (request result completed : Nat) : (s.usbRecord request result completed).nv = s.nv := rfl
@[simp] theorem State.usbRecord_pairs (request result completed : Nat) : (s.usbRecord request result completed).pairs = s.pairs := rfl
@[simp] theorem State.usbRecord_pat (request result completed : Nat) : (s.usbRecord request result completed).pat = s.pat := rfl
@[simp] theorem State.usbRecord_commit (request result completed : Nat) : (s.usbRecord request result completed).commit = s.commit := rfl
@[simp] theorem State.usbRecord_ledger (request result completed : Nat) : (s.usbRecord request result completed).ledger = s.ledger := rfl
@[simp] theorem State.usbRecord_routes (request result completed : Nat) : (s.usbRecord request result completed).routes = s.routes := rfl
@[simp] theorem State.usbRecord_store (request result completed : Nat) : (s.usbRecord request result completed).store = s.store := rfl
@[simp] theorem State.usbRecord_porter (request result completed : Nat) : (s.usbRecord request result completed).porter = s.porter := rfl
@[simp] theorem State.usbRecord_sources (request result completed : Nat) : (s.usbRecord request result completed).sources = s.sources := rfl
@[simp] theorem State.usbRecord_skeins (request result completed : Nat) : (s.usbRecord request result completed).skeins = s.skeins := rfl
@[simp] theorem State.usbRecord_needles (request result completed : Nat) : (s.usbRecord request result completed).needles = s.needles := rfl
@[simp] theorem State.usbRecord_heads (request result completed : Nat) : (s.usbRecord request result completed).heads = s.heads := rfl
@[simp] theorem State.usbRecord_dp (request result completed : Nat) : (s.usbRecord request result completed).dp = s.dp := rfl
@[simp] theorem State.usbRecord_raster (request result completed : Nat) : (s.usbRecord request result completed).raster = s.raster := rfl
@[simp] theorem State.usbRecord_block (request result completed : Nat) : (s.usbRecord request result completed).block = s.block := rfl
@[simp] theorem State.usbRecord_time (request result completed : Nat) : (s.usbRecord request result completed).time = s.time := rfl
@[simp] theorem State.usbRecord_net (request result completed : Nat) : (s.usbRecord request result completed).net = s.net := rfl
@[simp] theorem State.usbRecord_usb (request result completed : Nat) : (s.usbRecord request result completed).usb = { s.usb with request := request, result := result, completed := completed } := rfl
@[simp] theorem State.usbRecord_caravan (request result completed : Nat) : (s.usbRecord request result completed).caravan = s.caravan := rfl
@[simp] theorem State.usbRecord_chassis (request result completed : Nat) : (s.usbRecord request result completed).chassis = s.chassis := rfl
@[simp] theorem State.usbRecord_power (request result completed : Nat) : (s.usbRecord request result completed).power = s.power := rfl
@[simp] theorem State.usbRecord_boot (request result completed : Nat) : (s.usbRecord request result completed).boot = s.boot := rfl
@[simp] theorem State.usbRecord_wire (request result completed : Nat) : (s.usbRecord request result completed).wire = s.wire := rfl
@[simp] theorem State.usbRecord_freeCount (request result completed : Nat) : (s.usbRecord request result completed).freeCount = s.freeCount := rfl
@[simp] theorem State.usbRecord_pending (request result completed : Nat) : (s.usbRecord request result completed).pending = s.pending := rfl

/-! ### setFence -/

@[simp] theorem State.setFence_regs (f v : Nat) : (s.setFence f v).regs = s.regs := rfl
@[simp] theorem State.setFence_active (f v : Nat) : (s.setFence f v).active = s.active := rfl
@[simp] theorem State.setFence_nv (f v : Nat) : (s.setFence f v).nv = s.nv := rfl
@[simp] theorem State.setFence_pairs (f v : Nat) : (s.setFence f v).pairs = s.pairs := rfl
@[simp] theorem State.setFence_pat (f v : Nat) : (s.setFence f v).pat = s.pat := rfl
@[simp] theorem State.setFence_commit (f v : Nat) : (s.setFence f v).commit = s.commit := rfl
@[simp] theorem State.setFence_ledger (f v : Nat) : (s.setFence f v).ledger = s.ledger := rfl
@[simp] theorem State.setFence_routes (f v : Nat) : (s.setFence f v).routes = { s.routes with fences := mapSet 0 s.routes.fences f (BitVec.ofNat 16 v) } := rfl
@[simp] theorem State.setFence_store (f v : Nat) : (s.setFence f v).store = s.store := rfl
@[simp] theorem State.setFence_porter (f v : Nat) : (s.setFence f v).porter = s.porter := rfl
@[simp] theorem State.setFence_sources (f v : Nat) : (s.setFence f v).sources = s.sources := rfl
@[simp] theorem State.setFence_skeins (f v : Nat) : (s.setFence f v).skeins = s.skeins := rfl
@[simp] theorem State.setFence_needles (f v : Nat) : (s.setFence f v).needles = s.needles := rfl
@[simp] theorem State.setFence_heads (f v : Nat) : (s.setFence f v).heads = s.heads := rfl
@[simp] theorem State.setFence_dp (f v : Nat) : (s.setFence f v).dp = s.dp := rfl
@[simp] theorem State.setFence_raster (f v : Nat) : (s.setFence f v).raster = s.raster := rfl
@[simp] theorem State.setFence_block (f v : Nat) : (s.setFence f v).block = s.block := rfl
@[simp] theorem State.setFence_time (f v : Nat) : (s.setFence f v).time = s.time := rfl
@[simp] theorem State.setFence_net (f v : Nat) : (s.setFence f v).net = s.net := rfl
@[simp] theorem State.setFence_usb (f v : Nat) : (s.setFence f v).usb = s.usb := rfl
@[simp] theorem State.setFence_caravan (f v : Nat) : (s.setFence f v).caravan = s.caravan := rfl
@[simp] theorem State.setFence_chassis (f v : Nat) : (s.setFence f v).chassis = s.chassis := rfl
@[simp] theorem State.setFence_power (f v : Nat) : (s.setFence f v).power = s.power := rfl
@[simp] theorem State.setFence_boot (f v : Nat) : (s.setFence f v).boot = s.boot := rfl
@[simp] theorem State.setFence_wire (f v : Nat) : (s.setFence f v).wire = s.wire := rfl
@[simp] theorem State.setFence_freeCount (f v : Nat) : (s.setFence f v).freeCount = s.freeCount := rfl
@[simp] theorem State.setFence_pending (f v : Nat) : (s.setFence f v).pending = s.pending := rfl

/-! ### enqueue -/

@[simp] theorem State.enqueue_regs (kind : RetireKind) (i cause : Nat) : (s.enqueue kind i cause).regs = s.regs := rfl
@[simp] theorem State.enqueue_active (kind : RetireKind) (i cause : Nat) : (s.enqueue kind i cause).active = s.active := rfl
@[simp] theorem State.enqueue_nv (kind : RetireKind) (i cause : Nat) : (s.enqueue kind i cause).nv = s.nv := rfl
@[simp] theorem State.enqueue_pairs (kind : RetireKind) (i cause : Nat) : (s.enqueue kind i cause).pairs = s.pairs := rfl
@[simp] theorem State.enqueue_pat (kind : RetireKind) (i cause : Nat) : (s.enqueue kind i cause).pat = s.pat := rfl
@[simp] theorem State.enqueue_commit (kind : RetireKind) (i cause : Nat) : (s.enqueue kind i cause).commit = s.commit := rfl
@[simp] theorem State.enqueue_ledger (kind : RetireKind) (i cause : Nat) : (s.enqueue kind i cause).ledger = { s.ledger with queue := s.ledger.queue ++ [⟨kind, i, cause⟩] } := rfl
@[simp] theorem State.enqueue_routes (kind : RetireKind) (i cause : Nat) : (s.enqueue kind i cause).routes = s.routes := rfl
@[simp] theorem State.enqueue_store (kind : RetireKind) (i cause : Nat) : (s.enqueue kind i cause).store = s.store := rfl
@[simp] theorem State.enqueue_porter (kind : RetireKind) (i cause : Nat) : (s.enqueue kind i cause).porter = s.porter := rfl
@[simp] theorem State.enqueue_sources (kind : RetireKind) (i cause : Nat) : (s.enqueue kind i cause).sources = s.sources := rfl
@[simp] theorem State.enqueue_skeins (kind : RetireKind) (i cause : Nat) : (s.enqueue kind i cause).skeins = s.skeins := rfl
@[simp] theorem State.enqueue_needles (kind : RetireKind) (i cause : Nat) : (s.enqueue kind i cause).needles = s.needles := rfl
@[simp] theorem State.enqueue_heads (kind : RetireKind) (i cause : Nat) : (s.enqueue kind i cause).heads = s.heads := rfl
@[simp] theorem State.enqueue_dp (kind : RetireKind) (i cause : Nat) : (s.enqueue kind i cause).dp = s.dp := rfl
@[simp] theorem State.enqueue_raster (kind : RetireKind) (i cause : Nat) : (s.enqueue kind i cause).raster = s.raster := rfl
@[simp] theorem State.enqueue_block (kind : RetireKind) (i cause : Nat) : (s.enqueue kind i cause).block = s.block := rfl
@[simp] theorem State.enqueue_time (kind : RetireKind) (i cause : Nat) : (s.enqueue kind i cause).time = s.time := rfl
@[simp] theorem State.enqueue_net (kind : RetireKind) (i cause : Nat) : (s.enqueue kind i cause).net = s.net := rfl
@[simp] theorem State.enqueue_usb (kind : RetireKind) (i cause : Nat) : (s.enqueue kind i cause).usb = s.usb := rfl
@[simp] theorem State.enqueue_caravan (kind : RetireKind) (i cause : Nat) : (s.enqueue kind i cause).caravan = s.caravan := rfl
@[simp] theorem State.enqueue_chassis (kind : RetireKind) (i cause : Nat) : (s.enqueue kind i cause).chassis = s.chassis := rfl
@[simp] theorem State.enqueue_power (kind : RetireKind) (i cause : Nat) : (s.enqueue kind i cause).power = s.power := rfl
@[simp] theorem State.enqueue_boot (kind : RetireKind) (i cause : Nat) : (s.enqueue kind i cause).boot = s.boot := rfl
@[simp] theorem State.enqueue_wire (kind : RetireKind) (i cause : Nat) : (s.enqueue kind i cause).wire = s.wire := rfl
@[simp] theorem State.enqueue_freeCount (kind : RetireKind) (i cause : Nat) : (s.enqueue kind i cause).freeCount = s.freeCount := rfl
@[simp] theorem State.enqueue_pending (kind : RetireKind) (i cause : Nat) : (s.enqueue kind i cause).pending = s.pending := rfl

/-! ### setSlot -/

@[simp] theorem State.setSlot_regs (k : Nat) (r : Option BlockRun) : (s.setSlot k r).regs = s.regs := rfl
@[simp] theorem State.setSlot_active (k : Nat) (r : Option BlockRun) : (s.setSlot k r).active = s.active := rfl
@[simp] theorem State.setSlot_nv (k : Nat) (r : Option BlockRun) : (s.setSlot k r).nv = s.nv := rfl
@[simp] theorem State.setSlot_pairs (k : Nat) (r : Option BlockRun) : (s.setSlot k r).pairs = s.pairs := rfl
@[simp] theorem State.setSlot_pat (k : Nat) (r : Option BlockRun) : (s.setSlot k r).pat = s.pat := rfl
@[simp] theorem State.setSlot_commit (k : Nat) (r : Option BlockRun) : (s.setSlot k r).commit = s.commit := rfl
@[simp] theorem State.setSlot_ledger (k : Nat) (r : Option BlockRun) : (s.setSlot k r).ledger = s.ledger := rfl
@[simp] theorem State.setSlot_routes (k : Nat) (r : Option BlockRun) : (s.setSlot k r).routes = s.routes := rfl
@[simp] theorem State.setSlot_store (k : Nat) (r : Option BlockRun) : (s.setSlot k r).store = s.store := rfl
@[simp] theorem State.setSlot_porter (k : Nat) (r : Option BlockRun) : (s.setSlot k r).porter = s.porter := rfl
@[simp] theorem State.setSlot_sources (k : Nat) (r : Option BlockRun) : (s.setSlot k r).sources = s.sources := rfl
@[simp] theorem State.setSlot_skeins (k : Nat) (r : Option BlockRun) : (s.setSlot k r).skeins = s.skeins := rfl
@[simp] theorem State.setSlot_needles (k : Nat) (r : Option BlockRun) : (s.setSlot k r).needles = s.needles := rfl
@[simp] theorem State.setSlot_heads (k : Nat) (r : Option BlockRun) : (s.setSlot k r).heads = s.heads := rfl
@[simp] theorem State.setSlot_dp (k : Nat) (r : Option BlockRun) : (s.setSlot k r).dp = s.dp := rfl
@[simp] theorem State.setSlot_raster (k : Nat) (r : Option BlockRun) : (s.setSlot k r).raster = s.raster := rfl
@[simp] theorem State.setSlot_block (k : Nat) (r : Option BlockRun) : (s.setSlot k r).block = { s.block with slots := mapSet none s.block.slots k r } := rfl
@[simp] theorem State.setSlot_time (k : Nat) (r : Option BlockRun) : (s.setSlot k r).time = s.time := rfl
@[simp] theorem State.setSlot_net (k : Nat) (r : Option BlockRun) : (s.setSlot k r).net = s.net := rfl
@[simp] theorem State.setSlot_usb (k : Nat) (r : Option BlockRun) : (s.setSlot k r).usb = s.usb := rfl
@[simp] theorem State.setSlot_caravan (k : Nat) (r : Option BlockRun) : (s.setSlot k r).caravan = s.caravan := rfl
@[simp] theorem State.setSlot_chassis (k : Nat) (r : Option BlockRun) : (s.setSlot k r).chassis = s.chassis := rfl
@[simp] theorem State.setSlot_power (k : Nat) (r : Option BlockRun) : (s.setSlot k r).power = s.power := rfl
@[simp] theorem State.setSlot_boot (k : Nat) (r : Option BlockRun) : (s.setSlot k r).boot = s.boot := rfl
@[simp] theorem State.setSlot_wire (k : Nat) (r : Option BlockRun) : (s.setSlot k r).wire = s.wire := rfl
@[simp] theorem State.setSlot_freeCount (k : Nat) (r : Option BlockRun) : (s.setSlot k r).freeCount = s.freeCount := rfl
@[simp] theorem State.setSlot_pending (k : Nat) (r : Option BlockRun) : (s.setSlot k r).pending = s.pending := rfl

/-! ### takeFree -/

@[simp] theorem State.takeFree_fst : s.takeFree.1 = s.freeCount := rfl
@[simp] theorem State.takeFree_regs : s.takeFree.2.regs = s.regs := rfl
@[simp] theorem State.takeFree_active : s.takeFree.2.active = s.active := rfl
@[simp] theorem State.takeFree_nv : s.takeFree.2.nv = s.nv := rfl
@[simp] theorem State.takeFree_pairs : s.takeFree.2.pairs = s.pairs := rfl
@[simp] theorem State.takeFree_pat : s.takeFree.2.pat = s.pat := rfl
@[simp] theorem State.takeFree_commit : s.takeFree.2.commit = s.commit := rfl
@[simp] theorem State.takeFree_ledger : s.takeFree.2.ledger = s.ledger := rfl
@[simp] theorem State.takeFree_routes : s.takeFree.2.routes = s.routes := rfl
@[simp] theorem State.takeFree_store : s.takeFree.2.store = s.store := rfl
@[simp] theorem State.takeFree_porter : s.takeFree.2.porter = s.porter := rfl
@[simp] theorem State.takeFree_sources : s.takeFree.2.sources = s.sources := rfl
@[simp] theorem State.takeFree_skeins : s.takeFree.2.skeins = s.skeins := rfl
@[simp] theorem State.takeFree_needles : s.takeFree.2.needles = s.needles := rfl
@[simp] theorem State.takeFree_heads : s.takeFree.2.heads = s.heads := rfl
@[simp] theorem State.takeFree_dp : s.takeFree.2.dp = s.dp := rfl
@[simp] theorem State.takeFree_raster : s.takeFree.2.raster = s.raster := rfl
@[simp] theorem State.takeFree_block : s.takeFree.2.block = s.block := rfl
@[simp] theorem State.takeFree_time : s.takeFree.2.time = s.time := rfl
@[simp] theorem State.takeFree_net : s.takeFree.2.net = s.net := rfl
@[simp] theorem State.takeFree_usb : s.takeFree.2.usb = s.usb := rfl
@[simp] theorem State.takeFree_caravan : s.takeFree.2.caravan = s.caravan := rfl
@[simp] theorem State.takeFree_chassis : s.takeFree.2.chassis = s.chassis := rfl
@[simp] theorem State.takeFree_power : s.takeFree.2.power = s.power := rfl
@[simp] theorem State.takeFree_boot : s.takeFree.2.boot = s.boot := rfl
@[simp] theorem State.takeFree_wire : s.takeFree.2.wire = s.wire := rfl
@[simp] theorem State.takeFree_freeCount : s.takeFree.2.freeCount = s.freeCount + 1 := rfl
@[simp] theorem State.takeFree_pending : s.takeFree.2.pending = s.pending := rfl

/-! ### Reading a unit after an update -/

@[simp] theorem State.modHead_head_same (i : Nat) (f : HeadSt → HeadSt) : (s.modHead i f).head i = f (s.head i) :=
  mapGet_mapUpdate_same _ _ _ _

theorem State.modHead_head_ne {i j : Nat} (f : HeadSt → HeadSt) (h : j ≠ i) : (s.modHead i f).head j = s.head j :=
  mapGet_mapUpdate_ne _ _ _ h

@[simp] theorem State.modSkein_skein_same (i : Nat) (f : SkeinSt → SkeinSt) : (s.modSkein i f).skein i = f (s.skein i) :=
  mapGet_mapUpdate_same _ _ _ _

theorem State.modSkein_skein_ne {i j : Nat} (f : SkeinSt → SkeinSt) (h : j ≠ i) : (s.modSkein i f).skein j = s.skein j :=
  mapGet_mapUpdate_ne _ _ _ h

@[simp] theorem State.modNeedle_needle_same (i : Nat) (f : NeedleSt → NeedleSt) : (s.modNeedle i f).needle i = f (s.needle i) :=
  mapGet_mapUpdate_same _ _ _ _

theorem State.modNeedle_needle_ne {i j : Nat} (f : NeedleSt → NeedleSt) (h : j ≠ i) : (s.modNeedle i f).needle j = s.needle j :=
  mapGet_mapUpdate_ne _ _ _ h

@[simp] theorem State.modSource_source_same (i : Nat) (f : SrcSt → SrcSt) : (s.modSource i f).source i = f (s.source i) :=
  mapGet_mapUpdate_same _ _ _ _

theorem State.modSource_source_ne {i j : Nat} (f : SrcSt → SrcSt) (h : j ≠ i) : (s.modSource i f).source j = s.source j :=
  mapGet_mapUpdate_ne _ _ _ h

@[simp] theorem State.modPorter_porterCh_same (i : Nat) (f : PorterSt → PorterSt) : (s.modPorter i f).porterCh i = f (s.porterCh i) :=
  mapGet_mapUpdate_same _ _ _ _

theorem State.modPorter_porterCh_ne {i j : Nat} (f : PorterSt → PorterSt) (h : j ≠ i) : (s.modPorter i f).porterCh j = s.porterCh j :=
  mapGet_mapUpdate_ne _ _ _ h

@[simp] theorem State.modDp_dpPort_same (i : Nat) (f : DpSt → DpSt) : (s.modDp i f).dpPort i = f (s.dpPort i) :=
  mapGet_mapUpdate_same _ _ _ _

theorem State.modDp_dpPort_ne {i j : Nat} (f : DpSt → DpSt) (h : j ≠ i) : (s.modDp i f).dpPort j = s.dpPort j :=
  mapGet_mapUpdate_ne _ _ _ h

@[simp] theorem State.modRoute_route_same (i : Nat) (f : RouteSt → RouteSt) : (s.modRoute i f).route i = f (s.route i) :=
  mapGet_mapUpdate_same _ _ _ _

theorem State.modRoute_route_ne {i j : Nat} (f : RouteSt → RouteSt) (h : j ≠ i) : (s.modRoute i f).route j = s.route j :=
  mapGet_mapUpdate_ne _ _ _ h

@[simp] theorem State.modChannel_channel_same (i : Nat) (f : ChannelSt → ChannelSt) : (s.modChannel i f).channel i = f (s.channel i) :=
  mapGet_mapUpdate_same _ _ _ _

theorem State.modChannel_channel_ne {i j : Nat} (f : ChannelSt → ChannelSt) (h : j ≠ i) : (s.modChannel i f).channel j = s.channel j :=
  mapGet_mapUpdate_ne _ _ _ h

@[simp] theorem State.modContext_context_same (i : Nat) (f : ReContext → ReContext) : (s.modContext i f).context i = f (s.context i) :=
  mapGet_mapUpdate_same _ _ _ _

theorem State.modContext_context_ne {i j : Nat} (f : ReContext → ReContext) (h : j ≠ i) : (s.modContext i f).context j = s.context j :=
  mapGet_mapUpdate_ne _ _ _ h

@[simp] theorem State.modCore_core_same (i : Nat) (f : CoreSt → CoreSt) : (s.modCore i f).core i = f (s.core i) :=
  mapGet_mapUpdate_same _ _ _ _

theorem State.modCore_core_ne {i j : Nat} (f : CoreSt → CoreSt) (h : j ≠ i) : (s.modCore i f).core j = s.core j :=
  mapGet_mapUpdate_ne _ _ _ h

@[simp] theorem State.modCmp_cmp_same (i : Nat) (f : CmpSt → CmpSt) : (s.modCmp i f).cmp i = f (s.cmp i) :=
  mapGet_mapUpdate_same _ _ _ _

theorem State.modCmp_cmp_ne {i j : Nat} (f : CmpSt → CmpSt) (h : j ≠ i) : (s.modCmp i f).cmp j = s.cmp j :=
  mapGet_mapUpdate_ne _ _ _ h

@[simp] theorem State.modCnt_cnt_same (i : Nat) (f : CntSt → CntSt) : (s.modCnt i f).cnt i = f (s.cnt i) :=
  mapGet_mapUpdate_same _ _ _ _

theorem State.modCnt_cnt_ne {i j : Nat} (f : CntSt → CntSt) (h : j ≠ i) : (s.modCnt i f).cnt j = s.cnt j :=
  mapGet_mapUpdate_ne _ _ _ h

@[simp] theorem State.modPort_netPort_same (i : Nat) (f : PortSt → PortSt) : (s.modPort i f).netPort i = f (s.netPort i) :=
  mapGet_mapUpdate_same _ _ _ _

theorem State.modPort_netPort_ne {i j : Nat} (f : PortSt → PortSt) (h : j ≠ i) : (s.modPort i f).netPort j = s.netPort j :=
  mapGet_mapUpdate_ne _ _ _ h

@[simp] theorem State.modRail_rail_same (i : Nat) (f : RailSt → RailSt) : (s.modRail i f).rail i = f (s.rail i) :=
  mapGet_mapUpdate_same _ _ _ _

theorem State.modRail_rail_ne {i j : Nat} (f : RailSt → RailSt) (h : j ≠ i) : (s.modRail i f).rail j = s.rail j :=
  mapGet_mapUpdate_ne _ _ _ h

@[simp] theorem State.modSlave_slave_same (i : Nat) (f : SlaveSt → SlaveSt) : (s.modSlave i f).slave i = f (s.slave i) :=
  mapGet_mapUpdate_same _ _ _ _

theorem State.modSlave_slave_ne {i j : Nat} (f : SlaveSt → SlaveSt) (h : j ≠ i) : (s.modSlave i f).slave j = s.slave j :=
  mapGet_mapUpdate_ne _ _ _ h

@[simp] theorem State.setReg_reg_same (r : Reg) (i j : Nat) (v : Word) : (s.setReg r i j v).reg r i j = v := mapGet_mapSet_same _ _ _ _

@[simp] theorem State.setAct_act_same (r : Reg) (i j : Nat) (v : Word) : (s.setAct r i j v).act r i j = v := mapGet_mapSet_same _ _ _ _

@[simp] theorem State.setStored_stored_same (r : Reg) (i j : Nat) (v : Word) : (s.setStored r i j v).stored r i j = v := mapGet_mapSet_same _ _ _ _

@[simp] theorem State.setPair_pair_same (r : Reg) (i v : Nat) : (s.setPair r i v).pair r i = v := mapGet_mapSet_same _ _ _ _

end Sys2Proof.Machine
end

