-- ==== Sys2Proof/Laws/Ops.lean ====
section
/-! SUPPORT. What the shared operations can do: Store writes, events and records, each by the fields it may change. -/

namespace Sys2Proof.Machine

/-! ### Store writes (R97, R99, R101) -/

/-- Writing spans changes the Store's bytes and poison alone. -/
theorem writeSpans_frame (ring stop : Bool) (l : List (Nat × Nat)) (bs : List Byte) (s : State) (f : Option (Nat × Nat)) :
    (State.writeSpans ring stop l bs s f).1 = { s with store := { s.store with
      mem := (State.writeSpans ring stop l bs s f).1.store.mem
      poison := (State.writeSpans ring stop l bs s f).1.store.poison } } := by
  induction l generalizing bs s f with
  | nil => rfl
  | cons p l ih =>
    obtain ⟨a, n⟩ := p
    unfold State.writeSpans
    split
    · split
      · rfl
      · exact ih _ _ _
    · rw [ih]; rfl

theorem storeWrite_frame (s : State) (a : Nat) (bs : List Byte) (ring stop : Bool) :
    (s.storeWrite a bs ring stop).1 = { s with store := { s.store with
      mem := (s.storeWrite a bs ring stop).1.store.mem, poison := (s.storeWrite a bs ring stop).1.store.poison } } :=
  writeSpans_frame ring stop (spansOf a bs.length) bs s none

theorem memWrite_append (m : List Host.Cell) (a : Nat) (l1 l2 : List Byte) :
    memWrite m a (l1 ++ l2) = memWrite (memWrite m a l1) (a + l1.length) l2 := by
  induction l1 generalizing m a with
  | nil => simp [memWrite]
  | cons x l1 ih =>
    simp only [memWrite, List.cons_append, List.length_cons]
    rw [ih]
    congr 1
    omega

/-- A run of spans that reports no failure wrote every byte, and poisoned nothing. -/
theorem writeSpans_ok (ring stop : Bool) (fuel : Nat) (a n : Nat) (bs : List Byte) (s t : State) (f : Option (Nat × Nat))
    (h1 : a % 64 + n ≤ 64 * fuel ∨ n = 0) (h2 : bs.length = n)
    (h3 : State.writeSpans ring stop (blockSpans fuel a n) bs s f = (t, none)) :
    f = none ∧ t.store.mem = memWrite s.store.mem a bs ∧
      (∀ b, t.store.poison.contains b = true → s.store.poison.contains b = true) := by
  induction fuel generalizing a n bs s f with
  | zero =>
    have hn : n = 0 := by omega
    subst hn
    have hb : bs = [] := List.length_eq_zero_iff.mp h2
    subst hb
    simp [blockSpans, State.writeSpans] at h3
    obtain ⟨rfl, rfl⟩ := h3
    simp [memWrite]
  | succ fuel ih =>
    unfold blockSpans at h3
    split at h3
    · have hb : bs = [] := List.length_eq_zero_iff.mp (by omega)
      subst hb
      simp [State.writeSpans] at h3
      obtain ⟨rfl, rfl⟩ := h3
      simp [memWrite]
    · rename_i hn
      simp only [State.writeSpans] at h3
      generalize hk : min n (64 - a % 64) = k at h3
      split at h3
      · split at h3
        · simp at h3
        · have hf := (ih (a + k) (n - k) (bs.drop k) s _ (by omega) (by simp; omega) h3).1
          cases f <;> simp at hf
      · obtain ⟨hf, hm, hp⟩ := ih (a + k) (n - k) (bs.drop k) (s.putBlock a (bs.take k)) f (by omega) (by simp; omega) h3
        refine ⟨hf, ?_, ?_⟩
        · have hl : (bs.take k).length = k := by simp; omega
          have ha := memWrite_append s.store.mem a (bs.take k) (bs.drop k)
          rw [hl, List.take_append_drop] at ha
          rw [hm, ha]
          rfl
        · intro b hb
          have := hp b hb
          unfold State.putBlock at this
          dsimp only at this
          split at this
          · simp at this ⊢; exact this.1
          · exact this

/-- A Store write that reports no failure wrote every byte. -/
theorem storeWrite_mem {s t : State} {a : Nat} {bs : List Byte} {ring stop : Bool}
    (h : s.storeWrite a bs ring stop = (t, none)) : t.store.mem = memWrite s.store.mem a bs :=
  (writeSpans_ok ring stop (bs.length / 64 + 2) a bs.length bs s t none (by omega) rfl h).2.1

theorem storeWrite_poison {s t : State} {a : Nat} {bs : List Byte} {ring stop : Bool}
    (h : s.storeWrite a bs ring stop = (t, none)) (b : Nat) (hb : t.store.poison.contains b = true) :
    s.store.poison.contains b = true :=
  (writeSpans_ok ring stop (bs.length / 64 + 2) a bs.length bs s t none (by omega) rfl h).2.2 b hb

/-! ### Events and records (R89 to R91, R391 to R398) -/

/-- What an event can change: the Store's bytes, the routes, and in the Ledger its entries and counts. -/
def EventFrame (s t : State) : Prop :=
  t = { s with routes := t.routes, store := { s.store with mem := t.store.mem, poison := t.store.poison }
               ledger := { s.ledger with entries := t.ledger.entries, overflow := t.ledger.overflow, held := t.ledger.held
                                         countA := t.ledger.countA, countB := t.ledger.countB, countC := t.ledger.countC
                                         countD := t.ledger.countD } }

theorem EventFrame.refl (s : State) : EventFrame s s := rfl

theorem EventFrame.trans {s t u : State} (h1 : EventFrame s t) (h2 : EventFrame t u) : EventFrame s u := by
  unfold EventFrame at *
  rw [h1] at h2
  exact h2

theorem writeOutbound_frame (s : State) (b : Bale) : EventFrame s (s.writeOutbound b) := by
  have h := storeWrite_frame s ((s.route 15).slotAddr (s.route 15).put) b true false
  unfold State.writeOutbound
  generalize s.storeWrite ((s.route 15).slotAddr (s.route 15).put) b true = p at h ⊢
  rcases p with ⟨t, _ | _⟩ <;> (dsimp only at h ⊢; rw [h]; exact rfl)

theorem emit_frame (s : State) (b : Bale) : EventFrame s (s.emit b).1 := by
  unfold State.emit
  repeat' split
  · exact rfl
  · exact rfl
  · exact rfl
  · exact (writeOutbound_frame s _).trans rfl
  · exact writeOutbound_frame s b

theorem countClass_frame (l : LedgerSt) (c : Nat) : l.countClass c = { l with
    countA := (l.countClass c).countA, countB := (l.countClass c).countB, countC := (l.countClass c).countC
    countD := (l.countClass c).countD } := by
  unfold LedgerSt.countClass
  split <;> rfl

theorem ledgerWrite_frame (s : State) (e : Entry) : EventFrame s (ledgerWrite s e).1 := by
  unfold ledgerWrite LedgerSt.write EventFrame
  dsimp only
  split
  · split
    · rfl
    · rw [countClass_frame]
  · split <;> rw [countClass_frame]

theorem postBale_frame (s : State) (b : Bale) : EventFrame s (s.postBale b) := by
  have h := emit_frame s b
  unfold State.postBale
  generalize s.emit b = p at h ⊢
  rcases p with ⟨t, _ | _⟩
  · exact h
  · have h2 := ledgerWrite_frame t (mkEntry t 0x03 classA 0 15 none false)
    dsimp only at h ⊢
    generalize ledgerWrite t (mkEntry t 0x03 classA 0 15 none false) = q at h2 ⊢
    rcases q with ⟨u, _ | _⟩
    · exact h.trans h2
    · exact (h.trans h2).trans rfl

theorem event_frame (s : State) (code : Nat) (detail : List Byte) (head tag : Nat) :
    EventFrame s (s.event code detail head tag) := postBale_frame s _

theorem record_frame (s : State) (source cls : Nat) (detail : List (Nat × Nat)) (addr : Nat) (head : Option Nat)
    (secondary : Bool) : EventFrame s (s.record source cls detail addr head secondary) := by
  have h := ledgerWrite_frame s (mkEntry s source cls (detailBits detail) addr head secondary)
  unfold State.record State.record'
  generalize ledgerWrite s (mkEntry s source cls (detailBits detail) addr head secondary) = q at h ⊢
  rcases q with ⟨u, _ | _⟩
  · exact h
  · exact h.trans (event_frame u _ _ _ _)

/-! ### Registers -/

theorem reg_setReg (s : State) (r r' : Reg) (i j i' j' : Nat) (v : Word) (h : r'.addr i' j' ≠ r.addr i j) :
    (s.setReg r i j v).reg r' i' j' = s.reg r' i' j' := by
  unfold State.setReg State.reg mapSet
  dsimp only
  split
  · rw [mapGet_erase, if_neg h]
  · rw [mapGet_insert, if_neg h]

@[simp] theorem reg_setReg_same (s : State) (r : Reg) (i j : Nat) (v : Word) : (s.setReg r i j v).reg r i j = v := by
  simp [State.setReg, State.reg]

end Sys2Proof.Machine
end

