-- ==== Sys2Proof/Laws/Access.lean ====
section
/-! SUPPORT. What an accepted and a refused register write do, for the commands that are one write. -/

namespace Sys2Proof.Machine

/-- An accepted write of a register that is not commit-bound. -/
theorem writeCmd_accepted {s : State} {acc : Accessor} {r : Reg} {i j : Nat} (v : Word) (h : s.Accepts acc r i j)
    (hr : regAt (r.addr i j) = some (r, i, j)) (hc : commitBound r = false) :
    s.writeCmd acc r i j v =
      (if storedAtWrite r then (s.written r i j v).setStored r i j (s.keptValue r i v) else s.written r i j v).wroteEffect
        s acc r i (s.reg r i j) (s.keptValue r i v) := by
  unfold State.writeCmd State.writeAccess
  rw [if_neg (by simp [h.1]), h.2, hr]
  simp [State.applyWrite, hc, State.written]

/-- An accepted write of a register that is kept nowhere else. -/
theorem writeCmd_plain {s : State} {acc : Accessor} {r : Reg} {i j : Nat} (v : Word) (h : s.Accepts acc r i j)
    (hr : regAt (r.addr i j) = some (r, i, j)) (hc : commitBound r = false) (hs : storedAtWrite r = false) :
    s.writeCmd acc r i j v = (s.written r i j v).wroteEffect s acc r i (s.reg r i j) (s.keptValue r i v) := by
  rw [writeCmd_accepted v h hr hc, if_neg (by simp [hs])]

/-- A refused write (R74). -/
theorem writeCmd_refused {s : State} {acc : Accessor} {r : Reg} {i j : Nat} (v : Word) {reason : Nat}
    (h1 : s.reachable acc = true) (h2 : s.judgeAccess acc true (r.addr i j) = some reason) :
    s.writeCmd acc r i j v = s.violation acc true (r.addr i j) reason := by
  unfold State.writeCmd State.writeAccess
  rw [if_neg (by simp [h1]), h2]

/-! ### Addresses (R7, R56) -/

/-- The indices a row gives are those of the address. -/
theorem regRow_index {r : RegRow} {a i j : Nat} (h : r.index a = some (i, j)) :
    r.base + i * r.stride + j * r.stride' = a ∧ i < r.count ∧ j < r.count' := by
  unfold RegRow.index at h
  split at h
  · simp at h
  · rename_i hb
    extract_lets d k e m at h
    have hle : k * r.stride ≤ d := by
      dsimp only [k]
      split
      · simp
      · exact Nat.div_mul_le_self _ _
    have hd : d = a - r.base := rfl
    have he : e = d - k * r.stride := rfl
    clear_value m e k d
    by_cases hc : k < r.count ∧ m < r.count' ∧ e = m * r.stride'
    · rw [if_pos hc] at h
      simp only [Option.some.injEq, Prod.mk.injEq] at h
      obtain ⟨rfl, rfl⟩ := h
      exact ⟨by omega, hc.1, hc.2.1⟩
    · rw [if_neg hc] at h
      exact nomatch h

/-- The register found at an address has that address. -/
theorem regAt_addr {a : Nat} {r : Reg} {i j : Nat} (h : regAt a = some (r, i, j)) :
    r.addr i j = a ∧ i < r.row.count ∧ j < r.row.count' := by
  unfold regAt at h
  generalize regsIn (a / 0x100000) = l at h
  induction l with
  | nil => simp [findReg] at h
  | cons q l ih =>
    unfold findReg at h
    split at h
    · rename_i hq
      simp only [Option.some.injEq, Prod.mk.injEq] at h
      obtain ⟨rfl, rfl, rfl⟩ := h
      exact regRow_index hq
    · exact ih h

end Sys2Proof.Machine
end

