-- ==== Sys2Proof/Laws/Bits.lean ====
section
/-! SUPPORT. What sorting and removing repeats keep: exactly the members. -/

namespace Sys2Proof.Machine

theorem mem_insertByFirst {α : Type} (key : α → Nat) (x y : α) (l : List α) :
    y ∈ sortBy.insertByFirst key x l ↔ y = x ∨ y ∈ l := by
  induction l with
  | nil => simp [sortBy.insertByFirst]
  | cons z l ih =>
    rw [sortBy.insertByFirst]
    split <;> simp only [List.mem_cons, ih]
    tauto

@[simp] theorem mem_sortBy {α : Type} (key : α → Nat) (y : α) (l : List α) : y ∈ sortBy key l ↔ y ∈ l := by
  induction l with
  | nil => simp [sortBy]
  | cons x l ih => rw [sortBy, mem_insertByFirst, ih, List.mem_cons]

@[simp] theorem mem_nub {α : Type} [DecidableEq α] (y : α) (l : List α) : y ∈ nub l ↔ y ∈ l := by
  induction l with
  | nil => simp [nub]
  | cons x l ih =>
    rw [nub]
    split
    · rename_i h
      rw [ih, List.mem_cons]
      exact ⟨Or.inr, fun o => o.elim (fun e => e ▸ h) id⟩
    · rw [List.mem_cons, List.mem_cons, ih]

end Sys2Proof.Machine
end

