-- ==== Sys2Proof/Laws/Units.lean ====
section
/-! SUPPORT. What an update of one repeated unit leaves in it and in every other. -/

namespace Sys2Proof.Machine

variable (s : State) (i : Nat)

@[simp] theorem State.modHead_same (f : HeadSt → HeadSt) : (s.modHead i f).head i = f (s.head i) :=
  mapGet_mapUpdate_same ..

theorem State.modHead_ne (f : HeadSt → HeadSt) {k : Nat} (h : k ≠ i) : (s.modHead i f).head k = s.head k :=
  mapGet_mapUpdate_ne _ _ _ h

@[simp] theorem State.modSkein_same (f : SkeinSt → SkeinSt) : (s.modSkein i f).skein i = f (s.skein i) :=
  mapGet_mapUpdate_same ..

theorem State.modSkein_ne (f : SkeinSt → SkeinSt) {k : Nat} (h : k ≠ i) : (s.modSkein i f).skein k = s.skein k :=
  mapGet_mapUpdate_ne _ _ _ h

@[simp] theorem State.modNeedle_same (f : NeedleSt → NeedleSt) : (s.modNeedle i f).needle i = f (s.needle i) :=
  mapGet_mapUpdate_same ..

theorem State.modNeedle_ne (f : NeedleSt → NeedleSt) {k : Nat} (h : k ≠ i) : (s.modNeedle i f).needle k = s.needle k :=
  mapGet_mapUpdate_ne _ _ _ h

@[simp] theorem State.modSource_same (f : SrcSt → SrcSt) : (s.modSource i f).source i = f (s.source i) :=
  mapGet_mapUpdate_same ..

theorem State.modSource_ne (f : SrcSt → SrcSt) {k : Nat} (h : k ≠ i) : (s.modSource i f).source k = s.source k :=
  mapGet_mapUpdate_ne _ _ _ h

@[simp] theorem State.modPorter_same (f : PorterSt → PorterSt) : (s.modPorter i f).porterCh i = f (s.porterCh i) :=
  mapGet_mapUpdate_same ..

theorem State.modPorter_ne (f : PorterSt → PorterSt) {k : Nat} (h : k ≠ i) : (s.modPorter i f).porterCh k = s.porterCh k :=
  mapGet_mapUpdate_ne _ _ _ h

@[simp] theorem State.modDp_same (f : DpSt → DpSt) : (s.modDp i f).dpPort i = f (s.dpPort i) :=
  mapGet_mapUpdate_same ..

theorem State.modDp_ne (f : DpSt → DpSt) {k : Nat} (h : k ≠ i) : (s.modDp i f).dpPort k = s.dpPort k :=
  mapGet_mapUpdate_ne _ _ _ h

@[simp] theorem State.modRoute_same (f : RouteSt → RouteSt) : (s.modRoute i f).route i = f (s.route i) :=
  mapGet_mapUpdate_same ..

theorem State.modRoute_ne (f : RouteSt → RouteSt) {k : Nat} (h : k ≠ i) : (s.modRoute i f).route k = s.route k :=
  mapGet_mapUpdate_ne _ _ _ h

@[simp] theorem State.modChannel_same (f : ChannelSt → ChannelSt) : (s.modChannel i f).channel i = f (s.channel i) :=
  mapGet_mapUpdate_same ..

theorem State.modChannel_ne (f : ChannelSt → ChannelSt) {k : Nat} (h : k ≠ i) : (s.modChannel i f).channel k = s.channel k :=
  mapGet_mapUpdate_ne _ _ _ h

@[simp] theorem State.modContext_same (f : ReContext → ReContext) : (s.modContext i f).context i = f (s.context i) :=
  mapGet_mapUpdate_same ..

theorem State.modContext_ne (f : ReContext → ReContext) {k : Nat} (h : k ≠ i) : (s.modContext i f).context k = s.context k :=
  mapGet_mapUpdate_ne _ _ _ h

@[simp] theorem State.modCore_same (f : CoreSt → CoreSt) : (s.modCore i f).core i = f (s.core i) :=
  mapGet_mapUpdate_same ..

theorem State.modCore_ne (f : CoreSt → CoreSt) {k : Nat} (h : k ≠ i) : (s.modCore i f).core k = s.core k :=
  mapGet_mapUpdate_ne _ _ _ h

@[simp] theorem State.modCmp_same (f : CmpSt → CmpSt) : (s.modCmp i f).cmp i = f (s.cmp i) :=
  mapGet_mapUpdate_same ..

theorem State.modCmp_ne (f : CmpSt → CmpSt) {k : Nat} (h : k ≠ i) : (s.modCmp i f).cmp k = s.cmp k :=
  mapGet_mapUpdate_ne _ _ _ h

@[simp] theorem State.modCnt_same (f : CntSt → CntSt) : (s.modCnt i f).cnt i = f (s.cnt i) :=
  mapGet_mapUpdate_same ..

theorem State.modCnt_ne (f : CntSt → CntSt) {k : Nat} (h : k ≠ i) : (s.modCnt i f).cnt k = s.cnt k :=
  mapGet_mapUpdate_ne _ _ _ h

@[simp] theorem State.modPort_same (f : PortSt → PortSt) : (s.modPort i f).netPort i = f (s.netPort i) :=
  mapGet_mapUpdate_same ..

theorem State.modPort_ne (f : PortSt → PortSt) {k : Nat} (h : k ≠ i) : (s.modPort i f).netPort k = s.netPort k :=
  mapGet_mapUpdate_ne _ _ _ h

@[simp] theorem State.modRail_same (f : RailSt → RailSt) : (s.modRail i f).rail i = f (s.rail i) :=
  mapGet_mapUpdate_same ..

theorem State.modRail_ne (f : RailSt → RailSt) {k : Nat} (h : k ≠ i) : (s.modRail i f).rail k = s.rail k :=
  mapGet_mapUpdate_ne _ _ _ h

@[simp] theorem State.modSlave_same (f : SlaveSt → SlaveSt) : (s.modSlave i f).slave i = f (s.slave i) :=
  mapGet_mapUpdate_same ..

theorem State.modSlave_ne (f : SlaveSt → SlaveSt) {k : Nat} (h : k ≠ i) : (s.modSlave i f).slave k = s.slave k :=
  mapGet_mapUpdate_ne _ _ _ h

@[simp] theorem State.setFence_same (v : Nat) : (s.setFence i v).fence i = v % 65536 := by
  simp [State.setFence, State.fence]

theorem State.setFence_ne (v : Nat) {k : Nat} (h : k ≠ i) : (s.setFence i v).fence k = s.fence k :=
  congrArg BitVec.toNat (mapGet_mapSet_ne _ _ _ h)

end Sys2Proof.Machine
end

