-- ==== Sys2Proof/Laws/Ticks.lean ====
section
/-! SUPPORT. The time base, its source and the queue are kept by everything a tick does but the step of TB. -/

set_option linter.all false
set_option maxRecDepth 4000
set_option maxHeartbeats 2000000

namespace Sys2Proof.Machine

def TimeKept (s0 s : State) : Prop := s.time.tb = s0.time.tb ∧ s.time.lfclk = s0.time.lfclk ∧ s.time.lfAcc = s0.time.lfAcc ∧
  s.pending = s0.pending ∧ s.boot = s0.boot ∧ s.usb = s0.usb

/-- An update that leaves the fields of TimeKept as they are. -/
theorem TimeKept.next {s0 s t : State} (h : TimeKept s0 s) (h1 : t.time.tb = s.time.tb := by rfl)
    (h2 : t.time.lfclk = s.time.lfclk := by rfl) (h3 : t.time.lfAcc = s.time.lfAcc := by rfl)
    (h4 : t.pending = s.pending := by rfl) (h5 : t.boot = s.boot := by rfl) (h6 : t.usb = s.usb := by rfl) : TimeKept s0 t :=
  ⟨h1.trans h.1, h2.trans h.2.1, h3.trans h.2.2.1, h4.trans h.2.2.2.1, h5.trans h.2.2.2.2.1, h6.trans h.2.2.2.2.2⟩

theorem timeKept_foldl {α : Type} {l : List α} {f : State → α → State} {s0 s : State} (h : TimeKept s0 s)
    (hf : ∀ t a, TimeKept s0 t → TimeKept s0 (f t a)) : TimeKept s0 (l.foldl f s) := by
  induction l generalizing s with
  | nil => exact h
  | cons a l ih => exact ih (hf s a h)
section

variable {s0 s : State}
theorem timeKept_writeSpans (ring stop : Bool) (l : List (Nat × Nat)) (bs : List Byte) (s : State) (f) (h : TimeKept s0 s) :
   TimeKept s0 (State.writeSpans ring stop l bs s f).1 := by
  induction l generalizing bs s f with
  | nil => exact h
  | cons p l ih =>
    obtain ⟨a, n⟩ := p
    unfold State.writeSpans
    split
    · split
      · exact h
      · exact ih _ _ _ h
    · exact ih _ _ _ h

theorem timeKept_storeWrite (a bs ring stop) (h : TimeKept s0 s) : TimeKept s0 (s.storeWrite a bs ring stop).1 := timeKept_writeSpans _ _ _ _ _ _ h

theorem timeKept_writeOutbound (b) (h : TimeKept s0 s) : TimeKept s0 (s.writeOutbound b) := by
  have h1 := timeKept_storeWrite (s := s) ((s.route 15).slotAddr (s.route 15).put) b true false h
  unfold State.writeOutbound
  generalize s.storeWrite ((s.route 15).slotAddr (s.route 15).put) b true = p at h1 ⊢
  rcases p with ⟨t, _ | _⟩ <;> exact h1

theorem timeKept_emit (b) (h : TimeKept s0 s) : TimeKept s0 (s.emit b).1 := by
  unfold State.emit
  repeat' split
  · exact h
  · exact h
  · exact h
  · exact (timeKept_writeOutbound (s := s) _ h)
  · exact timeKept_writeOutbound _ h

theorem timeKept_postBale (b) (h : TimeKept s0 s) : TimeKept s0 (s.postBale b) := by
  have h1 := timeKept_emit (s := s) b h
  unfold State.postBale
  generalize s.emit b = p at h1 ⊢
  rcases p with ⟨t, _ | _⟩
  · exact h1
  · dsimp only
    unfold ledgerWrite
    split
    · rename_i heq; simp only [Prod.mk.injEq] at heq; obtain ⟨rfl, _⟩ := heq; exact h1
    · rename_i heq; simp only [Prod.mk.injEq] at heq; obtain ⟨rfl, _⟩ := heq; exact h1

theorem timeKept_event (c d hd tg) (h : TimeKept s0 s) : TimeKept s0 (s.event c d hd tg) := timeKept_postBale _ h

theorem timeKept_record (a b c d e f) (h : TimeKept s0 s) : TimeKept s0 (s.record a b c d e f) := by
  unfold State.record State.record' ledgerWrite
  split
  · rename_i heq; simp only [Prod.mk.injEq] at heq; obtain ⟨rfl, _⟩ := heq; exact h
  · rename_i heq; simp only [Prod.mk.injEq] at heq; obtain ⟨rfl, _⟩ := heq; exact timeKept_event _ _ _ _ h

theorem timeKept_postInternal (r b p) (h : TimeKept s0 s) : TimeKept s0 (s.postInternal r b p) := by
  unfold State.postInternal State.acceptPost
  split
  · rename_i heq; split at heq <;> (simp only [Prod.mk.injEq] at heq; obtain ⟨rfl, _⟩ := heq; exact h)
  · rename_i heq
    have : TimeKept s0 ‹State› := by
      split at heq <;> (simp only [Prod.mk.injEq] at heq; obtain ⟨rfl, _⟩ := heq; exact h)
    have h2 : TimeKept s0 (State.dropPost ‹State› r b (producerCode p)) := timeKept_record _ _ _ _ _ _ (timeKept_event _ _ _ _ (by exact this))
    dsimp only
    split
    · exact h2
    · exact h2

theorem timeKept_gpoAction (p a) (h : TimeKept s0 s) : TimeKept s0 (s.gpoAction p a) := by
  unfold State.gpoAction
  extract_lets t
  repeat' split
  all_goals exact h

theorem timeKept_cmpHandOver (n) (h : TimeKept s0 s) : TimeKept s0 (s.cmpHandOver n) := by
  unfold State.cmpHandOver
  dsimp only
  split
  · split
    · exact (timeKept_postInternal _ _ _ h).next
    · exact h
  · exact h.next

theorem timeKept_cmpFire (n v) (h : TimeKept s0 s) : TimeKept s0 (s.cmpFire n v) := by
  have h2 := timeKept_gpoAction (cmpPin (s.reg .CMP_CONFIG n)) (cmpAction (s.reg .CMP_CONFIG n))
    (timeKept_cmpHandOver (s := s.modCmp n (fun c => { c with matchCount := c.matchCount + 1 })) n h.next)
  unfold State.cmpFire
  dsimp only
  split
  · exact timeKept_event _ _ _ _ h2
  · exact h2

theorem timeKept_cmpMatch (n) (h : TimeKept s0 s) : TimeKept s0 (s.cmpMatch n) := by
  unfold State.cmpMatch
  split
  · exact h
  · exact timeKept_cmpFire (s := s.modCmp n _) _ _ h.next

theorem timeKept_cntWrap (k) (h : TimeKept s0 s) : TimeKept s0 (s.cntWrap k) := by
  unfold State.cntWrap
  split
  · exact h
  · unfold State.cntWrapped
    extract_lets d due
    clear_value due
    split
    · exact timeKept_event (s := s.modCnt k _) _ _ _ _ h.next
    · exact h.next

theorem timeKept_fireBelow (n) (h : TimeKept s0 s) : TimeKept s0 (s.fireBelow n) :=
  (timeKept_foldl (l := List.range n) (f := State.cmpMatch) h (fun _ n ht => timeKept_cmpMatch n ht)).next

theorem timeKept_settleCycle (h : TimeKept s0 s) : TimeKept s0 s.settleCycle :=
  timeKept_foldl (l := List.range 8) (f := State.cntWrap) (timeKept_fireBelow 32 h) (fun _ k ht => timeKept_cntWrap k ht)

theorem timeKept_cntTick (k) (h : TimeKept s0 s) : TimeKept s0 (s.cntTick k) := by
  unfold State.cntTick
  split <;> exact h.next

theorem timeKept_judgeCmp (d n) (h : TimeKept s0 s) : TimeKept s0 (s.judgeCmp d n) := by
  unfold State.judgeCmp
  extract_lets c
  split
  · exact h
  · split
    · exact h.next
    · split
      · exact h.next
      · exact h

theorem timeKept_tbStep (h : TimeKept s0 s) : s.tbStep = s0.tbStep := by
  obtain ⟨-, hl, ha, -, hb, hu⟩ := h
  unfold State.tbStep State.wantsLfclk State.holding
  rw [hl, ha, hb, hu]
end

/-- A tick is a step of TB on a state in which only what it fires and counts differs. -/
theorem tick_eq (s : State) (h : s.power.standby = true) : ∃ t, TimeKept s t ∧
    s.tick = { t with time := { t.time with tb := t.time.tb + BitVec.ofNat 64 s.tbStep.1, lfAcc := s.tbStep.2 } } := by
  unfold State.tick
  rw [if_neg (by simp [h])]
  extract_lets s1 s2
  have h1 : TimeKept s s1 := timeKept_settleCycle ⟨rfl, rfl, rfl, rfl, rfl, rfl⟩
  have h2 : TimeKept s s2 := by
    dsimp only [s2]
    split
    · exact h1
    · exact timeKept_foldl h1 (fun t n ht => timeKept_cntTick n ht)
  rw [timeKept_tbStep h2]
  generalize s.tbStep = p
  obtain ⟨d, acc⟩ := p
  exact ⟨_, timeKept_foldl h2 (fun t n ht => timeKept_judgeCmp d n ht), rfl⟩

end Sys2Proof.Machine
end

