-- ==== Sys2Proof/Laws/Commits.lean ====
section
/-! SUPPORT. Commit groups and the bind-off transfer: what each operation changes. -/

set_option linter.all false
set_option maxRecDepth 4000
set_option maxHeartbeats 2000000

namespace Sys2Proof.Machine

theorem leNat_leBytes (n x : Nat) : leNat (leBytes n x) = x % 256 ^ n := by
  induction n generalizing x with
  | zero => simp [leBytes, leNat, Nat.mod_one]
  | succ n ih =>
    simp only [leBytes, leNat, ih]
    have : (byteOf x).toNat = x % 256 := by simp [byteOf]
    rw [this, Nat.pow_succ, Nat.mul_comm (256^n) 256, Nat.mod_mul]

theorem leBytes_length (n x : Nat) : (leBytes n x).length = n := by
  induction n generalizing x with
  | zero => rfl
  | succ n ih => simp [leBytes, ih]

theorem writeCmd_effect {s : State} {acc : Accessor} {r : Reg} {i j : Nat} (v : Word) (h : s.Accepts acc r i j)
   (hr : regAt (r.addr i j) = some (r, i, j)) (hc : commitBound r = false) (hs : storedAtWrite r = false) :
   s.writeCmd acc r i j v = (s.written r i j v).wroteEffect s acc r i (s.reg r i j) (s.keptValue r i v) := by
  unfold State.writeCmd State.writeAccess
  rw [if_neg (by simp [h.1]), h.2, hr]
  simp [State.applyWrite, hc, hs, State.written]

theorem commitGroup_frame (s : State) (g : Nat) : s.commitGroup g = { s with commit := (s.commitGroup g).commit } := by
  unfold State.commitGroup
  extract_lets serial src0 s0 fields owners s1 x old waiting
  have : s1 = { s with commit := s1.commit } := by
    dsimp only [s1]
    have key : ∀ (l : List Nat) (s' : State), s' = {s with commit := s'.commit} → List.foldl (fun s a => s.setDirty a (match s0.headOfAddr a with
      | some _ => some ⟨g, some serial⟩
      | none => none)) s' l = { s with commit := (List.foldl (fun s a => s.setDirty a (match s0.headOfAddr a with
      | some _ => some ⟨g, some serial⟩
      | none => none)) s' l).commit } := by
      intro l
      induction l with
      | nil => intro s' h; exact h
      | cons a l ih => intro s' h; exact ih _ (by rw [h]; rfl)
    exact key fields s0 rfl
  rw [this]; rfl

theorem foldl_setDirty_dirtyAt (f : Nat → Option Dirty) (l : List Nat) (s : State) (a : Nat) :
   (l.foldl (fun s a => s.setDirty a (f a)) s).dirtyAt a = if a ∈ l then f a else s.dirtyAt a := by
  induction l generalizing s with
  | nil => simp
  | cons b l ih =>
    rw [List.foldl_cons, ih]
    by_cases h : a ∈ l
    · simp [h]
    · by_cases h2 : a = b
      · subst h2; simp [h, State.setDirty, State.dirtyAt]
      · simp [h, h2, State.setDirty, State.dirtyAt, mapGet_mapSet_ne _ _ _ h2]

theorem foldl_setDirty_groups (f : Nat → Option Dirty) (l : List Nat) (s : State) :
   (l.foldl (fun s a => s.setDirty a (f a)) s).commit.groups = s.commit.groups := by
  induction l generalizing s with
  | nil => simp
  | cons b l ih => rw [List.foldl_cons, ih]; rfl

theorem dedup_mem (l : List Nat) (x : Nat) : x ∈ dedup l ↔ x ∈ l := by
  induction l with
  | nil => simp [dedup]
  | cons y l ih =>
    unfold dedup at ih ⊢
    rw [List.foldr_cons]
    split
    · rename_i h
      have := List.mem_of_elem_eq_true h
      rw [ih, List.mem_cons]
      constructor
      · exact Or.inr
      · rintro (rfl | h); exact ih.mp this; exact h
    · rw [List.mem_cons, ih, List.mem_cons]

theorem headOfAddr_written (s : State) (v : Word) (a : Nat) : (s.written .COMMIT_CONTROL 0 0 v).headOfAddr a = s.headOfAddr a := by
  have hreg : ∀ i, (s.written .COMMIT_CONTROL 0 0 v).reg .PORT_SELECT i = s.reg .PORT_SELECT i := by
    intro i
    apply reg_setReg
    simp [Reg.addr, Reg.row]; omega
  unfold State.headOfAddr
  split
  · unfold State.commitHead
    split <;> first | rfl | skip
    rw [hreg]; rfl
  · rfl

theorem settleGroup_frame (s : State) (g : Nat) : s.settleGroup g = { s with commit := { s.commit with groups := (s.settleGroup g).commit.groups } } := by
  unfold State.settleGroup
  extract_lets x
  split <;> rfl

theorem leaveGroup_frame (s : State) (g : Nat) : s.leaveGroup g = { s with commit := { s.commit with groups := (s.leaveGroup g).commit.groups } } := by
  unfold State.leaveGroup
  split
  · rw [settleGroup_frame]; rfl
  · rfl

theorem leaveHead_frame (s : State) (h g : Nat) (moved : Bool) : s.leaveHead h g moved =
    { s with commit := { s.commit with groups := (s.leaveHead h g moved).commit.groups } } := by
  unfold State.leaveHead
  dsimp only
  rw [settleGroup_frame]
  rfl

theorem liveHead_head {s : State} {h : Nat} {r : HeadRec} (hl : s.liveHead h = some r) : r.head = h := by
  unfold State.liveHead at hl
  split at hl
  · rename_i r' hr
    split at hl
    · injection hl with hl; subst hl
      have := List.find?_some hr; simpa using this
    · simp at hl
  · simp at hl

theorem head_modHead (s : State) (h : Nat) (f) : (s.modHead h f).head h = f (s.head h) := by
  simp [State.modHead, State.head]

theorem head_modHead_ne (s : State) (h k : Nat) (f) (hk : k ≠ h) : (s.modHead h f).head k = s.head k := by
  unfold State.modHead State.head; dsimp only; rw [mapGet_mapUpdate_ne _ _ _ hk]

theorem fld_lutNext (w : Word) : fld (lutNext w) 0 16 = (if lutLast (lutTable w) ≤ fld w 0 16 then 0 else fld w 0 16 + 1) ∧ fld (lutNext w) 16 16 = fld w 16 16 := by
  unfold lutNext
  dsimp only
  have hl : lutLast (lutTable w) ≤ 35936 := by unfold lutLast; split <;> omega
  have hi : fld w 0 16 < 65536 := Nat.mod_lt _ (by decide)
  generalize hn : (if lutLast (lutTable w) ≤ fld w 0 16 then 0 else fld w 0 16 + 1) = n
  have hn' : n < 65536 := by rw [← hn]; split <;> omega
  have hw : w.toNat = fld w 0 16 + 65536 * fld w 16 16 := by
    have := w.isLt
    unfold fld; omega
  have hf : fld w 16 16 < 65536 := Nat.mod_lt _ (by decide)
  generalize fld w 0 16 = i at *
  generalize fld w 16 16 = q at *
  have : (w - wordOf i + wordOf n).toNat = n + 65536 * q := by
    simp [wordOf, BitVec.toNat_add, BitVec.toNat_sub]; omega
  unfold fld
  rw [this]; omega

theorem activate_frame (s : State) (a : Nat) : s.activate a = { s with active := (s.activate a).active, commit := { s.commit with dirty := (s.activate a).commit.dirty } } := by
  unfold State.activate
  split <;> rfl

theorem foldl_activate_frame (s0 : State) (l : List (Nat × Dirty)) : ∀ (s : State), ∃ ac di, l.foldl (fun s p => s.activate p.1) s = { s with active := ac, commit := { s.commit with dirty := di } } := by
  induction l with
  | nil => intro s; exact ⟨s.active, s.commit.dirty, rfl⟩
  | cons p l ih =>
    intro s
    obtain ⟨ac, di, h⟩ := ih (s.activate p.1)
    rw [List.foldl_cons, h, activate_frame]
    exact ⟨ac, di, rfl⟩

theorem act_setAct_ne (s : State) (r r' : Reg) (i j i' j' : Nat) (v : Word) (h : r'.addr i' j' ≠ r.addr i j) :
    (s.setAct r i j v).act r' i' j' = s.act r' i' j' := by
  unfold State.setAct State.act mapSet
  dsimp only
  split
  · rw [mapGet_erase, if_neg h]
  · rw [mapGet_insert, if_neg h]

theorem act_activate_ne (s : State) (b : Nat) (r : Reg) (i j : Nat) (h : b ≠ r.addr i j) : (s.activate b).act r i j = s.act r i j ∧ (s.activate b).dirtyAt (r.addr i j) = s.dirtyAt (r.addr i j) := by
  unfold State.activate
  split
  · rename_i r' i' j' hr
    have := (regAt_addr hr).1
    constructor
    · exact act_setAct_ne _ _ _ _ _ _ _ _ (by rw [this]; exact h.symm)
    · unfold State.setDirty State.dirtyAt; dsimp only; rw [mapGet_mapSet_ne _ _ _ h.symm]; rfl
  · exact ⟨rfl, rfl⟩

theorem foldl_activate_mem (r : Reg) (i j : Nat) (hr : regAt (r.addr i j) = some (r, i, j)) (l : List (Nat × Dirty)) : ∀ (s : State) ,
  ((s.act r i j = s.reg r i j ∧ s.dirtyAt (r.addr i j) = none) ∨ (r.addr i j) ∈ l.map (·.1)) →
   (l.foldl (fun s p => s.activate p.1) s).act r i j = s.reg r i j ∧ (l.foldl (fun s p => s.activate p.1) s).dirtyAt (r.addr i j) = none := by
  induction l with
  | nil => intro s h; simpa using h
  | cons p l ih =>
    intro s h
    rw [List.foldl_cons]
    have hreg : (s.activate p.1).reg r i j = s.reg r i j := by rw [activate_frame]; rfl
    rw [← hreg]
    apply ih
    by_cases hp : p.1 = r.addr i j
    · left
      rw [hreg]
      unfold State.activate
      rw [hp, hr]
      dsimp only
      constructor
      · simp [State.setDirty, State.setAct, State.act]
      · simp [State.setDirty, State.dirtyAt]
    · rcases h with ⟨h1, h2⟩ | h
      · left
        have := act_activate_ne s p.1 r i j hp
        rw [this.1, this.2, hreg]; exact ⟨h1, h2⟩
      · right
        simp at h
        rcases h with h | h
        · exact absurd h.symm hp
        · simpa using h

theorem foldl_activate_not_mem (r : Reg) (i j : Nat) (l : List (Nat × Dirty)) : ∀ (s : State), (r.addr i j) ∉ l.map (·.1) →
   (l.foldl (fun s p => s.activate p.1) s).act r i j = s.act r i j ∧ (l.foldl (fun s p => s.activate p.1) s).dirtyAt (r.addr i j) = s.dirtyAt (r.addr i j) := by
  induction l with
  | nil => intro s h; exact ⟨rfl, rfl⟩
  | cons p l ih =>
    intro s h
    simp at h
    rw [List.foldl_cons]
    obtain ⟨h1, h2⟩ := ih (s.activate p.1) (by simpa using h.2)
    have := act_activate_ne s p.1 r i j (fun e => h.1 e.symm)
    rw [h1, h2]; exact this

theorem transferGroup_frame (c : List (Nat × Dirty)) (h : Nat) (s : State) (g : Nat) : (State.transferGroup c h s g).regs = s.regs ∧ (State.transferGroup c h s g).active = s.active ∧ (State.transferGroup c h s g).commit.dirty = s.commit.dirty := by
  unfold State.transferGroup
  have hf := event_frame (s.leaveHead h g true) 0x80 [byteOf g, byteOf (mergedOf c g)] h 0
  unfold EventFrame at hf
  rw [hf, leaveHead_frame]
  exact ⟨rfl, rfl, rfl⟩

theorem foldl_transferGroup_frame (c : List (Nat × Dirty)) (h : Nat) (l : List Nat) : ∀ s : State, (l.foldl (State.transferGroup c h) s).regs = s.regs ∧ (l.foldl (State.transferGroup c h) s).active = s.active ∧ (l.foldl (State.transferGroup c h) s).commit.dirty = s.commit.dirty := by
  induction l with
  | nil => intro s; exact ⟨rfl, rfl, rfl⟩
  | cons g l ih =>
    intro s
    rw [List.foldl_cons]
    obtain ⟨a, b, c'⟩ := ih (State.transferGroup c h s g)
    obtain ⟨a2, b2, c2⟩ := transferGroup_frame c h s g
    rw [a, b, c', a2, b2, c2]
    exact ⟨rfl, rfl, rfl⟩

theorem mapGet_mem {α} [DecidableEq α] (d : α) (m : SMap α) (k : Nat) (h : mapGet d m k ≠ d) : (k, mapGet d m k) ∈ m := by
  induction m with
  | nil => simp [mapGet] at h
  | cons p m ih =>
    obtain ⟨a, v⟩ := p
    unfold mapGet at h ⊢
    split
    · rename_i e; subst e; simp
    · rename_i e
      rw [if_neg e] at h
      exact List.mem_cons_of_mem _ (ih h)

end Sys2Proof.Machine
end

