-- ==== Sys2Proof/Laws/Engines.lean ====
section
/-! SUPPORT. The Porter, ingest, raster contexts and GPIO: small laws of their operations. -/

set_option linter.all false
set_option maxRecDepth 4000
set_option maxHeartbeats 2000000

namespace Sys2Proof.Machine

theorem regAt_porterControl : ∀ n : Fin 16, regAt (Reg.addr .PORTER_CONTROL n 0) = some (.PORTER_CONTROL, n.val, 0) := by decide

theorem porterCh_written : ∀ n v, (State.written s .PORTER_CONTROL n 0 v).porterCh k = s.porterCh k := fun _ _ => rfl

theorem porterShadow_written (s : State) (n m : Fin 16) (v) : (State.written s .PORTER_CONTROL n 0 v).porterShadow m = s.porterShadow m := by
  unfold State.porterShadow State.pairReg State.written
  have h : ∀ r : Reg, r.addr m 0 ≠ (Reg.PORTER_CONTROL).addr n 0 → (s.setReg .PORTER_CONTROL n 0 (s.keptValue .PORTER_CONTROL n v)).reg r m = s.reg r m := fun r hr => reg_setReg _ _ _ _ _ _ _ _ hr
  have g : ∀ n m : Fin 16, ∀ r ∈ [Reg.PORTER_CONFIG, .PORTER_SRC_LOW, .PORTER_SRC_HIGH, .PORTER_DST_LOW, .PORTER_DST_HIGH, .PORTER_COUNT, .PORTER_CTRL, .PORTER_FILL_LOW, .PORTER_FILL_HIGH, .PORTER_PROG_BASE_LOW, .PORTER_PROG_BASE_HIGH], r.addr m 0 ≠ (Reg.PORTER_CONTROL).addr n 0 := by decide +kernel
  rw [h _ (g n m .PORTER_CONFIG (by simp)), h _ (g n m .PORTER_SRC_LOW (by simp)), h _ (g n m .PORTER_SRC_HIGH (by simp)), h _ (g n m .PORTER_DST_LOW (by simp)), h _ (g n m .PORTER_DST_HIGH (by simp)), h _ (g n m .PORTER_COUNT (by simp)), h _ (g n m .PORTER_CTRL (by simp)), h _ (g n m .PORTER_FILL_LOW (by simp)), h _ (g n m .PORTER_FILL_HIGH (by simp)), h _ (g n m .PORTER_PROG_BASE_LOW (by simp)), h _ (g n m .PORTER_PROG_BASE_HIGH (by simp))]

theorem keptValue_porterGo (s : State) (n) : s.keptValue .PORTER_CONTROL n 1 = 1 := by
  show (1 : Word) &&& wordOf 3 = 1; decide

theorem keptValue_porterClear (s : State) (n) : s.keptValue .PORTER_CONTROL n 2 = 2 := by
  show (2 : Word) &&& wordOf 3 = 2; decide

theorem writeCmd_porterGo (s : State) (acc : Accessor) (n : Fin 16) (h : s.Accepts acc .PORTER_CONTROL n) : s.writeCmd acc .PORTER_CONTROL n 0 1 = (s.written .PORTER_CONTROL n 0 1).porterGo n := by
  rw [writeCmd_plain 1 h (regAt_porterControl n) rfl rfl]
  simp only [State.wroteEffect, State.wrotePorter, keptValue_porterGo]
  rfl

theorem writeCmd_porterClear (s : State) (acc : Accessor) (n : Fin 16) (h : s.Accepts acc .PORTER_CONTROL n) : s.writeCmd acc .PORTER_CONTROL n 0 2 = (s.written .PORTER_CONTROL n 0 2).porterClear n := by
  rw [writeCmd_plain 2 h (regAt_porterControl n) rfl rfl]
  simp only [State.wroteEffect, State.wrotePorter, keptValue_porterClear]
  rfl

theorem startTransfer_idle (s : State) (n) (h : (s.porterCh n).starting = false) : s.startTransfer n = s := by
  unfold State.startTransfer; dsimp only; rw [if_pos (Or.inl h)]

theorem holding_modSource (s : State) (i) (f : SrcSt → SrcSt) : (s.modSource i f).holding = s.holding := rfl

theorem drainFifo_holding (s : State) (i : Nat) (h : s.holding = true) : s.drainFifo i = s := by unfold State.drainFifo; rw [if_pos h]

theorem drainFifo_empty (s : State) (i : Nat) (h : s.holding = false) (h2 : (s.source i).fifo = []) : s.drainFifo i = s.modSource i (fun q => { q with fifo := [] }) := by
  unfold State.drainFifo; rw [if_neg (by simp [h]), h2]; rfl

theorem igmp_sources (s : State) (p m) : (s.igmp p m).sources = s.sources := by
  unfold State.igmp; split
  · rfl
  · rfl

theorem foldl_sources {α : Type} (f : State → α → State) (h : ∀ s x, (f s x).sources = s.sources) (l : List α) (s : State) :
    (l.foldl f s).sources = s.sources := by
  induction l generalizing s with
  | nil => rfl
  | cons x l ih => rw [List.foldl_cons, ih, h]

theorem regroup_sources (s old : State) : (s.regroup old).sources = s.sources := by
  refine foldl_sources _ (fun s p => ?_) _ s
  dsimp only
  rw [foldl_sources (fun s (g : Word × Word) => s.igmp p (.igmpJoin g.1 g.2)) (fun s g => igmp_sources s p _),
    foldl_sources (fun s (g : Word) => s.igmp p (.igmpLeave g)) (fun s g => igmp_sources s p _)]

theorem event_source (s : State) (c d h t) (i) : (s.event c d h t).source i = s.source i := by
  rw [(event_frame s c d h t : EventFrame _ _)]; rfl

theorem foldl_modContext_frame (f : ReContext → ReContext) (l : List Nat) (s : State) : ∃ cs, l.foldl (fun s c => s.modContext c f) s = { s with raster := { s.raster with contexts := cs } } := by
  induction l generalizing s with
  | nil => exact ⟨_, rfl⟩
  | cons x l ih => rw [List.foldl_cons]; obtain ⟨cs, h⟩ := ih (s.modContext x f); exact ⟨cs, h⟩

theorem gpoAction_none (s : State) (p) : s.gpoAction p 0 = s := by unfold State.gpoAction; split <;> rfl

theorem getLsbD_setBit8 : ∀ (w : BitVec 8) (p q : Fin 8) (b : Bool), (setBit8 w p b).getLsbD q = if q = p then b else w.getLsbD q := by
  decide +kernel

end Sys2Proof.Machine
end

