-- ==== Sys2Proof/Laws/Requests.lean ====
section
/-! SUPPORT. Purl and USB requests: which run, and what modes, pages and uploads change. -/

set_option linter.all false
set_option maxRecDepth 4000
set_option maxHeartbeats 2000000

namespace Sys2Proof.Machine

theorem purl_runs {s : State} {req : PurlReq} {b : PurlBody} (h : s.PurlRuns req b.opcode)
    (h2 : b.ownerOnly = false ∨ s.ownerReq req = true) : s.purl req b = s.runPurl req b := by
  obtain ⟨h1, hr, hk, hf⟩ := h
  have hn : s.net.flight.any (fun f => f.names req b.opcode) = false := by
    rw [List.any_eq_false]
    intro f hm hnm
    have : f ∈ s.flightOf req := by
      unfold State.flightOf
      rw [List.mem_filter]
      unfold Flight.names at hnm
      simp only [Bool.and_eq_true] at hnm
      exact ⟨hm, hnm.1.1⟩
    rw [hf] at this
    exact nomatch this
  unfold State.purl
  rw [if_neg (by simp [h1]), hk]
  dsimp only
  rw [if_neg (by simp [hn]), if_neg (by simp [hf]), if_pos (by simp [hf])]
  unfold State.judgePurl
  rw [hr]
  dsimp only
  rw [if_neg (by rcases h2 with h2 | h2 <;> simp [h2])]

theorem sendPurl_frame (s : State) (p : Nat) (m : NetMsg) : s.sendPurl p m =
    { s with wire := (s.sendPurl p m).wire, net := { s.net with ports := (s.sendPurl p m).net.ports } } := by
  unfold State.sendPurl
  split <;> rfl

/-- An answer changes what was sent, the ports' counts, and what the sessions keep and have in flight. -/
theorem answer_frame (s : State) (req : PurlReq) (op st : Nat) (pl : List Byte) (pm : Nat) : s.answer req op st pl pm =
    { s with wire := (s.answer req op st pl pm).wire
             net := { s.net with
               ports := (s.answer req op st pl pm).net.ports, kept := (s.answer req op st pl pm).net.kept
               flight := (s.answer req op st pl pm).net.flight, busyCount := (s.answer req op st pl pm).net.busyCount } } := by
  unfold State.answer State.purlReply
  dsimp only
  split
  · rfl
  · split
    · rw [sendPurl_frame]
      rfl
    · rw [sendPurl_frame]

theorem answer_page (s : State) (req op st pl pm k) : (s.answer req op st pl pm).page k = s.page k := by
  rw [answer_frame]; rfl

theorem answer_regs (s : State) (req op st pl pm) : (s.answer req op st pl pm).regs = s.regs := by
  rw [answer_frame]

theorem answer_store (s : State) (req op st pl pm) : (s.answer req op st pl pm).store = s.store := by
  rw [answer_frame]

/-- The registers, the network block, the USB port and bring-up are as they were. -/
def Unmoved (s0 s : State) : Prop := s.regs = s0.regs ∧ s.net = s0.net ∧ s.usb = s0.usb ∧ s.boot = s0.boot

theorem Unmoved.refl (s : State) : Unmoved s s := ⟨rfl, rfl, rfl, rfl⟩

theorem Unmoved.trans {s t u : State} (a : Unmoved s t) (b : Unmoved t u) : Unmoved s u :=
  ⟨b.1.trans a.1, b.2.1.trans a.2.1, b.2.2.1.trans a.2.2.1, b.2.2.2.trans a.2.2.2⟩

theorem Unmoved.foldl {α : Type} {l : List α} {f : State → α → State} {s0 s : State} (h : Unmoved s0 s)
    (hf : ∀ t a, Unmoved s0 t → Unmoved s0 (f t a)) : Unmoved s0 (l.foldl f s) := by
  induction l generalizing s with
  | nil => exact h
  | cons a l ih => exact ih (hf s a h)

theorem kept_event (s : State) (c : Nat) (d : List Byte) (h t : Nat) : Unmoved s (s.event c d h t) := by
  rw [(event_frame s c d h t : EventFrame _ _)]
  exact Unmoved.refl s

theorem kept_record (s : State) (a b : Nat) (c : List (Nat × Nat)) (d : Nat) (e : Option Nat) (f : Bool) :
    Unmoved s (s.record a b c d e f) := by
  rw [(record_frame s a b c d e f : EventFrame _ _)]
  exact Unmoved.refl s

theorem kept_storeWrite (s : State) (a : Nat) (bs : List Byte) (ring stop : Bool) : Unmoved s (s.storeWrite a bs ring stop).1 := by
  rw [storeWrite_frame]
  exact Unmoved.refl s

section
variable {s0 s : State}

theorem Unmoved.event (h : Unmoved s0 s) (c : Nat) (d : List Byte) (i t : Nat) : Unmoved s0 (s.event c d i t) := h.trans (kept_event ..)
theorem Unmoved.record (h : Unmoved s0 s) (a b : Nat) (c : List (Nat × Nat)) (d : Nat) (e : Option Nat) (f : Bool) :
    Unmoved s0 (s.record a b c d e f) := h.trans (kept_record ..)
theorem Unmoved.storeWrite (h : Unmoved s0 s) (a : Nat) (bs : List Byte) (ring stop : Bool) :
    Unmoved s0 (s.storeWrite a bs ring stop).1 := h.trans (kept_storeWrite ..)
theorem Unmoved.takeFree (h : Unmoved s0 s) : Unmoved s0 s.takeFree.2 := h
theorem Unmoved.modRoute (h : Unmoved s0 s) (i : Nat) (f : RouteSt → RouteSt) : Unmoved s0 (s.modRoute i f) := h
theorem Unmoved.routes (h : Unmoved s0 s) (r : RoutesSt) : Unmoved s0 { s with routes := r } := h
theorem Unmoved.modCmp (h : Unmoved s0 s) (i : Nat) (f : CmpSt → CmpSt) : Unmoved s0 (s.modCmp i f) := h
theorem Unmoved.modCnt (h : Unmoved s0 s) (i : Nat) (f : CntSt → CntSt) : Unmoved s0 (s.modCnt i f) := h
theorem Unmoved.time (h : Unmoved s0 s) (x : TimeSt) : Unmoved s0 { s with time := x } := h
theorem Unmoved.modRail (h : Unmoved s0 s) (i : Nat) (f : RailSt → RailSt) : Unmoved s0 (s.modRail i f) := h
theorem Unmoved.modSlave (h : Unmoved s0 s) (i : Nat) (f : SlaveSt → SlaveSt) : Unmoved s0 (s.modSlave i f) := h
theorem Unmoved.send (h : Unmoved s0 s) (m : OutMsg) : Unmoved s0 (s.send m) := h
theorem Unmoved.modContext (h : Unmoved s0 s) (i : Nat) (f : ReContext → ReContext) : Unmoved s0 (s.modContext i f) := h
theorem Unmoved.modPorter (h : Unmoved s0 s) (i : Nat) (f : PorterSt → PorterSt) : Unmoved s0 (s.modPorter i f) := h
theorem Unmoved.store (h : Unmoved s0 s) (x : StoreSt) : Unmoved s0 { s with store := x } := h
theorem Unmoved.block (h : Unmoved s0 s) (x : BlockSt) : Unmoved s0 { s with block := x } := h

theorem Unmoved.recordOpen (h : Unmoved s0 s) (a b : Nat) (c : List (Nat × Nat)) (d : Option Nat) (e : Bool) :
    Unmoved s0 (s.recordOpen a b c d e) := h.takeFree.record _ _ _ _ _ _

/-! The time base and counters -/

theorem kept_dropPost (h : Unmoved s0 s) (r : Nat) (b : Bale) (p : Nat) : Unmoved s0 (s.dropPost r b p) :=
  ((h.modRoute _ _).event _ _ _ _).record _ _ _ _ _ _

theorem kept_acceptPost (h : Unmoved s0 s) (r : Nat) (b : List Bale) (p : Producer) : Unmoved s0 (s.acceptPost r b p).1 := by
  unfold State.acceptPost
  split
  · exact h.routes _
  · exact h

theorem kept_postInternal (h : Unmoved s0 s) (r : Nat) (b : Bale) (p : Producer) : Unmoved s0 (s.postInternal r b p) := by
  have h1 := kept_acceptPost h r [b] p
  unfold State.postInternal
  generalize s.acceptPost r [b] p = q at h1 ⊢
  rcases q with ⟨t, n⟩
  have h2 := kept_dropPost h1 r b (producerCode p)
  split
  · rename_i heq
    rw [Prod.mk.injEq] at heq
    rw [← heq.1]
    exact h1
  · rename_i heq
    rw [Prod.mk.injEq] at heq
    rw [← heq.1]
    dsimp only
    split
    · exact h2.routes _
    · exact h2

theorem kept_gpoAction (h : Unmoved s0 s) (p a : Nat) : Unmoved s0 (s.gpoAction p a) := by
  unfold State.gpoAction
  dsimp only
  repeat' split
  all_goals first | exact h | exact h.time _

theorem kept_cmpHandOver (h : Unmoved s0 s) (n : Nat) : Unmoved s0 (s.cmpHandOver n) := by
  unfold State.cmpHandOver
  dsimp only
  split
  · split
    · exact (kept_postInternal h _ _ _).modCmp _ _
    · exact h
  · exact h.modCmp _ _

theorem kept_cmpMatch (h : Unmoved s0 s) (n : Nat) : Unmoved s0 (s.cmpMatch n) := by
  unfold State.cmpMatch
  split
  · exact h
  · unfold State.cmpFire
    extract_lets w s1 s2
    have h2 : Unmoved s0 s2 := kept_gpoAction (kept_cmpHandOver ((h.modCmp _ _).modCmp _ _) _) _ _
    split
    · exact h2.event _ _ _ _
    · exact h2

theorem kept_cntWrap (h : Unmoved s0 s) (k : Nat) : Unmoved s0 (s.cntWrap k) := by
  unfold State.cntWrap
  split
  · exact h
  · unfold State.cntWrapped
    extract_lets d due
    split
    · exact (h.modCnt _ _).event _ _ _ _
    · exact h.modCnt _ _

theorem kept_settleCycle (h : Unmoved s0 s) : Unmoved s0 s.settleCycle :=
  Unmoved.foldl (l := List.range 8) (f := State.cntWrap)
    (Unmoved.time (Unmoved.foldl (l := List.range 32) (f := State.cmpMatch) h (fun _ n ht => kept_cmpMatch ht n)) _)
    (fun _ k ht => kept_cntWrap ht k)

/-! The accessory outputs -/

theorem kept_railWord (h : Unmoved s0 s) (r c : Nat) : Unmoved s0 (s.railWord r c) := by
  unfold State.railWord
  dsimp only
  split
  · unfold State.sendSlave
    split
    · exact h
    · exact (h.modSlave _ _).send _
  · exact h

theorem kept_settleAcc (h : Unmoved s0 s) : Unmoved s0 s.settleAcc := by
  unfold State.settleAcc
  refine Unmoved.foldl h (fun t k ht => ?_)
  dsimp only
  split
  · exact ht.modRail _ _
  · split
    · exact kept_railWord (ht.modRail _ _) _ _
    · exact ht

/-! The block engine -/

theorem kept_moveUnit (h : Unmoved s0 s) (m : UnitMove) (r : BlockRun) : Unmoved s0 (s.moveUnit m r).1 := by
  unfold State.moveUnit
  split
  · exact h
  · exact (h.storeWrite _ _ _ _).block _

theorem kept_burst (l : List UnitMove) (n : Nat) {s : State} (r : BlockRun) (h : Unmoved s0 s) :
    Unmoved s0 (State.burst l n s r).1 := by
  induction l generalizing n s r with
  | nil => exact h
  | cons m l ih =>
    rw [State.burst]
    split
    · exact h
    · exact ih _ _ (kept_moveUnit h m r)

theorem kept_burstSlot (h : Unmoved s0 s) (k : Nat) : Unmoved s0 (s.burstSlot k) := by
  unfold State.burstSlot
  split
  · exact h
  · exact ((kept_burst _ _ _ h).block _).block _

theorem kept_drive (h : Unmoved s0 s) : Unmoved s0 s.drive := by
  unfold State.drive
  generalize s.blockTodo + 1 = n
  induction n generalizing s with
  | zero => exact h
  | succ n ih =>
    rw [State.issueBursts]
    split
    · exact h
    · split
      · exact h
      · exact ih (kept_burstSlot h _)

/-! The raster engine -/

theorem kept_scribble (h : Unmoved s0 s) (a n : Nat) : Unmoved s0 (s.scribble a n) := by
  unfold State.scribble
  refine Unmoved.foldl h.takeFree (fun t sp ht => ?_)
  split
  · exact ht
  · exact ht.store _

theorem kept_scribbleBin (h : Unmoved s0 s) (c : Nat) : Unmoved s0 (s.scribbleBin c) :=
  Unmoved.foldl (kept_scribble h _ _) (fun _ e ht => kept_scribble ht e.1 e.2)

theorem kept_writeTileRows (g : ReTarget) (x w : Nat) (l : List (Nat × List Byte)) {s : State} (ok : Bool) (h : Unmoved s0 s) :
    Unmoved s0 (State.writeTileRows g x w l s ok).1 := by
  induction l generalizing s ok with
  | nil => exact h
  | cons p l ih =>
    obtain ⟨y, bs⟩ := p
    rw [State.writeTileRows]
    have h1 := h.storeWrite (g.pixelAddr x y) bs false false
    generalize s.storeWrite (g.pixelAddr x y) bs false false = q at h1 ⊢
    rcases q with ⟨t, _ | _⟩ <;> exact ih _ h1

theorem kept_texelFaults (h : Unmoved s0 s) (c : Nat) (l : List Nat) : Unmoved s0 (s.texelFaults c l) := by
  unfold State.texelFaults
  split
  · exact h
  · dsimp only
    split
    · exact h.modContext _ _
    · exact (h.modContext _ _).record _ _ _ _ _ _

theorem kept_finishTile (h : Unmoved s0 s) (c i : Nat) (flush : Bool) : Unmoved s0 (s.finishTile c i flush) := by
  unfold State.finishTile
  extract_lets k
  split
  · exact h
  · rename_i g _
    have h0 := h.takeFree
    generalize s.takeFree = p at h0 ⊢
    rcases p with ⟨free, t⟩
    dsimp -zeta only at h0 ⊢
    extract_lets px bytes s1 x y w sigAddr same rows
    have h1 : Unmoved s0 s1 := kept_texelFaults h0 _ _
    clear_value same s1
    split
    · exact h1.modContext _ _
    · have h2 := kept_writeTileRows g x w rows true h1
      generalize State.writeTileRows g x w rows s1 true = p2 at h2 ⊢
      rcases p2 with ⟨s2, ok⟩
      dsimp -zeta only at h2 ⊢
      have h3 : Unmoved s0 (if (natBit g.flags 1 && !flush) = true then
          (match s2.storeWrite sigAddr (leBytes 8 (tileSignature bytes)) with
            | (t, none) => (t, true)
            | (t, some _) => (t, false))
          else (s2, true)).1 := by
        split
        · have h4 := h2.storeWrite sigAddr (leBytes 8 (tileSignature bytes)) false false
          generalize s2.storeWrite sigAddr (leBytes 8 (tileSignature bytes)) = p4 at h4 ⊢
          rcases p4 with ⟨t, _ | e⟩ <;> exact h4
        · exact h2
      exact h3.modContext _ _

theorem kept_flushBins (h : Unmoved s0 s) (c : Nat) (save : Bool) : Unmoved s0 (s.flushBins c save) := by
  unfold State.flushBins
  extract_lets k
  split
  · exact h
  · extract_lets touched depth s1 s2
    have h2 : Unmoved s0 s2 := (Unmoved.foldl h (fun _ i ht => kept_finishTile ht c i true)).modContext _ _
    split
    · exact kept_scribble h2 _ _
    · exact h2

theorem kept_binOverflow (h : Unmoved s0 s) (c : Nat) (g : ReTarget) (need : Nat) : Unmoved s0 (s.binOverflow c g need).1 := by
  unfold State.binOverflow
  extract_lets k
  split
  · split
    · exact kept_flushBins h _ _
    · exact (kept_flushBins h _ _).modContext _ _
  · exact (h.modContext _ _).event _ _ _ _

theorem kept_binRest (c : Nat) (g : ReTarget) (n : Nat) {s : State} (h : Unmoved s0 s) : Unmoved s0 (State.binRest c g n s) := by
  induction n generalizing s with
  | zero => exact h
  | succ n ih =>
    rw [State.binRest]
    dsimp only
    split
    · exact h
    · rename_i t rest _
      split
      · exact ih (h.modContext _ _)
      · have h1 := kept_binOverflow h c g ((s.context c).used + 16 * (t.tiles g).length - s.binCapacity c)
        generalize s.binOverflow c g _ = p at h1 ⊢
        rcases p with ⟨s1, _ | _⟩
        · exact h1
        · exact ih h1

theorem kept_baleFault (h : Unmoved s0 s) (r i : Nat) (op : Byte) (tag reason : Nat) : Unmoved s0 (s.baleFault r i op tag reason) :=
  (h.modRoute _ _).event _ _ _ _

theorem kept_markBad (h : Unmoved s0 s) (r i : Nat) (b : Option Bale) (reason : Nat) : Unmoved s0 (s.markBad r i b reason) := by
  unfold State.markBad
  split
  · exact kept_baleFault h.takeFree _ _ _ _ _
  · exact kept_baleFault (h.storeWrite _ _ _ _) _ _ _ _ _

theorem kept_refuseRecord (h : Unmoved s0 s) (r i reason : Nat) : Unmoved s0 (s.refuseRecord r i reason) := by
  unfold State.refuseRecord
  split
  · exact h.recordOpen _ _ _ _ _
  · exact (h.block _).recordOpen _ _ _ _ _
  · exact (h.modPorter _ _).recordOpen _ _ _ _ _
  · exact h.record _ _ _ _ _ _

theorem kept_refuseBale (h : Unmoved s0 s) (r : Nat) (b : Started) (reason : Nat) : Unmoved s0 (s.refuseBale r b reason) :=
  (kept_refuseRecord (kept_markBad h _ _ _ _) _ _ _).modRoute _ _

theorem kept_bin (h : Unmoved s0 s) (c : Nat) : Unmoved s0 (s.bin c) := by
  unfold State.bin
  split
  · exact h
  · split
    · exact h.modContext _ _
    · extract_lets s1
      have h1 : Unmoved s0 s1 := kept_scribbleBin (kept_binRest _ _ _ h) _
      clear_value s1
      split
      · split
        · exact kept_refuseBale h1 _ _ _
        · exact h1
      · exact h1

theorem kept_resumeBins (h : Unmoved s0 s) : Unmoved s0 s.resumeBins := by
  unfold State.resumeBins
  refine Unmoved.foldl h (fun t c ht => ?_)
  split
  · exact kept_bin (ht.modContext _ _) c
  · exact ht
end

/-- A change of mode changes the USB port's mode, and neither the registers nor the network block nor bring-up. -/
theorem enterMode_kept (s : State) (m : UsbMode) : (s.enterMode m).regs = s.regs ∧ (s.enterMode m).net = s.net ∧
    (s.enterMode m).usb = { s.usb with mode := m } ∧ (s.enterMode m).boot = s.boot := by
  unfold State.enterMode
  split
  · rename_i h
    subst h
    exact ⟨rfl, rfl, rfl, rfl⟩
  · extract_lets s1 s2
    have h0 : Unmoved s s1 := by
      dsimp only [s1]
      split
      · exact kept_settleCycle (Unmoved.refl s)
      · exact Unmoved.refl s
    have h1 : Unmoved (s1.modUsb (fun u => { u with mode := m })) s2 := kept_settleAcc (Unmoved.time (Unmoved.refl _) _)
    clear_value s2
    have h2 : Unmoved (s1.modUsb (fun u => { u with mode := m }))
        (if s.usb.mode = .debugHold then s2.drive.resumeBins else s2) := by
      split
      · exact kept_resumeBins (kept_drive h1)
      · exact h1
    refine ⟨h2.1.trans h0.1, h2.2.1.trans h0.2.1, h2.2.2.1.trans ?_, h2.2.2.2.trans h0.2.2.2⟩
    show ({ s1.usb with mode := m } : UsbSt) = _
    rw [h0.2.2.1]

theorem enterMode_same {s : State} {m : UsbMode} (h : s.usb.mode = m) : s.enterMode m = s := if_pos h

theorem usbRequest_live {s : State} (h : s.usbLive = true) (run) : s.usbRequest run = run s.usbBegun := by
  unfold State.usbRequest; rw [if_pos h]; rfl

theorem ownerRequest_owner {s : State} (h : s.net.owner = .usb) (r run) : s.usbBegun.ownerRequest r run = run s.usbBegun := by
  unfold State.ownerRequest State.usbOwner; rw [show s.usbBegun.net.owner = _ from h]; rfl

theorem ownerRequest_other {s : State} (h : s.net.owner ≠ .usb) (r run) : s.usbBegun.ownerRequest r run = s.usbBegun.usbEnd r stNotOwner := by
  unfold State.ownerRequest State.usbOwner; rw [if_neg (by simpa using (show s.usbBegun.net.owner ≠ .usb from h))]

theorem serviceRequest_service {s : State} (h : s.boot.mode ≠ 1) (r run) : s.usbBegun.serviceRequest r run = run s.usbBegun := if_neg h

theorem serviceRequest_floor {s : State} (h : s.boot.mode = 1) (r run) : s.usbBegun.serviceRequest r run = s.usbBegun.usbEnd r stFloor := if_pos h

theorem balesMalformed_count {r : Nat} {b : List Bale} (h : b = [] ∨ 8 < b.length) : balesMalformed r b = true := by
  unfold balesMalformed; rcases h with h | h <;> simp [h]

theorem endUpload_usb (s : State) (r : Nat) : s.endUpload r = { s with usb := { s.usb with upload := none, result := (s.endUpload r).usb.result } } := by
  unfold State.endUpload
  split
  · rename_i h; rw [← h]
  · rfl

theorem armUpload_eq (s : State) (k b n : Nat) : ∃ t : State, s.armUpload k b n = t.usbEnd rqBulkSetup stOk ∧ t.usb.upload = some ⟨k, b, n, 0, [], 0xFFFFFFFF, decide (2 ≤ k)⟩ ∧
    t = { s with usb := { s.usb with upload := t.usb.upload, result := t.usb.result } } := by
  refine ⟨_, rfl, rfl, ?_⟩
  rw [endUpload_usb]; rfl

theorem pieces_single (p : List Byte) (h : p ≠ []) (h2 : p.length ≤ 64) : pieces 64 p = [p] := by
  unfold pieces
  cases p with
  | nil => exact absurd rfl h
  | cons x p =>
    rw [List.length_cons, piecesOf, List.take_of_length_le h2, List.drop_of_length_le h2]
    on_goal 2 => exact h
    cases p with
    | nil => rfl
    | cons y p => rw [List.length_cons, piecesOf]; intro hh; omega

theorem usbCapture_service {s : State} (h : s.boot.mode ≠ 1) (cap) : s.usbBegun.usbCapture cap = match s.pattern.poolBase with
    | none => s.usbBegun.captureChip cap
    | some base => s.usbBegun.capturePool base cap := if_neg h

theorem usbCapture_chip {s : State} (h : s.boot.mode = 1 ∨ s.pattern.poolBase = none) (cap) : s.usbBegun.usbCapture cap = s.usbBegun.captureChip cap := by
  by_cases h1 : s.boot.mode = 1
  · exact if_pos h1
  · rw [usbCapture_service h1, h.resolve_left h1]

theorem freePage_at (s : State) (k : Nat) : (k ≠ 4 → (s.freePage k).page k = none ∧ ∀ j, j ≠ k → (s.freePage k).page j = s.page j) ∧ (k = 4 → (s.freePage k).net.chipPage = none) := by
  refine ⟨fun h => ⟨?_, fun j hj => ?_⟩, fun h => ?_⟩
  · unfold State.freePage State.page; rw [if_neg h]; dsimp only; rw [mapGet_mapSet_same]
  · unfold State.freePage State.page; rw [if_neg h]; dsimp only; rw [mapGet_mapSet_ne _ _ _ hj]
  · unfold State.freePage; rw [if_pos h]

theorem freePage_net (s : State) (k : Nat) : s.freePage k = { s with net := (s.freePage k).net } := by
  unfold State.freePage; split <;> rfl

theorem endUsbOwner_eq (s : State) (c : Nat) (h : s.net.owner = .usb) : ∃ t : State, s.endUsbOwner c = t.ownerEvent c 1 0 ∧ t.net.owner = .none ∧
    t.usb = { s.usb with grace := false, mode := .normal } ∧ t.regs = s.regs := by
  have hf := enterMode_kept ((({ s with net := { s.net with owner := .none } } : State)).modUsb (fun u => { u with grace := false })) .normal
  refine ⟨_, by unfold State.endUsbOwner; rw [if_pos h], ?_, ?_, ?_⟩
  · rw [hf.2.1]; rfl
  · rw [hf.2.2.1]; rfl
  · rw [hf.1]; rfl

theorem event_net (s : State) (c h t) (d) : (s.event c d h t).net = s.net := by rw [event_frame s c d h t]

theorem event_usb (s : State) (c h t) (d) : (s.event c d h t).usb = s.usb := by rw [event_frame s c d h t]

theorem endUsbOpen_eq (s : State) (c : Nat) : (s.net.owner = .usb → (s.endUsbOpen c).net.owner = .none ∧
    (s.endUsbOpen c).usb = { s.usb with grace := false, mode := .normal }) ∧ (s.net.owner ≠ .usb → s.endUsbOpen c = s) := by
  unfold State.endUsbOpen
  refine ⟨fun h => ?_, fun h => ?_⟩
  · obtain ⟨t, a, b, c, d⟩ := endUsbOwner_eq s (Config.unstated 0xD8 c % 256) h
    rw [a]; unfold State.ownerEvent; rw [event_net, event_usb]; exact ⟨b, c⟩
  · unfold State.endUsbOwner; rw [if_neg h]

theorem freePage_usb (s : State) (k : Nat) : (s.freePage k).usb = s.usb ∧ (s.freePage k).net.owner = s.net.owner := by
  unfold State.freePage; split <;> exact ⟨rfl, rfl⟩

theorem foldl_freePage (l : List Nat) (s : State) : (l.foldl State.freePage s).usb = s.usb ∧ (l.foldl State.freePage s).net.owner = s.net.owner := by
  induction l generalizing s with
  | nil => exact ⟨rfl, rfl⟩
  | cons k l ih => have := ih (s.freePage k); rw [(freePage_usb s k).1, (freePage_usb s k).2] at this; exact this

theorem breakOff_usb (s : State) : s.breakOff = { s with usb := { s.usb with upload := none, packets := 0, result := s.breakOff.usb.result } } ∧
    (s.usb.upload ≠ none → s.breakOff.usb.result = stIncomplete) ∧ (s.usb.upload = none → s.breakOff.usb.result = s.usb.result) := by
  unfold State.breakOff State.endUpload
  split
  · rename_i h; refine ⟨?_, fun h2 => absurd h h2, fun _ => rfl⟩
    unfold State.modUsb; dsimp only; rw [← h]
  · rename_i u h; refine ⟨rfl, fun _ => rfl, fun h2 => ?_⟩
    rw [h] at h2; cases h2

end Sys2Proof.Machine
end

