-- ==== Sys2Proof/Laws/CaravanLaws.lean ====
section
/-! SUPPORT. Caravan: frames of its operations, elections and barriers. -/

set_option linter.all false
set_option maxRecDepth 4000
set_option maxHeartbeats 2000000

namespace Sys2Proof.Machine

/-- A fold of operations that each keep a reflexive and transitive relation keeps it. -/
theorem foldl_frame {α : Type} (R : State → State → Prop) (refl : ∀ s, R s s) (trans : ∀ {s t u}, R s t → R t u → R s u)
    (f : State → α → State) (hf : ∀ s a, R s (f s a)) (l : List α) (s : State) : R s (l.foldl f s) := by
  induction l generalizing s with
  | nil => exact refl s
  | cons a l ih => exact trans (hf s a) (ih _)

/-- heads, active and what an event reaches -/
def HeadsFrame (s t : State) : Prop := t.caravan = s.caravan ∧ t.wire = s.wire ∧ t.commit = s.commit ∧ t.pat = s.pat ∧ t.active = t.active ∧ t.boot = s.boot ∧ (∀ h, (t.head h).line0Done = (s.head h).line0Done)

theorem HeadsFrame.trans {s t u : State} (a : HeadsFrame s t) (b : HeadsFrame t u) : HeadsFrame s u := by
  obtain ⟨a1, a2, a3, a4, a5, a6, a7⟩ := a; obtain ⟨b1, b2, b3, b4, b5, b6, b7⟩ := b
  exact ⟨b1.trans a1, b2.trans a2, b3.trans a3, b4.trans a4, rfl, b6.trans a6, fun h => (b7 h).trans (a7 h)⟩

theorem HeadsFrame.refl (s : State) : HeadsFrame s s := ⟨rfl, rfl, rfl, rfl, rfl, rfl, fun _ => rfl⟩

theorem event_heads (s : State) (c d h t) : HeadsFrame s (s.event c d h t) := by
  rw [event_frame s c d h t]; exact ⟨rfl, rfl, rfl, rfl, rfl, rfl, fun _ => rfl⟩

theorem modHead_heads (s : State) (h : Nat) (f : HeadSt → HeadSt) (hf : ∀ q, (f q).line0Done = q.line0Done) : HeadsFrame s (s.modHead h f) := by
  refine ⟨rfl, rfl, rfl, rfl, rfl, rfl, fun k => ?_⟩
  by_cases hk : k = h
  · subst hk; rw [State.modHead_same, hf]
  · rw [State.modHead_ne _ _ _ hk]

theorem setLocked_frame (s : State) (h : Nat) (b : Bool) : HeadsFrame s (s.setLocked h b) := by
  unfold State.setLocked
  split
  · exact .refl s
  · exact HeadsFrame.trans (t := s.modHead h (fun q => { q with locked := b })) (modHead_heads s h _ (fun _ => rfl)) (event_heads _ _ _ _ _)

theorem beatHead_frame (p : Nat) (x : Int) (s : State) (h : Nat) : HeadsFrame s (State.beatHead p x s h) := by
  unfold State.beatHead
  split
  · exact .refl s
  · split
    · dsimp only
      refine HeadsFrame.trans ?_ (setLocked_frame _ _ _)
      exact modHead_heads s h _ (fun _ => rfl)
    · refine HeadsFrame.trans ?_ (setLocked_frame _ _ _)
      exact modHead_heads s h _ (fun _ => rfl)

theorem beatHeads_frame (s : State) (p : Nat) (x : Int) : HeadsFrame s (s.beatHeads p x) := by
  unfold State.beatHeads
  exact HeadsFrame.trans (t := s.setAct .CARAVAN_LOOP 0 0 (s.reg .CARAVAN_LOOP)) ⟨rfl, rfl, rfl, rfl, rfl, rfl, fun _ => rfl⟩
    (foldl_frame HeadsFrame .refl HeadsFrame.trans _ (beatHead_frame _ _) _ _)

theorem caravanEnter_eq (s : State) (st : Nat) : (s.caravanEnter st).caravan = { s.caravan with state := st } ∧ (s.caravanEnter st).heads = s.heads ∧ (s.caravanEnter st).wire = s.wire ∧ (s.caravanEnter st).commit = s.commit := by
  unfold State.caravanEnter
  split
  · rename_i h; refine ⟨?_, rfl, rfl, rfl⟩; rw [← h]
  · dsimp only; rw [event_frame]; exact ⟨rfl, rfl, rfl, rfl⟩

theorem takeLead_caravan (s : State) (v : BitVec 64) (t : Word) : (s.takeLead v t).caravan = { s.caravan with lead := v, leadTag := t, leadKnown := true, leadChanges := (s.takeLead v t).caravan.leadChanges } ∧ (s.takeLead v t).wire = s.wire := by
  unfold State.takeLead
  split
  · rename_i h; obtain ⟨h1, rfl, rfl⟩ := h; refine ⟨?_, rfl⟩; rw [← h1]
  · dsimp only; rw [event_frame]; exact ⟨rfl, rfl⟩

theorem forward_eq (s : State) (p : CaravanPort) (f : List Byte) : s.forward p f = { s with wire := s.wire ++ (if s.listening = false ∧ beAt f 0x10 1 < 31 then [.caravan (otherPort p) (caravanSeal ((patch (patch f 0x10
        (beBytes 1 (beAt f 0x10 1 + 1))) 0x14 (beBytes 4 (beAt f 0x14 4 + s.incomingDelay p + 600))).take 44))] else []) } := by
  unfold State.forward
  split
  · rename_i h
    rw [if_neg (by rintro ⟨a, b⟩; rcases h with h | h
                   · rw [a] at h; exact nomatch h
                   · omega), List.append_nil]
  · rename_i h
    rw [not_or] at h
    rw [if_pos ⟨by simpa using h.1, by omega⟩]; rfl

theorem noteSequence_later (s : State) (o : BitVec 64) (t : Word) (n : Nat) : (s.noteSequence o t n).laterSequence o t n = false := by
  unfold State.noteSequence State.laterSequence
  dsimp only
  rw [List.find?_append, List.find?_eq_none.mpr]
  · have h0 : (n + 65536 - n % 65536) % 65536 = 0 := by omega
    simp [h0]
  · intro x hx; rw [List.mem_filter] at hx; simpa [imp_iff_not_or] using hx.2

theorem hearMember_eq (s : State) (o : BitVec 64) (t : Word) : s.hearMember o t = { s with caravan := { s.caravan with
    members := (s.hearMember o t).caravan.members, oversize := (s.hearMember o t).caravan.oversize, ignored := (s.hearMember o t).caravan.ignored } } ∧
    (s.caravan.members.length < 31 → ∃ m ∈ (s.hearMember o t).caravan.members, m.origin = o) ∧
    (31 ≤ s.caravan.members.length → (∀ m ∈ s.caravan.members, m.origin ≠ o) → (s.hearMember o t).caravan.members = s.caravan.members ∧
      (s.hearMember o t).caravan.oversize = true ∧ (s.hearMember o t).caravan.ignored = satInc s.caravan.ignored) := by
  unfold State.hearMember
  dsimp only
  split
  · rename_i h
    rw [List.any_eq_true] at h
    obtain ⟨m, hm, he⟩ := h
    have he := eq_of_beq he
    refine ⟨rfl, fun _ => ⟨⟨o, t⟩, ?_, rfl⟩, fun _ hn => absurd he (hn m hm)⟩
    rw [List.mem_map]; exact ⟨m, hm, by rw [if_pos he]⟩
  · split
    · exact ⟨rfl, fun _ => ⟨⟨o, t⟩, by simp, rfl⟩, fun h => by omega⟩
    · exact ⟨rfl, fun h => by omega, fun _ _ => ⟨rfl, rfl, rfl⟩⟩

theorem takeCall_eq (s : State) (o : BitVec 64) (t c : Word) (h : o ≠ s.caravan.priority) :
    s.takeCall o t c = { s.hearMember o t with caravan := { (s.hearMember o t).caravan with
      cfnSeen := (s.takeCall o t c).caravan.cfnSeen, best := (s.takeCall o t c).caravan.best, bestTag := (s.takeCall o t c).caravan.bestTag } } ∧
    (s.takeCall o t c).caravan.cfnSeen.toNat = max s.caravan.cfnSeen.toNat c.toNat := by
  unfold State.takeCall; rw [if_neg h]; dsimp only
  have hc : (s.hearMember o t).caravan.cfnSeen = s.caravan.cfnSeen := by rw [(hearMember_eq s o t).1]
  generalize s.hearMember o t = m at *
  constructor
  · split <;> rfl
  · split
    · dsimp only; rw [hc]; split <;> omega
    · dsimp only; rw [hc]; split <;> omega

theorem caravanReceive_group {s : State} {p : CaravanPort} {f : List Byte} (h : s.caravan.bypassOpen = true) (h2 : caravanSound f = true)
   (h3 : beAt f 3 1 = typeCall ∨ beAt f 3 1 = typeBeat) : s.caravanReceive p f = s.takeGroupFrame p f := by
  unfold State.caravanReceive
  rw [if_neg (by simp [h]), if_neg (by simp [h2]), if_neg, if_neg]
  · rcases h3 with h3 | h3 <;> rw [h3] <;> decide
  · rcases h3 with h3 | h3 <;> rw [h3] <;> decide

theorem electFrom_caravan (s : State) (seen : Word) : (s.electFrom seen).caravan = { s.caravan with
      state := 2, waitingBeat := false, best := s.caravan.priority, bestTag := s.boot.bootTag, cfnSeen := seen } ∧
    (s.electFrom seen).heads = s.heads ∧ (s.electFrom seen).wire = s.wire := by
  unfold State.electFrom
  dsimp only
  obtain ⟨a, b, c, d⟩ := caravanEnter_eq ({ s with caravan := { s.caravan with waitingBeat := false, best := s.caravan.priority, bestTag := s.boot.bootTag, cfnSeen := seen } }) 2
  rw [a, b, c]; exact ⟨rfl, rfl, rfl⟩

theorem elect_caravan (s : State) : s.elect.caravan = { s.caravan with
      state := 2, waitingBeat := false, best := s.caravan.priority, bestTag := s.boot.bootTag, cfnSeen := s.caravan.cfn } ∧ s.elect.heads = s.heads ∧ s.elect.wire = s.wire :=
  electFrom_caravan s s.caravan.cfn

theorem electionEnd_listening {s : State} (h : s.caravan.state = 1) : s.electionEnd = s.elect := by
  unfold State.electionEnd; dsimp only; split <;> first | rfl | simp_all

theorem electionEnd_window {s : State} (h : s.caravan.state = 2) : s.electionEnd = if s.caravan.waitingBeat then s.electFrom s.highestCfn
    else if s.caravan.best = s.caravan.priority ∧ s.caravan.bestTag = s.boot.bootTag then
      ((({ s with caravan := { s.caravan with cfnNext := some (s.highestCfn + 1) } } : State)).takeLead s.caravan.priority s.boot.bootTag).caravanEnter 4
    else { s with caravan := { s.caravan with waitingBeat := true } } := by
  unfold State.electionEnd; dsimp only; split <;> first | rfl | simp_all

theorem setLocked_at (s : State) (h : Nat) : ((s.setLocked h false).head h).locked = false ∧ (∀ k, ((s.setLocked h false).head k).pull = (s.head k).pull) ∧
    (∀ k, k ≠ h → (s.setLocked h false).head k = s.head k) ∧ (s.setLocked h false).caravan = s.caravan := by
  unfold State.setLocked
  split
  · rename_i hh; exact ⟨hh, fun _ => rfl, fun _ _ => rfl, rfl⟩
  · have he : ∀ (t : State) c d, (t.event c d).heads = t.heads := by intro t c d; rw [event_frame]
    have hk : ∀ (t : State) c d k, (t.event c d).head k = t.head k := by intro t c d k; unfold State.head; rw [he]
    refine ⟨?_, fun k => ?_, fun k hh => ?_, ?_⟩
    · rw [hk, State.modHead_same]
    · rw [hk]
      by_cases e : k = h
      · subst e; rw [State.modHead_same]
      · rw [State.modHead_ne _ _ _ e]
    · rw [hk, State.modHead_ne _ _ _ hh]
    · rw [event_frame]; rfl

theorem barrierResult_frame (s : State) (i r : Nat) (b : Barrier) : (s.barrierResult i r b).caravan = { s.caravan with barrierResult := r, barrierSlot := i } ∧ (s.barrierResult i r b).commit = s.commit ∧ (s.barrierResult i r b).heads = s.heads := by
  unfold State.barrierResult; dsimp only; rw [event_frame]; exact ⟨rfl, rfl, rfl⟩

theorem barrier_eq {s t : State} (h : t.caravan.barriers = s.caravan.barriers) (i : Nat) : t.barrier i = s.barrier i := by
  unfold State.barrier; rw [h]

theorem commitMask_frame (s : State) (m : Nat) : s.commitMask m = { s with commit := (s.commitMask m).commit } := by
  have hf : ∀ (l : List Nat) (s : State), l.foldl State.commitGroup s = { s with commit := (l.foldl State.commitGroup s).commit } := by
    intro l
    induction l with
    | nil => intro s; rfl
    | cons g l ih => intro s; rw [List.foldl_cons, ih, commitGroup_frame]
  have hadm : ∀ u : State, u.admission = { u with commit := u.admission.commit } := fun u => rfl
  unfold State.commitMask
  split
  · rfl
  · rw [hadm, hf]

theorem freeBarrier_at (s : State) (i : Nat) : (s.freeBarrier i).barrier i = none ∧ ∀ k, k ≠ i → (s.freeBarrier i).barrier k = s.barrier k := by
  refine ⟨?_, fun k hk => ?_⟩
  · unfold State.freeBarrier State.barrier; dsimp only; rw [mapGet_mapSet_same]
  · unfold State.freeBarrier State.barrier; dsimp only; rw [mapGet_mapSet_ne _ _ _ hk]

theorem fireBarrier_at (due : Barrier → Bool) (r : Nat) (s : State) (i : Nat) :
   ((State.fireBarrier due r s i).barrier i = match s.barrier i with
      | none => none
      | some b => if due b = true then none else some b) ∧ (∀ k, k ≠ i → (State.fireBarrier due r s i).barrier k = s.barrier k) ∧
   (State.fireBarrier due r s i).caravan.cfn = s.caravan.cfn ∧ (State.fireBarrier due r s i).heads = s.heads ∧
   (State.fireBarrier due r s i).pat = s.pat := by
  unfold State.fireBarrier
  cases h : s.barrier i with
  | none => exact ⟨h, fun _ _ => rfl, rfl, rfl, rfl⟩
  | some b =>
    dsimp only
    split
    · have hb : ∀ k, (((s.freeBarrier i).commitMask b.mask.toNat).barrierResult i r b).barrier k = (s.freeBarrier i).barrier k := by
        intro k; apply barrier_eq; rw [(barrierResult_frame _ _ _ _).1, commitMask_frame]
      refine ⟨?_, fun k hk => ?_, ?_, ?_, ?_⟩
      · rw [hb]; exact (freeBarrier_at s i).1
      · rw [hb]; exact (freeBarrier_at s i).2 k hk
      · rw [(barrierResult_frame _ _ _ _).1, commitMask_frame]; rfl
      · rw [(barrierResult_frame _ _ _ _).2.2, commitMask_frame]; rfl
      · unfold State.barrierResult; dsimp only; rw [event_frame, commitMask_frame]; rfl
    · exact ⟨h, fun _ _ => rfl, rfl, rfl, rfl⟩

theorem foldl_fireBarrier_at (due : Barrier → Bool) (r : Nat) (l : List Nat) (s : State) (hl : l.Nodup) :
   (∀ i ∈ l, (l.foldl (State.fireBarrier due r) s).barrier i = match s.barrier i with
      | none => none
      | some b => if due b = true then none else some b) ∧ (∀ k, k ∉ l → (l.foldl (State.fireBarrier due r) s).barrier k = s.barrier k) ∧
      (l.foldl (State.fireBarrier due r) s).pat = s.pat := by
  induction l generalizing s with
  | nil => exact ⟨fun i h => (nomatch h), fun _ _ => rfl, rfl⟩
  | cons x l ih =>
    rw [List.nodup_cons] at hl
    obtain ⟨a, b, c⟩ := ih (State.fireBarrier due r s x) hl.2
    obtain ⟨f1, f2, f3, f4, f5⟩ := fireBarrier_at due r s x
    rw [List.foldl_cons]
    refine ⟨?_, ?_, c.trans f5⟩
    · intro i hi
      rw [List.mem_cons] at hi
      by_cases h : i = x
      · subst h; rw [b _ hl.1, f1]
      · rw [a i (hi.resolve_left h), f2 i h]
    · intro k hk
      rw [List.mem_cons, not_or] at hk
      rw [b k hk.2, f2 k hk.1]

theorem fireBarrier_none (due : Barrier → Bool) (r : Nat) (s : State) (i : Nat) (h : ∀ b, s.barrier i = some b → due b = false) :
   State.fireBarrier due r s i = s := by
  unfold State.fireBarrier
  split
  · rfl
  · rename_i b hb; rw [if_neg (by simp [h b hb])]

theorem foldl_fireBarrier_none (due : Barrier → Bool) (r : Nat) (l : List Nat) (s : State) (h : ∀ i ∈ l, ∀ b, s.barrier i = some b → due b = false) :
   l.foldl (State.fireBarrier due r) s = s := by
  induction l with
  | nil => rfl
  | cons x l ih => rw [List.foldl_cons, fireBarrier_none _ _ _ _ (h x (by simp))]; exact ih (fun i hi => h i (by simp [hi]))

theorem foldl_fireBarrier_one (due : Barrier → Bool) (r : Nat) (l : List Nat) (s : State) (i : Nat) (hl : l.Nodup) (hi : i ∈ l) (h : ∀ k ∈ l, k ≠ i → ∀ b, s.barrier k = some b → due b = false) :
   l.foldl (State.fireBarrier due r) s = State.fireBarrier due r s i := by
  induction l with
  | nil => cases hi
  | cons x l ih =>
    rw [List.nodup_cons] at hl
    rw [List.foldl_cons]
    by_cases hx : x = i
    · subst hx
      apply foldl_fireBarrier_none
      intro k hk b hb
      have hne : k ≠ x := fun e => hl.1 (e ▸ hk)
      rw [(fireBarrier_at due r s x).2.1 k hne] at hb
      exact h k (by simp [hk]) hne b hb
    · rw [fireBarrier_none _ _ _ _ (h x (by simp) hx)]
      exact ih hl.2 (by simpa [Ne.symm hx] using hi) (fun k hk => h k (by simp [hk]))

theorem cancelBarrier_at (s : State) (i : Nat) : (s.cancelBarrier i).barrier i = none ∧ (∀ k, k ≠ i → (s.cancelBarrier i).barrier k = s.barrier k) ∧ (s.cancelBarrier i).commit = s.commit := by
  unfold State.cancelBarrier
  split
  · rename_i h; exact ⟨h, fun _ _ => rfl, rfl⟩
  · rename_i b h
    have hb : ∀ k, ((s.freeBarrier i).barrierResult i barCancelled b).barrier k = (s.freeBarrier i).barrier k := by
      intro k; apply barrier_eq; rw [(barrierResult_frame _ _ _ _).1]
    exact ⟨by rw [hb]; exact (freeBarrier_at s i).1, fun k hk => by rw [hb]; exact (freeBarrier_at s i).2 k hk, by rw [(barrierResult_frame _ _ _ _).2.1]; rfl⟩

theorem foldl_cancelBarrier_at (l : List Nat) (s : State) : (∀ i, (l.foldl State.cancelBarrier s).barrier i = if i ∈ l then none else s.barrier i) ∧ (l.foldl State.cancelBarrier s).commit = s.commit := by
  induction l generalizing s with
  | nil => exact ⟨fun i => by simp, rfl⟩
  | cons x l ih =>
    obtain ⟨a, b⟩ := ih (s.cancelBarrier x)
    obtain ⟨c1, c2, c3⟩ := cancelBarrier_at s x
    refine ⟨fun i => ?_, b.trans c3⟩
    rw [List.foldl_cons, a]
    by_cases h : i ∈ l
    · simp [h]
    · by_cases hx : i = x
      · subst hx; simp [h, c1]
      · simp [h, hx, c2 i hx]

theorem reg_written_barrier (s : State) (v : Word) : (s.written .CARAVAN_BARRIER_COMMIT 0 0 v).reg .CARAVAN_BARRIER_CFN = s.reg .CARAVAN_BARRIER_CFN := reg_setReg _ _ _ _ _ _ _ _ (by decide)

theorem fld_keptValue_barrier (s : State) (v : Word) : fld (s.keptValue .CARAVAN_BARRIER_COMMIT 0 v) 0 16 = fld v 0 16 := by
  show fld (v &&& wordOf 0xffff) 0 16 = fld v 0 16
  unfold fld wordOf
  rw [BitVec.toNat_and, BitVec.toNat_ofNat]
  have := Nat.and_two_pow_sub_one_eq_mod v.toNat 16
  norm_num at this ⊢
  rw [this]; omega

theorem fld_keptValue_cancel (s : State) (v : Word) : fld (s.keptValue .CARAVAN_BARRIER_CANCEL 0 v) 0 8 = fld v 0 8 := by
  show fld (v &&& wordOf 0xff) 0 8 = fld v 0 8
  unfold fld wordOf
  rw [BitVec.toNat_and, BitVec.toNat_ofNat]
  have := Nat.and_two_pow_sub_one_eq_mod v.toNat 8
  norm_num at this ⊢
  rw [this]; omega

theorem mem_setBits8 (v : Word) (i : Nat) (h : i < 8) : i ∈ setBits 8 (fld v 0 8) ↔ bitAt v i = true := by
  unfold setBits
  rw [List.mem_filter, List.mem_range]
  have : natBit (fld v 0 8) i = bitAt v i := by
    unfold natBit fld bitAt
    rw [BitVec.getLsbD, Nat.testBit_eq_decide_div_mod_eq]
    congr 1
    interval_cases i <;> simp <;> omega
  rw [this]; simp [h]

theorem writeCmd_barrier {s : State} {acc : Accessor} {v : Word} (h : s.Accepts acc .CARAVAN_BARRIER_COMMIT) :
    s.writeCmd acc .CARAVAN_BARRIER_COMMIT 0 0 v = if fld v 0 16 = 0 then s.written .CARAVAN_BARRIER_COMMIT 0 0 v
      else (s.written .CARAVAN_BARRIER_COMMIT 0 0 v).armBarrier (fld v 0 16) := by
  rw [writeCmd_plain v h (by decide) rfl rfl, ← fld_keptValue_barrier s v]; rfl

theorem armBarrier_late (s : State) (m : Nat) (hm : m ≠ 0) (h : s.barrierLate (s.reg .CARAVAN_BARRIER_CFN) = true) : (s.armBarrier m).caravan.barriers = s.caravan.barriers ∧ (s.armBarrier m).caravan.barrierResult = barLate ∧ (s.armBarrier m).commit = s.commit := by
  unfold State.armBarrier; dsimp only; rw [if_neg hm, if_pos h, (barrierResult_frame _ _ _ _).1, (barrierResult_frame _ _ _ _).2.1]; exact ⟨rfl, rfl, rfl⟩

theorem armBarrier_full (s : State) (m : Nat) (hm : m ≠ 0) (h : s.barrierLate (s.reg .CARAVAN_BARRIER_CFN) = false) (hf : (List.range 8).find? (fun i => (s.barrier i).isNone) = none) : (s.armBarrier m).caravan.barriers = s.caravan.barriers ∧ (s.armBarrier m).caravan.barrierResult = barFull ∧ (s.armBarrier m).commit = s.commit := by
  unfold State.armBarrier; dsimp only; rw [if_neg hm, if_neg (by simp [h]), hf]; dsimp only; rw [(barrierResult_frame _ _ _ _).1, (barrierResult_frame _ _ _ _).2.1]; exact ⟨rfl, rfl, rfl⟩

theorem armBarrier_ok (s : State) (m i : Nat) (hm : m ≠ 0) (h : s.barrierLate (s.reg .CARAVAN_BARRIER_CFN) = false) (hf : (List.range 8).find? (fun i => (s.barrier i).isNone) = some i) :
    s.armBarrier m = (({ s with caravan := { s.caravan with barriers := mapSet none s.caravan.barriers i (some ⟨s.reg .CARAVAN_BARRIER_CFN, BitVec.ofNat 16 m⟩) } } : State)).barrierResult i barAccepted ⟨s.reg .CARAVAN_BARRIER_CFN, BitVec.ofNat 16 m⟩ := by
  unfold State.armBarrier; dsimp only; rw [if_neg hm, if_neg (by simp [h]), hf]

theorem toNat_fld16 (v : Word) : (BitVec.ofNat 16 (fld v 0 16)).toNat = fld v 0 16 := by
  unfold fld; simp

theorem written_regs (s : State) (r : Reg) (i j : Nat) (v : Word) : s.written r i j v = { s with regs := (s.written r i j v).regs } := rfl

end Sys2Proof.Machine
end

