-- ==== Sys2Proof/Laws/PowerLaws.lean ====
section
/-! SUPPORT. Power, rails, supervisor slaves and bring-up: what each operation changes. -/

set_option linter.all false
set_option maxRecDepth 4000
set_option maxHeartbeats 2000000

namespace Sys2Proof.Machine

/-- Only the state of the supervisor differs. -/
def PowerFrame (s t : State) : Prop := t = { s with power := t.power, wire := t.wire }

theorem PowerFrame.trans {s t u : State} (a : PowerFrame s t) (b : PowerFrame t u) : PowerFrame s u := by
  unfold PowerFrame at *; rw [a] at b; exact b

theorem PowerFrame.refl (s : State) : PowerFrame s s := rfl

theorem sendSlave_rails (s : State) (b c d : Nat) : PowerFrame s (s.sendSlave b c d) ∧ (s.sendSlave b c d).power = { s.power with slaves := (s.sendSlave b c d).power.slaves } := by
  unfold State.sendSlave; split
  · exact ⟨rfl, rfl⟩
  · exact ⟨rfl, rfl⟩

theorem railWord_rails (s : State) (r c : Nat) : PowerFrame s (s.railWord r c) ∧ (s.railWord r c).power = { s.power with slaves := (s.railWord r c).power.slaves } := by
  unfold State.railWord; dsimp only; split
  · exact sendSlave_rails _ _ _ _
  · exact ⟨rfl, rfl⟩

theorem rail_of_power {s t : State} {x} (h : t.power = { s.power with slaves := x }) (k : Nat) : t.rail k = s.rail k := by
  unfold State.rail; rw [h]

theorem railEnable_at (s : State) (r : Nat) : ((s.railEnable r).rail r).state = 1 ∧ ((s.railEnable r).rail r).retries = (s.rail r).retries ∧ (∀ k, k ≠ r → (s.railEnable r).rail k = s.rail k) ∧
    PowerFrame s (s.railEnable r) := by
  unfold State.railEnable
  obtain ⟨a, b⟩ := railWord_rails (s.modRail r (fun q => { q with
    state := 1, uvRun := 0, ovRun := 0, uvWarnRun := 0, ovWarnRun := 0, uvWarned := false, ovWarned := false })) r cmdEnable
  refine ⟨?_, ?_, ?_, PowerFrame.trans (t := s.modRail r _) rfl a⟩
  · rw [rail_of_power b, State.modRail_same]
  · rw [rail_of_power b, State.modRail_same]
  · intro k hk; rw [rail_of_power b, State.modRail_ne _ _ _ hk]

theorem railCut_at (s : State) (r st : Nat) (h : s.boot.inReset = true) : ((s.railCut r st).rail r).state = st ∧ (∀ k, k ≠ r → (s.railCut r st).rail k = s.rail k) ∧
    PowerFrame s (s.railCut r st) ∧ (s.railCut r st).power = { s.power with slaves := (s.railCut r st).power.slaves, rails := (s.railCut r st).power.rails } := by
  unfold State.railCut; dsimp only
  rw [if_neg (by rintro ⟨_, _, a⟩; simp [h] at a)]
  split
  · obtain ⟨a, b⟩ := railWord_rails (s.modRail r (fun q => { q with state := st, pg := false, limiting := false })) r cmdDisable
    refine ⟨?_, ?_, PowerFrame.trans (t := s.modRail r _) rfl a, ?_⟩
    · rw [rail_of_power b, State.modRail_same]
    · intro k hk; rw [rail_of_power b, State.modRail_ne _ _ _ hk]
    · rw [b]; rfl
  · refine ⟨?_, ?_, rfl, rfl⟩
    · rw [State.modRail_same]
    · intro k hk; rw [State.modRail_ne _ _ _ hk]

theorem setBit_at (n : Nat) (w : BitVec n) (p k : Nat) (b : Bool) (hp : p < n) : (setBit n w p b).getLsbD k = if k = p then b else w.getLsbD k := by
  unfold setBit
  have h2 : ∀ k, (BitVec.ofNat n (2 ^ p)).getLsbD k = decide (k = p ∧ k < n) := by
    intro k
    rw [BitVec.getLsbD_ofNat, Nat.testBit_two_pow]
    by_cases hk : k = p
    · subst hk; simp [hp]
    · have : ¬ p = k := fun h => hk h.symm
      simp [hk, this]
  split
  · rename_i hb
    rw [BitVec.getLsbD_or, h2]
    by_cases hk : k = p
    · subst hk; simp [hp, hb]
    · simp [hk]
  · rename_i hb
    rw [BitVec.getLsbD_and, BitVec.getLsbD_not, h2]
    by_cases hk : k = p
    · subst hk; simp [hp, hb]
    · simp only [hk, false_and, decide_false, Bool.not_false, Bool.and_true, if_false]
      by_cases hn : k < n
      · simp [hn]
      · have : w.getLsbD k = false := BitVec.getLsbD_of_ge _ _ (by omega)
        simp [this]

theorem setBit8_at (w : BitVec 8) (p k : Nat) (b : Bool) (hp : p < 8) : (setBit8 w p b).getLsbD k = if k = p then b else w.getLsbD k := setBit_at 8 w p k b hp

def RailsFrame (s t : State) : Prop := t = { s with
  power := { s.power with rails := t.power.rails, slaves := t.power.slaves }, wire := t.wire }

theorem RailsFrame.trans {s t u : State} (a : RailsFrame s t) (c : RailsFrame t u) : RailsFrame s u := by
  unfold RailsFrame at *; rw [a] at c; exact c

theorem fold_rails (f : RailSt → RailSt) (hf : ∀ q, (f q).state = 0) (l : List Nat) (s : State) :
    RailsFrame s (l.foldl (fun s r => s.modRail r f) s) ∧ ∀ k, (k ∈ l ∨ (s.rail k).state = 0) → ((l.foldl (fun s r => s.modRail r f) s).rail k).state = 0 := by
  induction l generalizing s with
  | nil => exact ⟨rfl, fun k h => by simpa using h⟩
  | cons x l ih =>
    obtain ⟨a, b⟩ := ih (s.modRail x f)
    refine ⟨RailsFrame.trans (t := s.modRail x f) rfl a, fun k h => ?_⟩
    rw [List.foldl_cons]
    apply b
    by_cases hk : k = x
    · subst hk; right; rw [State.modRail_same]; exact hf _
    · rw [State.modRail_ne _ _ _ hk]; simpa [hk] using h

theorem fold_slaves (f : SlaveSt → SlaveSt) (l : List Nat) (s : State) :
    RailsFrame s (l.foldl (fun s r => s.modSlave r f) s) ∧ (l.foldl (fun s r => s.modSlave r f) s).power.rails = s.power.rails := by
  induction l generalizing s with
  | nil => exact ⟨rfl, rfl⟩
  | cons x l ih =>
    obtain ⟨a, b⟩ := ih (s.modSlave x f)
    exact ⟨RailsFrame.trans (t := s.modSlave x f) rfl a, b⟩

theorem holdBoards_at (s : State) : RailsFrame s s.holdBoards ∧ s.holdBoards.power.rails = s.power.rails := by
  have h : ∀ (l : List Nat) (x : State), RailsFrame x (l.foldl (fun s b => s.sendSlave (b + 1) cmdBoardReset 1) x) ∧
      (l.foldl (fun s b => s.sendSlave (b + 1) cmdBoardReset 1) x).power.rails = x.power.rails := by
    intro l
    induction l with
    | nil => exact fun x => ⟨rfl, rfl⟩
    | cons b l ih =>
      intro x
      obtain ⟨a, c⟩ := sendSlave_rails x (b + 1) cmdBoardReset 1
      obtain ⟨d, e⟩ := ih (x.sendSlave (b + 1) cmdBoardReset 1)
      refine ⟨RailsFrame.trans (t := x.sendSlave (b + 1) cmdBoardReset 1) ?_ d, ?_⟩
      · unfold RailsFrame; unfold PowerFrame at a; rw [c] at a ⊢; exact a
      · rw [List.foldl_cons, e, c]
  exact h _ _

theorem begin_eq (s : State) (floor : Bool) (k : Nat) (s1 x : State) (hp : (s.systemReset false).takeFree = (k, s1))
    (hx : (if (s.boot.nextCause != 0 && !floor) = true then (List.range 3).foldl (fun s b => s.modSlave b (fun q => { q with state := 0, tries := 0 })) ((List.range 13).foldl (fun s r => s.modRail r keepCounts) s1) else ((List.range 13).foldl (fun s r => s.modRail r keepCounts) s1)).holdBoards = x) :
    s.beginStart floor = { x with
    power := { x.power with state := if floor then 4 else 1, boardsOff := if floor then 7 else if (s.boot.nextCause != 0 && !floor) = true then 0 else s.power.boardsOff, after := .stay, pfw := false, reverse := [], offTable := false }
    boot := { x.boot with attempts := 0, bootTag := Config.freeBootTag k } } := by
  unfold State.beginStart
  rw [hp]
  dsimp only
  rw [hx]
  rfl

theorem core_at (s1 : State) (again : Bool) : ∃ x : State, (if again = true then (List.range 3).foldl (fun s r => s.modSlave r (fun q => { q with state := 0, tries := 0 })) ((List.range 13).foldl (fun s r => s.modRail r keepCounts) s1) else ((List.range 13).foldl (fun s r => s.modRail r keepCounts) s1)).holdBoards = x ∧ RailsFrame s1 x ∧ (∀ r, r < 13 → (x.rail r).state = 0) := by
  obtain ⟨a, b⟩ := fold_rails keepCounts (fun _ => rfl) (List.range 13) s1
  have held : ∀ y : State, RailsFrame s1 y → (∀ r, r < 13 → (y.rail r).state = 0) →
      RailsFrame s1 y.holdBoards ∧ ∀ r, r < 13 → (y.holdBoards.rail r).state = 0 := by
    intro y c d
    obtain ⟨e, f⟩ := holdBoards_at y
    refine ⟨c.trans e, fun r hr => ?_⟩
    have := d r hr
    unfold State.rail at this ⊢; rw [f]; exact this
  by_cases ha : again = true
  · obtain ⟨c, d⟩ := fold_slaves (fun q => { q with state := 0, tries := 0 }) (List.range 3) ((List.range 13).foldl (fun s r => s.modRail r keepCounts) s1)
    rw [if_pos ha]
    refine ⟨_, rfl, held _ (a.trans c) ?_⟩
    intro r hr
    have := b r (.inl (by simpa using hr))
    unfold State.rail at this ⊢; rw [d]; exact this
  · rw [if_neg ha]
    exact ⟨_, rfl, held _ a (fun r hr => b r (.inl (by simpa using hr)))⟩

/-- What a common start leaves. -/
theorem begin_at (s : State) (floor : Bool) : ∃ (s1 x : State) (n : Nat), (s.systemReset false).takeFree = (n, s1) ∧ RailsFrame s1 x ∧ (∀ r, r < 13 → (x.rail r).state = 0) ∧ ∃ k off, s.beginStart floor = { x with
    power := { x.power with state := if floor then 4 else 1, boardsOff := off, after := .stay, pfw := false, reverse := [], offTable := false }
    boot := { x.boot with attempts := 0, bootTag := k } } ∧ (floor = true → off = 7) := by
  rcases hp : (s.systemReset false).takeFree with ⟨n, s1⟩
  obtain ⟨x, c, a, b⟩ := core_at s1 (s.boot.nextCause != 0 && !floor)
  refine ⟨s1, x, n, rfl, a, b, _, _, begin_eq s floor n s1 x hp c, ?_⟩
  intro h; rw [if_pos h]

/-- A system reset leaves the supervisor's standby supply and its latch. -/
theorem systemReset_power (s : State) (warm : Bool) : (s.systemReset warm).power.standby = s.power.standby ∧
    (s.systemReset warm).power.latch = s.power.latch := by
  have hb : s.breakProgram.power = s.power := by
    unfold State.breakProgram
    split
    · rfl
    · split
      · split
        · unfold State.spoilSlot State.setFlash
          dsimp only
          split <;> rfl
        · rfl
      · rfl
  unfold State.systemReset
  show (s.breakProgram.resetRegs.accOff).power.standby = _ ∧ (s.breakProgram.resetRegs.accOff).power.latch = _
  rw [show (s.breakProgram.resetRegs.accOff).power.standby = s.breakProgram.power.standby from rfl,
    show (s.breakProgram.resetRegs.accOff).power.latch = s.breakProgram.power.latch from rfl, hb]
  exact ⟨rfl, rfl⟩

theorem take_eq {s s1 : State} {n : Nat} (h : (s.systemReset false).takeFree = (n, s1)) : s1.power.standby = s.power.standby ∧ s1.power.latch = s.power.latch ∧ s1.boot.inReset = true ∧ s1.boot.mode = 0 ∧
   s1.store.mem = [] ∧ s1.pat.running = none ∧ s1.net.owner = .none := by
  unfold State.takeFree at h
  simp only [Prod.mk.injEq] at h
  obtain ⟨_, rfl⟩ := h
  exact ⟨(systemReset_power s false).1, (systemReset_power s false).2, rfl, rfl, rfl, rfl, rfl⟩

theorem mainsPow {s : State} (h1 : s.power.standby = true) (h2 : s.power.state = 0) (h3 : s.power.latch = false) (h4 : s.mains = true) : s.start = s.beginStart false := by
  unfold State.start; rw [if_pos (by rw [h1, h2, h3, h4]; rfl)]

theorem noStart {s : State} (h : s.power.standby = false ∨ s.power.state ≠ 0 ∨ s.power.latch = true ∨ s.mains = false) : s.start = s := by
  unfold State.start
  rw [if_neg]
  rcases h with h | h | h | h
  · rw [h]; simp
  · simp [h]
  · rw [h]; simp
  · rw [h]; simp

theorem boardBack_rail (s : State) (b : Nat) : (s.boardBack b).power.rails = s.power.rails := by
  have hs : ∀ (x o : State), (x.settlePorts o).power = x.power := by
    intro x o
    unfold State.settlePorts
    have h1 : ∀ (l : List Nat) (x : State), (l.foldl (fun s p => s.routeDp o p) x).power = x.power := by
      intro l
      induction l with
      | nil => intro x; rfl
      | cons p l ih =>
        intro x; rw [List.foldl_cons, ih]
        unfold State.routeDp
        dsimp only
        by_cases hc : (o.portUse p).bind o.portRaster = (x.portUse p).bind x.portRaster
        · rw [if_pos hc]
        · rw [if_neg hc]
          split
          · split <;> rfl
          · rfl
    have h2 : ∀ (l : List Nat) (x : State), (l.foldl (State.reportPort o) x).power = x.power := by
      intro l
      induction l with
      | nil => intro x; rfl
      | cons p l ih =>
        intro x; rw [List.foldl_cons, ih]
        unfold State.reportPort
        dsimp only
        by_cases hc : o.portShow p = x.portShow p
        · rw [if_pos hc]
        · rw [if_neg hc]
          have hh : ∀ (c : Bool) (y : State) n, (if c = true then y.portRecord p n else y).power = y.power := by
            intro c y n; cases c
            · rfl
            · rw [if_pos rfl]; unfold State.portRecord; rw [record_frame]
          rw [hh, event_frame]
    rw [h2, h1]
  unfold State.boardBack
  split
  · dsimp only; rw [hs]; rfl
  · rfl

theorem recordP_frame (s : State) (e : Entry) : EventFrame s (s.record' e) := by
  have h := ledgerWrite_frame s e
  unfold State.record'
  generalize ledgerWrite s e = q at h ⊢
  rcases q with ⟨u, _ | _⟩
  · exact h
  · exact h.trans (event_frame u _ _ _ _)

theorem psvRecord_at (s : State) (d : List (Nat × Nat)) (a : Nat) (b : Bool) : (s.psvRecord d a b).boot = s.boot ∧ (s.psvRecord d a b).power = { s.power with heldRecords := (s.psvRecord d a b).power.heldRecords, lostRecords := (s.psvRecord d a b).power.lostRecords } := by
  unfold State.psvRecord
  dsimp only
  split
  · rw [recordP_frame]; exact ⟨rfl, rfl⟩
  · split <;> exact ⟨rfl, rfl⟩

theorem psvEvent_at (s : State) (c : Nat) (d : List Byte) : (s.psvEvent c d).boot = s.boot ∧ (s.psvEvent c d).power = { s.power with heldEvents := (s.psvEvent c d).power.heldEvents, lostEvents := (s.psvEvent c d).power.lostEvents } := by
  unfold State.psvEvent
  split
  · rw [event_frame]; exact ⟨rfl, rfl⟩
  · split <;> exact ⟨rfl, rfl⟩

theorem firstFailure_at (x : State) (a b c d : Nat) : (x.firstFailure a b c d).power = { x.power with first := (x.firstFailure a b c d).power.first } ∧ (x.firstFailure a b c d).boot = x.boot ∧
    (x.firstFailure a b c d).power.first.isSome = true ∧ (∀ f, x.power.first = some f → (x.firstFailure a b c d).power.first = some f) := by
  unfold State.firstFailure; split
  · rename_i h; exact ⟨rfl, rfl, h, fun f hf => hf⟩
  · rename_i h; exact ⟨rfl, rfl, rfl, fun f hf => by rw [hf] at h; exact absurd rfl h⟩

theorem startFail_at (x : State) (r kind mv : Nat) (h5 : x.boot.inReset = true) : (x.startFailure r kind mv).power.latch = true ∧ (x.startFailure r kind mv).power.startFail = satInc x.power.startFail ∧
    ((x.startFailure r kind mv).rail r).state = 4 ∧ (x.startFailure r kind mv).power.reverse = (x.startFailure r kind mv).reverseOrder := by
  unfold State.startFailure; dsimp only
  obtain ⟨f1, f2, _, _⟩ := firstFailure_at x r kind (railBoard r) mv
  generalize x.firstFailure r kind (railBoard r) mv = y at *
  have hr : ∀ z kk rr mm, ((z : State).railReport r kk rr mm).boot = z.boot ∧ (z.railReport r kk rr mm).power.startFail = z.power.startFail := by
    intro z kk rr mm
    unfold State.railReport
    obtain ⟨a, b⟩ := psvRecord_at z [(8, kk)] r false
    obtain ⟨c, d⟩ := psvEvent_at (z.psvRecord [(8, kk)] r) 0xFA ([byteOf r, byteOf kk, byteOf rr, 0] ++ leBytes 2 mm)
    refine ⟨c.trans a, ?_⟩
    rw [d]; dsimp only; rw [b]
  obtain ⟨y1, y2⟩ := hr y kind (Config.unstated 0xFA kind) mv
  generalize y.railReport r kind (Config.unstated 0xFA kind) mv = z at *
  obtain ⟨c1, c2, c3, c4⟩ := railCut_at z r 4 (by rw [y1, f2]; exact h5)
  generalize z.railCut r 4 = w at *
  refine ⟨rfl, ?_, c1, rfl⟩
  show satInc w.power.startFail = _; rw [c4]; dsimp only; rw [y2, f1]

/-- While the rails start, a sample of a rail is its reading, and a rail that was rising and has arrived goes on (R343, R353). -/
theorem sampleRail_start {s : State} (h : s.starting = true) (fs : List (Nat × Nat × Nat)) (r : Nat) (g : RailReading) :
    State.sampleRail (s, fs) (r, g) =
      ((if (s.rail r).state = 1 ∧ s.railReached r g = true then State.railRises else fun u _ => u)
        (s.modRail r (fun q => { q with mv := g.millivolts, pg := g.powerGood, limiting := g.limiting })) r, fs) := by
  unfold State.sampleRail
  dsimp only
  rw [if_neg (by rw [h]; simp)]
  split <;> rfl

theorem endOff_at (s : State) : (∀ k, s.endOff.rail k = s.rail k) ∧ (s.allOff = true → s.power.offTable = true → s.endOff.power.offTable = false ∧ s.endOff.power.state = 0) ∧ s.endOff.allOff = s.allOff := by
  unfold State.endOff
  split
  · exact ⟨fun _ => rfl, fun _ _ => ⟨rfl, rfl⟩, rfl⟩
  · rename_i h; exact ⟨fun _ => rfl, fun a b => absurd ⟨b, a⟩ h, rfl⟩

theorem boardName_of (b : Board) : boardName (boardOf b) = b := by cases b <;> rfl

theorem board_lt (b : Board) : 1 ≤ boardOf b ∧ boardOf b ≤ 3 := by cases b <;> decide

theorem slave_of (s : State) {t : State} (h : t.power.slaves = s.power.slaves) (k : Nat) : t.slave k = s.slave k := by unfold State.slave; rw [h]

theorem takeReply_at (s : State) (b : Nat) (x w : Word) : (s.takeReply b x w).power.slaves = s.power.slaves ∧ (s.takeReply b x w).wire = s.wire ∧
    (fld w 24 8 = 3 → (boardRails b).contains (boardFeed b + fld x 8 16) = true → ((s.takeReply b x w).rail (boardFeed b + fld x 8 16)).mv = fld w 8 16) := by
  have hf : ∀ (l : List Nat) (f : Nat → RailSt → RailSt) (s : State), (l.foldl (fun s r => s.modRail r (f r)) s).power.slaves = s.power.slaves ∧ (l.foldl (fun s r => s.modRail r (f r)) s).wire = s.wire := by
    intro l f
    induction l with
    | nil => intro s; exact ⟨rfl, rfl⟩
    | cons y l ih => intro s; exact ih (s.modRail y (f y))
  unfold State.takeReply
  dsimp only
  split
  · rename_i h
    refine ⟨(hf _ _ _).1, (hf _ _ _).2, fun h2 => ?_⟩
    omega
  · split
    · rename_i h; exact ⟨rfl, rfl, fun _ _ => by rw [State.modRail_same]⟩
    · rename_i h; exact ⟨rfl, rfl, fun _ h2 => absurd h2 h⟩
  · rename_i h h2; exact ⟨rfl, rfl, fun h3 => absurd h3 h2⟩

theorem psv_write {s : State} {acc : Accessor} (v : Word) (h : s.Accepts acc .PSV_COMMAND) :
   s.writeCmd acc .PSV_COMMAND 0 0 v = (s.written .PSV_COMMAND 0 0 v).psvCommand (acc == .usb) (v &&& wordOf Reg.PSV_COMMAND.row.mask) := by
  rw [writeCmd_plain v h (by decide) rfl rfl]; rfl

theorem psv_1 (s : State) (u : Bool) (v : Word) (h : fld v 0 4 = 1) : s.psvCommand u v = s.psvClearLatch u := by unfold State.psvCommand; rw [h]; rfl

theorem psv_2 (s : State) (u : Bool) (v : Word) (h : fld v 0 4 = 2) : s.psvCommand u v = s.psvClearRecord := by unfold State.psvCommand; rw [h]; rfl

theorem psv_3 (s : State) (u : Bool) (v : Word) (h : fld v 0 4 = 3) : s.psvCommand u v = s.psvClearCounters := by unfold State.psvCommand; rw [h]; rfl

theorem psv_4 (s : State) (u : Bool) (v : Word) (k : Nat) (h : fld v 0 4 = 4) (h2 : fld v 8 2 = k) : s.psvCommand u v = s.psvRestartGroup k := by unfold State.psvCommand; rw [h, h2]; rfl

theorem zero_rails (f : RailSt → RailSt) (l : List Nat) (s : State) (hl : l.Nodup) :
    (∀ k ∈ l, (l.foldl (fun s r => s.modRail r f) s).rail k = f (s.rail k)) ∧ (∀ k, k ∉ l → (l.foldl (fun s r => s.modRail r f) s).rail k = s.rail k) ∧
    (l.foldl (fun s r => s.modRail r f) s) = { s with power := { s.power with rails := (l.foldl (fun s r => s.modRail r f) s).power.rails } } := by
  induction l generalizing s with
  | nil => exact ⟨fun k h => (nomatch h), fun _ _ => rfl, rfl⟩
  | cons x l ih =>
    rw [List.nodup_cons] at hl
    obtain ⟨a, b, c⟩ := ih (s.modRail x f) hl.2
    rw [List.foldl_cons]
    refine ⟨fun k hk => ?_, fun k hk => ?_, ?_⟩
    · rw [List.mem_cons] at hk
      by_cases e : k = x
      · subst e; rw [b k hl.1, State.modRail_same]
      · rw [a k (hk.resolve_left e), State.modRail_ne _ _ _ e]
    · rw [List.mem_cons, not_or] at hk
      rw [b k hk.2, State.modRail_ne _ _ _ hk.1]
    · generalize l.foldl (fun s r => s.modRail r f) (s.modRail x f) = z at *; rw [c]; rfl

def accClear (old v : Word) (s : State) (k : Nat) : State :=
    if bitAt v k && !bitAt old k && s.power.accLatched.getLsbD k then
      (s.modRail (14 + k) (fun q => { q with state := 0 })).modPower (fun p => { p with accLatched := setBit 2 p.accLatched k false })
    else s

def accOne (s : State) (k : Nat) : State :=
    if (decide (2 ≤ s.mode) && bitAt (s.reg .ACC_CONTROL) k) = false then s.modRail (14 + k) (fun q => if q.state = 6 then q else { q with state := 0 })
    else if (s.rail (14 + k)).state = 0 then s.railEnable (14 + k)
    else s

theorem accClear_at (old v : Word) (s : State) (k : Nat) (hk : k < 2) : (accClear old v s k).reg .ACC_CONTROL = s.reg .ACC_CONTROL ∧ (accClear old v s k).mode = s.mode ∧
   (∀ j, j ≠ k → (accClear old v s k).rail (14 + j) = s.rail (14 + j) ∧ (accClear old v s k).power.accLatched.getLsbD j = s.power.accLatched.getLsbD j) ∧
   (bitAt v k = false ∨ bitAt old k = true ∨ s.power.accLatched.getLsbD k = false → (accClear old v s k).rail (14 + k) = s.rail (14 + k)) ∧
   (bitAt v k = true → bitAt old k = false → s.power.accLatched.getLsbD k = true → ((accClear old v s k).rail (14 + k)).state = 0 ∧ (accClear old v s k).power.accLatched.getLsbD k = false) := by
  unfold accClear
  split
  · rename_i h
    simp only [Bool.and_eq_true, Bool.not_eq_true'] at h
    refine ⟨rfl, rfl, fun j hj => ⟨?_, ?_⟩, fun h2 => ?_, fun _ _ _ => ⟨?_, ?_⟩⟩
    · show (State.modRail s (14 + k) (fun q => { q with state := 0 })).rail (14 + j) = _; rw [State.modRail_ne _ _ _ (by omega)]
    · show (setBit 2 s.power.accLatched k false).getLsbD j = _; rw [setBit_at _ _ _ _ _ hk, if_neg hj]
    · rcases h2 with h2 | h2 | h2
      · rw [h.1.1] at h2; cases h2
      · rw [h.1.2] at h2; cases h2
      · rw [h.2] at h2; cases h2
    · show ((State.modRail s (14 + k) (fun q => { q with state := 0 })).rail (14 + k)).state = 0; rw [State.modRail_same]
    · show (setBit 2 s.power.accLatched k false).getLsbD k = false; rw [setBit_at _ _ _ _ _ hk, if_pos rfl]
  · rename_i h
    refine ⟨rfl, rfl, fun j hj => ⟨rfl, rfl⟩, fun _ => rfl, fun h1 h2 h3 => ?_⟩
    rw [h1, h2, h3] at h; exact absurd rfl h

theorem accOne_at (s : State) (k : Nat) : (accOne s k).reg .ACC_CONTROL = s.reg .ACC_CONTROL ∧ (accOne s k).mode = s.mode ∧ (accOne s k).power.accLatched = s.power.accLatched ∧
   (∀ j, j ≠ k → (accOne s k).rail (14 + j) = s.rail (14 + j)) ∧
   (bitAt (s.reg .ACC_CONTROL) k = true → 2 ≤ s.mode → (s.rail (14 + k)).state = 0 → ((accOne s k).rail (14 + k)).state = 1) ∧
   (bitAt (s.reg .ACC_CONTROL) k = false → (s.rail (14 + k)).state ≠ 6 → ((accOne s k).rail (14 + k)).state = 0) := by
  unfold accOne
  split
  · rename_i h
    refine ⟨rfl, rfl, rfl, fun j hj => ?_, fun h1 h2 => ?_, fun h1 h2 => ?_⟩
    · rw [State.modRail_ne _ _ _ (by omega)]
    · rw [h1] at h; simp at h; omega
    · rw [State.modRail_same, if_neg h2]
  · rename_i h
    split
    · obtain ⟨r1, r2, r3, r4⟩ := railEnable_at s (14 + k)
      have r5 : (s.railEnable (14 + k)).power.accLatched = s.power.accLatched := by
        unfold State.railEnable; rw [(railWord_rails _ _ _).2]; rfl
      unfold PowerFrame at r4
      refine ⟨by rw [r4]; rfl, by rw [r4]; rfl, r5, fun j hj => r3 _ (by omega), fun _ _ _ => r1, fun h1 => ?_⟩
      rw [h1] at h; simp at h
    · rename_i h3
      refine ⟨rfl, rfl, rfl, fun _ _ => rfl, fun _ _ h4 => absurd h4 h3, fun h1 => ?_⟩
      rw [h1] at h; simp at h

theorem settleAcc_frame (s : State) : PowerFrame s s.settleAcc := by
  have one : ∀ (s : State) k, PowerFrame s (accOne s k) := by
    intro s k
    unfold accOne
    split
    · exact rfl
    · split
      · exact (railEnable_at s _).2.2.2
      · exact rfl
  exact foldl_frame PowerFrame .refl .trans accOne one (List.range 2) s

theorem recFold (l : List Entry) (s : State) : EventFrame s (l.foldl State.record' s) := by
  induction l generalizing s with
  | nil => exact .refl s
  | cons e l ih => exact (recordP_frame s e).trans (ih _)

theorem EventFrame.boot {s t : State} (h : EventFrame s t) : t.boot = s.boot := by unfold EventFrame at h; rw [h]

theorem EventFrame.power {s t : State} (h : EventFrame s t) : t.power = s.power := by unfold EventFrame at h; rw [h]

theorem EventFrame.time {s t : State} (h : EventFrame s t) : t.time = s.time := by unfold EventFrame at h; rw [h]

theorem EventFrame.pat {s t : State} (h : EventFrame s t) : t.pat = s.pat := by unfold EventFrame at h; rw [h]

theorem EventFrame.up {s t : State} (h : EventFrame s t) : t.ledger.up = s.ledger.up := by unfold EventFrame at h; rw [h]

theorem EventFrame.chan {s t : State} (h : EventFrame s t) : t.store.channels = s.store.channels := by unfold EventFrame at h; rw [h]

theorem usbConnect_at (s : State) : s.usbConnect.boot = s.boot ∧ s.usbConnect.pat = s.pat := by
  unfold State.usbConnect
  split
  · unfold State.usbState; split
    · exact ⟨rfl, rfl⟩
    · rw [event_frame]; exact ⟨rfl, rfl⟩
  · exact ⟨rfl, rfl⟩

/-- What a network message leaves of the boot and of the pattern. -/
def NetFrame (s t : State) : Prop := t.boot = s.boot ∧ t.pat = s.pat

theorem NetFrame.trans {s t u : State} (a : NetFrame s t) (b : NetFrame t u) : NetFrame s u := ⟨b.1.trans a.1, b.2.trans a.2⟩

theorem setLink_frame (s : State) (p : Nat) (up : Bool) : NetFrame s (s.setLink p up) := by
  have hi : ∀ (s : State) (g : Word × Word), NetFrame s (s.igmp p (.igmpJoin g.1 g.2)) := by
    intro s g
    unfold State.igmp
    split
    · exact ⟨rfl, rfl⟩
    · exact ⟨rfl, rfl⟩
  have hj : ∀ s o : State, NetFrame s (s.settleJoins o p) := by
    intro s o
    unfold State.settleJoins
    split
    · exact foldl_frame NetFrame (fun _ => ⟨rfl, rfl⟩) .trans _ hi _ _
    · exact ⟨rfl, rfl⟩
  have hl : ∀ (s : State) (n : Nat), NetFrame s (s.linkEvent p up n) := by
    intro s n
    have he : EventFrame s (s.event 0xD9 [byteOf p, byteOf up.toNat, byteOf n]) := event_frame ..
    unfold State.linkEvent
    dsimp only
    split
    · exact ⟨he.boot, he.pat⟩
    · exact ⟨(record_frame ..).boot.trans he.boot, (record_frame ..).pat.trans he.pat⟩
  unfold State.setLink
  split
  · exact ⟨rfl, rfl⟩
  · exact NetFrame.trans (t := s.modPort p _) ⟨rfl, rfl⟩ ((hl _ _).trans (hj _ _))

theorem enterFloor_at (s : State) (c : Nat) (h : s.pat.running = none) : (s.enterFloor c).boot = { s.boot with mode := 1, step := 15, floorCause := c } ∧ (s.enterFloor c).pat = s.pat := by
  unfold State.enterFloor
  rw [if_neg (by rw [h]; decide)]
  dsimp only
  rw [(usbConnect_at _).1, (usbConnect_at _).2, (record_frame _ _ _ _ _ _ _).boot, (record_frame _ _ _ _ _ _ _).pat]
  have := settleAcc_frame ((s.modBoot (fun b => { b with mode := 1, step := 15, floorCause := c })).settleGpo s)
  obtain ⟨a, b⟩ := foldl_frame NetFrame (fun _ => ⟨rfl, rfl⟩) .trans _ (fun s p => setLink_frame s p false) (List.range 2)
    ((s.modBoot (fun b => { b with mode := 1, step := 15, floorCause := c })).settleGpo s).settleAcc
  rw [a, b]
  unfold PowerFrame at this; rw [this]; exact ⟨rfl, rfl⟩

theorem train_at (tr : BitVec 8) (m : List (BitVec 16)) (s : State) (c : Nat) (h : (s.channel c).state ≠ 3 ∧ (s.channel c).state ≠ 4) :
    ((State.trainChannel tr m s c).channel c).state = (if tr.getLsbD c = true then 2 else 4) ∧ (∀ k, k ≠ c → (State.trainChannel tr m s c).channel k = s.channel k) ∧
    (State.trainChannel tr m s c).boot = s.boot ∧ (State.trainChannel tr m s c).pat = s.pat := by
  unfold State.trainChannel
  dsimp only
  rw [if_neg (by simp [h])]
  split
  · refine ⟨?_, fun k hk => ?_, rfl, rfl⟩
    · rw [State.modChannel_same]
    · rw [State.modChannel_ne _ _ _ hk]
  · have hr := record_frame (s.modChannel c (fun q => { q with state := 4, cause := 1, margin := m.getD c 0 })) 0x1A classC [(16, (m.getD c 0).toNat)] c none false
    have hc : ∀ k, ((s.modChannel c (fun q => { q with state := 4, cause := 1, margin := m.getD c 0 })).record 0x1A classC [(16, (m.getD c 0).toNat)] c).channel k = (s.modChannel c (fun q => { q with state := 4, cause := 1, margin := m.getD c 0 })).channel k := by
      intro k; unfold State.channel; rw [hr.chan]
    refine ⟨?_, fun k hk => ?_, hr.boot, hr.pat⟩
    · rw [hc, State.modChannel_same]
    · rw [hc, State.modChannel_ne _ _ _ hk]

theorem trains_at (tr : BitVec 8) (m : List (BitVec 16)) (l : List Nat) (s : State) (hl : l.Nodup) (h : ∀ c ∈ l, (s.channel c).state ≠ 3 ∧ (s.channel c).state ≠ 4) :
    (∀ c ∈ l, ((l.foldl (State.trainChannel tr m) s).channel c).state = (if tr.getLsbD c = true then 2 else 4)) ∧ (∀ k, k ∉ l → (l.foldl (State.trainChannel tr m) s).channel k = s.channel k) ∧
    (l.foldl (State.trainChannel tr m) s).boot = s.boot ∧ (l.foldl (State.trainChannel tr m) s).pat = s.pat := by
  induction l generalizing s with
  | nil => exact ⟨fun c h => (nomatch h), fun _ _ => rfl, rfl, rfl⟩
  | cons x l ih =>
    rw [List.nodup_cons] at hl
    obtain ⟨a1, a2, a3, a4⟩ := train_at tr m s x (h x (by simp))
    obtain ⟨b1, b2, b3, b4⟩ := ih (State.trainChannel tr m s x) hl.2 (fun c hc => by
      rw [a2 c (by rintro rfl; exact hl.1 hc)]; exact h c (by simp [hc]))
    rw [List.foldl_cons]
    refine ⟨fun c hc => ?_, fun k hk => ?_, b3.trans a3, b4.trans a4⟩
    · by_cases e : c = x
      · subst e; rw [b2 c hl.1]; exact a1
      · rw [List.mem_cons] at hc; exact b1 c (hc.resolve_left e)
    · rw [List.mem_cons, not_or] at hk
      rw [b2 k hk.2, a2 k hk.1]

theorem map_at (s : State) (l : List Nat) (h : ∀ c, c < 8 → (s.channel c).state ≠ 3 ∧ (s.channel c).state ≠ 5) : (s.mapStore l).store.chanList = l ∧ (s.mapStore l).store.mem = [] ∧ (∀ c, (s.mapStore l).channel c = s.channel c) ∧
    (s.mapStore l).boot = s.boot ∧ (s.mapStore l).pat = s.pat := by
  have hf : ∀ l2 : List Nat, (∀ c ∈ l2, (s.channel c).state ≠ 3 ∧ (s.channel c).state ≠ 5) → l2.foldl (fun s c =>
    if l.contains c = false ∧ ((s.channel c).state = 3 ∨ (s.channel c).state = 5) then
      s.modChannel c (fun q => { q with state := 4 }) else s) s = s := by
    intro l2 h2
    induction l2 with
    | nil => rfl
    | cons x l2 ih => rw [List.foldl_cons, if_neg (by have := h2 x (by simp); tauto)]; exact ih (fun c hc => h2 c (by simp [hc]))
  unfold State.mapStore
  rw [hf (List.range 8) (fun c hc => h c (by simpa using hc))]
  exact ⟨rfl, rfl, fun _ => rfl, rfl, rfl⟩

theorem k1 (v : Word) : bitAt (v &&& wordOf 0xffff0001) 0 = bitAt v 0 := by
  unfold bitAt; rw [BitVec.getLsbD_and, show (wordOf 0xffff0001).getLsbD 0 = true from by decide, Bool.and_true]

theorem k2 (v : Word) : fld (v &&& wordOf 0xffff0001) 16 16 = fld v 16 16 := by
  unfold fld wordOf
  rw [BitVec.toNat_and, BitVec.toNat_ofNat]
  rw [← Nat.shiftRight_eq_div_pow, ← Nat.shiftRight_eq_div_pow, Nat.shiftRight_and_distrib]
  have e : (0xffff0001 % 2 ^ 32) >>> 16 = 2 ^ 16 - 1 := by decide
  rw [e, Nat.and_two_pow_sub_one_eq_mod]; omega

end Sys2Proof.Machine
end

