-- ==== Sys2Proof/Laws/SoundOps.lean ====
section
/-! SUPPORT. Soundness is kept by every operation: the shared operations, commits, skeins, ports, answers, routes and the time base. -/

set_option linter.all false
set_option maxRecDepth 4000
set_option maxHeartbeats 400000

namespace Sys2Proof.Machine

/-- The parts of soundness, by the fields they speak of. -/
def SoundParts (mem : List Host.Cell) (entries lheld : List Entry) (held : List Bale) (events : List Bale)
    (records : List Entry) : Prop :=
  Memory.wf mem = true ∧ entries.length ≤ 64 ∧ lheld.length ≤ 16 ∧ held.length ≤ 16 ∧ events.length ≤ 16 ∧
    records.length ≤ 16

theorem sound_parts {s : State} (h : s.Sound) : SoundParts s.store.mem s.ledger.entries s.ledger.held s.routes.held
    s.power.heldEvents s.power.heldRecords :=
  ⟨h.1, h.2, h.3, h.4, h.5, h.6⟩

@[simp] theorem sound_mk (regs active nv pairs pat commit ledger routes store porter sources skeins needles heads dp raster
    block time net usb caravan chassis power boot wire freeCount pending) :
    (State.mk regs active nv pairs pat commit ledger routes store porter sources skeins needles heads dp raster block
      time net usb caravan chassis power boot wire freeCount pending).Sound ↔
    SoundParts store.mem ledger.entries ledger.held routes.held power.heldEvents power.heldRecords :=
  ⟨fun h => ⟨h.1, h.2, h.3, h.4, h.5, h.6⟩, fun ⟨a, b, c, d, e, f⟩ => ⟨a, b, c, d, e, f⟩⟩

theorem sound_foldl {α : Type} {l : List α} {f : State → α → State} {s : State} (h : s.Sound)
    (hf : ∀ t a, t.Sound → (f t a).Sound) : (l.foldl f s).Sound := by
  induction l generalizing s with
  | nil => exact h
  | cons a l ih => exact ih (hf s a h)

theorem sound_ite (c : Prop) [Decidable c] (a b : State) :
    (if c then a else b).Sound ↔ (if c then a.Sound else b.Sound) := by split <;> rfl

@[simp] theorem sound_wf {s : State} (h : s.Sound) : Memory.wf s.store.mem = true := h.1

@[simp] theorem sound_entries {s : State} (h : s.Sound) : s.ledger.entries.length ≤ 64 := h.2

@[simp] theorem sound_lheld {s : State} (h : s.Sound) : s.ledger.held.length ≤ 16 := h.3

@[simp] theorem sound_held {s : State} (h : s.Sound) : s.routes.held.length ≤ 16 := h.4

@[simp] theorem sound_events {s : State} (h : s.Sound) : s.power.heldEvents.length ≤ 16 := h.5

@[simp] theorem sound_records {s : State} (h : s.Sound) : s.power.heldRecords.length ≤ 16 := h.6

theorem pair_eq {α β : Type} {p : α × β} {a : α} {b : β} : p = (a, b) ↔ p.1 = a ∧ p.2 = b := by
  cases p; simp

@[simp] theorem State_modHead_sound {s : State} (i : Nat) (f : HeadSt → HeadSt) (hS : State.Sound s) :
    State.Sound (State.modHead s i f) := by
  unfold State.modHead
  repeat' first
  | with_reducible assumption
  | split
  | with_reducible refine sound_foldl ?_ (fun _ _ _ => ?_)
  all_goals try simp only [pair_eq] at *
  all_goals try casesm* _ ∧ _
  all_goals try subst_vars
  all_goals (first | with_reducible assumption | simp +contextual (maxDischargeDepth := 30) [*, sound_foldl, sound_ite, SoundParts, memWrite_wf])

@[simp] theorem State_modSkein_sound {s : State} (i : Nat) (f : SkeinSt → SkeinSt) (hS : State.Sound s) :
    State.Sound (State.modSkein s i f) := by
  unfold State.modSkein
  repeat' first
  | with_reducible assumption
  | split
  | with_reducible refine sound_foldl ?_ (fun _ _ _ => ?_)
  all_goals try simp only [pair_eq] at *
  all_goals try casesm* _ ∧ _
  all_goals try subst_vars
  all_goals (first | with_reducible assumption | simp +contextual (maxDischargeDepth := 30) [*, sound_foldl, sound_ite, SoundParts, memWrite_wf])

@[simp] theorem State_modNeedle_sound {s : State} (i : Nat) (f : NeedleSt → NeedleSt) (hS : State.Sound s) :
    State.Sound (State.modNeedle s i f) := by
  unfold State.modNeedle
  repeat' first
  | with_reducible assumption
  | split
  | with_reducible refine sound_foldl ?_ (fun _ _ _ => ?_)
  all_goals try simp only [pair_eq] at *
  all_goals try casesm* _ ∧ _
  all_goals try subst_vars
  all_goals (first | with_reducible assumption | simp +contextual (maxDischargeDepth := 30) [*, sound_foldl, sound_ite, SoundParts, memWrite_wf])

@[simp] theorem State_modSource_sound {s : State} (i : Nat) (f : SrcSt → SrcSt) (hS : State.Sound s) :
    State.Sound (State.modSource s i f) := by
  unfold State.modSource
  repeat' first
  | with_reducible assumption
  | split
  | with_reducible refine sound_foldl ?_ (fun _ _ _ => ?_)
  all_goals try simp only [pair_eq] at *
  all_goals try casesm* _ ∧ _
  all_goals try subst_vars
  all_goals (first | with_reducible assumption | simp +contextual (maxDischargeDepth := 30) [*, sound_foldl, sound_ite, SoundParts, memWrite_wf])

@[simp] theorem State_modPorter_sound {s : State} (i : Nat) (f : PorterSt → PorterSt) (hS : State.Sound s) :
    State.Sound (State.modPorter s i f) := by
  unfold State.modPorter
  repeat' first
  | with_reducible assumption
  | split
  | with_reducible refine sound_foldl ?_ (fun _ _ _ => ?_)
  all_goals try simp only [pair_eq] at *
  all_goals try casesm* _ ∧ _
  all_goals try subst_vars
  all_goals (first | with_reducible assumption | simp +contextual (maxDischargeDepth := 30) [*, sound_foldl, sound_ite, SoundParts, memWrite_wf])

@[simp] theorem State_modDp_sound {s : State} (i : Nat) (f : DpSt → DpSt) (hS : State.Sound s) :
    State.Sound (State.modDp s i f) := by
  unfold State.modDp
  repeat' first
  | with_reducible assumption
  | split
  | with_reducible refine sound_foldl ?_ (fun _ _ _ => ?_)
  all_goals try simp only [pair_eq] at *
  all_goals try casesm* _ ∧ _
  all_goals try subst_vars
  all_goals (first | with_reducible assumption | simp +contextual (maxDischargeDepth := 30) [*, sound_foldl, sound_ite, SoundParts, memWrite_wf])

@[simp] theorem State_modRoute_sound {s : State} (i : Nat) (f : RouteSt → RouteSt) (hS : State.Sound s) :
    State.Sound (State.modRoute s i f) := by
  unfold State.modRoute
  repeat' first
  | with_reducible assumption
  | split
  | with_reducible refine sound_foldl ?_ (fun _ _ _ => ?_)
  all_goals try simp only [pair_eq] at *
  all_goals try casesm* _ ∧ _
  all_goals try subst_vars
  all_goals (first | with_reducible assumption | simp +contextual (maxDischargeDepth := 30) [*, sound_foldl, sound_ite, SoundParts, memWrite_wf])

@[simp] theorem State_modChannel_sound {s : State} (i : Nat) (f : ChannelSt → ChannelSt) (hS : State.Sound s) :
    State.Sound (State.modChannel s i f) := by
  unfold State.modChannel
  repeat' first
  | with_reducible assumption
  | split
  | with_reducible refine sound_foldl ?_ (fun _ _ _ => ?_)
  all_goals try simp only [pair_eq] at *
  all_goals try casesm* _ ∧ _
  all_goals try subst_vars
  all_goals (first | with_reducible assumption | simp +contextual (maxDischargeDepth := 30) [*, sound_foldl, sound_ite, SoundParts, memWrite_wf])

@[simp] theorem State_modContext_sound {s : State} (i : Nat) (f : ReContext → ReContext) (hS : State.Sound s) :
    State.Sound (State.modContext s i f) := by
  unfold State.modContext
  repeat' first
  | with_reducible assumption
  | split
  | with_reducible refine sound_foldl ?_ (fun _ _ _ => ?_)
  all_goals try simp only [pair_eq] at *
  all_goals try casesm* _ ∧ _
  all_goals try subst_vars
  all_goals (first | with_reducible assumption | simp +contextual (maxDischargeDepth := 30) [*, sound_foldl, sound_ite, SoundParts, memWrite_wf])

@[simp] theorem State_modCore_sound {s : State} (i : Nat) (f : CoreSt → CoreSt) (hS : State.Sound s) :
    State.Sound (State.modCore s i f) := by
  unfold State.modCore
  repeat' first
  | with_reducible assumption
  | split
  | with_reducible refine sound_foldl ?_ (fun _ _ _ => ?_)
  all_goals try simp only [pair_eq] at *
  all_goals try casesm* _ ∧ _
  all_goals try subst_vars
  all_goals (first | with_reducible assumption | simp +contextual (maxDischargeDepth := 30) [*, sound_foldl, sound_ite, SoundParts, memWrite_wf])

@[simp] theorem State_modCmp_sound {s : State} (i : Nat) (f : CmpSt → CmpSt) (hS : State.Sound s) :
    State.Sound (State.modCmp s i f) := by
  unfold State.modCmp
  repeat' first
  | with_reducible assumption
  | split
  | with_reducible refine sound_foldl ?_ (fun _ _ _ => ?_)
  all_goals try simp only [pair_eq] at *
  all_goals try casesm* _ ∧ _
  all_goals try subst_vars
  all_goals (first | with_reducible assumption | simp +contextual (maxDischargeDepth := 30) [*, sound_foldl, sound_ite, SoundParts, memWrite_wf])

@[simp] theorem State_modCnt_sound {s : State} (i : Nat) (f : CntSt → CntSt) (hS : State.Sound s) :
    State.Sound (State.modCnt s i f) := by
  unfold State.modCnt
  repeat' first
  | with_reducible assumption
  | split
  | with_reducible refine sound_foldl ?_ (fun _ _ _ => ?_)
  all_goals try simp only [pair_eq] at *
  all_goals try casesm* _ ∧ _
  all_goals try subst_vars
  all_goals (first | with_reducible assumption | simp +contextual (maxDischargeDepth := 30) [*, sound_foldl, sound_ite, SoundParts, memWrite_wf])

@[simp] theorem State_modPort_sound {s : State} (i : Nat) (f : PortSt → PortSt) (hS : State.Sound s) :
    State.Sound (State.modPort s i f) := by
  unfold State.modPort
  repeat' first
  | with_reducible assumption
  | split
  | with_reducible refine sound_foldl ?_ (fun _ _ _ => ?_)
  all_goals try simp only [pair_eq] at *
  all_goals try casesm* _ ∧ _
  all_goals try subst_vars
  all_goals (first | with_reducible assumption | simp +contextual (maxDischargeDepth := 30) [*, sound_foldl, sound_ite, SoundParts, memWrite_wf])

@[simp] theorem State_modRail_sound {s : State} (i : Nat) (f : RailSt → RailSt) (hS : State.Sound s) :
    State.Sound (State.modRail s i f) := by
  unfold State.modRail
  repeat' first
  | with_reducible assumption
  | split
  | with_reducible refine sound_foldl ?_ (fun _ _ _ => ?_)
  all_goals try simp only [pair_eq] at *
  all_goals try casesm* _ ∧ _
  all_goals try subst_vars
  all_goals (first | with_reducible assumption | simp +contextual (maxDischargeDepth := 30) [*, sound_foldl, sound_ite, SoundParts, memWrite_wf])

@[simp] theorem State_modSlave_sound {s : State} (i : Nat) (f : SlaveSt → SlaveSt) (hS : State.Sound s) :
    State.Sound (State.modSlave s i f) := by
  unfold State.modSlave
  repeat' first
  | with_reducible assumption
  | split
  | with_reducible refine sound_foldl ?_ (fun _ _ _ => ?_)
  all_goals try simp only [pair_eq] at *
  all_goals try casesm* _ ∧ _
  all_goals try subst_vars
  all_goals (first | with_reducible assumption | simp +contextual (maxDischargeDepth := 30) [*, sound_foldl, sound_ite, SoundParts, memWrite_wf])

@[simp] theorem State_setReg_sound {s : State} (r : Reg) (i : Nat) (j : Nat) (v : Word) (hS : State.Sound s) :
    State.Sound (State.setReg s r i j v) := by
  unfold State.setReg
  repeat' first
  | with_reducible assumption
  | split
  | with_reducible refine sound_foldl ?_ (fun _ _ _ => ?_)
  all_goals try simp only [pair_eq] at *
  all_goals try casesm* _ ∧ _
  all_goals try subst_vars
  all_goals (first | with_reducible assumption | simp +contextual (maxDischargeDepth := 30) [*, sound_foldl, sound_ite, SoundParts, memWrite_wf])

@[simp] theorem State_setAct_sound {s : State} (r : Reg) (i : Nat) (j : Nat) (v : Word) (hS : State.Sound s) :
    State.Sound (State.setAct s r i j v) := by
  unfold State.setAct
  repeat' first
  | with_reducible assumption
  | split
  | with_reducible refine sound_foldl ?_ (fun _ _ _ => ?_)
  all_goals try simp only [pair_eq] at *
  all_goals try casesm* _ ∧ _
  all_goals try subst_vars
  all_goals (first | with_reducible assumption | simp +contextual (maxDischargeDepth := 30) [*, sound_foldl, sound_ite, SoundParts, memWrite_wf])

@[simp] theorem State_setStored_sound {s : State} (r : Reg) (i : Nat) (j : Nat) (v : Word) (hS : State.Sound s) :
    State.Sound (State.setStored s r i j v) := by
  unfold State.setStored
  repeat' first
  | with_reducible assumption
  | split
  | with_reducible refine sound_foldl ?_ (fun _ _ _ => ?_)
  all_goals try simp only [pair_eq] at *
  all_goals try casesm* _ ∧ _
  all_goals try subst_vars
  all_goals (first | with_reducible assumption | simp +contextual (maxDischargeDepth := 30) [*, sound_foldl, sound_ite, SoundParts, memWrite_wf])

@[simp] theorem State_setPair_sound {s : State} (low : Reg) (i : Nat) (v : Nat) (hS : State.Sound s) :
    State.Sound (State.setPair s low i v) := by
  unfold State.setPair
  repeat' first
  | with_reducible assumption
  | split
  | with_reducible refine sound_foldl ?_ (fun _ _ _ => ?_)
  all_goals try simp only [pair_eq] at *
  all_goals try casesm* _ ∧ _
  all_goals try subst_vars
  all_goals (first | with_reducible assumption | simp +contextual (maxDischargeDepth := 30) [*, sound_foldl, sound_ite, SoundParts, memWrite_wf])

@[simp] theorem State_takeFree_sound {s : State} (hS : s.Sound) : s.takeFree.2.Sound := by
  unfold State.takeFree; simp [*, sound_ite, SoundParts, memWrite_wf]

@[simp] theorem State_send_sound {s : State} (m : OutMsg) (hS : State.Sound s) :
    State.Sound (State.send s m) := by
  unfold State.send
  repeat' first
  | with_reducible assumption
  | split
  | with_reducible refine sound_foldl ?_ (fun _ _ _ => ?_)
  all_goals try simp only [pair_eq] at *
  all_goals try casesm* _ ∧ _
  all_goals try subst_vars
  all_goals (first | with_reducible assumption | simp +contextual (maxDischargeDepth := 30) [*, sound_foldl, sound_ite, SoundParts, memWrite_wf])

theorem ledger_write_sound {l : LedgerSt} (e : Entry) (h1 : l.entries.length ≤ 64) (h2 : l.held.length ≤ 16) :
    (l.write e).1.entries.length ≤ 64 ∧ (l.write e).1.held.length ≤ 16 := by
  have hc : ∀ c, (l.countClass c).entries = l.entries ∧ (l.countClass c).held = l.held := by
    intro c; unfold LedgerSt.countClass; split <;> simp
  unfold LedgerSt.write
  split
  · split
    · exact ⟨h1, by simp; omega⟩
    · exact ⟨by rw [(hc _).1]; exact h1, by rw [(hc _).2]; exact h2⟩
  · split
    · exact ⟨by simp; omega, by rw [(hc _).2]; exact h2⟩
    · exact ⟨by rw [(hc _).1]; exact h1, by rw [(hc _).2]; exact h2⟩

@[simp] theorem ledgerWrite_sound {s : State} (e : Entry) (hs : s.Sound) : (ledgerWrite s e).1.Sound := by
  unfold ledgerWrite
  have := ledger_write_sound e hs.2 hs.3
  simp [*, sound_ite, SoundParts, memWrite_wf]

@[simp] theorem State_putBlock_sound {s : State} (a : Nat) (bs : List Byte) (hS : State.Sound s) :
    State.Sound (State.putBlock s a bs) := by
  unfold State.putBlock
  repeat' first
  | with_reducible assumption
  | split
  | with_reducible refine sound_foldl ?_ (fun _ _ _ => ?_)
  all_goals try simp only [pair_eq] at *
  all_goals try casesm* _ ∧ _
  all_goals try subst_vars
  all_goals (first | with_reducible assumption | simp +contextual (maxDischargeDepth := 30) [*, sound_foldl, sound_ite, SoundParts, memWrite_wf])

theorem writeSpans_sound (ring stop : Bool) (l : List (Nat × Nat)) (bs : List Byte) {s : State} (f) (hs : s.Sound) :
    (State.writeSpans ring stop l bs s f).1.Sound := by
  induction l generalizing bs s f with
  | nil => exact hs
  | cons p l ih =>
    obtain ⟨a, n⟩ := p
    unfold State.writeSpans
    split
    · split
      · exact hs
      · exact ih _ _ hs
    · exact ih _ _ (State_putBlock_sound _ _ hs)

@[simp] theorem State_storeWrite_sound {s : State} (a : Nat) (bs : List Byte) (ring stop : Bool) (hs : s.Sound) :
    (s.storeWrite a bs ring stop).1.Sound := writeSpans_sound _ _ _ _ _ hs

@[simp] theorem State_loseEvent_sound {s : State} (hS : State.Sound s) :
    State.Sound (State.loseEvent s) := by
  unfold State.loseEvent
  repeat' first
  | with_reducible assumption
  | split
  | with_reducible refine sound_foldl ?_ (fun _ _ _ => ?_)
  all_goals try simp only [pair_eq] at *
  all_goals try casesm* _ ∧ _
  all_goals try subst_vars
  all_goals (first | with_reducible assumption | simp +contextual (maxDischargeDepth := 30) [*, sound_foldl, sound_ite, SoundParts, memWrite_wf])

@[simp] theorem State_writeOutbound_sound {s : State} (b : Bale) (hS : State.Sound s) :
    State.Sound (State.writeOutbound s b) := by
  unfold State.writeOutbound
  repeat' first
  | with_reducible assumption
  | split
  | with_reducible refine sound_foldl ?_ (fun _ _ _ => ?_)
  all_goals try simp only [pair_eq] at *
  all_goals try casesm* _ ∧ _
  all_goals try subst_vars
  all_goals (first | with_reducible assumption | simp +contextual (maxDischargeDepth := 30) [*, sound_foldl, sound_ite, SoundParts, memWrite_wf])

@[simp] theorem State_emit_sound {s : State} (b : Bale) (hS : State.Sound s) :
    State.Sound (State.emit s b).1 := by
  unfold State.emit
  repeat' first
  | with_reducible assumption
  | split
  | with_reducible refine sound_foldl ?_ (fun _ _ _ => ?_)
  all_goals try simp only [pair_eq] at *
  all_goals try casesm* _ ∧ _
  all_goals try subst_vars
  all_goals (first | with_reducible assumption | simp +contextual (maxDischargeDepth := 30) [*, sound_foldl, sound_ite, SoundParts, memWrite_wf])

@[simp] theorem State_postBale_sound {s : State} (b : Bale) (hS : State.Sound s) :
    State.Sound (State.postBale s b) := by
  unfold State.postBale
  repeat' first
  | with_reducible assumption
  | split
  | with_reducible refine sound_foldl ?_ (fun _ _ _ => ?_)
  all_goals try simp only [pair_eq] at *
  all_goals try casesm* _ ∧ _
  all_goals try subst_vars
  all_goals (first | with_reducible assumption | simp +contextual (maxDischargeDepth := 30) [*, sound_foldl, sound_ite, SoundParts, memWrite_wf])

@[simp] theorem State_event_sound {s : State} (code : Nat) (detail : List Byte) (head : Nat) (tag : Nat) (hS : State.Sound s) :
    State.Sound (State.event s code detail head tag) := by
  unfold State.event
  repeat' first
  | with_reducible assumption
  | split
  | with_reducible refine sound_foldl ?_ (fun _ _ _ => ?_)
  all_goals try simp only [pair_eq] at *
  all_goals try casesm* _ ∧ _
  all_goals try subst_vars
  all_goals (first | with_reducible assumption | simp +contextual (maxDischargeDepth := 30) [*, sound_foldl, sound_ite, SoundParts, memWrite_wf])

@[simp] theorem State_ledgerEvent_sound {s : State} (full : Nat) (hS : State.Sound s) :
    State.Sound (State.ledgerEvent s full) := by
  unfold State.ledgerEvent
  repeat' first
  | with_reducible assumption
  | split
  | with_reducible refine sound_foldl ?_ (fun _ _ _ => ?_)
  all_goals try simp only [pair_eq] at *
  all_goals try casesm* _ ∧ _
  all_goals try subst_vars
  all_goals (first | with_reducible assumption | simp +contextual (maxDischargeDepth := 30) [*, sound_foldl, sound_ite, SoundParts, memWrite_wf])

@[simp] theorem State_record_p_sound {s : State} (e : Entry) (hS : State.Sound s) :
    State.Sound (State.record' s e) := by
  unfold State.record'
  repeat' first
  | with_reducible assumption
  | split
  | with_reducible refine sound_foldl ?_ (fun _ _ _ => ?_)
  all_goals try simp only [pair_eq] at *
  all_goals try casesm* _ ∧ _
  all_goals try subst_vars
  all_goals (first | with_reducible assumption | simp +contextual (maxDischargeDepth := 30) [*, sound_foldl, sound_ite, SoundParts, memWrite_wf])

@[simp] theorem State_record_sound {s : State} (source : Nat) (cls : Nat) (detail : List (Nat × Nat)) (addr : Nat) (head : Option Nat) (secondary : Bool) (hS : State.Sound s) :
    State.Sound (State.record s source cls detail addr head secondary) := by
  unfold State.record
  repeat' first
  | with_reducible assumption
  | split
  | with_reducible refine sound_foldl ?_ (fun _ _ _ => ?_)
  all_goals try simp only [pair_eq] at *
  all_goals try casesm* _ ∧ _
  all_goals try subst_vars
  all_goals (first | with_reducible assumption | simp +contextual (maxDischargeDepth := 30) [*, sound_foldl, sound_ite, SoundParts, memWrite_wf])

@[simp] theorem State_admission_sound {s : State} (hS : State.Sound s) :
    State.Sound (State.admission s) := by
  unfold State.admission
  repeat' first
  | with_reducible assumption
  | split
  | with_reducible refine sound_foldl ?_ (fun _ _ _ => ?_)
  all_goals try simp only [pair_eq] at *
  all_goals try casesm* _ ∧ _
  all_goals try subst_vars
  all_goals (first | with_reducible assumption | simp +contextual (maxDischargeDepth := 30) [*, sound_foldl, sound_ite, SoundParts, memWrite_wf])

@[simp] theorem State_readmit_sound {s : State} (h : Nat) (hS : State.Sound s) :
    State.Sound (State.readmit s h) := by
  unfold State.readmit
  repeat' first
  | with_reducible assumption
  | split
  | with_reducible refine sound_foldl ?_ (fun _ _ _ => ?_)
  all_goals try simp only [pair_eq] at *
  all_goals try casesm* _ ∧ _
  all_goals try subst_vars
  all_goals (first | with_reducible assumption | simp +contextual (maxDischargeDepth := 30) [*, sound_foldl, sound_ite, SoundParts, memWrite_wf])

@[simp] theorem State_setGroup_sound {s : State} (g : Nat) (x : Group) (hS : State.Sound s) :
    State.Sound (State.setGroup s g x) := by
  unfold State.setGroup
  repeat' first
  | with_reducible assumption
  | split
  | with_reducible refine sound_foldl ?_ (fun _ _ _ => ?_)
  all_goals try simp only [pair_eq] at *
  all_goals try casesm* _ ∧ _
  all_goals try subst_vars
  all_goals (first | with_reducible assumption | simp +contextual (maxDischargeDepth := 30) [*, sound_foldl, sound_ite, SoundParts, memWrite_wf])

@[simp] theorem State_setDirty_sound {s : State} (a : Nat) (d : Option Dirty) (hS : State.Sound s) :
    State.Sound (State.setDirty s a d) := by
  unfold State.setDirty
  repeat' first
  | with_reducible assumption
  | split
  | with_reducible refine sound_foldl ?_ (fun _ _ _ => ?_)
  all_goals try simp only [pair_eq] at *
  all_goals try casesm* _ ∧ _
  all_goals try subst_vars
  all_goals (first | with_reducible assumption | simp +contextual (maxDischargeDepth := 30) [*, sound_foldl, sound_ite, SoundParts, memWrite_wf])

@[simp] theorem State_settleGroup_sound {s : State} (g : Nat) (hS : State.Sound s) :
    State.Sound (State.settleGroup s g) := by
  unfold State.settleGroup
  repeat' first
  | with_reducible assumption
  | split
  | with_reducible refine sound_foldl ?_ (fun _ _ _ => ?_)
  all_goals try simp only [pair_eq] at *
  all_goals try casesm* _ ∧ _
  all_goals try subst_vars
  all_goals (first | with_reducible assumption | simp +contextual (maxDischargeDepth := 30) [*, sound_foldl, sound_ite, SoundParts, memWrite_wf])

@[simp] theorem State_leaveGroup_sound {s : State} (g : Nat) (hS : State.Sound s) :
    State.Sound (State.leaveGroup s g) := by
  unfold State.leaveGroup
  repeat' first
  | with_reducible assumption
  | (extract_lets +onlyGivenNames x
     first
     | (have hx : State.Sound x := by
          (dsimp only [x]
           repeat' first
           | with_reducible assumption
           | split
           | with_reducible refine sound_foldl ?_ (fun _ _ _ => ?_)
           all_goals try simp only [pair_eq] at *
           all_goals try casesm* _ ∧ _
           all_goals try subst_vars
           all_goals (first | with_reducible assumption | simp +contextual (maxDischargeDepth := 30) [*, sound_foldl, sound_ite, SoundParts, memWrite_wf]))
        clear_value x)
     | skip)
  | split
  | with_reducible refine sound_foldl ?_ (fun _ _ _ => ?_)
  all_goals try simp only [pair_eq] at *
  all_goals try casesm* _ ∧ _
  all_goals try subst_vars
  all_goals (first | with_reducible assumption | (simp +contextual (maxDischargeDepth := 30) [*, sound_foldl, sound_ite, SoundParts, memWrite_wf]; done) | (simp +contextual +zetaDelta (maxDischargeDepth := 30) [*, sound_foldl, sound_ite, SoundParts, memWrite_wf]; done))

@[simp] theorem State_tagWrite_sound {s : State} (r : Reg) (i : Nat) (j : Nat) (v : Word) (hS : State.Sound s) :
    State.Sound (State.tagWrite s r i j v) := by
  unfold State.tagWrite
  repeat' first
  | with_reducible assumption
  | (extract_lets +onlyGivenNames x
     first
     | (have hx : State.Sound x := by
          (dsimp only [x]
           repeat' first
           | with_reducible assumption
           | split
           | with_reducible refine sound_foldl ?_ (fun _ _ _ => ?_)
           all_goals try simp only [pair_eq] at *
           all_goals try casesm* _ ∧ _
           all_goals try subst_vars
           all_goals (first | with_reducible assumption | simp +contextual (maxDischargeDepth := 30) [*, sound_foldl, sound_ite, SoundParts, memWrite_wf]))
        clear_value x)
     | skip)
  | split
  | with_reducible refine sound_foldl ?_ (fun _ _ _ => ?_)
  all_goals try simp only [pair_eq] at *
  all_goals try casesm* _ ∧ _
  all_goals try subst_vars
  all_goals (first | with_reducible assumption | (simp +contextual (maxDischargeDepth := 30) [*, sound_foldl, sound_ite, SoundParts, memWrite_wf]; done) | (simp +contextual +zetaDelta (maxDischargeDepth := 30) [*, sound_foldl, sound_ite, SoundParts, memWrite_wf]; done))

@[simp] theorem State_commitGroup_sound {s : State} (g : Nat) (hS : State.Sound s) :
    State.Sound (State.commitGroup s g) := by
  unfold State.commitGroup
  repeat' first
  | with_reducible assumption
  | split
  | with_reducible refine sound_foldl ?_ (fun _ _ _ => ?_)
  all_goals try simp only [pair_eq] at *
  all_goals try casesm* _ ∧ _
  all_goals try subst_vars
  all_goals (first | with_reducible assumption | simp +contextual (maxDischargeDepth := 30) [*, sound_foldl, sound_ite, SoundParts, memWrite_wf])

@[simp] theorem State_commitMask_sound {s : State} (mask : Nat) (hS : State.Sound s) :
    State.Sound (State.commitMask s mask) := by
  unfold State.commitMask
  repeat' first
  | with_reducible assumption
  | split
  | with_reducible refine sound_foldl ?_ (fun _ _ _ => ?_)
  all_goals try simp only [pair_eq] at *
  all_goals try casesm* _ ∧ _
  all_goals try subst_vars
  all_goals (first | with_reducible assumption | simp +contextual (maxDischargeDepth := 30) [*, sound_foldl, sound_ite, SoundParts, memWrite_wf])

@[simp] theorem State_activate_sound {s : State} (a : Nat) (hS : State.Sound s) :
    State.Sound (State.activate s a) := by
  unfold State.activate
  repeat' first
  | with_reducible assumption
  | split
  | with_reducible refine sound_foldl ?_ (fun _ _ _ => ?_)
  all_goals try simp only [pair_eq] at *
  all_goals try casesm* _ ∧ _
  all_goals try subst_vars
  all_goals (first | with_reducible assumption | simp +contextual (maxDischargeDepth := 30) [*, sound_foldl, sound_ite, SoundParts, memWrite_wf])

@[simp] theorem State_leaveHead_sound {s : State} (h : Nat) (g : Nat) (moved : Bool) (hS : State.Sound s) :
    State.Sound (State.leaveHead s h g moved) := by
  unfold State.leaveHead
  repeat' first
  | with_reducible assumption
  | split
  | with_reducible refine sound_foldl ?_ (fun _ _ _ => ?_)
  all_goals try simp only [pair_eq] at *
  all_goals try casesm* _ ∧ _
  all_goals try subst_vars
  all_goals (first | with_reducible assumption | simp +contextual (maxDischargeDepth := 30) [*, sound_foldl, sound_ite, SoundParts, memWrite_wf])

@[simp] theorem State_transferGroup_sound (carried : List (Nat × Dirty)) (h : Nat) {s : State} (g : Nat) (hS : State.Sound s) :
    State.Sound (State.transferGroup carried h s g) := by
  unfold State.transferGroup
  repeat' first
  | with_reducible assumption
  | split
  | with_reducible refine sound_foldl ?_ (fun _ _ _ => ?_)
  all_goals try simp only [pair_eq] at *
  all_goals try casesm* _ ∧ _
  all_goals try subst_vars
  all_goals (first | with_reducible assumption | simp +contextual (maxDischargeDepth := 30) [*, sound_foldl, sound_ite, SoundParts, memWrite_wf])

@[simp] theorem State_transfer_sound {s : State} (h : Nat) (hS : State.Sound s) :
    State.Sound (State.transfer s h) := by
  unfold State.transfer
  repeat' first
  | with_reducible assumption
  | split
  | with_reducible refine sound_foldl ?_ (fun _ _ _ => ?_)
  all_goals try simp only [pair_eq] at *
  all_goals try casesm* _ ∧ _
  all_goals try subst_vars
  all_goals (first | with_reducible assumption | simp +contextual (maxDischargeDepth := 30) [*, sound_foldl, sound_ite, SoundParts, memWrite_wf])

@[simp] theorem State_discardHead_sound {s : State} (h : Nat) (hS : State.Sound s) :
    State.Sound (State.discardHead s h) := by
  unfold State.discardHead
  repeat' first
  | with_reducible assumption
  | split
  | with_reducible refine sound_foldl ?_ (fun _ _ _ => ?_)
  all_goals try simp only [pair_eq] at *
  all_goals try casesm* _ ∧ _
  all_goals try subst_vars
  all_goals (first | with_reducible assumption | simp +contextual (maxDischargeDepth := 30) [*, sound_foldl, sound_ite, SoundParts, memWrite_wf])

@[simp] theorem State_judgeSkein_sound {s : State} (h : Nat) (n : Nat) (hS : State.Sound s) :
    State.Sound (State.judgeSkein s h n) := by
  unfold State.judgeSkein
  repeat' first
  | with_reducible assumption
  | split
  | with_reducible refine sound_foldl ?_ (fun _ _ _ => ?_)
  all_goals try simp only [pair_eq] at *
  all_goals try casesm* _ ∧ _
  all_goals try subst_vars
  all_goals (first | with_reducible assumption | simp +contextual (maxDischargeDepth := 30) [*, sound_foldl, sound_ite, SoundParts, memWrite_wf])

@[simp] theorem State_latchSkein_sound {s : State} (h : Nat) (n : Nat) (hS : State.Sound s) :
    State.Sound (State.latchSkein s h n) := by
  unfold State.latchSkein
  repeat' first
  | with_reducible assumption
  | split
  | with_reducible refine sound_foldl ?_ (fun _ _ _ => ?_)
  all_goals try simp only [pair_eq] at *
  all_goals try casesm* _ ∧ _
  all_goals try subst_vars
  all_goals (first | with_reducible assumption | simp +contextual (maxDischargeDepth := 30) [*, sound_foldl, sound_ite, SoundParts, memWrite_wf])

@[simp] theorem State_issueRead_sound {s : State} (n : Nat) (hS : State.Sound s) :
    State.Sound (State.issueRead s n) := by
  unfold State.issueRead
  repeat' first
  | with_reducible assumption
  | split
  | with_reducible refine sound_foldl ?_ (fun _ _ _ => ?_)
  all_goals try simp only [pair_eq] at *
  all_goals try casesm* _ ∧ _
  all_goals try subst_vars
  all_goals (first | with_reducible assumption | simp +contextual (maxDischargeDepth := 30) [*, sound_foldl, sound_ite, SoundParts, memWrite_wf])

@[simp] theorem State_badRead_sound {s : State} (n : Nat) (a : Nat) (y : Nat) (e : Nat × Nat) (hS : State.Sound s) :
    State.Sound (State.badRead s n a y e) := by
  unfold State.badRead
  repeat' first
  | with_reducible assumption
  | split
  | with_reducible refine sound_foldl ?_ (fun _ _ _ => ?_)
  all_goals try simp only [pair_eq] at *
  all_goals try casesm* _ ∧ _
  all_goals try subst_vars
  all_goals (first | with_reducible assumption | simp +contextual (maxDischargeDepth := 30) [*, sound_foldl, sound_ite, SoundParts, memWrite_wf])

@[simp] theorem State_returnRead_sound {s : State} (n : Nat) (i : Nat) (hS : State.Sound s) :
    State.Sound (State.returnRead s n i) := by
  unfold State.returnRead
  repeat' first
  | with_reducible assumption
  | (extract_lets +onlyGivenNames x
     first
     | (have hx : State.Sound x := by
          (dsimp only [x]
           repeat' first
           | with_reducible assumption
           | split
           | with_reducible refine sound_foldl ?_ (fun _ _ _ => ?_)
           all_goals try simp only [pair_eq] at *
           all_goals try casesm* _ ∧ _
           all_goals try subst_vars
           all_goals (first | with_reducible assumption | simp +contextual (maxDischargeDepth := 30) [*, sound_foldl, sound_ite, SoundParts, memWrite_wf]))
        clear_value x)
     | skip)
  | split
  | with_reducible refine sound_foldl ?_ (fun _ _ _ => ?_)
  all_goals try simp only [pair_eq] at *
  all_goals try casesm* _ ∧ _
  all_goals try subst_vars
  all_goals (first | with_reducible assumption | (simp +contextual (maxDischargeDepth := 30) [*, sound_foldl, sound_ite, SoundParts, memWrite_wf]; done) | (simp +contextual +zetaDelta (maxDischargeDepth := 30) [*, sound_foldl, sound_ite, SoundParts, memWrite_wf]; done))

@[simp] theorem State_enqueue_sound {s : State} (kind : RetireKind) (i : Nat) (cause : Nat) (hS : State.Sound s) :
    State.Sound (State.enqueue s kind i cause) := by
  unfold State.enqueue
  repeat' first
  | with_reducible assumption
  | split
  | with_reducible refine sound_foldl ?_ (fun _ _ _ => ?_)
  all_goals try simp only [pair_eq] at *
  all_goals try casesm* _ ∧ _
  all_goals try subst_vars
  all_goals (first | with_reducible assumption | simp +contextual (maxDischargeDepth := 30) [*, sound_foldl, sound_ite, SoundParts, memWrite_wf])

@[simp] theorem State_skeinParity_sound {s : State} (n : Nat) (cause : Nat) (standinBad : Bool) (hS : State.Sound s) :
    State.Sound (State.skeinParity s n cause standinBad) := by
  unfold State.skeinParity
  repeat' first
  | with_reducible assumption
  | split
  | with_reducible refine sound_foldl ?_ (fun _ _ _ => ?_)
  all_goals try simp only [pair_eq] at *
  all_goals try casesm* _ ∧ _
  all_goals try subst_vars
  all_goals (first | with_reducible assumption | simp +contextual (maxDischargeDepth := 30) [*, sound_foldl, sound_ite, SoundParts, memWrite_wf])

@[simp] theorem State_routeDp_sound {s : State} (old : State) (p : Nat) (hS : s.Sound) : (s.routeDp old p).Sound := by
  unfold State.routeDp
  extract_lets was now
  generalize now = b
  split
  · exact hS
  · rcases b with _ | b <;> dsimp only
    · exact State_modDp_sound _ _ hS
    · split
      · exact State_modDp_sound _ _ hS
      · exact hS

@[simp] theorem State_portRecord_sound {s : State} (c : Nat) (reason : Nat) (hS : State.Sound s) :
    State.Sound (State.portRecord s c reason) := by
  unfold State.portRecord
  repeat' first
  | with_reducible assumption
  | split
  | with_reducible refine sound_foldl ?_ (fun _ _ _ => ?_)
  all_goals try simp only [pair_eq] at *
  all_goals try casesm* _ ∧ _
  all_goals try subst_vars
  all_goals (first | with_reducible assumption | simp +contextual (maxDischargeDepth := 30) [*, sound_foldl, sound_ite, SoundParts, memWrite_wf])

@[simp] theorem State_reportPort_sound {old : State} {s : State} (c : Nat) (hS : State.Sound old) (hS1 : State.Sound s) :
    State.Sound (State.reportPort old s c) := by
  unfold State.reportPort
  repeat' first
  | with_reducible assumption
  | split
  | with_reducible refine sound_foldl ?_ (fun _ _ _ => ?_)
  all_goals try simp only [pair_eq] at *
  all_goals try casesm* _ ∧ _
  all_goals try subst_vars
  all_goals (first | with_reducible assumption | simp +contextual (maxDischargeDepth := 30) [*, sound_foldl, sound_ite, SoundParts, memWrite_wf])

@[simp] theorem State_settlePorts_sound {s : State} {old : State} (hS : State.Sound s) (hS1 : State.Sound old) :
    State.Sound (State.settlePorts s old) := by
  unfold State.settlePorts
  repeat' first
  | with_reducible assumption
  | split
  | with_reducible refine sound_foldl ?_ (fun _ _ _ => ?_)
  all_goals try simp only [pair_eq] at *
  all_goals try casesm* _ ∧ _
  all_goals try subst_vars
  all_goals (first | with_reducible assumption | simp +contextual (maxDischargeDepth := 30) [*, sound_foldl, sound_ite, SoundParts, memWrite_wf])

@[simp] theorem State_startTraining_sound {s : State} (p : Nat) (attempts : Nat) (hS : State.Sound s) :
    State.Sound (State.startTraining s p attempts) := by
  unfold State.startTraining
  repeat' first
  | with_reducible assumption
  | split
  | with_reducible refine sound_foldl ?_ (fun _ _ _ => ?_)
  all_goals try simp only [pair_eq] at *
  all_goals try casesm* _ ∧ _
  all_goals try subst_vars
  all_goals (first | with_reducible assumption | simp +contextual (maxDischargeDepth := 30) [*, sound_foldl, sound_ite, SoundParts, memWrite_wf])

@[simp] theorem State_sinkRead_sound {s : State} (p : Nat) (sink : SinkCaps) (hS : State.Sound s) :
    State.Sound (State.sinkRead s p sink) := by
  unfold State.sinkRead
  repeat' first
  | with_reducible assumption
  | split
  | with_reducible refine sound_foldl ?_ (fun _ _ _ => ?_)
  all_goals try simp only [pair_eq] at *
  all_goals try casesm* _ ∧ _
  all_goals try subst_vars
  all_goals (first | with_reducible assumption | simp +contextual (maxDischargeDepth := 30) [*, sound_foldl, sound_ite, SoundParts, memWrite_wf])

@[simp] theorem State_trainingDone_sound {s : State} (p : Nat) (steps : Nat) (hS : State.Sound s) :
    State.Sound (State.trainingDone s p steps) := by
  unfold State.trainingDone
  repeat' first
  | with_reducible assumption
  | split
  | with_reducible refine sound_foldl ?_ (fun _ _ _ => ?_)
  all_goals try simp only [pair_eq] at *
  all_goals try casesm* _ ∧ _
  all_goals try subst_vars
  all_goals (first | with_reducible assumption | simp +contextual (maxDischargeDepth := 30) [*, sound_foldl, sound_ite, SoundParts, memWrite_wf])

@[simp] theorem State_hpdPulse_sound {s : State} (p : Nat) (lockLost : Bool) (hS : State.Sound s) :
    State.Sound (State.hpdPulse s p lockLost) := by
  unfold State.hpdPulse
  repeat' first
  | with_reducible assumption
  | split
  | with_reducible refine sound_foldl ?_ (fun _ _ _ => ?_)
  all_goals try simp only [pair_eq] at *
  all_goals try casesm* _ ∧ _
  all_goals try subst_vars
  all_goals (first | with_reducible assumption | simp +contextual (maxDischargeDepth := 30) [*, sound_foldl, sound_ite, SoundParts, memWrite_wf])

@[simp] theorem State_unplug_sound {s : State} (p : Nat) (hS : State.Sound s) :
    State.Sound (State.unplug s p) := by
  unfold State.unplug
  repeat' first
  | with_reducible assumption
  | split
  | with_reducible refine sound_foldl ?_ (fun _ _ _ => ?_)
  all_goals try simp only [pair_eq] at *
  all_goals try casesm* _ ∧ _
  all_goals try subst_vars
  all_goals (first | with_reducible assumption | simp +contextual (maxDischargeDepth := 30) [*, sound_foldl, sound_ite, SoundParts, memWrite_wf])

@[simp] theorem State_wroteDpConfig_sound {s : State} (p : Nat) (old : Word) (v : Word) (hS : State.Sound s) :
    State.Sound (State.wroteDpConfig s p old v) := by
  unfold State.wroteDpConfig
  repeat' first
  | with_reducible assumption
  | split
  | with_reducible refine sound_foldl ?_ (fun _ _ _ => ?_)
  all_goals try simp only [pair_eq] at *
  all_goals try casesm* _ ∧ _
  all_goals try subst_vars
  all_goals (first | with_reducible assumption | simp +contextual (maxDischargeDepth := 30) [*, sound_foldl, sound_ite, SoundParts, memWrite_wf])

@[simp] theorem State_sendNet_sound {s : State} (p : Nat) (dscp : Nat) (m : NetMsg) (hS : State.Sound s) :
    State.Sound (State.sendNet s p dscp m) := by
  unfold State.sendNet
  repeat' first
  | with_reducible assumption
  | split
  | with_reducible refine sound_foldl ?_ (fun _ _ _ => ?_)
  all_goals try simp only [pair_eq] at *
  all_goals try casesm* _ ∧ _
  all_goals try subst_vars
  all_goals (first | with_reducible assumption | simp +contextual (maxDischargeDepth := 30) [*, sound_foldl, sound_ite, SoundParts, memWrite_wf])

@[simp] theorem State_sendPurl_sound {s : State} (p : Nat) (m : NetMsg) (hS : State.Sound s) :
    State.Sound (State.sendPurl s p m) := by
  unfold State.sendPurl
  repeat' first
  | with_reducible assumption
  | split
  | with_reducible refine sound_foldl ?_ (fun _ _ _ => ?_)
  all_goals try simp only [pair_eq] at *
  all_goals try casesm* _ ∧ _
  all_goals try subst_vars
  all_goals (first | with_reducible assumption | simp +contextual (maxDischargeDepth := 30) [*, sound_foldl, sound_ite, SoundParts, memWrite_wf])

@[simp] theorem State_purlReply_sound {s : State} (req : PurlReq) (opcode : Nat) (status : Nat) (payload : List Byte) (executed : Bool) (session : Option Word) (param : Nat) (hS : State.Sound s) :
    State.Sound (State.purlReply s req opcode status payload executed session param) := by
  unfold State.purlReply
  repeat' first
  | with_reducible assumption
  | split
  | with_reducible refine sound_foldl ?_ (fun _ _ _ => ?_)
  all_goals try simp only [pair_eq] at *
  all_goals try casesm* _ ∧ _
  all_goals try subst_vars
  all_goals (first | with_reducible assumption | simp +contextual (maxDischargeDepth := 30) [*, sound_foldl, sound_ite, SoundParts, memWrite_wf])

@[simp] theorem State_usbRecord_sound {s : State} (request : Nat) (result : Nat) (completed : Nat) (hS : State.Sound s) :
    State.Sound (State.usbRecord s request result completed) := by
  unfold State.usbRecord
  repeat' first
  | with_reducible assumption
  | split
  | with_reducible refine sound_foldl ?_ (fun _ _ _ => ?_)
  all_goals try simp only [pair_eq] at *
  all_goals try casesm* _ ∧ _
  all_goals try subst_vars
  all_goals (first | with_reducible assumption | simp +contextual (maxDischargeDepth := 30) [*, sound_foldl, sound_ite, SoundParts, memWrite_wf])

@[simp] theorem State_usbFinish_sound {s : State} (request : Nat) (result : Nat) (completed : Nat) (hS : State.Sound s) :
    State.Sound (State.usbFinish s request result completed) := by
  unfold State.usbFinish
  repeat' first
  | with_reducible assumption
  | split
  | with_reducible refine sound_foldl ?_ (fun _ _ _ => ?_)
  all_goals try simp only [pair_eq] at *
  all_goals try casesm* _ ∧ _
  all_goals try subst_vars
  all_goals (first | with_reducible assumption | simp +contextual (maxDischargeDepth := 30) [*, sound_foldl, sound_ite, SoundParts, memWrite_wf])

@[simp] theorem State_dropPost_sound {s : State} (r : Nat) (b : Bale) (producer : Nat) (hS : State.Sound s) :
    State.Sound (State.dropPost s r b producer) := by
  unfold State.dropPost
  repeat' first
  | with_reducible assumption
  | split
  | with_reducible refine sound_foldl ?_ (fun _ _ _ => ?_)
  all_goals try simp only [pair_eq] at *
  all_goals try casesm* _ ∧ _
  all_goals try subst_vars
  all_goals (first | with_reducible assumption | simp +contextual (maxDischargeDepth := 30) [*, sound_foldl, sound_ite, SoundParts, memWrite_wf])

@[simp] theorem State_acceptPost_sound {s : State} (r : Nat) (bales : List Bale) (p : Producer) (hS : State.Sound s) :
    State.Sound (State.acceptPost s r bales p).1 := by
  unfold State.acceptPost
  repeat' first
  | with_reducible assumption
  | split
  | with_reducible refine sound_foldl ?_ (fun _ _ _ => ?_)
  all_goals try simp only [pair_eq] at *
  all_goals try casesm* _ ∧ _
  all_goals try subst_vars
  all_goals (first | with_reducible assumption | simp +contextual (maxDischargeDepth := 30) [*, sound_foldl, sound_ite, SoundParts, memWrite_wf])

@[simp] theorem State_setFence_sound {s : State} (f : Nat) (v : Nat) (hS : State.Sound s) :
    State.Sound (State.setFence s f v) := by
  unfold State.setFence
  repeat' first
  | with_reducible assumption
  | split
  | with_reducible refine sound_foldl ?_ (fun _ _ _ => ?_)
  all_goals try simp only [pair_eq] at *
  all_goals try casesm* _ ∧ _
  all_goals try subst_vars
  all_goals (first | with_reducible assumption | simp +contextual (maxDischargeDepth := 30) [*, sound_foldl, sound_ite, SoundParts, memWrite_wf])

@[simp] theorem State_signalFence_sound {s : State} (f : Nat) (hS : State.Sound s) :
    State.Sound (State.signalFence s f) := by
  unfold State.signalFence
  repeat' first
  | with_reducible assumption
  | split
  | with_reducible refine sound_foldl ?_ (fun _ _ _ => ?_)
  all_goals try simp only [pair_eq] at *
  all_goals try casesm* _ ∧ _
  all_goals try subst_vars
  all_goals (first | with_reducible assumption | simp +contextual (maxDischargeDepth := 30) [*, sound_foldl, sound_ite, SoundParts, memWrite_wf])

@[simp] theorem State_postInternal_sound {s : State} (r : Nat) (b : Bale) (p : Producer) (hS : State.Sound s) :
    State.Sound (State.postInternal s r b p) := by
  unfold State.postInternal
  repeat' first
  | with_reducible assumption
  | split
  | with_reducible refine sound_foldl ?_ (fun _ _ _ => ?_)
  all_goals try simp only [pair_eq] at *
  all_goals try casesm* _ ∧ _
  all_goals try subst_vars
  all_goals (first | with_reducible assumption | simp +contextual (maxDischargeDepth := 30) [*, sound_foldl, sound_ite, SoundParts, memWrite_wf])

@[simp] theorem State_writeBales_sound {s : State} (r i : Nat) (l : List Bale) (hS : s.Sound) :
    (State.writeBales s r i l).1.Sound := by
  induction l generalizing s i with
  | nil => exact hS
  | cons b l ih =>
    rw [State.writeBales]
    have h := State_storeWrite_sound ((s.route r).slotAddr i) b true false hS
    generalize s.storeWrite ((s.route r).slotAddr i) b true false = p at h ⊢
    rcases p with ⟨s1, _ | e⟩
    · exact ih _ h
    · exact ih _ h

@[simp] theorem State_finishPost_sound {s : State} (p : Post) (ok : Bool) (hS : State.Sound s) :
    State.Sound (State.finishPost s p ok) := by
  unfold State.finishPost
  repeat' first
  | with_reducible assumption
  | split
  | with_reducible refine sound_foldl ?_ (fun _ _ _ => ?_)
  all_goals try simp only [pair_eq] at *
  all_goals try casesm* _ ∧ _
  all_goals try subst_vars
  all_goals (first | with_reducible assumption | simp +contextual (maxDischargeDepth := 30) [*, sound_foldl, sound_ite, SoundParts, memWrite_wf])

@[simp] theorem State_resetEvent_sound {s : State} (r : Nat) (e : Nat × Nat) (hS : State.Sound s) :
    State.Sound (State.resetEvent r s e) := by
  unfold State.resetEvent
  repeat' first
  | with_reducible assumption
  | split
  | with_reducible refine sound_foldl ?_ (fun _ _ _ => ?_)
  all_goals try simp only [pair_eq] at *
  all_goals try casesm* _ ∧ _
  all_goals try subst_vars
  all_goals (first | with_reducible assumption | simp +contextual (maxDischargeDepth := 30) [*, sound_foldl, sound_ite, SoundParts, memWrite_wf])

@[simp] theorem State_finishReset_sound {s : State} (r : Nat) (z : Resetting) (hS : State.Sound s) :
    State.Sound (State.finishReset s r z) := by
  unfold State.finishReset
  repeat' first
  | with_reducible assumption
  | (extract_lets +onlyGivenNames x
     first
     | (have hx : State.Sound x := by
          (dsimp only [x]
           repeat' first
           | with_reducible assumption
           | split
           | with_reducible refine sound_foldl ?_ (fun _ _ _ => ?_)
           all_goals try simp only [pair_eq] at *
           all_goals try casesm* _ ∧ _
           all_goals try subst_vars
           all_goals (first | with_reducible assumption | simp +contextual (maxDischargeDepth := 30) [*, sound_foldl, sound_ite, SoundParts, memWrite_wf]))
        clear_value x)
     | skip)
  | split
  | with_reducible refine sound_foldl ?_ (fun _ _ _ => ?_)
  all_goals try simp only [pair_eq] at *
  all_goals try casesm* _ ∧ _
  all_goals try subst_vars
  all_goals (first | with_reducible assumption | (simp +contextual (maxDischargeDepth := 30) [*, sound_foldl, sound_ite, SoundParts, memWrite_wf]; done) | (simp +contextual +zetaDelta (maxDischargeDepth := 30) [*, sound_foldl, sound_ite, SoundParts, memWrite_wf]; done))

@[simp] theorem State_beginReset_sound {s : State} (r : Nat) (cause : Nat) (rebind : Option RouteRec) (rebound : Nat) (hS : State.Sound s) :
    State.Sound (State.beginReset s r cause rebind rebound) := by
  unfold State.beginReset
  repeat' first
  | with_reducible assumption
  | split
  | with_reducible refine sound_foldl ?_ (fun _ _ _ => ?_)
  all_goals try simp only [pair_eq] at *
  all_goals try casesm* _ ∧ _
  all_goals try subst_vars
  all_goals (first | with_reducible assumption | simp +contextual (maxDischargeDepth := 30) [*, sound_foldl, sound_ite, SoundParts, memWrite_wf])

@[simp] theorem State_rebindWaiting_sound {s : State} (r : Nat) (b : RouteRec) (hS : State.Sound s) :
    State.Sound (State.rebindWaiting s r b) := by
  unfold State.rebindWaiting
  repeat' first
  | with_reducible assumption
  | split
  | with_reducible refine sound_foldl ?_ (fun _ _ _ => ?_)
  all_goals try simp only [pair_eq] at *
  all_goals try casesm* _ ∧ _
  all_goals try subst_vars
  all_goals (first | with_reducible assumption | simp +contextual (maxDischargeDepth := 30) [*, sound_foldl, sound_ite, SoundParts, memWrite_wf])

@[simp] theorem State_resetRoute_sound {s : State} (r : Nat) (cause : Nat) (rebind : Option RouteRec) (hS : State.Sound s) :
    State.Sound (State.resetRoute s r cause rebind) := by
  unfold State.resetRoute
  repeat' first
  | with_reducible assumption
  | split
  | with_reducible refine sound_foldl ?_ (fun _ _ _ => ?_)
  all_goals try simp only [pair_eq] at *
  all_goals try casesm* _ ∧ _
  all_goals try subst_vars
  all_goals (first | with_reducible assumption | simp +contextual (maxDischargeDepth := 30) [*, sound_foldl, sound_ite, SoundParts, memWrite_wf])

@[simp] theorem State_releaseReset_sound {s : State} (r : Nat) (hS : s.Sound) : (s.releaseReset r).Sound := by
  unfold State.releaseReset
  split
  · exact hS
  · split
    · exact hS
    · refine State_beginReset_sound (hS := ?_) ..
      exact ⟨hS.1, hS.2, hS.3, hS.4, hS.5, hS.6⟩

@[simp] theorem State_writePost_sound {s : State} (hS : State.Sound s) :
    State.Sound (State.writePost s) := by
  unfold State.writePost
  repeat' first
  | with_reducible assumption
  | split
  | with_reducible refine sound_foldl ?_ (fun _ _ _ => ?_)
  all_goals try simp only [pair_eq] at *
  all_goals try casesm* _ ∧ _
  all_goals try subst_vars
  all_goals (first | with_reducible assumption | simp +contextual (maxDischargeDepth := 30) [*, sound_foldl, sound_ite, SoundParts, memWrite_wf])

@[simp] theorem State_fetchOne_sound {s : State} (r : Nat) (hS : State.Sound s) :
    State.Sound (State.fetchOne s r) := by
  unfold State.fetchOne
  repeat' first
  | with_reducible assumption
  | split
  | with_reducible refine sound_foldl ?_ (fun _ _ _ => ?_)
  all_goals try simp only [pair_eq] at *
  all_goals try casesm* _ ∧ _
  all_goals try subst_vars
  all_goals (first | with_reducible assumption | simp +contextual (maxDischargeDepth := 30) [*, sound_foldl, sound_ite, SoundParts, memWrite_wf])

@[simp] theorem State_fetchMany_sound {s : State} (r n : Nat) (hS : s.Sound) : (State.fetchMany s r n).Sound := by
  induction n generalizing s with
  | zero => exact hS
  | succ n ih => exact ih (State_fetchOne_sound _ hS)

@[simp] theorem State_fetchRoute_sound {s : State} (r : Nat) (hS : State.Sound s) :
    State.Sound (State.fetchRoute s r) := by
  unfold State.fetchRoute
  repeat' first
  | with_reducible assumption
  | split
  | with_reducible refine sound_foldl ?_ (fun _ _ _ => ?_)
  all_goals try simp only [pair_eq] at *
  all_goals try casesm* _ ∧ _
  all_goals try subst_vars
  all_goals (first | with_reducible assumption | simp +contextual (maxDischargeDepth := 30) [*, sound_foldl, sound_ite, SoundParts, memWrite_wf])

@[simp] theorem State_reportDone_sound {s : State} (r : Nat) (l : List Started) (hS : s.Sound) :
    (State.reportDone s r l).Sound := by
  induction l generalizing s with
  | nil => exact hS
  | cons b l ih =>
    rw [State.reportDone]
    apply ih
    split
    · exact State_event_sound _ _ _ _ hS
    · exact hS

@[simp] theorem State_passDone_sound {s : State} (r : Nat) (l : List Started) (hS : s.Sound) :
    (State.passDone s r l).Sound := by
  induction l generalizing s with
  | nil => exact hS
  | cons b l ih =>
    rw [State.passDone]
    split
    · apply ih
      split
      · exact State_signalFence_sound _ (State_modRoute_sound _ _ hS)
      · exact State_modRoute_sound _ _ hS
    · exact hS

@[simp] theorem State_completeBales_sound {s : State} (r : Nat) (hS : State.Sound s) :
    State.Sound (State.completeBales s r) := by
  unfold State.completeBales
  repeat' first
  | with_reducible assumption
  | split
  | with_reducible refine sound_foldl ?_ (fun _ _ _ => ?_)
  all_goals try simp only [pair_eq] at *
  all_goals try casesm* _ ∧ _
  all_goals try subst_vars
  all_goals (first | with_reducible assumption | simp +contextual (maxDischargeDepth := 30) [*, sound_foldl, sound_ite, SoundParts, memWrite_wf])

@[simp] theorem State_modStarted_sound {s : State} (r : Nat) (i : Nat) (f : Started → Started) (hS : State.Sound s) :
    State.Sound (State.modStarted s r i f) := by
  unfold State.modStarted
  repeat' first
  | with_reducible assumption
  | split
  | with_reducible refine sound_foldl ?_ (fun _ _ _ => ?_)
  all_goals try simp only [pair_eq] at *
  all_goals try casesm* _ ∧ _
  all_goals try subst_vars
  all_goals (first | with_reducible assumption | simp +contextual (maxDischargeDepth := 30) [*, sound_foldl, sound_ite, SoundParts, memWrite_wf])

@[simp] theorem State_finishBale_sound {s : State} (r : Nat) (i : Nat) (bad : Bool) (hS : State.Sound s) :
    State.Sound (State.finishBale s r i bad) := by
  unfold State.finishBale
  repeat' first
  | with_reducible assumption
  | split
  | with_reducible refine sound_foldl ?_ (fun _ _ _ => ?_)
  all_goals try simp only [pair_eq] at *
  all_goals try casesm* _ ∧ _
  all_goals try subst_vars
  all_goals (first | with_reducible assumption | simp +contextual (maxDischargeDepth := 30) [*, sound_foldl, sound_ite, SoundParts, memWrite_wf])

@[simp] theorem State_baleFault_sound {s : State} (r : Nat) (i : Nat) (opcode : Byte) (tag : Nat) (reason : Nat) (hS : State.Sound s) :
    State.Sound (State.baleFault s r i opcode tag reason) := by
  unfold State.baleFault
  repeat' first
  | with_reducible assumption
  | split
  | with_reducible refine sound_foldl ?_ (fun _ _ _ => ?_)
  all_goals try simp only [pair_eq] at *
  all_goals try casesm* _ ∧ _
  all_goals try subst_vars
  all_goals (first | with_reducible assumption | simp +contextual (maxDischargeDepth := 30) [*, sound_foldl, sound_ite, SoundParts, memWrite_wf])

@[simp] theorem State_markBad_sound {s : State} (r : Nat) (i : Nat) (data : Option Bale) (reason : Nat) (hS : State.Sound s) :
    State.Sound (State.markBad s r i data reason) := by
  unfold State.markBad
  repeat' first
  | with_reducible assumption
  | split
  | with_reducible refine sound_foldl ?_ (fun _ _ _ => ?_)
  all_goals try simp only [pair_eq] at *
  all_goals try casesm* _ ∧ _
  all_goals try subst_vars
  all_goals (first | with_reducible assumption | simp +contextual (maxDischargeDepth := 30) [*, sound_foldl, sound_ite, SoundParts, memWrite_wf])

@[simp] theorem State_recordOpen_sound {s : State} (source : Nat) (cls : Nat) (detail : List (Nat × Nat)) (head : Option Nat) (secondary : Bool) (hS : State.Sound s) :
    State.Sound (State.recordOpen s source cls detail head secondary) := by
  unfold State.recordOpen
  repeat' first
  | with_reducible assumption
  | split
  | with_reducible refine sound_foldl ?_ (fun _ _ _ => ?_)
  all_goals try simp only [pair_eq] at *
  all_goals try casesm* _ ∧ _
  all_goals try subst_vars
  all_goals (first | with_reducible assumption | simp +contextual (maxDischargeDepth := 30) [*, sound_foldl, sound_ite, SoundParts, memWrite_wf])

@[simp] theorem State_refuseRecord_sound {s : State} (r : Nat) (i : Nat) (reason : Nat) (hS : State.Sound s) :
    State.Sound (State.refuseRecord s r i reason) := by
  unfold State.refuseRecord
  repeat' first
  | with_reducible assumption
  | split
  | with_reducible refine sound_foldl ?_ (fun _ _ _ => ?_)
  all_goals try simp only [pair_eq] at *
  all_goals try casesm* _ ∧ _
  all_goals try subst_vars
  all_goals (first | with_reducible assumption | simp +contextual (maxDischargeDepth := 30) [*, sound_foldl, sound_ite, SoundParts, memWrite_wf])

@[simp] theorem State_refuseBale_sound {s : State} (r : Nat) (b : Started) (reason : Nat) (hS : State.Sound s) :
    State.Sound (State.refuseBale s r b reason) := by
  unfold State.refuseBale
  repeat' first
  | with_reducible assumption
  | split
  | with_reducible refine sound_foldl ?_ (fun _ _ _ => ?_)
  all_goals try simp only [pair_eq] at *
  all_goals try casesm* _ ∧ _
  all_goals try subst_vars
  all_goals (first | with_reducible assumption | simp +contextual (maxDischargeDepth := 30) [*, sound_foldl, sound_ite, SoundParts, memWrite_wf])

@[simp] theorem State_routeBad_sound {s : State} (r : Nat) (f : Fetched) (reason : Nat) (hS : State.Sound s) :
    State.Sound (State.routeBad s r f reason) := by
  unfold State.routeBad
  repeat' first
  | with_reducible assumption
  | split
  | with_reducible refine sound_foldl ?_ (fun _ _ _ => ?_)
  all_goals try simp only [pair_eq] at *
  all_goals try casesm* _ ∧ _
  all_goals try subst_vars
  all_goals (first | with_reducible assumption | simp +contextual (maxDischargeDepth := 30) [*, sound_foldl, sound_ite, SoundParts, memWrite_wf])

@[simp] theorem State_startBale_sound {s : State} (r : Nat) (hS : State.Sound s) :
    State.Sound (State.startBale s r) := by
  unfold State.startBale
  repeat' first
  | with_reducible assumption
  | split
  | with_reducible refine sound_foldl ?_ (fun _ _ _ => ?_)
  all_goals try simp only [pair_eq] at *
  all_goals try casesm* _ ∧ _
  all_goals try subst_vars
  all_goals (first | with_reducible assumption | simp +contextual (maxDischargeDepth := 30) [*, sound_foldl, sound_ite, SoundParts, memWrite_wf])

@[simp] theorem State_settleGpo_sound {s : State} {old : State} (hS : State.Sound s) (hS1 : State.Sound old) :
    State.Sound (State.settleGpo s old) := by
  unfold State.settleGpo
  repeat' first
  | with_reducible assumption
  | split
  | with_reducible refine sound_foldl ?_ (fun _ _ _ => ?_)
  all_goals try simp only [pair_eq] at *
  all_goals try casesm* _ ∧ _
  all_goals try subst_vars
  all_goals (first | with_reducible assumption | simp +contextual (maxDischargeDepth := 30) [*, sound_foldl, sound_ite, SoundParts, memWrite_wf])

@[simp] theorem State_gpoAction_sound {s : State} (p : Nat) (action : Nat) (hS : State.Sound s) :
    State.Sound (State.gpoAction s p action) := by
  unfold State.gpoAction
  repeat' first
  | with_reducible assumption
  | split
  | with_reducible refine sound_foldl ?_ (fun _ _ _ => ?_)
  all_goals try simp only [pair_eq] at *
  all_goals try casesm* _ ∧ _
  all_goals try subst_vars
  all_goals (first | with_reducible assumption | simp +contextual (maxDischargeDepth := 30) [*, sound_foldl, sound_ite, SoundParts, memWrite_wf])

@[simp] theorem State_pulseEnd_sound {s : State} (p : Nat) (hS : State.Sound s) :
    State.Sound (State.pulseEnd s p) := by
  unfold State.pulseEnd
  repeat' first
  | with_reducible assumption
  | split
  | with_reducible refine sound_foldl ?_ (fun _ _ _ => ?_)
  all_goals try simp only [pair_eq] at *
  all_goals try casesm* _ ∧ _
  all_goals try subst_vars
  all_goals (first | with_reducible assumption | simp +contextual (maxDischargeDepth := 30) [*, sound_foldl, sound_ite, SoundParts, memWrite_wf])

@[simp] theorem State_gpiChange_sound {s : State} (p : Nat) (level : Bool) (hS : State.Sound s) :
    State.Sound (State.gpiChange s p level) := by
  unfold State.gpiChange
  repeat' first
  | with_reducible assumption
  | split
  | with_reducible refine sound_foldl ?_ (fun _ _ _ => ?_)
  all_goals try simp only [pair_eq] at *
  all_goals try casesm* _ ∧ _
  all_goals try subst_vars
  all_goals (first | with_reducible assumption | simp +contextual (maxDischargeDepth := 30) [*, sound_foldl, sound_ite, SoundParts, memWrite_wf])

@[simp] theorem State_gpiExpiry_sound {s : State} (p : Nat) (hS : State.Sound s) :
    State.Sound (State.gpiExpiry s p) := by
  unfold State.gpiExpiry
  repeat' first
  | with_reducible assumption
  | split
  | with_reducible refine sound_foldl ?_ (fun _ _ _ => ?_)
  all_goals try simp only [pair_eq] at *
  all_goals try casesm* _ ∧ _
  all_goals try subst_vars
  all_goals (first | with_reducible assumption | simp +contextual (maxDischargeDepth := 30) [*, sound_foldl, sound_ite, SoundParts, memWrite_wf])

@[simp] theorem State_gpioSwitch_sound {s : State} (new : Pattern) (hS : State.Sound s) :
    State.Sound (State.gpioSwitch s new) := by
  unfold State.gpioSwitch
  repeat' first
  | with_reducible assumption
  | split
  | with_reducible refine sound_foldl ?_ (fun _ _ _ => ?_)
  all_goals try simp only [pair_eq] at *
  all_goals try casesm* _ ∧ _
  all_goals try subst_vars
  all_goals (first | with_reducible assumption | simp +contextual (maxDischargeDepth := 30) [*, sound_foldl, sound_ite, SoundParts, memWrite_wf])

@[simp] theorem State_readCmpBale_sound {s : State} (n : Nat) (fresh : Bool) (hS : State.Sound s) :
    State.Sound (State.readCmpBale s n fresh) := by
  unfold State.readCmpBale
  repeat' first
  | with_reducible assumption
  | split
  | with_reducible refine sound_foldl ?_ (fun _ _ _ => ?_)
  all_goals try simp only [pair_eq] at *
  all_goals try casesm* _ ∧ _
  all_goals try subst_vars
  all_goals (first | with_reducible assumption | simp +contextual (maxDischargeDepth := 30) [*, sound_foldl, sound_ite, SoundParts, memWrite_wf])

@[simp] theorem State_cmpHandOver_sound {s : State} (n : Nat) (hS : State.Sound s) :
    State.Sound (State.cmpHandOver s n) := by
  unfold State.cmpHandOver
  repeat' first
  | with_reducible assumption
  | split
  | with_reducible refine sound_foldl ?_ (fun _ _ _ => ?_)
  all_goals try simp only [pair_eq] at *
  all_goals try casesm* _ ∧ _
  all_goals try subst_vars
  all_goals (first | with_reducible assumption | simp +contextual (maxDischargeDepth := 30) [*, sound_foldl, sound_ite, SoundParts, memWrite_wf])

@[simp] theorem State_cmpFire_sound {s : State} (n : Nat) (v : BitVec 64) (hS : State.Sound s) :
    State.Sound (State.cmpFire s n v) := by
  unfold State.cmpFire
  repeat' first
  | with_reducible assumption
  | (extract_lets +onlyGivenNames x
     first
     | (have hx : State.Sound x := by
          (dsimp only [x]
           repeat' first
           | with_reducible assumption
           | split
           | with_reducible refine sound_foldl ?_ (fun _ _ _ => ?_)
           all_goals try simp only [pair_eq] at *
           all_goals try casesm* _ ∧ _
           all_goals try subst_vars
           all_goals (first | with_reducible assumption | simp +contextual (maxDischargeDepth := 30) [*, sound_foldl, sound_ite, SoundParts, memWrite_wf]))
        clear_value x)
     | skip)
  | split
  | with_reducible refine sound_foldl ?_ (fun _ _ _ => ?_)
  all_goals try simp only [pair_eq] at *
  all_goals try casesm* _ ∧ _
  all_goals try subst_vars
  all_goals (first | with_reducible assumption | (simp +contextual (maxDischargeDepth := 30) [*, sound_foldl, sound_ite, SoundParts, memWrite_wf]; done) | (simp +contextual +zetaDelta (maxDischargeDepth := 30) [*, sound_foldl, sound_ite, SoundParts, memWrite_wf]; done))

@[simp] theorem State_catchUp_sound {s : State} (n : Nat) (hS : State.Sound s) :
    State.Sound (State.catchUp s n) := by
  unfold State.catchUp
  repeat' first
  | with_reducible assumption
  | split
  | with_reducible refine sound_foldl ?_ (fun _ _ _ => ?_)
  all_goals try simp only [pair_eq] at *
  all_goals try casesm* _ ∧ _
  all_goals try subst_vars
  all_goals (first | with_reducible assumption | simp +contextual (maxDischargeDepth := 30) [*, sound_foldl, sound_ite, SoundParts, memWrite_wf])

@[simp] theorem State_cmpLive_sound {s : State} (n : Nat) (hS : State.Sound s) :
    State.Sound (State.cmpLive s n) := by
  unfold State.cmpLive
  repeat' first
  | with_reducible assumption
  | split
  | with_reducible refine sound_foldl ?_ (fun _ _ _ => ?_)
  all_goals try simp only [pair_eq] at *
  all_goals try casesm* _ ∧ _
  all_goals try subst_vars
  all_goals (first | with_reducible assumption | simp +contextual (maxDischargeDepth := 30) [*, sound_foldl, sound_ite, SoundParts, memWrite_wf])

@[simp] theorem State_cmpBaleRead_sound {s : State} (n : Nat) (hS : State.Sound s) :
    State.Sound (State.cmpBaleRead s n) := by
  unfold State.cmpBaleRead
  repeat' first
  | with_reducible assumption
  | (extract_lets +onlyGivenNames x
     first
     | (have hx : State.Sound x := by
          (dsimp only [x]
           repeat' first
           | with_reducible assumption
           | split
           | with_reducible refine sound_foldl ?_ (fun _ _ _ => ?_)
           all_goals try simp only [pair_eq] at *
           all_goals try casesm* _ ∧ _
           all_goals try subst_vars
           all_goals (first | with_reducible assumption | simp +contextual (maxDischargeDepth := 30) [*, sound_foldl, sound_ite, SoundParts, memWrite_wf]))
        clear_value x)
     | skip)
  | split
  | with_reducible refine sound_foldl ?_ (fun _ _ _ => ?_)
  all_goals try simp only [pair_eq] at *
  all_goals try casesm* _ ∧ _
  all_goals try subst_vars
  all_goals (first | with_reducible assumption | (simp +contextual (maxDischargeDepth := 30) [*, sound_foldl, sound_ite, SoundParts, memWrite_wf]; done) | (simp +contextual +zetaDelta (maxDischargeDepth := 30) [*, sound_foldl, sound_ite, SoundParts, memWrite_wf]; done))

@[simp] theorem State_wroteCmpConfig_sound {s : State} (n : Nat) (old : Word) (v : Word) (hS : State.Sound s) :
    State.Sound (State.wroteCmpConfig s n old v) := by
  unfold State.wroteCmpConfig
  repeat' first
  | with_reducible assumption
  | split
  | with_reducible refine sound_foldl ?_ (fun _ _ _ => ?_)
  all_goals try simp only [pair_eq] at *
  all_goals try casesm* _ ∧ _
  all_goals try subst_vars
  all_goals (first | with_reducible assumption | simp +contextual (maxDischargeDepth := 30) [*, sound_foldl, sound_ite, SoundParts, memWrite_wf])

@[simp] theorem State_wroteCmpPeriod_sound {s : State} (n : Nat) (hS : State.Sound s) :
    State.Sound (State.wroteCmpPeriod s n) := by
  unfold State.wroteCmpPeriod
  repeat' first
  | with_reducible assumption
  | split
  | with_reducible refine sound_foldl ?_ (fun _ _ _ => ?_)
  all_goals try simp only [pair_eq] at *
  all_goals try casesm* _ ∧ _
  all_goals try subst_vars
  all_goals (first | with_reducible assumption | simp +contextual (maxDischargeDepth := 30) [*, sound_foldl, sound_ite, SoundParts, memWrite_wf])

@[simp] theorem State_wroteCmpValue_sound {s : State} (n : Nat) (hS : State.Sound s) :
    State.Sound (State.wroteCmpValue s n) := by
  unfold State.wroteCmpValue
  repeat' first
  | with_reducible assumption
  | split
  | with_reducible refine sound_foldl ?_ (fun _ _ _ => ?_)
  all_goals try simp only [pair_eq] at *
  all_goals try casesm* _ ∧ _
  all_goals try subst_vars
  all_goals (first | with_reducible assumption | simp +contextual (maxDischargeDepth := 30) [*, sound_foldl, sound_ite, SoundParts, memWrite_wf])

@[simp] theorem State_wroteCmpBale_sound {s : State} (n : Nat) (hS : State.Sound s) :
    State.Sound (State.wroteCmpBale s n) := by
  unfold State.wroteCmpBale
  repeat' first
  | with_reducible assumption
  | split
  | with_reducible refine sound_foldl ?_ (fun _ _ _ => ?_)
  all_goals try simp only [pair_eq] at *
  all_goals try casesm* _ ∧ _
  all_goals try subst_vars
  all_goals (first | with_reducible assumption | simp +contextual (maxDischargeDepth := 30) [*, sound_foldl, sound_ite, SoundParts, memWrite_wf])

@[simp] theorem State_cntWrapped_sound {s : State} (k : Nat) (c : CntSt) (hS : State.Sound s) :
    State.Sound (State.cntWrapped s k c) := by
  unfold State.cntWrapped
  repeat' first
  | with_reducible assumption
  | split
  | with_reducible refine sound_foldl ?_ (fun _ _ _ => ?_)
  all_goals try simp only [pair_eq] at *
  all_goals try casesm* _ ∧ _
  all_goals try subst_vars
  all_goals (first | with_reducible assumption | simp +contextual (maxDischargeDepth := 30) [*, sound_foldl, sound_ite, SoundParts, memWrite_wf])

@[simp] theorem State_cntTick_sound {s : State} (k : Nat) (hS : State.Sound s) :
    State.Sound (State.cntTick s k) := by
  unfold State.cntTick
  repeat' first
  | with_reducible assumption
  | split
  | with_reducible refine sound_foldl ?_ (fun _ _ _ => ?_)
  all_goals try simp only [pair_eq] at *
  all_goals try casesm* _ ∧ _
  all_goals try subst_vars
  all_goals (first | with_reducible assumption | simp +contextual (maxDischargeDepth := 30) [*, sound_foldl, sound_ite, SoundParts, memWrite_wf])

@[simp] theorem State_switchSource_sound {s : State} (hS : State.Sound s) :
    State.Sound (State.switchSource s) := by
  unfold State.switchSource
  repeat' first
  | with_reducible assumption
  | split
  | with_reducible refine sound_foldl ?_ (fun _ _ _ => ?_)
  all_goals try simp only [pair_eq] at *
  all_goals try casesm* _ ∧ _
  all_goals try subst_vars
  all_goals (first | with_reducible assumption | simp +contextual (maxDischargeDepth := 30) [*, sound_foldl, sound_ite, SoundParts, memWrite_wf])

@[simp] theorem State_judgeCmp_sound {s : State} (d : Nat) (n : Nat) (hS : State.Sound s) :
    State.Sound (State.judgeCmp s d n) := by
  unfold State.judgeCmp
  repeat' first
  | with_reducible assumption
  | split
  | with_reducible refine sound_foldl ?_ (fun _ _ _ => ?_)
  all_goals try simp only [pair_eq] at *
  all_goals try casesm* _ ∧ _
  all_goals try subst_vars
  all_goals (first | with_reducible assumption | simp +contextual (maxDischargeDepth := 30) [*, sound_foldl, sound_ite, SoundParts, memWrite_wf])

@[simp] theorem State_cmpMatch_sound {s : State} (n : Nat) (hS : State.Sound s) :
    State.Sound (State.cmpMatch s n) := by
  unfold State.cmpMatch
  repeat' first
  | with_reducible assumption
  | split
  | with_reducible refine sound_foldl ?_ (fun _ _ _ => ?_)
  all_goals try simp only [pair_eq] at *
  all_goals try casesm* _ ∧ _
  all_goals try subst_vars
  all_goals (first | with_reducible assumption | simp +contextual (maxDischargeDepth := 30) [*, sound_foldl, sound_ite, SoundParts, memWrite_wf])

@[simp] theorem State_fireBelow_sound {s : State} (n : Nat) (hS : State.Sound s) :
    State.Sound (State.fireBelow s n) := by
  unfold State.fireBelow
  repeat' first
  | with_reducible assumption
  | split
  | with_reducible refine sound_foldl ?_ (fun _ _ _ => ?_)
  all_goals try simp only [pair_eq] at *
  all_goals try casesm* _ ∧ _
  all_goals try subst_vars
  all_goals (first | with_reducible assumption | simp +contextual (maxDischargeDepth := 30) [*, sound_foldl, sound_ite, SoundParts, memWrite_wf])

@[simp] theorem State_cntWrap_sound {s : State} (k : Nat) (hS : State.Sound s) :
    State.Sound (State.cntWrap s k) := by
  unfold State.cntWrap
  repeat' first
  | with_reducible assumption
  | split
  | with_reducible refine sound_foldl ?_ (fun _ _ _ => ?_)
  all_goals try simp only [pair_eq] at *
  all_goals try casesm* _ ∧ _
  all_goals try subst_vars
  all_goals (first | with_reducible assumption | simp +contextual (maxDischargeDepth := 30) [*, sound_foldl, sound_ite, SoundParts, memWrite_wf])

@[simp] theorem State_settleCycle_sound {s : State} (hS : State.Sound s) :
    State.Sound (State.settleCycle s) := by
  unfold State.settleCycle
  repeat' first
  | with_reducible assumption
  | split
  | with_reducible refine sound_foldl ?_ (fun _ _ _ => ?_)
  all_goals try simp only [pair_eq] at *
  all_goals try casesm* _ ∧ _
  all_goals try subst_vars
  all_goals (first | with_reducible assumption | simp +contextual (maxDischargeDepth := 30) [*, sound_foldl, sound_ite, SoundParts, memWrite_wf])

@[simp] theorem State_tick_sound {s : State} (hS : State.Sound s) :
    State.Sound (State.tick s) := by
  unfold State.tick
  repeat' first
  | with_reducible assumption
  | split
  | with_reducible refine sound_foldl ?_ (fun _ _ _ => ?_)
  all_goals try simp only [pair_eq] at *
  all_goals try casesm* _ ∧ _
  all_goals try subst_vars
  all_goals (first | with_reducible assumption | simp +contextual (maxDischargeDepth := 30) [*, sound_foldl, sound_ite, SoundParts, memWrite_wf])

end Sys2Proof.Machine
end

