-- ==== Sys2Proof/Laws/SoundUnits.lean ====
section
/-! SUPPORT. Soundness is kept by every operation: ingest, network ports, the chassis, resets, power and the Store channels. -/

set_option linter.all false
set_option maxRecDepth 4000
set_option maxHeartbeats 400000

namespace Sys2Proof.Machine

@[simp] theorem State_setSrcState_sound {s : State} (i : Nat) (st : Nat) (reason : Nat) (hS : State.Sound s) :
    State.Sound (State.setSrcState s i st reason) := by
  unfold State.setSrcState
  repeat' first
  | with_reducible assumption
  | split
  | with_reducible refine sound_foldl ?_ (fun _ _ _ => ?_)
  all_goals try simp only [pair_eq] at *
  all_goals try casesm* _ ∧ _
  all_goals try subst_vars
  all_goals (first | with_reducible assumption | simp +contextual (maxDischargeDepth := 30) [*, sound_foldl, sound_ite, SoundParts, memWrite_wf])

@[simp] theorem State_discardFrame_sound {s : State} (i : Nat) (hS : State.Sound s) :
    State.Sound (State.discardFrame s i) := by
  unfold State.discardFrame
  repeat' first
  | with_reducible assumption
  | split
  | with_reducible refine sound_foldl ?_ (fun _ _ _ => ?_)
  all_goals try simp only [pair_eq] at *
  all_goals try casesm* _ ∧ _
  all_goals try subst_vars
  all_goals (first | with_reducible assumption | simp +contextual (maxDischargeDepth := 30) [*, sound_foldl, sound_ite, SoundParts, memWrite_wf])

@[simp] theorem State_refuseSource_sound {s : State} (i : Nat) (reason : Nat) (hS : State.Sound s) :
    State.Sound (State.refuseSource s i reason) := by
  unfold State.refuseSource
  repeat' first
  | with_reducible assumption
  | split
  | with_reducible refine sound_foldl ?_ (fun _ _ _ => ?_)
  all_goals try simp only [pair_eq] at *
  all_goals try casesm* _ ∧ _
  all_goals try subst_vars
  all_goals (first | with_reducible assumption | simp +contextual (maxDischargeDepth := 30) [*, sound_foldl, sound_ite, SoundParts, memWrite_wf])

@[simp] theorem State_evaluate_sound {s : State} (i : Nat) (hS : State.Sound s) :
    State.Sound (State.evaluate s i) := by
  unfold State.evaluate
  repeat' first
  | with_reducible assumption
  | split
  | with_reducible refine sound_foldl ?_ (fun _ _ _ => ?_)
  all_goals try simp only [pair_eq] at *
  all_goals try casesm* _ ∧ _
  all_goals try subst_vars
  all_goals (first | with_reducible assumption | simp +contextual (maxDischargeDepth := 30) [*, sound_foldl, sound_ite, SoundParts, memWrite_wf])

@[simp] theorem State_setPath_sound {s : State} (i : Nat) (path : Nat) (up : Bool) (hS : State.Sound s) :
    State.Sound (State.setPath s i path up) := by
  unfold State.setPath
  repeat' first
  | with_reducible assumption
  | split
  | with_reducible refine sound_foldl ?_ (fun _ _ _ => ?_)
  all_goals try simp only [pair_eq] at *
  all_goals try casesm* _ ∧ _
  all_goals try subst_vars
  all_goals (first | with_reducible assumption | simp +contextual (maxDischargeDepth := 30) [*, sound_foldl, sound_ite, SoundParts, memWrite_wf])

@[simp] theorem State_igmp_sound {s : State} (p : Nat) (m : NetMsg) (hS : State.Sound s) :
    State.Sound (State.igmp s p m) := by
  unfold State.igmp
  repeat' first
  | with_reducible assumption
  | split
  | with_reducible refine sound_foldl ?_ (fun _ _ _ => ?_)
  all_goals try simp only [pair_eq] at *
  all_goals try casesm* _ ∧ _
  all_goals try subst_vars
  all_goals (first | with_reducible assumption | simp +contextual (maxDischargeDepth := 30) [*, sound_foldl, sound_ite, SoundParts, memWrite_wf])

@[simp] theorem State_regroup_sound {s : State} {old : State} (hS : State.Sound s) (hS1 : State.Sound old) :
    State.Sound (State.regroup s old) := by
  unfold State.regroup
  repeat' first
  | with_reducible assumption
  | split
  | with_reducible refine sound_foldl ?_ (fun _ _ _ => ?_)
  all_goals try simp only [pair_eq] at *
  all_goals try casesm* _ ∧ _
  all_goals try subst_vars
  all_goals (first | with_reducible assumption | simp +contextual (maxDischargeDepth := 30) [*, sound_foldl, sound_ite, SoundParts, memWrite_wf])

@[simp] theorem State_modFrame_sound {s : State} (i : Nat) (f : FrameSt → FrameSt) (hS : State.Sound s) :
    State.Sound (State.modFrame s i f) := by
  unfold State.modFrame
  repeat' first
  | with_reducible assumption
  | split
  | with_reducible refine sound_foldl ?_ (fun _ _ _ => ?_)
  all_goals try simp only [pair_eq] at *
  all_goals try casesm* _ ∧ _
  all_goals try subst_vars
  all_goals (first | with_reducible assumption | simp +contextual (maxDischargeDepth := 30) [*, sound_foldl, sound_ite, SoundParts, memWrite_wf])

@[simp] theorem State_ingestWrite_sound {s : State} (i : Nat) (a : Nat) (bs : List Byte) (hS : State.Sound s) :
    State.Sound (State.ingestWrite s i a bs) := by
  unfold State.ingestWrite
  repeat' first
  | with_reducible assumption
  | split
  | with_reducible refine sound_foldl ?_ (fun _ _ _ => ?_)
  all_goals try simp only [pair_eq] at *
  all_goals try casesm* _ ∧ _
  all_goals try subst_vars
  all_goals (first | with_reducible assumption | simp +contextual (maxDischargeDepth := 30) [*, sound_foldl, sound_ite, SoundParts, memWrite_wf])

@[simp] theorem State_writeReduced_sound {s : State} (i : Nat) (k : Nat) (row : Nat) (hS : State.Sound s) :
    State.Sound (State.writeReduced s i k row) := by
  unfold State.writeReduced
  repeat' first
  | with_reducible assumption
  | (extract_lets +onlyGivenNames x
     first
     | (have hx : State.Sound x := by
          (dsimp only [x]
           repeat' first
           | with_reducible assumption
           | split
           | with_reducible refine sound_foldl ?_ (fun _ _ _ => ?_)
           all_goals try simp only [pair_eq] at *
           all_goals try casesm* _ ∧ _
           all_goals try subst_vars
           all_goals (first | with_reducible assumption | simp +contextual (maxDischargeDepth := 30) [*, sound_foldl, sound_ite, SoundParts, memWrite_wf]))
        clear_value x)
     | skip)
  | split
  | with_reducible refine sound_foldl ?_ (fun _ _ _ => ?_)
  all_goals try simp only [pair_eq] at *
  all_goals try casesm* _ ∧ _
  all_goals try subst_vars
  all_goals (first | with_reducible assumption | (simp +contextual (maxDischargeDepth := 30) [*, sound_foldl, sound_ite, SoundParts, memWrite_wf]; done) | (simp +contextual +zetaDelta (maxDischargeDepth := 30) [*, sound_foldl, sound_ite, SoundParts, memWrite_wf]; done))

@[simp] theorem State_writeSegment_sound {s : State} (i : Nat) (g : Segment) (hS : State.Sound s) :
    State.Sound (State.writeSegment s i g) := by
  unfold State.writeSegment
  repeat' first
  | with_reducible assumption
  | (extract_lets +onlyGivenNames x
     first
     | (have hx : State.Sound x := by
          (dsimp only [x]
           repeat' first
           | with_reducible assumption
           | split
           | with_reducible refine sound_foldl ?_ (fun _ _ _ => ?_)
           all_goals try simp only [pair_eq] at *
           all_goals try casesm* _ ∧ _
           all_goals try subst_vars
           all_goals (first | with_reducible assumption | simp +contextual (maxDischargeDepth := 30) [*, sound_foldl, sound_ite, SoundParts, memWrite_wf]))
        clear_value x)
     | skip)
  | split
  | with_reducible refine sound_foldl ?_ (fun _ _ _ => ?_)
  all_goals try simp only [pair_eq] at *
  all_goals try casesm* _ ∧ _
  all_goals try subst_vars
  all_goals (first | with_reducible assumption | (simp +contextual (maxDischargeDepth := 30) [*, sound_foldl, sound_ite, SoundParts, memWrite_wf]; done) | (simp +contextual +zetaDelta (maxDischargeDepth := 30) [*, sound_foldl, sound_ite, SoundParts, memWrite_wf]; done))

@[simp] theorem State_takeSegment_sound {s : State} (i : Nat) (g : Segment) (hS : State.Sound s) :
    State.Sound (State.takeSegment s i g) := by
  unfold State.takeSegment
  repeat' first
  | with_reducible assumption
  | split
  | with_reducible refine sound_foldl ?_ (fun _ _ _ => ?_)
  all_goals try simp only [pair_eq] at *
  all_goals try casesm* _ ∧ _
  all_goals try subst_vars
  all_goals (first | with_reducible assumption | simp +contextual (maxDischargeDepth := 30) [*, sound_foldl, sound_ite, SoundParts, memWrite_wf])

@[simp] theorem State_drainFifo_sound {s : State} (i : Nat) (hS : State.Sound s) :
    State.Sound (State.drainFifo s i) := by
  unfold State.drainFifo
  repeat' first
  | with_reducible assumption
  | split
  | with_reducible refine sound_foldl ?_ (fun _ _ _ => ?_)
  all_goals try simp only [pair_eq] at *
  all_goals try casesm* _ ∧ _
  all_goals try subst_vars
  all_goals (first | with_reducible assumption | simp +contextual (maxDischargeDepth := 30) [*, sound_foldl, sound_ite, SoundParts, memWrite_wf])

@[simp] theorem State_endFrame_sound {s : State} (i : Nat) (hS : State.Sound s) :
    State.Sound (State.endFrame s i) := by
  unfold State.endFrame
  repeat' first
  | with_reducible assumption
  | split
  | with_reducible refine sound_foldl ?_ (fun _ _ _ => ?_)
  all_goals try simp only [pair_eq] at *
  all_goals try casesm* _ ∧ _
  all_goals try subst_vars
  all_goals (first | with_reducible assumption | simp +contextual (maxDischargeDepth := 30) [*, sound_foldl, sound_ite, SoundParts, memWrite_wf])

@[simp] theorem State_finishFrame_sound {s : State} (i : Nat) (hS : State.Sound s) :
    State.Sound (State.finishFrame s i) := by
  unfold State.finishFrame
  repeat' first
  | with_reducible assumption
  | split
  | with_reducible refine sound_foldl ?_ (fun _ _ _ => ?_)
  all_goals try simp only [pair_eq] at *
  all_goals try casesm* _ ∧ _
  all_goals try subst_vars
  all_goals (first | with_reducible assumption | simp +contextual (maxDischargeDepth := 30) [*, sound_foldl, sound_ite, SoundParts, memWrite_wf])

@[simp] theorem State_beginFrame_sound {s : State} (i : Nat) (hS : State.Sound s) :
    State.Sound (State.beginFrame s i) := by
  unfold State.beginFrame
  repeat' first
  | with_reducible assumption
  | (extract_lets +onlyGivenNames x
     first
     | (have hx : State.Sound x := by
          (dsimp only [x]
           repeat' first
           | with_reducible assumption
           | split
           | with_reducible refine sound_foldl ?_ (fun _ _ _ => ?_)
           all_goals try simp only [pair_eq] at *
           all_goals try casesm* _ ∧ _
           all_goals try subst_vars
           all_goals (first | with_reducible assumption | simp +contextual (maxDischargeDepth := 30) [*, sound_foldl, sound_ite, SoundParts, memWrite_wf]))
        clear_value x)
     | skip)
  | split
  | with_reducible refine sound_foldl ?_ (fun _ _ _ => ?_)
  all_goals try simp only [pair_eq] at *
  all_goals try casesm* _ ∧ _
  all_goals try subst_vars
  all_goals (first | with_reducible assumption | (simp +contextual (maxDischargeDepth := 30) [*, sound_foldl, sound_ite, SoundParts, memWrite_wf]; done) | (simp +contextual +zetaDelta (maxDischargeDepth := 30) [*, sound_foldl, sound_ite, SoundParts, memWrite_wf]; done))

@[simp] theorem State_packetRows_sound {s : State} (i : Nat) (p : RtpPacket) (hS : State.Sound s) :
    State.Sound (State.packetRows s i p) := by
  unfold State.packetRows
  repeat' first
  | with_reducible assumption
  | split
  | with_reducible refine sound_foldl ?_ (fun _ _ _ => ?_)
  all_goals try simp only [pair_eq] at *
  all_goals try casesm* _ ∧ _
  all_goals try subst_vars
  all_goals (first | with_reducible assumption | simp +contextual (maxDischargeDepth := 30) [*, sound_foldl, sound_ite, SoundParts, memWrite_wf])

@[simp] theorem State_packetIn_sound {s : State} (i : Nat) (p : RtpPacket) (hS : State.Sound s) :
    State.Sound (State.packetIn s i p) := by
  unfold State.packetIn
  repeat' first
  | with_reducible assumption
  | split
  | with_reducible refine sound_foldl ?_ (fun _ _ _ => ?_)
  all_goals try simp only [pair_eq] at *
  all_goals try casesm* _ ∧ _
  all_goals try subst_vars
  all_goals (first | with_reducible assumption | simp +contextual (maxDischargeDepth := 30) [*, sound_foldl, sound_ite, SoundParts, memWrite_wf])

@[simp] theorem State_takePacket_sound {s : State} (i : Nat) (p : RtpPacket) (hS : State.Sound s) :
    State.Sound (State.takePacket s i p) := by
  unfold State.takePacket
  repeat' first
  | with_reducible assumption
  | (extract_lets +onlyGivenNames x
     first
     | (have hx : State.Sound x := by
          (dsimp only [x]
           repeat' first
           | with_reducible assumption
           | split
           | with_reducible refine sound_foldl ?_ (fun _ _ _ => ?_)
           all_goals try simp only [pair_eq] at *
           all_goals try casesm* _ ∧ _
           all_goals try subst_vars
           all_goals (first | with_reducible assumption | simp +contextual (maxDischargeDepth := 30) [*, sound_foldl, sound_ite, SoundParts, memWrite_wf]))
        clear_value x)
     | skip)
  | split
  | with_reducible refine sound_foldl ?_ (fun _ _ _ => ?_)
  all_goals try simp only [pair_eq] at *
  all_goals try casesm* _ ∧ _
  all_goals try subst_vars
  all_goals (first | with_reducible assumption | (simp +contextual (maxDischargeDepth := 30) [*, sound_foldl, sound_ite, SoundParts, memWrite_wf]; done) | (simp +contextual +zetaDelta (maxDischargeDepth := 30) [*, sound_foldl, sound_ite, SoundParts, memWrite_wf]; done))

@[simp] theorem State_releasePackets_sound (i : Nat) (force : Bool) (n : Nat) {s : State} (hS : s.Sound) :
    (State.releasePackets i force n s).Sound := by
  induction n generalizing s with
  | zero => exact hS
  | succ n ih =>
    rw [State.releasePackets]
    split
    · exact hS
    · dsimp only
      split
      · exact ih (State_takePacket_sound _ _ (State_modSource_sound _ _ hS))
      · exact hS

@[simp] theorem State_settleFlow_sound {s : State} (i : Nat) (force : Bool) (hS : State.Sound s) :
    State.Sound (State.settleFlow s i force) := by
  unfold State.settleFlow
  repeat' first
  | with_reducible assumption
  | split
  | with_reducible refine sound_foldl ?_ (fun _ _ _ => ?_)
  all_goals try simp only [pair_eq] at *
  all_goals try casesm* _ ∧ _
  all_goals try subst_vars
  all_goals (first | with_reducible assumption | simp +contextual (maxDischargeDepth := 30) [*, sound_foldl, sound_ite, SoundParts, memWrite_wf])

@[simp] theorem State_completeFrame_sound {s0 : State} (i : Nat) (hS : State.Sound s0) :
    State.Sound (State.completeFrame s0 i) := by
  unfold State.completeFrame
  repeat' first
  | with_reducible assumption
  | (extract_lets +onlyGivenNames x
     first
     | (have hx : State.Sound x := by
          (dsimp only [x]
           repeat' first
           | with_reducible assumption
           | split
           | with_reducible refine sound_foldl ?_ (fun _ _ _ => ?_)
           all_goals try simp only [pair_eq] at *
           all_goals try casesm* _ ∧ _
           all_goals try subst_vars
           all_goals (first | with_reducible assumption | simp +contextual (maxDischargeDepth := 30) [*, sound_foldl, sound_ite, SoundParts, memWrite_wf]))
        clear_value x)
     | skip)
  | split
  | with_reducible refine sound_foldl ?_ (fun _ _ _ => ?_)
  all_goals try simp only [pair_eq] at *
  all_goals try casesm* _ ∧ _
  all_goals try subst_vars
  all_goals (first | with_reducible assumption | (simp +contextual (maxDischargeDepth := 30) [*, sound_foldl, sound_ite, SoundParts, memWrite_wf]; done) | (simp +contextual +zetaDelta (maxDischargeDepth := 30) [*, sound_foldl, sound_ite, SoundParts, memWrite_wf]; done))

@[simp] theorem State_lineIn_sound {s : State} (i : Nat) (g : SdiSignal) (l : SdiLine) (hS : State.Sound s) :
    State.Sound (State.lineIn s i g l) := by
  unfold State.lineIn
  repeat' first
  | with_reducible assumption
  | split
  | with_reducible refine sound_foldl ?_ (fun _ _ _ => ?_)
  all_goals try simp only [pair_eq] at *
  all_goals try casesm* _ ∧ _
  all_goals try subst_vars
  all_goals (first | with_reducible assumption | simp +contextual (maxDischargeDepth := 30) [*, sound_foldl, sound_ite, SoundParts, memWrite_wf])

@[simp] theorem State_sdiLine_sound {s : State} (i : Nat) (l : SdiLine) (hS : State.Sound s) :
    State.Sound (State.sdiLine s i l) := by
  unfold State.sdiLine
  repeat' first
  | with_reducible assumption
  | split
  | with_reducible refine sound_foldl ?_ (fun _ _ _ => ?_)
  all_goals try simp only [pair_eq] at *
  all_goals try casesm* _ ∧ _
  all_goals try subst_vars
  all_goals (first | with_reducible assumption | simp +contextual (maxDischargeDepth := 30) [*, sound_foldl, sound_ite, SoundParts, memWrite_wf])

@[simp] theorem State_sdiLock_sound {s : State} (i : Nat) (g : SdiSignal) (hS : State.Sound s) :
    State.Sound (State.sdiLock s i g) := by
  unfold State.sdiLock
  repeat' first
  | with_reducible assumption
  | split
  | with_reducible refine sound_foldl ?_ (fun _ _ _ => ?_)
  all_goals try simp only [pair_eq] at *
  all_goals try casesm* _ ∧ _
  all_goals try subst_vars
  all_goals (first | with_reducible assumption | simp +contextual (maxDischargeDepth := 30) [*, sound_foldl, sound_ite, SoundParts, memWrite_wf])

@[simp] theorem State_netPacket_sound {s : State} (i : Nat) (path : Nat) (p : RtpPacket) (hS : State.Sound s) :
    State.Sound (State.netPacket s i path p) := by
  unfold State.netPacket
  repeat' first
  | with_reducible assumption
  | (extract_lets +onlyGivenNames x
     first
     | (have hx : State.Sound x := by
          (dsimp only [x]
           repeat' first
           | with_reducible assumption
           | split
           | with_reducible refine sound_foldl ?_ (fun _ _ _ => ?_)
           all_goals try simp only [pair_eq] at *
           all_goals try casesm* _ ∧ _
           all_goals try subst_vars
           all_goals (first | with_reducible assumption | simp +contextual (maxDischargeDepth := 30) [*, sound_foldl, sound_ite, SoundParts, memWrite_wf]))
        clear_value x)
     | skip)
  | split
  | with_reducible refine sound_foldl ?_ (fun _ _ _ => ?_)
  all_goals try simp only [pair_eq] at *
  all_goals try casesm* _ ∧ _
  all_goals try subst_vars
  all_goals (first | with_reducible assumption | (simp +contextual (maxDischargeDepth := 30) [*, sound_foldl, sound_ite, SoundParts, memWrite_wf]; done) | (simp +contextual +zetaDelta (maxDischargeDepth := 30) [*, sound_foldl, sound_ite, SoundParts, memWrite_wf]; done))

@[simp] theorem State_sourceStops_sound {s : State} (i : Nat) (hS : State.Sound s) :
    State.Sound (State.sourceStops s i) := by
  unfold State.sourceStops
  repeat' first
  | with_reducible assumption
  | split
  | with_reducible refine sound_foldl ?_ (fun _ _ _ => ?_)
  all_goals try simp only [pair_eq] at *
  all_goals try casesm* _ ∧ _
  all_goals try subst_vars
  all_goals (first | with_reducible assumption | simp +contextual (maxDischargeDepth := 30) [*, sound_foldl, sound_ite, SoundParts, memWrite_wf])

@[simp] theorem State_sourceLost_sound {s : State} (i : Nat) (hS : State.Sound s) :
    State.Sound (State.sourceLost s i) := by
  unfold State.sourceLost
  repeat' first
  | with_reducible assumption
  | split
  | with_reducible refine sound_foldl ?_ (fun _ _ _ => ?_)
  all_goals try simp only [pair_eq] at *
  all_goals try casesm* _ ∧ _
  all_goals try subst_vars
  all_goals (first | with_reducible assumption | simp +contextual (maxDischargeDepth := 30) [*, sound_foldl, sound_ite, SoundParts, memWrite_wf])

@[simp] theorem State_pathDown_sound {s : State} (i : Nat) (path : Nat) (hS : State.Sound s) :
    State.Sound (State.pathDown s i path) := by
  unfold State.pathDown
  repeat' first
  | with_reducible assumption
  | split
  | with_reducible refine sound_foldl ?_ (fun _ _ _ => ?_)
  all_goals try simp only [pair_eq] at *
  all_goals try casesm* _ ∧ _
  all_goals try subst_vars
  all_goals (first | with_reducible assumption | simp +contextual (maxDischargeDepth := 30) [*, sound_foldl, sound_ite, SoundParts, memWrite_wf])

@[simp] theorem State_restartSource_sound {s : State} (i : Nat) (hS : State.Sound s) :
    State.Sound (State.restartSource s i) := by
  unfold State.restartSource
  repeat' first
  | with_reducible assumption
  | (extract_lets +onlyGivenNames x
     first
     | (have hx : State.Sound x := by
          (dsimp only [x]
           repeat' first
           | with_reducible assumption
           | split
           | with_reducible refine sound_foldl ?_ (fun _ _ _ => ?_)
           all_goals try simp only [pair_eq] at *
           all_goals try casesm* _ ∧ _
           all_goals try subst_vars
           all_goals (first | with_reducible assumption | simp +contextual (maxDischargeDepth := 30) [*, sound_foldl, sound_ite, SoundParts, memWrite_wf]))
        clear_value x)
     | skip)
  | split
  | with_reducible refine sound_foldl ?_ (fun _ _ _ => ?_)
  all_goals try simp only [pair_eq] at *
  all_goals try casesm* _ ∧ _
  all_goals try subst_vars
  all_goals (first | with_reducible assumption | (simp +contextual (maxDischargeDepth := 30) [*, sound_foldl, sound_ite, SoundParts, memWrite_wf]; done) | (simp +contextual +zetaDelta (maxDischargeDepth := 30) [*, sound_foldl, sound_ite, SoundParts, memWrite_wf]; done))

@[simp] theorem State_offer_sound {s : State} (h : Nat) (i : Nat) (hS : State.Sound s) :
    State.Sound (State.offer s h i) := by
  unfold State.offer
  repeat' first
  | with_reducible assumption
  | split
  | with_reducible refine sound_foldl ?_ (fun _ _ _ => ?_)
  all_goals try simp only [pair_eq] at *
  all_goals try casesm* _ ∧ _
  all_goals try subst_vars
  all_goals (first | with_reducible assumption | simp +contextual (maxDischargeDepth := 30) [*, sound_foldl, sound_ite, SoundParts, memWrite_wf])

@[simp] theorem State_unhold_sound {s : State} (h : Nat) (i : Nat) (hS : State.Sound s) :
    State.Sound (State.unhold s h i) := by
  unfold State.unhold
  repeat' first
  | with_reducible assumption
  | split
  | with_reducible refine sound_foldl ?_ (fun _ _ _ => ?_)
  all_goals try simp only [pair_eq] at *
  all_goals try casesm* _ ∧ _
  all_goals try subst_vars
  all_goals (first | with_reducible assumption | simp +contextual (maxDischargeDepth := 30) [*, sound_foldl, sound_ite, SoundParts, memWrite_wf])

@[simp] theorem State_offers_sound {s : State} (h : Nat) (reads : List Nat) (hS : State.Sound s) :
    State.Sound (State.offers s h reads) := by
  unfold State.offers
  repeat' first
  | with_reducible assumption
  | split
  | with_reducible refine sound_foldl ?_ (fun _ _ _ => ?_)
  all_goals try simp only [pair_eq] at *
  all_goals try casesm* _ ∧ _
  all_goals try subst_vars
  all_goals (first | with_reducible assumption | simp +contextual (maxDischargeDepth := 30) [*, sound_foldl, sound_ite, SoundParts, memWrite_wf])

@[simp] theorem State_ownerEvent_sound {s : State} (change : Nat) (path : Nat) (address : Nat) (hS : State.Sound s) :
    State.Sound (State.ownerEvent s change path address) := by
  unfold State.ownerEvent
  repeat' first
  | with_reducible assumption
  | split
  | with_reducible refine sound_foldl ?_ (fun _ _ _ => ?_)
  all_goals try simp only [pair_eq] at *
  all_goals try casesm* _ ∧ _
  all_goals try subst_vars
  all_goals (first | with_reducible assumption | simp +contextual (maxDischargeDepth := 30) [*, sound_foldl, sound_ite, SoundParts, memWrite_wf])

@[simp] theorem State_beginOwner_sound {s : State} (o : Owner) (hS : State.Sound s) :
    State.Sound (State.beginOwner s o) := by
  unfold State.beginOwner
  repeat' first
  | with_reducible assumption
  | split
  | with_reducible refine sound_foldl ?_ (fun _ _ _ => ?_)
  all_goals try simp only [pair_eq] at *
  all_goals try casesm* _ ∧ _
  all_goals try subst_vars
  all_goals (first | with_reducible assumption | simp +contextual (maxDischargeDepth := 30) [*, sound_foldl, sound_ite, SoundParts, memWrite_wf])

@[simp] theorem State_endPurlOwner_sound {s : State} (change : Nat) (hS : State.Sound s) :
    State.Sound (State.endPurlOwner s change) := by
  unfold State.endPurlOwner
  repeat' first
  | with_reducible assumption
  | split
  | with_reducible refine sound_foldl ?_ (fun _ _ _ => ?_)
  all_goals try simp only [pair_eq] at *
  all_goals try casesm* _ ∧ _
  all_goals try subst_vars
  all_goals (first | with_reducible assumption | simp +contextual (maxDischargeDepth := 30) [*, sound_foldl, sound_ite, SoundParts, memWrite_wf])

@[simp] theorem State_linkEvent_sound {s : State} (p : Nat) (up : Bool) (speed : Nat) (hS : State.Sound s) :
    State.Sound (State.linkEvent s p up speed) := by
  unfold State.linkEvent
  repeat' first
  | with_reducible assumption
  | split
  | with_reducible refine sound_foldl ?_ (fun _ _ _ => ?_)
  all_goals try simp only [pair_eq] at *
  all_goals try casesm* _ ∧ _
  all_goals try subst_vars
  all_goals (first | with_reducible assumption | simp +contextual (maxDischargeDepth := 30) [*, sound_foldl, sound_ite, SoundParts, memWrite_wf])

@[simp] theorem State_settleJoins_sound {s : State} {old : State} (p : Nat) (hS : State.Sound s) (hold : State.Sound old) :
    State.Sound (State.settleJoins s old p) := by
  unfold State.settleJoins
  repeat' first
  | with_reducible assumption
  | split
  | with_reducible refine sound_foldl ?_ (fun _ _ _ => ?_)
  all_goals try simp only [pair_eq] at *
  all_goals try casesm* _ ∧ _
  all_goals try subst_vars
  all_goals (first | with_reducible assumption | simp +contextual (maxDischargeDepth := 30) [*, sound_foldl, sound_ite, SoundParts, memWrite_wf])

@[simp] theorem State_setLink_sound {s : State} (p : Nat) (up : Bool) (hS : State.Sound s) :
    State.Sound (State.setLink s p up) := by
  unfold State.setLink
  repeat' first
  | with_reducible assumption
  | (extract_lets +onlyGivenNames x
     first
     | (have hx : State.Sound x := by
          (dsimp only [x]
           repeat' first
           | with_reducible assumption
           | split
           | with_reducible refine sound_foldl ?_ (fun _ _ _ => ?_)
           all_goals try simp only [pair_eq] at *
           all_goals try casesm* _ ∧ _
           all_goals try subst_vars
           all_goals (first | with_reducible assumption | simp +contextual (maxDischargeDepth := 30) [*, sound_foldl, sound_ite, SoundParts, memWrite_wf]))
        clear_value x)
     | skip)
  | split
  | with_reducible refine sound_foldl ?_ (fun _ _ _ => ?_)
  all_goals try simp only [pair_eq] at *
  all_goals try casesm* _ ∧ _
  all_goals try subst_vars
  all_goals (first | with_reducible assumption | (simp +contextual (maxDischargeDepth := 30) [*, sound_foldl, sound_ite, SoundParts, memWrite_wf]; done) | (simp +contextual +zetaDelta (maxDischargeDepth := 30) [*, sound_foldl, sound_ite, SoundParts, memWrite_wf]; done))

@[simp] theorem State_settleAddress_sound {s : State} {old : State} (p : Nat) (hS : State.Sound s) (hold : State.Sound old) :
    State.Sound (State.settleAddress s old p) := by
  unfold State.settleAddress
  repeat' first
  | with_reducible assumption
  | split
  | with_reducible refine sound_foldl ?_ (fun _ _ _ => ?_)
  all_goals try simp only [pair_eq] at *
  all_goals try casesm* _ ∧ _
  all_goals try subst_vars
  all_goals (first | with_reducible assumption | simp +contextual (maxDischargeDepth := 30) [*, sound_foldl, sound_ite, SoundParts, memWrite_wf])

@[simp] theorem State_wroteNetConfig_sound {s : State} {before : State} (p : Nat) (v : Word) (hS : State.Sound s) (hbefore : State.Sound before) :
    State.Sound (State.wroteNetConfig s before p v) := by
  unfold State.wroteNetConfig
  repeat' first
  | with_reducible assumption
  | (extract_lets +onlyGivenNames x
     first
     | (have hx : State.Sound x := by
          (dsimp only [x]
           repeat' first
           | with_reducible assumption
           | split
           | with_reducible refine sound_foldl ?_ (fun _ _ _ => ?_)
           all_goals try simp only [pair_eq] at *
           all_goals try casesm* _ ∧ _
           all_goals try subst_vars
           all_goals (first | with_reducible assumption | simp +contextual (maxDischargeDepth := 30) [*, sound_foldl, sound_ite, SoundParts, memWrite_wf]))
        clear_value x)
     | skip)
  | split
  | with_reducible refine sound_foldl ?_ (fun _ _ _ => ?_)
  all_goals try simp only [pair_eq] at *
  all_goals try casesm* _ ∧ _
  all_goals try subst_vars
  all_goals (first | with_reducible assumption | (simp +contextual (maxDischargeDepth := 30) [*, sound_foldl, sound_ite, SoundParts, memWrite_wf]; done) | (simp +contextual +zetaDelta (maxDischargeDepth := 30) [*, sound_foldl, sound_ite, SoundParts, memWrite_wf]; done))

@[simp] theorem State_dropLease_sound {s : State} (p : Nat) (hS : State.Sound s) :
    State.Sound (State.dropLease s p) := by
  unfold State.dropLease
  repeat' first
  | with_reducible assumption
  | (extract_lets +onlyGivenNames x
     first
     | (have hx : State.Sound x := by
          (dsimp only [x]
           repeat' first
           | with_reducible assumption
           | split
           | with_reducible refine sound_foldl ?_ (fun _ _ _ => ?_)
           all_goals try simp only [pair_eq] at *
           all_goals try casesm* _ ∧ _
           all_goals try subst_vars
           all_goals (first | with_reducible assumption | simp +contextual (maxDischargeDepth := 30) [*, sound_foldl, sound_ite, SoundParts, memWrite_wf]))
        clear_value x)
     | skip)
  | split
  | with_reducible refine sound_foldl ?_ (fun _ _ _ => ?_)
  all_goals try simp only [pair_eq] at *
  all_goals try casesm* _ ∧ _
  all_goals try subst_vars
  all_goals (first | with_reducible assumption | (simp +contextual (maxDischargeDepth := 30) [*, sound_foldl, sound_ite, SoundParts, memWrite_wf]; done) | (simp +contextual +zetaDelta (maxDischargeDepth := 30) [*, sound_foldl, sound_ite, SoundParts, memWrite_wf]; done))

@[simp] theorem State_dhcpExpiry_sound {s : State} (p : Nat) (hS : State.Sound s) :
    State.Sound (State.dhcpExpiry s p) := by
  unfold State.dhcpExpiry
  repeat' first
  | with_reducible assumption
  | (extract_lets +onlyGivenNames x
     first
     | (have hx : State.Sound x := by
          (dsimp only [x]
           repeat' first
           | with_reducible assumption
           | split
           | with_reducible refine sound_foldl ?_ (fun _ _ _ => ?_)
           all_goals try simp only [pair_eq] at *
           all_goals try casesm* _ ∧ _
           all_goals try subst_vars
           all_goals (first | with_reducible assumption | simp +contextual (maxDischargeDepth := 30) [*, sound_foldl, sound_ite, SoundParts, memWrite_wf]))
        clear_value x)
     | skip)
  | split
  | with_reducible refine sound_foldl ?_ (fun _ _ _ => ?_)
  all_goals try simp only [pair_eq] at *
  all_goals try casesm* _ ∧ _
  all_goals try subst_vars
  all_goals (first | with_reducible assumption | (simp +contextual (maxDischargeDepth := 30) [*, sound_foldl, sound_ite, SoundParts, memWrite_wf]; done) | (simp +contextual +zetaDelta (maxDischargeDepth := 30) [*, sound_foldl, sound_ite, SoundParts, memWrite_wf]; done))

@[simp] theorem State_dhcpAsk_sound {s : State} (p : Nat) (hS : State.Sound s) :
    State.Sound (State.dhcpAsk s p) := by
  unfold State.dhcpAsk
  repeat' first
  | with_reducible assumption
  | split
  | with_reducible refine sound_foldl ?_ (fun _ _ _ => ?_)
  all_goals try simp only [pair_eq] at *
  all_goals try casesm* _ ∧ _
  all_goals try subst_vars
  all_goals (first | with_reducible assumption | simp +contextual (maxDischargeDepth := 30) [*, sound_foldl, sound_ite, SoundParts, memWrite_wf])

@[simp] theorem State_arp_sound {s : State} (p : Nat) (mac : BitVec 48) (ip : Word) (target : Word) (hS : State.Sound s) :
    State.Sound (State.arp s p mac ip target) := by
  unfold State.arp
  repeat' first
  | with_reducible assumption
  | split
  | with_reducible refine sound_foldl ?_ (fun _ _ _ => ?_)
  all_goals try simp only [pair_eq] at *
  all_goals try casesm* _ ∧ _
  all_goals try subst_vars
  all_goals (first | with_reducible assumption | simp +contextual (maxDischargeDepth := 30) [*, sound_foldl, sound_ite, SoundParts, memWrite_wf])

@[simp] theorem State_icmp_sound {s : State} (p : Nat) (source : Word) (target : Word) (message : List Byte) (hS : State.Sound s) :
    State.Sound (State.icmp s p source target message) := by
  unfold State.icmp
  repeat' first
  | with_reducible assumption
  | split
  | with_reducible refine sound_foldl ?_ (fun _ _ _ => ?_)
  all_goals try simp only [pair_eq] at *
  all_goals try casesm* _ ∧ _
  all_goals try subst_vars
  all_goals (first | with_reducible assumption | simp +contextual (maxDischargeDepth := 30) [*, sound_foldl, sound_ite, SoundParts, memWrite_wf])

@[simp] theorem State_regroupConsole_sound {s : State} (old : Pattern) (new : Pattern) (hS : State.Sound s) :
    State.Sound (State.regroupConsole s old new) := by
  unfold State.regroupConsole
  repeat' first
  | with_reducible assumption
  | split
  | with_reducible refine sound_foldl ?_ (fun _ _ _ => ?_)
  all_goals try simp only [pair_eq] at *
  all_goals try casesm* _ ∧ _
  all_goals try subst_vars
  all_goals (first | with_reducible assumption | simp +contextual (maxDischargeDepth := 30) [*, sound_foldl, sound_ite, SoundParts, memWrite_wf])

@[simp] theorem State_igmpAnswer_sound {s : State} (p : Nat) (group : Option Word) (senders : List Word) (hS : State.Sound s) :
    State.Sound (State.igmpAnswer s p group senders) := by
  unfold State.igmpAnswer
  repeat' first
  | with_reducible assumption
  | (extract_lets +onlyGivenNames x
     first
     | (have hx : State.Sound x := by
          (dsimp only [x]
           repeat' first
           | with_reducible assumption
           | split
           | with_reducible refine sound_foldl ?_ (fun _ _ _ => ?_)
           all_goals try simp only [pair_eq] at *
           all_goals try casesm* _ ∧ _
           all_goals try subst_vars
           all_goals (first | with_reducible assumption | simp +contextual (maxDischargeDepth := 30) [*, sound_foldl, sound_ite, SoundParts, memWrite_wf]))
        clear_value x)
     | skip)
  | split
  | with_reducible refine sound_foldl ?_ (fun _ _ _ => ?_)
  all_goals try simp only [pair_eq] at *
  all_goals try casesm* _ ∧ _
  all_goals try subst_vars
  all_goals (first | with_reducible assumption | (simp +contextual (maxDischargeDepth := 30) [*, sound_foldl, sound_ite, SoundParts, memWrite_wf]; done) | (simp +contextual +zetaDelta (maxDischargeDepth := 30) [*, sound_foldl, sound_ite, SoundParts, memWrite_wf]; done))

@[simp] theorem State_setUniverse_sound {s : State} (u : Nat) (x : UniverseSt) (hS : State.Sound s) :
    State.Sound (State.setUniverse s u x) := by
  unfold State.setUniverse
  repeat' first
  | with_reducible assumption
  | split
  | with_reducible refine sound_foldl ?_ (fun _ _ _ => ?_)
  all_goals try simp only [pair_eq] at *
  all_goals try casesm* _ ∧ _
  all_goals try subst_vars
  all_goals (first | with_reducible assumption | simp +contextual (maxDischargeDepth := 30) [*, sound_foldl, sound_ite, SoundParts, memWrite_wf])

@[simp] theorem State_consoleIgnore_sound {s : State} (hS : State.Sound s) :
    State.Sound (State.consoleIgnore s) := by
  unfold State.consoleIgnore
  repeat' first
  | with_reducible assumption
  | split
  | with_reducible refine sound_foldl ?_ (fun _ _ _ => ?_)
  all_goals try simp only [pair_eq] at *
  all_goals try casesm* _ ∧ _
  all_goals try subst_vars
  all_goals (first | with_reducible assumption | simp +contextual (maxDischargeDepth := 30) [*, sound_foldl, sound_ite, SoundParts, memWrite_wf])

@[simp] theorem State_fireTriggers_sound {s : State} (u : Nat) (old : List Byte) (new : List Byte) (hS : State.Sound s) :
    State.Sound (State.fireTriggers s u old new) := by
  unfold State.fireTriggers
  repeat' first
  | with_reducible assumption
  | split
  | with_reducible refine sound_foldl ?_ (fun _ _ _ => ?_)
  all_goals try simp only [pair_eq] at *
  all_goals try casesm* _ ∧ _
  all_goals try subst_vars
  all_goals (first | with_reducible assumption | simp +contextual (maxDischargeDepth := 30) [*, sound_foldl, sound_ite, SoundParts, memWrite_wf])

@[simp] theorem State_updateUniverse_sound {s : State} (u : Nat) (x : UniverseSt) (hS : State.Sound s) :
    State.Sound (State.updateUniverse s u x) := by
  unfold State.updateUniverse
  repeat' first
  | with_reducible assumption
  | split
  | with_reducible refine sound_foldl ?_ (fun _ _ _ => ?_)
  all_goals try simp only [pair_eq] at *
  all_goals try casesm* _ ∧ _
  all_goals try subst_vars
  all_goals (first | with_reducible assumption | simp +contextual (maxDischargeDepth := 30) [*, sound_foldl, sound_ite, SoundParts, memWrite_wf])

@[simp] theorem State_takeConsole_sound {s : State} (u : Nat) (k : E131) (hS : State.Sound s) :
    State.Sound (State.takeConsole s u k) := by
  unfold State.takeConsole
  repeat' first
  | with_reducible assumption
  | (extract_lets +onlyGivenNames x
     first
     | (have hx : State.Sound x := by
          (dsimp only [x]
           repeat' first
           | with_reducible assumption
           | split
           | with_reducible refine sound_foldl ?_ (fun _ _ _ => ?_)
           all_goals try simp only [pair_eq] at *
           all_goals try casesm* _ ∧ _
           all_goals try subst_vars
           all_goals (first | with_reducible assumption | simp +contextual (maxDischargeDepth := 30) [*, sound_foldl, sound_ite, SoundParts, memWrite_wf]))
        clear_value x)
     | skip)
  | split
  | with_reducible refine sound_foldl ?_ (fun _ _ _ => ?_)
  all_goals try simp only [pair_eq] at *
  all_goals try casesm* _ ∧ _
  all_goals try subst_vars
  all_goals (first | with_reducible assumption | (simp +contextual (maxDischargeDepth := 30) [*, sound_foldl, sound_ite, SoundParts, memWrite_wf]; done) | (simp +contextual +zetaDelta (maxDischargeDepth := 30) [*, sound_foldl, sound_ite, SoundParts, memWrite_wf]; done))

@[simp] theorem State_e131_sound {s : State} (k : E131) (hS : State.Sound s) :
    State.Sound (State.e131 s k) := by
  unfold State.e131
  repeat' first
  | with_reducible assumption
  | split
  | with_reducible refine sound_foldl ?_ (fun _ _ _ => ?_)
  all_goals try simp only [pair_eq] at *
  all_goals try casesm* _ ∧ _
  all_goals try subst_vars
  all_goals (first | with_reducible assumption | simp +contextual (maxDischargeDepth := 30) [*, sound_foldl, sound_ite, SoundParts, memWrite_wf])

@[simp] theorem State_e131Timeout_sound {s : State} (u : Nat) (cid : BitVec 128) (hS : State.Sound s) :
    State.Sound (State.e131Timeout s u cid) := by
  unfold State.e131Timeout
  repeat' first
  | with_reducible assumption
  | split
  | with_reducible refine sound_foldl ?_ (fun _ _ _ => ?_)
  all_goals try simp only [pair_eq] at *
  all_goals try casesm* _ ∧ _
  all_goals try subst_vars
  all_goals (first | with_reducible assumption | simp +contextual (maxDischargeDepth := 30) [*, sound_foldl, sound_ite, SoundParts, memWrite_wf])

@[simp] theorem State_applyMapEntry_sound {s : State} (k : Nat) (m : MapRec) (hS : State.Sound s) :
    State.Sound (State.applyMapEntry s k m) := by
  unfold State.applyMapEntry
  repeat' first
  | with_reducible assumption
  | split
  | with_reducible refine sound_foldl ?_ (fun _ _ _ => ?_)
  all_goals try simp only [pair_eq] at *
  all_goals try casesm* _ ∧ _
  all_goals try subst_vars
  all_goals (first | with_reducible assumption | simp +contextual (maxDischargeDepth := 30) [*, sound_foldl, sound_ite, SoundParts, memWrite_wf])

@[simp] theorem State_consoleApply_sound {s : State} (h : Nat) (hS : State.Sound s) :
    State.Sound (State.consoleApply s h) := by
  unfold State.consoleApply
  repeat' first
  | with_reducible assumption
  | split
  | with_reducible refine sound_foldl ?_ (fun _ _ _ => ?_)
  all_goals try simp only [pair_eq] at *
  all_goals try casesm* _ ∧ _
  all_goals try subst_vars
  all_goals (first | with_reducible assumption | simp +contextual (maxDischargeDepth := 30) [*, sound_foldl, sound_ite, SoundParts, memWrite_wf])

@[simp] theorem State_modChassis_sound {s : State} (f : ChassisSt → ChassisSt) (hS : State.Sound s) :
    State.Sound (State.modChassis s f) := by
  unfold State.modChassis
  repeat' first
  | with_reducible assumption
  | split
  | with_reducible refine sound_foldl ?_ (fun _ _ _ => ?_)
  all_goals try simp only [pair_eq] at *
  all_goals try casesm* _ ∧ _
  all_goals try subst_vars
  all_goals (first | with_reducible assumption | simp +contextual (maxDischargeDepth := 30) [*, sound_foldl, sound_ite, SoundParts, memWrite_wf])

@[simp] theorem State_button_sound {s : State} (held : Bool) (hS : State.Sound s) :
    State.Sound (State.button s held) := by
  unfold State.button
  repeat' first
  | with_reducible assumption
  | split
  | with_reducible refine sound_foldl ?_ (fun _ _ _ => ?_)
  all_goals try simp only [pair_eq] at *
  all_goals try casesm* _ ∧ _
  all_goals try subst_vars
  all_goals (first | with_reducible assumption | simp +contextual (maxDischargeDepth := 30) [*, sound_foldl, sound_ite, SoundParts, memWrite_wf])

@[simp] theorem State_sfpChange_sound {s : State} (p : Nat) (m : Option SfpModule) (hS : State.Sound s) :
    State.Sound (State.sfpChange s p m) := by
  unfold State.sfpChange
  repeat' first
  | with_reducible assumption
  | split
  | with_reducible refine sound_foldl ?_ (fun _ _ _ => ?_)
  all_goals try simp only [pair_eq] at *
  all_goals try casesm* _ ∧ _
  all_goals try subst_vars
  all_goals (first | with_reducible assumption | simp +contextual (maxDischargeDepth := 30) [*, sound_foldl, sound_ite, SoundParts, memWrite_wf])

@[simp] theorem State_sfpOvercurrent_sound {s : State} (p : Nat) (hS : State.Sound s) :
    State.Sound (State.sfpOvercurrent s p) := by
  unfold State.sfpOvercurrent
  repeat' first
  | with_reducible assumption
  | split
  | with_reducible refine sound_foldl ?_ (fun _ _ _ => ?_)
  all_goals try simp only [pair_eq] at *
  all_goals try casesm* _ ∧ _
  all_goals try subst_vars
  all_goals (first | with_reducible assumption | simp +contextual (maxDischargeDepth := 30) [*, sound_foldl, sound_ite, SoundParts, memWrite_wf])

@[simp] theorem State_dpFoldback_sound {s : State} (p : Nat) (hS : State.Sound s) :
    State.Sound (State.dpFoldback s p) := by
  unfold State.dpFoldback
  repeat' first
  | with_reducible assumption
  | split
  | with_reducible refine sound_foldl ?_ (fun _ _ _ => ?_)
  all_goals try simp only [pair_eq] at *
  all_goals try casesm* _ ∧ _
  all_goals try subst_vars
  all_goals (first | with_reducible assumption | simp +contextual (maxDischargeDepth := 30) [*, sound_foldl, sound_ite, SoundParts, memWrite_wf])

@[simp] theorem State_dpRetryPower_sound {s : State} (p : Nat) (recovered : Bool) (hS : State.Sound s) :
    State.Sound (State.dpRetryPower s p recovered) := by
  unfold State.dpRetryPower
  repeat' first
  | with_reducible assumption
  | split
  | with_reducible refine sound_foldl ?_ (fun _ _ _ => ?_)
  all_goals try simp only [pair_eq] at *
  all_goals try casesm* _ ∧ _
  all_goals try subst_vars
  all_goals (first | with_reducible assumption | simp +contextual (maxDischargeDepth := 30) [*, sound_foldl, sound_ite, SoundParts, memWrite_wf])

@[simp] theorem State_gpoTrip_sound {s : State} (p : Nat) (hS : State.Sound s) :
    State.Sound (State.gpoTrip s p) := by
  unfold State.gpoTrip
  repeat' first
  | with_reducible assumption
  | split
  | with_reducible refine sound_foldl ?_ (fun _ _ _ => ?_)
  all_goals try simp only [pair_eq] at *
  all_goals try casesm* _ ∧ _
  all_goals try subst_vars
  all_goals (first | with_reducible assumption | simp +contextual (maxDischargeDepth := 30) [*, sound_foldl, sound_ite, SoundParts, memWrite_wf])

@[simp] theorem State_modPower_sound {s : State} (f : PowerSt → PowerSt) (hs : s.Sound)
    (h1 : (f s.power).heldEvents.length ≤ 16) (h2 : (f s.power).heldRecords.length ≤ 16) : (s.modPower f).Sound := by
  unfold State.modPower; simp [*, sound_ite, SoundParts, memWrite_wf]

@[simp] theorem State_modBoot_sound {s : State} (f : BootSt → BootSt) (hS : State.Sound s) :
    State.Sound (State.modBoot s f) := by
  unfold State.modBoot
  repeat' first
  | with_reducible assumption
  | split
  | with_reducible refine sound_foldl ?_ (fun _ _ _ => ?_)
  all_goals try simp only [pair_eq] at *
  all_goals try casesm* _ ∧ _
  all_goals try subst_vars
  all_goals (first | with_reducible assumption | simp +contextual (maxDischargeDepth := 30) [*, sound_foldl, sound_ite, SoundParts, memWrite_wf])

@[simp] theorem State_resetRegs_sound {s : State} (hS : State.Sound s) :
    State.Sound (State.resetRegs s) := by
  unfold State.resetRegs
  repeat' first
  | with_reducible assumption
  | split
  | with_reducible refine sound_foldl ?_ (fun _ _ _ => ?_)
  all_goals try simp only [pair_eq] at *
  all_goals try casesm* _ ∧ _
  all_goals try subst_vars
  all_goals (first | with_reducible assumption | simp +contextual (maxDischargeDepth := 30) [*, sound_foldl, sound_ite, SoundParts, memWrite_wf])

@[simp] theorem State_accOff_sound {s : State} (hS : State.Sound s) :
    State.Sound (State.accOff s) := by
  unfold State.accOff
  repeat' first
  | with_reducible assumption
  | split
  | with_reducible refine sound_foldl ?_ (fun _ _ _ => ?_)
  all_goals try simp only [pair_eq] at *
  all_goals try casesm* _ ∧ _
  all_goals try subst_vars
  all_goals (first | with_reducible assumption | simp +contextual (maxDischargeDepth := 30) [*, sound_foldl, sound_ite, SoundParts, memWrite_wf])

theorem resetLedger_bounds (warm : Bool) (l : LedgerSt) (h : l.entries.length ≤ 64) :
    (resetLedger warm l).entries.length ≤ 64 ∧ (resetLedger warm l).held.length ≤ 16 := by
  unfold resetLedger
  split
  · exact ⟨h, Nat.zero_le _⟩
  · exact ⟨Nat.zero_le _, Nat.zero_le _⟩

@[simp] theorem State_setFlash_sound {s : State} (target : Nat) (bs : List Byte) (hS : State.Sound s) :
    State.Sound (State.setFlash s target bs) := by
  unfold State.setFlash
  repeat' first
  | with_reducible assumption
  | split
  | with_reducible refine sound_foldl ?_ (fun _ _ _ => ?_)
  all_goals try simp only [pair_eq] at *
  all_goals try casesm* _ ∧ _
  all_goals try subst_vars
  all_goals (first | with_reducible assumption | simp +contextual (maxDischargeDepth := 30) [*, sound_foldl, sound_ite, SoundParts, memWrite_wf])

@[simp] theorem State_spoilSlot_sound {s : State} (target : Nat) (hS : State.Sound s) :
    State.Sound (State.spoilSlot s target) := by
  unfold State.spoilSlot
  repeat' first
  | with_reducible assumption
  | (extract_lets +onlyGivenNames x
     first
     | (have hx : State.Sound x := by
          (dsimp only [x]
           repeat' first
           | with_reducible assumption
           | split
           | with_reducible refine sound_foldl ?_ (fun _ _ _ => ?_)
           all_goals try simp only [pair_eq] at *
           all_goals try casesm* _ ∧ _
           all_goals try subst_vars
           all_goals (first | with_reducible assumption | simp +contextual (maxDischargeDepth := 30) [*, sound_foldl, sound_ite, SoundParts, memWrite_wf]))
        clear_value x)
     | skip)
  | split
  | with_reducible refine sound_foldl ?_ (fun _ _ _ => ?_)
  all_goals try simp only [pair_eq] at *
  all_goals try casesm* _ ∧ _
  all_goals try subst_vars
  all_goals (first | with_reducible assumption | (simp +contextual (maxDischargeDepth := 30) [*, sound_foldl, sound_ite, SoundParts, memWrite_wf]; done) | (simp +contextual +zetaDelta (maxDischargeDepth := 30) [*, sound_foldl, sound_ite, SoundParts, memWrite_wf]; done))

@[simp] theorem State_breakProgram_sound {s : State} (hS : State.Sound s) :
    State.Sound (State.breakProgram s) := by
  unfold State.breakProgram
  repeat' first
  | with_reducible assumption
  | (extract_lets +onlyGivenNames x
     first
     | (have hx : State.Sound x := by
          (dsimp only [x]
           repeat' first
           | with_reducible assumption
           | split
           | with_reducible refine sound_foldl ?_ (fun _ _ _ => ?_)
           all_goals try simp only [pair_eq] at *
           all_goals try casesm* _ ∧ _
           all_goals try subst_vars
           all_goals (first | with_reducible assumption | simp +contextual (maxDischargeDepth := 30) [*, sound_foldl, sound_ite, SoundParts, memWrite_wf]))
        clear_value x)
     | skip)
  | split
  | with_reducible refine sound_foldl ?_ (fun _ _ _ => ?_)
  all_goals try simp only [pair_eq] at *
  all_goals try casesm* _ ∧ _
  all_goals try subst_vars
  all_goals (first | with_reducible assumption | (simp +contextual (maxDischargeDepth := 30) [*, sound_foldl, sound_ite, SoundParts, memWrite_wf]; done) | (simp +contextual +zetaDelta (maxDischargeDepth := 30) [*, sound_foldl, sound_ite, SoundParts, memWrite_wf]; done))

@[simp] theorem State_systemReset_sound {s : State} (warm : Bool) (hS : s.Sound) : (s.systemReset warm).Sound := by
  have h1 := State_accOff_sound (State_resetRegs_sound (State_breakProgram_sound hS))
  have h2 := resetLedger_bounds warm s.ledger hS.2
  unfold State.systemReset
  exact ⟨rfl, h2.1, h2.2, Nat.zero_le _, h1.5, h1.6⟩

@[simp] theorem State_sendSlave_sound {s : State} (b : Nat) (command : Nat) (data : Nat) (hS : State.Sound s) :
    State.Sound (State.sendSlave s b command data) := by
  unfold State.sendSlave
  repeat' first
  | with_reducible assumption
  | split
  | with_reducible refine sound_foldl ?_ (fun _ _ _ => ?_)
  all_goals try simp only [pair_eq] at *
  all_goals try casesm* _ ∧ _
  all_goals try subst_vars
  all_goals (first | with_reducible assumption | simp +contextual (maxDischargeDepth := 30) [*, sound_foldl, sound_ite, SoundParts, memWrite_wf])

@[simp] theorem State_holdBoards_sound {s : State} (hS : State.Sound s) : State.Sound (State.holdBoards s) :=
  sound_foldl hS (fun _ _ h => State_sendSlave_sound _ _ _ h)

@[simp] theorem State_warmReset_sound {s : State} (cause : Nat) (hS : State.Sound s) :
    State.Sound (State.warmReset s cause) := by
  unfold State.warmReset
  repeat' first
  | with_reducible assumption
  | split
  | with_reducible refine sound_foldl ?_ (fun _ _ _ => ?_)
  all_goals try simp only [pair_eq] at *
  all_goals try casesm* _ ∧ _
  all_goals try subst_vars
  all_goals (first | with_reducible assumption | simp +contextual (maxDischargeDepth := 30) [*, sound_foldl, sound_ite, SoundParts, memWrite_wf])

@[simp] theorem State_psvEvent_sound {s : State} (code : Nat) (detail : List Byte) (hS : State.Sound s) :
    State.Sound (State.psvEvent s code detail) := by
  unfold State.psvEvent
  repeat' first
  | with_reducible assumption
  | split
  | with_reducible refine sound_foldl ?_ (fun _ _ _ => ?_)
  all_goals try simp only [pair_eq] at *
  all_goals try casesm* _ ∧ _
  all_goals try subst_vars
  all_goals (first | with_reducible assumption | simp +contextual (maxDischargeDepth := 30) [*, sound_foldl, sound_ite, SoundParts, memWrite_wf])

@[simp] theorem State_psvRecord_sound {s : State} (detail : List (Nat × Nat)) (addr : Nat) (secondary : Bool) (hS : State.Sound s) :
    State.Sound (State.psvRecord s detail addr secondary) := by
  unfold State.psvRecord
  repeat' first
  | with_reducible assumption
  | split
  | with_reducible refine sound_foldl ?_ (fun _ _ _ => ?_)
  all_goals try simp only [pair_eq] at *
  all_goals try casesm* _ ∧ _
  all_goals try subst_vars
  all_goals (first | with_reducible assumption | simp +contextual (maxDischargeDepth := 30) [*, sound_foldl, sound_ite, SoundParts, memWrite_wf])

@[simp] theorem State_psvRecordOpen_sound {s : State} (detail : List (Nat × Nat)) (hS : State.Sound s) :
    State.Sound (State.psvRecordOpen s detail) := by
  unfold State.psvRecordOpen
  repeat' first
  | with_reducible assumption
  | split
  | with_reducible refine sound_foldl ?_ (fun _ _ _ => ?_)
  all_goals try simp only [pair_eq] at *
  all_goals try casesm* _ ∧ _
  all_goals try subst_vars
  all_goals (first | with_reducible assumption | simp +contextual (maxDischargeDepth := 30) [*, sound_foldl, sound_ite, SoundParts, memWrite_wf])

@[simp] theorem State_ledgerUp_sound {s : State} (hS : State.Sound s) :
    State.Sound (State.ledgerUp s) := by
  unfold State.ledgerUp
  repeat' first
  | with_reducible assumption
  | split
  | with_reducible refine sound_foldl ?_ (fun _ _ _ => ?_)
  all_goals try simp only [pair_eq] at *
  all_goals try casesm* _ ∧ _
  all_goals try subst_vars
  all_goals (first | with_reducible assumption | simp +contextual (maxDischargeDepth := 30) [*, sound_foldl, sound_ite, SoundParts, memWrite_wf])

@[simp] theorem State_flushHeld_sound {s : State} (hS : State.Sound s) :
    State.Sound (State.flushHeld s) := by
  unfold State.flushHeld
  repeat' first
  | with_reducible assumption
  | split
  | with_reducible refine sound_foldl ?_ (fun _ _ _ => ?_)
  all_goals try simp only [pair_eq] at *
  all_goals try casesm* _ ∧ _
  all_goals try subst_vars
  all_goals (first | with_reducible assumption | simp +contextual (maxDischargeDepth := 30) [*, sound_foldl, sound_ite, SoundParts, memWrite_wf])

@[simp] theorem State_stepEnds_sound {s : State} (step : Nat) (hS : State.Sound s) :
    State.Sound (State.stepEnds s step) := by
  unfold State.stepEnds
  repeat' first
  | with_reducible assumption
  | split
  | with_reducible refine sound_foldl ?_ (fun _ _ _ => ?_)
  all_goals try simp only [pair_eq] at *
  all_goals try casesm* _ ∧ _
  all_goals try subst_vars
  all_goals (first | with_reducible assumption | simp +contextual (maxDischargeDepth := 30) [*, sound_foldl, sound_ite, SoundParts, memWrite_wf])

@[simp] theorem State_vco_sound {s : State} (locked : Bool) (hS : State.Sound s) :
    State.Sound (State.vco s locked) := by
  unfold State.vco
  repeat' first
  | with_reducible assumption
  | split
  | with_reducible refine sound_foldl ?_ (fun _ _ _ => ?_)
  all_goals try simp only [pair_eq] at *
  all_goals try casesm* _ ∧ _
  all_goals try subst_vars
  all_goals (first | with_reducible assumption | simp +contextual (maxDischargeDepth := 30) [*, sound_foldl, sound_ite, SoundParts, memWrite_wf])

@[simp] theorem State_clockFault_sound {s : State} (clock : Nat) (deviation : Nat) (hS : State.Sound s) :
    State.Sound (State.clockFault s clock deviation) := by
  unfold State.clockFault
  repeat' first
  | with_reducible assumption
  | split
  | with_reducible refine sound_foldl ?_ (fun _ _ _ => ?_)
  all_goals try simp only [pair_eq] at *
  all_goals try casesm* _ ∧ _
  all_goals try subst_vars
  all_goals (first | with_reducible assumption | simp +contextual (maxDischargeDepth := 30) [*, sound_foldl, sound_ite, SoundParts, memWrite_wf])

@[simp] theorem State_retryBringUp_sound {s : State} (hS : State.Sound s) :
    State.Sound (State.retryBringUp s) := by
  unfold State.retryBringUp
  repeat' first
  | with_reducible assumption
  | split
  | with_reducible refine sound_foldl ?_ (fun _ _ _ => ?_)
  all_goals try simp only [pair_eq] at *
  all_goals try casesm* _ ∧ _
  all_goals try subst_vars
  all_goals (first | with_reducible assumption | simp +contextual (maxDischargeDepth := 30) [*, sound_foldl, sound_ite, SoundParts, memWrite_wf])

@[simp] theorem State_railWord_sound {s : State} (r : Nat) (command : Nat) (hS : State.Sound s) :
    State.Sound (State.railWord s r command) := by
  unfold State.railWord
  repeat' first
  | with_reducible assumption
  | split
  | with_reducible refine sound_foldl ?_ (fun _ _ _ => ?_)
  all_goals try simp only [pair_eq] at *
  all_goals try casesm* _ ∧ _
  all_goals try subst_vars
  all_goals (first | with_reducible assumption | simp +contextual (maxDischargeDepth := 30) [*, sound_foldl, sound_ite, SoundParts, memWrite_wf])

@[simp] theorem State_railEnable_sound {s : State} (r : Nat) (hS : State.Sound s) :
    State.Sound (State.railEnable s r) := by
  unfold State.railEnable
  repeat' first
  | with_reducible assumption
  | split
  | with_reducible refine sound_foldl ?_ (fun _ _ _ => ?_)
  all_goals try simp only [pair_eq] at *
  all_goals try casesm* _ ∧ _
  all_goals try subst_vars
  all_goals (first | with_reducible assumption | simp +contextual (maxDischargeDepth := 30) [*, sound_foldl, sound_ite, SoundParts, memWrite_wf])

@[simp] theorem State_railCut_sound {s : State} (r : Nat) (st : Nat) (hS : State.Sound s) :
    State.Sound (State.railCut s r st) := by
  unfold State.railCut
  repeat' first
  | with_reducible assumption
  | split
  | with_reducible refine sound_foldl ?_ (fun _ _ _ => ?_)
  all_goals try simp only [pair_eq] at *
  all_goals try casesm* _ ∧ _
  all_goals try subst_vars
  all_goals (first | with_reducible assumption | simp +contextual (maxDischargeDepth := 30) [*, sound_foldl, sound_ite, SoundParts, memWrite_wf])

@[simp] theorem State_endOff_sound {s : State} (hS : State.Sound s) :
    State.Sound (State.endOff s) := by
  unfold State.endOff
  repeat' first
  | with_reducible assumption
  | split
  | with_reducible refine sound_foldl ?_ (fun _ _ _ => ?_)
  all_goals try simp only [pair_eq] at *
  all_goals try casesm* _ ∧ _
  all_goals try subst_vars
  all_goals (first | with_reducible assumption | simp +contextual (maxDischargeDepth := 30) [*, sound_foldl, sound_ite, SoundParts, memWrite_wf])

@[simp] theorem State_startOff_sound {s : State} (after : AfterOff) (hS : State.Sound s) :
    State.Sound (State.startOff s after) := by
  unfold State.startOff
  repeat' first
  | with_reducible assumption
  | split
  | with_reducible refine sound_foldl ?_ (fun _ _ _ => ?_)
  all_goals try simp only [pair_eq] at *
  all_goals try casesm* _ ∧ _
  all_goals try subst_vars
  all_goals (first | with_reducible assumption | simp +contextual (maxDischargeDepth := 30) [*, sound_foldl, sound_ite, SoundParts, memWrite_wf])

@[simp] theorem State_firstFailure_sound {s : State} (rail : Nat) (kind : Nat) (board : Nat) (mv : Nat) (hS : State.Sound s) :
    State.Sound (State.firstFailure s rail kind board mv) := by
  unfold State.firstFailure
  repeat' first
  | with_reducible assumption
  | split
  | with_reducible refine sound_foldl ?_ (fun _ _ _ => ?_)
  all_goals try simp only [pair_eq] at *
  all_goals try casesm* _ ∧ _
  all_goals try subst_vars
  all_goals (first | with_reducible assumption | simp +contextual (maxDischargeDepth := 30) [*, sound_foldl, sound_ite, SoundParts, memWrite_wf])

@[simp] theorem State_railReport_sound {s : State} (r : Nat) (kind : Nat) (reaction : Nat) (mv : Nat) (hS : State.Sound s) :
    State.Sound (State.railReport s r kind reaction mv) := by
  unfold State.railReport
  repeat' first
  | with_reducible assumption
  | split
  | with_reducible refine sound_foldl ?_ (fun _ _ _ => ?_)
  all_goals try simp only [pair_eq] at *
  all_goals try casesm* _ ∧ _
  all_goals try subst_vars
  all_goals (first | with_reducible assumption | simp +contextual (maxDischargeDepth := 30) [*, sound_foldl, sound_ite, SoundParts, memWrite_wf])

@[simp] theorem State_beginStart_sound {s : State} (floor : Bool) (hS : State.Sound s) :
    State.Sound (State.beginStart s floor) := by
  unfold State.beginStart
  repeat' first
  | with_reducible assumption
  | split
  | with_reducible refine sound_foldl ?_ (fun _ _ _ => ?_)
  all_goals try simp only [pair_eq] at *
  all_goals try casesm* _ ∧ _
  all_goals try subst_vars
  all_goals (first | with_reducible assumption | simp +contextual (maxDischargeDepth := 30) [*, sound_foldl, sound_ite, SoundParts, memWrite_wf])

@[simp] theorem State_start_sound {s : State} (hS : State.Sound s) :
    State.Sound (State.start s) := by
  unfold State.start
  repeat' first
  | with_reducible assumption
  | split
  | with_reducible refine sound_foldl ?_ (fun _ _ _ => ?_)
  all_goals try simp only [pair_eq] at *
  all_goals try casesm* _ ∧ _
  all_goals try subst_vars
  all_goals (first | with_reducible assumption | simp +contextual (maxDischargeDepth := 30) [*, sound_foldl, sound_ite, SoundParts, memWrite_wf])

@[simp] theorem State_enableTimer_sound {s : State} (r : Nat) (hS : State.Sound s) :
    State.Sound (State.enableTimer s r) := by
  unfold State.enableTimer
  repeat' first
  | with_reducible assumption
  | split
  | with_reducible refine sound_foldl ?_ (fun _ _ _ => ?_)
  all_goals try simp only [pair_eq] at *
  all_goals try casesm* _ ∧ _
  all_goals try subst_vars
  all_goals (first | with_reducible assumption | simp +contextual (maxDischargeDepth := 30) [*, sound_foldl, sound_ite, SoundParts, memWrite_wf])

@[simp] theorem State_startFailure_sound {s : State} (r : Nat) (kind : Nat) (mv : Nat) (hS : State.Sound s) :
    State.Sound (State.startFailure s r kind mv) := by
  unfold State.startFailure
  repeat' first
  | with_reducible assumption
  | split
  | with_reducible refine sound_foldl ?_ (fun _ _ _ => ?_)
  all_goals try simp only [pair_eq] at *
  all_goals try casesm* _ ∧ _
  all_goals try subst_vars
  all_goals (first | with_reducible assumption | simp +contextual (maxDischargeDepth := 30) [*, sound_foldl, sound_ite, SoundParts, memWrite_wf])

@[simp] theorem State_accLatch_sound {s : State} (r : Nat) (hS : s.Sound) : (s.accLatch r).Sound := by
  have h1 := State_modRail_sound r (fun q => { q with state := 6 }) hS
  exact State_modPower_sound _ h1 h1.5 h1.6

@[simp] theorem State_boardBack_sound {s : State} (b : Nat) (hS : State.Sound s) :
    State.Sound (State.boardBack s b) := by
  unfold State.boardBack
  repeat' first
  | with_reducible assumption
  | (extract_lets +onlyGivenNames x
     first
     | (have hx : State.Sound x := by
          (dsimp only [x]
           repeat' first
           | with_reducible assumption
           | split
           | with_reducible refine sound_foldl ?_ (fun _ _ _ => ?_)
           all_goals try simp only [pair_eq] at *
           all_goals try casesm* _ ∧ _
           all_goals try subst_vars
           all_goals (first | with_reducible assumption | simp +contextual (maxDischargeDepth := 30) [*, sound_foldl, sound_ite, SoundParts, memWrite_wf]))
        clear_value x)
     | skip)
  | split
  | with_reducible refine sound_foldl ?_ (fun _ _ _ => ?_)
  all_goals try simp only [pair_eq] at *
  all_goals try casesm* _ ∧ _
  all_goals try subst_vars
  all_goals (first | with_reducible assumption | (simp +contextual (maxDischargeDepth := 30) [*, sound_foldl, sound_ite, SoundParts, memWrite_wf]; done) | (simp +contextual +zetaDelta (maxDischargeDepth := 30) [*, sound_foldl, sound_ite, SoundParts, memWrite_wf]; done))

@[simp] theorem State_resetReaction_sound {s : State} (hS : State.Sound s) :
    State.Sound (State.resetReaction s) := by
  unfold State.resetReaction
  repeat' first
  | with_reducible assumption
  | (extract_lets +onlyGivenNames x
     first
     | (have hx : State.Sound x := by
          (dsimp only [x]
           repeat' first
           | with_reducible assumption
           | split
           | with_reducible refine sound_foldl ?_ (fun _ _ _ => ?_)
           all_goals try simp only [pair_eq] at *
           all_goals try casesm* _ ∧ _
           all_goals try subst_vars
           all_goals (first | with_reducible assumption | simp +contextual (maxDischargeDepth := 30) [*, sound_foldl, sound_ite, SoundParts, memWrite_wf]))
        clear_value x)
     | skip)
  | split
  | with_reducible refine sound_foldl ?_ (fun _ _ _ => ?_)
  all_goals try simp only [pair_eq] at *
  all_goals try casesm* _ ∧ _
  all_goals try subst_vars
  all_goals (first | with_reducible assumption | (simp +contextual (maxDischargeDepth := 30) [*, sound_foldl, sound_ite, SoundParts, memWrite_wf]; done) | (simp +contextual +zetaDelta (maxDischargeDepth := 30) [*, sound_foldl, sound_ite, SoundParts, memWrite_wf]; done))

@[simp] theorem State_boardLost_sound {s : State} (b : Nat) (hS : State.Sound s) :
    State.Sound (State.boardLost s b) := by
  unfold State.boardLost
  repeat' first
  | with_reducible assumption
  | split
  | with_reducible refine sound_foldl ?_ (fun _ _ _ => ?_)
  all_goals try simp only [pair_eq] at *
  all_goals try casesm* _ ∧ _
  all_goals try subst_vars
  all_goals (first | with_reducible assumption | simp +contextual (maxDischargeDepth := 30) [*, sound_foldl, sound_ite, SoundParts, memWrite_wf])

@[simp] theorem State_shutGroup_sound {s : State} (b : Nat) (hS : State.Sound s) :
    State.Sound (State.shutGroup s b) := by
  unfold State.shutGroup
  repeat' first
  | with_reducible assumption
  | split
  | with_reducible refine sound_foldl ?_ (fun _ _ _ => ?_)
  all_goals try simp only [pair_eq] at *
  all_goals try casesm* _ ∧ _
  all_goals try subst_vars
  all_goals (first | with_reducible assumption | simp +contextual (maxDischargeDepth := 30) [*, sound_foldl, sound_ite, SoundParts, memWrite_wf])

@[simp] theorem State_retryOff_sound {s : State} (r : Nat) (hS : State.Sound s) :
    State.Sound (State.retryOff s r) := by
  unfold State.retryOff
  repeat' first
  | with_reducible assumption
  | split
  | with_reducible refine sound_foldl ?_ (fun _ _ _ => ?_)
  all_goals try simp only [pair_eq] at *
  all_goals try casesm* _ ∧ _
  all_goals try subst_vars
  all_goals (first | with_reducible assumption | simp +contextual (maxDischargeDepth := 30) [*, sound_foldl, sound_ite, SoundParts, memWrite_wf])

@[simp] theorem State_react_sound {s : State} (r : Nat) (kind : Nat) (mv : Nat) (code : Nat) (hS : State.Sound s) :
    State.Sound (State.react s r kind mv code) := by
  unfold State.react
  repeat' first
  | with_reducible assumption
  | split
  | with_reducible refine sound_foldl ?_ (fun _ _ _ => ?_)
  all_goals try simp only [pair_eq] at *
  all_goals try casesm* _ ∧ _
  all_goals try subst_vars
  all_goals (first | with_reducible assumption | simp +contextual (maxDischargeDepth := 30) [*, sound_foldl, sound_ite, SoundParts, memWrite_wf])

@[simp] theorem State_countFault_sound {s : State} (r : Nat) (kind : Nat) (hS : State.Sound s) :
    State.Sound (State.countFault s r kind) := by
  unfold State.countFault
  repeat' first
  | with_reducible assumption
  | split
  | with_reducible refine sound_foldl ?_ (fun _ _ _ => ?_)
  all_goals try simp only [pair_eq] at *
  all_goals try casesm* _ ∧ _
  all_goals try subst_vars
  all_goals (first | with_reducible assumption | simp +contextual (maxDischargeDepth := 30) [*, sound_foldl, sound_ite, SoundParts, memWrite_wf])

@[simp] theorem State_noteFault_sound {s : State} (f : Nat × Nat × Nat) (hS : State.Sound s) :
    State.Sound (State.noteFault s f) := by
  unfold State.noteFault
  repeat' first
  | with_reducible assumption
  | split
  | with_reducible refine sound_foldl ?_ (fun _ _ _ => ?_)
  all_goals try simp only [pair_eq] at *
  all_goals try casesm* _ ∧ _
  all_goals try subst_vars
  all_goals (first | with_reducible assumption | simp +contextual (maxDischargeDepth := 30) [*, sound_foldl, sound_ite, SoundParts, memWrite_wf])

@[simp] theorem State_reactFault_sound {s : State} (f : Nat × Nat × Nat) (hS : State.Sound s) :
    State.Sound (State.reactFault s f) := by
  unfold State.reactFault
  repeat' first
  | with_reducible assumption
  | split
  | with_reducible refine sound_foldl ?_ (fun _ _ _ => ?_)
  all_goals try simp only [pair_eq] at *
  all_goals try casesm* _ ∧ _
  all_goals try subst_vars
  all_goals (first | with_reducible assumption | simp +contextual (maxDischargeDepth := 30) [*, sound_foldl, sound_ite, SoundParts, memWrite_wf])

@[simp] theorem State_railFaults_sound {s : State} (fs : List (Nat × Nat × Nat)) (hS : State.Sound s) :
    State.Sound (State.railFaults s fs) := by
  unfold State.railFaults
  repeat' first
  | with_reducible assumption
  | split
  | with_reducible refine sound_foldl ?_ (fun _ _ _ => ?_)
  all_goals try simp only [pair_eq] at *
  all_goals try casesm* _ ∧ _
  all_goals try subst_vars
  all_goals (first | with_reducible assumption | simp +contextual (maxDischargeDepth := 30) [*, sound_foldl, sound_ite, SoundParts, memWrite_wf])

@[simp] theorem State_railRises_sound {s : State} (r : Nat) (hS : State.Sound s) :
    State.Sound (State.railRises s r) := by
  unfold State.railRises
  repeat' first
  | with_reducible assumption
  | split
  | with_reducible refine sound_foldl ?_ (fun _ _ _ => ?_)
  all_goals try simp only [pair_eq] at *
  all_goals try casesm* _ ∧ _
  all_goals try subst_vars
  all_goals (first | with_reducible assumption | simp +contextual (maxDischargeDepth := 30) [*, sound_foldl, sound_ite, SoundParts, memWrite_wf])

@[simp] theorem State_windowCloses_sound {s : State} (r : Nat) (g : RailReading) (hS : State.Sound s) :
    State.Sound (State.windowCloses s r g) := by
  unfold State.windowCloses
  repeat' first
  | with_reducible assumption
  | split
  | with_reducible refine sound_foldl ?_ (fun _ _ _ => ?_)
  all_goals try simp only [pair_eq] at *
  all_goals try casesm* _ ∧ _
  all_goals try subst_vars
  all_goals (first | with_reducible assumption | simp +contextual (maxDischargeDepth := 30) [*, sound_foldl, sound_ite, SoundParts, memWrite_wf])

@[simp] theorem State_gateLimit_sound {s : State} (r : Nat) (hS : State.Sound s) :
    State.Sound (State.gateLimit s r) := by
  unfold State.gateLimit
  repeat' first
  | with_reducible assumption
  | split
  | with_reducible refine sound_foldl ?_ (fun _ _ _ => ?_)
  all_goals try simp only [pair_eq] at *
  all_goals try casesm* _ ∧ _
  all_goals try subst_vars
  all_goals (first | with_reducible assumption | simp +contextual (maxDischargeDepth := 30) [*, sound_foldl, sound_ite, SoundParts, memWrite_wf])

@[simp] theorem State_reverseStep_sound {s : State} (hS : State.Sound s) :
    State.Sound (State.reverseStep s) := by
  unfold State.reverseStep
  repeat' first
  | with_reducible assumption
  | split
  | with_reducible refine sound_foldl ?_ (fun _ _ _ => ?_)
  all_goals try simp only [pair_eq] at *
  all_goals try casesm* _ ∧ _
  all_goals try subst_vars
  all_goals (first | with_reducible assumption | simp +contextual (maxDischargeDepth := 30) [*, sound_foldl, sound_ite, SoundParts, memWrite_wf])

@[simp] theorem State_floorStart_sound {s : State} (hS : State.Sound s) :
    State.Sound (State.floorStart s) := by
  unfold State.floorStart
  repeat' first
  | with_reducible assumption
  | split
  | with_reducible refine sound_foldl ?_ (fun _ _ _ => ?_)
  all_goals try simp only [pair_eq] at *
  all_goals try casesm* _ ∧ _
  all_goals try subst_vars
  all_goals (first | with_reducible assumption | simp +contextual (maxDischargeDepth := 30) [*, sound_foldl, sound_ite, SoundParts, memWrite_wf])

@[simp] theorem State_stretchEnds_sound {s : State} (hS : State.Sound s) :
    State.Sound (State.stretchEnds s) := by
  unfold State.stretchEnds
  repeat' first
  | with_reducible assumption
  | split
  | with_reducible refine sound_foldl ?_ (fun _ _ _ => ?_)
  all_goals try simp only [pair_eq] at *
  all_goals try casesm* _ ∧ _
  all_goals try subst_vars
  all_goals (first | with_reducible assumption | simp +contextual (maxDischargeDepth := 30) [*, sound_foldl, sound_ite, SoundParts, memWrite_wf])

@[simp] theorem State_mainsCollapse_sound {s : State} (hS : State.Sound s) :
    State.Sound (State.mainsCollapse s) := by
  unfold State.mainsCollapse
  repeat' first
  | with_reducible assumption
  | split
  | with_reducible refine sound_foldl ?_ (fun _ _ _ => ?_)
  all_goals try simp only [pair_eq] at *
  all_goals try casesm* _ ∧ _
  all_goals try subst_vars
  all_goals (first | with_reducible assumption | simp +contextual (maxDischargeDepth := 30) [*, sound_foldl, sound_ite, SoundParts, memWrite_wf])

@[simp] theorem State_cutLimited_sound {s : State} (f : Nat × Nat × Nat) (hS : State.Sound s) :
    State.Sound (State.cutLimited s f) := by
  unfold State.cutLimited
  repeat' first
  | with_reducible assumption
  | split
  | with_reducible refine sound_foldl ?_ (fun _ _ _ => ?_)
  all_goals try simp only [pair_eq] at *
  all_goals try casesm* _ ∧ _
  all_goals try subst_vars
  all_goals (first | with_reducible assumption | simp +contextual (maxDischargeDepth := 30) [*, sound_foldl, sound_ite, SoundParts, memWrite_wf])

@[simp] theorem State_sampleRail_sound (a : State × List (Nat × Nat × Nat)) (x : Nat × RailReading) (hS : a.1.Sound) :
    (State.sampleRail a x).1.Sound := by
  obtain ⟨s, fs⟩ := a
  obtain ⟨r, g⟩ := x
  unfold State.sampleRail
  dsimp only
  split
  · exact sound_foldl (State_modRail_sound _ _ hS) (fun t k ht => State_psvEvent_sound _ _ ht)
  · dsimp only
    split
    · exact State_railRises_sound _ (State_modRail_sound _ _ hS)
    · exact State_modRail_sound _ _ hS

@[simp] theorem State_samples_sound {s : State} (gs : List RailReading) (hS : s.Sound) : (s.samples gs).Sound := by
  have h : ∀ (l : List (Nat × RailReading)) (a : State × List (Nat × Nat × Nat)), a.1.Sound →
      (l.foldl State.sampleRail a).1.Sound := by
    intro l
    induction l with
    | nil => exact fun a ha => ha
    | cons x l ih => exact fun a ha => ih _ (State_sampleRail_sound a x ha)
  unfold State.samples
  split
  · exact State_mainsCollapse_sound
      (sound_foldl (State_railFaults_sound _ (h _ _ hS)) (fun t x ht => State_cutLimited_sound _ ht))
  · exact hS

@[simp] theorem State_retryTimer_sound {s : State} (r : Nat) (hS : State.Sound s) :
    State.Sound (State.retryTimer s r) := by
  unfold State.retryTimer
  repeat' first
  | with_reducible assumption
  | split
  | with_reducible refine sound_foldl ?_ (fun _ _ _ => ?_)
  all_goals try simp only [pair_eq] at *
  all_goals try casesm* _ ∧ _
  all_goals try subst_vars
  all_goals (first | with_reducible assumption | simp +contextual (maxDischargeDepth := 30) [*, sound_foldl, sound_ite, SoundParts, memWrite_wf])

@[simp] theorem State_resetTimer_sound {s : State} (hS : State.Sound s) :
    State.Sound (State.resetTimer s) := by
  unfold State.resetTimer
  repeat' first
  | with_reducible assumption
  | split
  | with_reducible refine sound_foldl ?_ (fun _ _ _ => ?_)
  all_goals try simp only [pair_eq] at *
  all_goals try casesm* _ ∧ _
  all_goals try subst_vars
  all_goals (first | with_reducible assumption | simp +contextual (maxDischargeDepth := 30) [*, sound_foldl, sound_ite, SoundParts, memWrite_wf])

@[simp] theorem State_offStep_sound {s : State} (r : Nat) (hS : State.Sound s) :
    State.Sound (State.offStep s r) := by
  unfold State.offStep
  repeat' first
  | with_reducible assumption
  | split
  | with_reducible refine sound_foldl ?_ (fun _ _ _ => ?_)
  all_goals try simp only [pair_eq] at *
  all_goals try casesm* _ ∧ _
  all_goals try subst_vars
  all_goals (first | with_reducible assumption | simp +contextual (maxDischargeDepth := 30) [*, sound_foldl, sound_ite, SoundParts, memWrite_wf])

@[simp] theorem State_psuChange_sound {s : State} (i : Nat) (c : PsuCond) (hS : State.Sound s) :
    State.Sound (State.psuChange s i c) := by
  unfold State.psuChange
  repeat' first
  | with_reducible assumption
  | split
  | with_reducible refine sound_foldl ?_ (fun _ _ _ => ?_)
  all_goals try simp only [pair_eq] at *
  all_goals try casesm* _ ∧ _
  all_goals try subst_vars
  all_goals (first | with_reducible assumption | simp +contextual (maxDischargeDepth := 30) [*, sound_foldl, sound_ite, SoundParts, memWrite_wf])

@[simp] theorem State_acFail_sound {s : State} (hS : State.Sound s) :
    State.Sound (State.acFail s) := by
  unfold State.acFail
  repeat' first
  | with_reducible assumption
  | (extract_lets +onlyGivenNames x
     first
     | (have hx : State.Sound x := by
          (dsimp only [x]
           repeat' first
           | with_reducible assumption
           | split
           | with_reducible refine sound_foldl ?_ (fun _ _ _ => ?_)
           all_goals try simp only [pair_eq] at *
           all_goals try casesm* _ ∧ _
           all_goals try subst_vars
           all_goals (first | with_reducible assumption | simp +contextual (maxDischargeDepth := 30) [*, sound_foldl, sound_ite, SoundParts, memWrite_wf]))
        clear_value x)
     | skip)
  | split
  | with_reducible refine sound_foldl ?_ (fun _ _ _ => ?_)
  all_goals try simp only [pair_eq] at *
  all_goals try casesm* _ ∧ _
  all_goals try subst_vars
  all_goals (first | with_reducible assumption | (simp +contextual (maxDischargeDepth := 30) [*, sound_foldl, sound_ite, SoundParts, memWrite_wf]; done) | (simp +contextual +zetaDelta (maxDischargeDepth := 30) [*, sound_foldl, sound_ite, SoundParts, memWrite_wf]; done))

@[simp] theorem State_pfwExpiry_sound {s : State} (hS : State.Sound s) :
    State.Sound (State.pfwExpiry s) := by
  unfold State.pfwExpiry
  repeat' first
  | with_reducible assumption
  | split
  | with_reducible refine sound_foldl ?_ (fun _ _ _ => ?_)
  all_goals try simp only [pair_eq] at *
  all_goals try casesm* _ ∧ _
  all_goals try subst_vars
  all_goals (first | with_reducible assumption | simp +contextual (maxDischargeDepth := 30) [*, sound_foldl, sound_ite, SoundParts, memWrite_wf])

@[simp] theorem State_mainsReturn_sound {s : State} (hS : State.Sound s) :
    State.Sound (State.mainsReturn s) := by
  unfold State.mainsReturn
  repeat' first
  | with_reducible assumption
  | split
  | with_reducible refine sound_foldl ?_ (fun _ _ _ => ?_)
  all_goals try simp only [pair_eq] at *
  all_goals try casesm* _ ∧ _
  all_goals try subst_vars
  all_goals (first | with_reducible assumption | simp +contextual (maxDischargeDepth := 30) [*, sound_foldl, sound_ite, SoundParts, memWrite_wf])

@[simp] theorem State_thermalWarn_sound {s : State} (t : Byte) (hS : State.Sound s) :
    State.Sound (State.thermalWarn s t) := by
  unfold State.thermalWarn
  repeat' first
  | with_reducible assumption
  | split
  | with_reducible refine sound_foldl ?_ (fun _ _ _ => ?_)
  all_goals try simp only [pair_eq] at *
  all_goals try casesm* _ ∧ _
  all_goals try subst_vars
  all_goals (first | with_reducible assumption | simp +contextual (maxDischargeDepth := 30) [*, sound_foldl, sound_ite, SoundParts, memWrite_wf])

@[simp] theorem State_thermalTripped_sound {s : State} (t : Byte) (hS : State.Sound s) :
    State.Sound (State.thermalTripped s t) := by
  unfold State.thermalTripped
  repeat' first
  | with_reducible assumption
  | split
  | with_reducible refine sound_foldl ?_ (fun _ _ _ => ?_)
  all_goals try simp only [pair_eq] at *
  all_goals try casesm* _ ∧ _
  all_goals try subst_vars
  all_goals (first | with_reducible assumption | simp +contextual (maxDischargeDepth := 30) [*, sound_foldl, sound_ite, SoundParts, memWrite_wf])

@[simp] theorem State_thermalRestart_sound {s : State} (hS : State.Sound s) :
    State.Sound (State.thermalRestart s) := by
  unfold State.thermalRestart
  repeat' first
  | with_reducible assumption
  | split
  | with_reducible refine sound_foldl ?_ (fun _ _ _ => ?_)
  all_goals try simp only [pair_eq] at *
  all_goals try casesm* _ ∧ _
  all_goals try subst_vars
  all_goals (first | with_reducible assumption | simp +contextual (maxDischargeDepth := 30) [*, sound_foldl, sound_ite, SoundParts, memWrite_wf])

@[simp] theorem State_slaveFails_sound {s : State} (b : Nat) (hS : State.Sound s) :
    State.Sound (State.slaveFails s b) := by
  unfold State.slaveFails
  repeat' first
  | with_reducible assumption
  | split
  | with_reducible refine sound_foldl ?_ (fun _ _ _ => ?_)
  all_goals try simp only [pair_eq] at *
  all_goals try casesm* _ ∧ _
  all_goals try subst_vars
  all_goals (first | with_reducible assumption | simp +contextual (maxDischargeDepth := 30) [*, sound_foldl, sound_ite, SoundParts, memWrite_wf])

@[simp] theorem State_takeReply_sound {s : State} (b : Nat) (sent : Word) (w : Word) (hS : State.Sound s) :
    State.Sound (State.takeReply s b sent w) := by
  unfold State.takeReply
  repeat' first
  | with_reducible assumption
  | split
  | with_reducible refine sound_foldl ?_ (fun _ _ _ => ?_)
  all_goals try simp only [pair_eq] at *
  all_goals try casesm* _ ∧ _
  all_goals try subst_vars
  all_goals (first | with_reducible assumption | simp +contextual (maxDischargeDepth := 30) [*, sound_foldl, sound_ite, SoundParts, memWrite_wf])

@[simp] theorem State_badReply_sound {s : State} (b : Nat) (w : Word) (hS : State.Sound s) :
    State.Sound (State.badReply s b w) := by
  unfold State.badReply
  repeat' first
  | with_reducible assumption
  | split
  | with_reducible refine sound_foldl ?_ (fun _ _ _ => ?_)
  all_goals try simp only [pair_eq] at *
  all_goals try casesm* _ ∧ _
  all_goals try subst_vars
  all_goals (first | with_reducible assumption | simp +contextual (maxDischargeDepth := 30) [*, sound_foldl, sound_ite, SoundParts, memWrite_wf])

@[simp] theorem State_slaveReply_sound {s : State} (b : Nat) (w : Word) (hS : State.Sound s) :
    State.Sound (State.slaveReply s b w) := by
  unfold State.slaveReply
  repeat' first
  | with_reducible assumption
  | split
  | with_reducible refine sound_foldl ?_ (fun _ _ _ => ?_)
  all_goals try simp only [pair_eq] at *
  all_goals try casesm* _ ∧ _
  all_goals try subst_vars
  all_goals (first | with_reducible assumption | simp +contextual (maxDischargeDepth := 30) [*, sound_foldl, sound_ite, SoundParts, memWrite_wf])

@[simp] theorem State_slaveHears_sound {s : State} (b : Nat) (w : Word) (edges : Nat) (hS : State.Sound s) :
    State.Sound (State.slaveHears s b w edges) := by
  unfold State.slaveHears
  repeat' first
  | with_reducible assumption
  | split
  | with_reducible refine sound_foldl ?_ (fun _ _ _ => ?_)
  all_goals try simp only [pair_eq] at *
  all_goals try casesm* _ ∧ _
  all_goals try subst_vars
  all_goals (first | with_reducible assumption | simp +contextual (maxDischargeDepth := 30) [*, sound_foldl, sound_ite, SoundParts, memWrite_wf])

@[simp] theorem State_slaveSilent_sound {s : State} (b : Nat) (hS : State.Sound s) :
    State.Sound (State.slaveSilent s b) := by
  unfold State.slaveSilent
  repeat' first
  | with_reducible assumption
  | split
  | with_reducible refine sound_foldl ?_ (fun _ _ _ => ?_)
  all_goals try simp only [pair_eq] at *
  all_goals try casesm* _ ∧ _
  all_goals try subst_vars
  all_goals (first | with_reducible assumption | simp +contextual (maxDischargeDepth := 30) [*, sound_foldl, sound_ite, SoundParts, memWrite_wf])

@[simp] theorem State_standbyUp_sound {s : State} (answering : BitVec 3) (hS : State.Sound s) :
    State.Sound (State.standbyUp s answering) := by
  unfold State.standbyUp
  repeat' first
  | with_reducible assumption
  | split
  | with_reducible refine sound_foldl ?_ (fun _ _ _ => ?_)
  all_goals try simp only [pair_eq] at *
  all_goals try casesm* _ ∧ _
  all_goals try subst_vars
  all_goals (first | with_reducible assumption | simp +contextual (maxDischargeDepth := 30) [*, sound_foldl, sound_ite, SoundParts, memWrite_wf])

@[simp] theorem State_standbyLost_sound {s : State} (hS : s.Sound) : (s.standbyLost).Sound := by
  have h1 := State_systemReset_sound false hS
  unfold State.standbyLost
  exact ⟨h1.1, h1.2, h1.3, h1.4, Nat.zero_le _, Nat.zero_le _⟩

@[simp] theorem State_framFails_sound {s : State} (hS : State.Sound s) :
    State.Sound (State.framFails s) := by
  unfold State.framFails
  repeat' first
  | with_reducible assumption
  | split
  | with_reducible refine sound_foldl ?_ (fun _ _ _ => ?_)
  all_goals try simp only [pair_eq] at *
  all_goals try casesm* _ ∧ _
  all_goals try subst_vars
  all_goals (first | with_reducible assumption | simp +contextual (maxDischargeDepth := 30) [*, sound_foldl, sound_ite, SoundParts, memWrite_wf])

@[simp] theorem State_posTick_sound {s : State} (hS : State.Sound s) : State.Sound (State.posTick s) := by
  have h1 : State.Sound s.takeFree.2 := State_takeFree_sound hS
  unfold State.posTick
  split
  · dsimp only
    have h2 := State_framFails_sound h1
    split
    · exact ⟨h1.1, h1.2, h1.3, h1.4, h1.5, h1.6⟩
    · exact ⟨h2.1, h2.2, h2.3, h2.4, h2.5, h2.6⟩
  · exact hS

@[simp] theorem State_psvResult_sound {s : State} (n : Nat) (hS : State.Sound s) :
    State.Sound (State.psvResult s n) := by
  unfold State.psvResult
  repeat' first
  | with_reducible assumption
  | split
  | with_reducible refine sound_foldl ?_ (fun _ _ _ => ?_)
  all_goals try simp only [pair_eq] at *
  all_goals try casesm* _ ∧ _
  all_goals try subst_vars
  all_goals (first | with_reducible assumption | simp +contextual (maxDischargeDepth := 30) [*, sound_foldl, sound_ite, SoundParts, memWrite_wf])

@[simp] theorem State_psvClearLatch_sound {s : State} (usb : Bool) (hS : State.Sound s) :
    State.Sound (State.psvClearLatch s usb) := by
  unfold State.psvClearLatch
  repeat' first
  | with_reducible assumption
  | split
  | with_reducible refine sound_foldl ?_ (fun _ _ _ => ?_)
  all_goals try simp only [pair_eq] at *
  all_goals try casesm* _ ∧ _
  all_goals try subst_vars
  all_goals (first | with_reducible assumption | simp +contextual (maxDischargeDepth := 30) [*, sound_foldl, sound_ite, SoundParts, memWrite_wf])

@[simp] theorem State_psvClearRecord_sound {s : State} (hS : State.Sound s) :
    State.Sound (State.psvClearRecord s) := by
  unfold State.psvClearRecord
  repeat' first
  | with_reducible assumption
  | split
  | with_reducible refine sound_foldl ?_ (fun _ _ _ => ?_)
  all_goals try simp only [pair_eq] at *
  all_goals try casesm* _ ∧ _
  all_goals try subst_vars
  all_goals (first | with_reducible assumption | simp +contextual (maxDischargeDepth := 30) [*, sound_foldl, sound_ite, SoundParts, memWrite_wf])

@[simp] theorem State_psvClearCounters_sound {s : State} (hS : State.Sound s) :
    State.Sound (State.psvClearCounters s) := by
  unfold State.psvClearCounters
  repeat' first
  | with_reducible assumption
  | split
  | with_reducible refine sound_foldl ?_ (fun _ _ _ => ?_)
  all_goals try simp only [pair_eq] at *
  all_goals try casesm* _ ∧ _
  all_goals try subst_vars
  all_goals (first | with_reducible assumption | simp +contextual (maxDischargeDepth := 30) [*, sound_foldl, sound_ite, SoundParts, memWrite_wf])

@[simp] theorem State_psvRestartGroup_sound {s : State} (b : Nat) (hS : State.Sound s) :
    State.Sound (State.psvRestartGroup s b) := by
  unfold State.psvRestartGroup
  repeat' first
  | with_reducible assumption
  | split
  | with_reducible refine sound_foldl ?_ (fun _ _ _ => ?_)
  all_goals try simp only [pair_eq] at *
  all_goals try casesm* _ ∧ _
  all_goals try subst_vars
  all_goals (first | with_reducible assumption | simp +contextual (maxDischargeDepth := 30) [*, sound_foldl, sound_ite, SoundParts, memWrite_wf])

@[simp] theorem State_psvCommand_sound {s : State} (usb : Bool) (v : Word) (hS : State.Sound s) :
    State.Sound (State.psvCommand s usb v) := by
  unfold State.psvCommand
  repeat' first
  | with_reducible assumption
  | split
  | with_reducible refine sound_foldl ?_ (fun _ _ _ => ?_)
  all_goals try simp only [pair_eq] at *
  all_goals try casesm* _ ∧ _
  all_goals try subst_vars
  all_goals (first | with_reducible assumption | simp +contextual (maxDischargeDepth := 30) [*, sound_foldl, sound_ite, SoundParts, memWrite_wf])

@[simp] theorem State_settleAcc_sound {s : State} (hS : State.Sound s) :
    State.Sound (State.settleAcc s) := by
  unfold State.settleAcc
  repeat' first
  | with_reducible assumption
  | split
  | with_reducible refine sound_foldl ?_ (fun _ _ _ => ?_)
  all_goals try simp only [pair_eq] at *
  all_goals try casesm* _ ∧ _
  all_goals try subst_vars
  all_goals (first | with_reducible assumption | simp +contextual (maxDischargeDepth := 30) [*, sound_foldl, sound_ite, SoundParts, memWrite_wf])

@[simp] theorem State_wroteAcc_sound {s : State} (old v : Word) (hS : s.Sound) : (s.wroteAcc old v).Sound := by
  unfold State.wroteAcc
  refine State_settleAcc_sound (sound_foldl hS (fun t k ht => ?_))
  have h1 := State_modRail_sound (14 + k) (fun q => { q with state := 0 }) ht
  split
  · exact State_modPower_sound _ h1 h1.5 h1.6
  · exact ht

@[simp] theorem State_queueChannel_sound {s : State} (c : Nat) (cause : Nat) (addr : Nat) (hS : State.Sound s) :
    State.Sound (State.queueChannel s c cause addr) := by
  unfold State.queueChannel
  repeat' first
  | with_reducible assumption
  | split
  | with_reducible refine sound_foldl ?_ (fun _ _ _ => ?_)
  all_goals try simp only [pair_eq] at *
  all_goals try casesm* _ ∧ _
  all_goals try subst_vars
  all_goals (first | with_reducible assumption | simp +contextual (maxDischargeDepth := 30) [*, sound_foldl, sound_ite, SoundParts, memWrite_wf])

@[simp] theorem State_uncorrectable_sound {s : State} (c : Nat) (cls : Nat) (addr : Nat) (hS : State.Sound s) :
    State.Sound (State.uncorrectable s c cls addr) := by
  unfold State.uncorrectable
  repeat' first
  | with_reducible assumption
  | split
  | with_reducible refine sound_foldl ?_ (fun _ _ _ => ?_)
  all_goals try simp only [pair_eq] at *
  all_goals try casesm* _ ∧ _
  all_goals try subst_vars
  all_goals (first | with_reducible assumption | simp +contextual (maxDischargeDepth := 30) [*, sound_foldl, sound_ite, SoundParts, memWrite_wf])

@[simp] theorem State_serveRead_sound {s : State} (cls : Nat) (addr : Nat) (ecc : Ecc) (hS : State.Sound s) :
    State.Sound (State.serveRead s cls addr ecc) := by
  unfold State.serveRead
  repeat' first
  | with_reducible assumption
  | split
  | with_reducible refine sound_foldl ?_ (fun _ _ _ => ?_)
  all_goals try simp only [pair_eq] at *
  all_goals try casesm* _ ∧ _
  all_goals try subst_vars
  all_goals (first | with_reducible assumption | simp +contextual (maxDischargeDepth := 30) [*, sound_foldl, sound_ite, SoundParts, memWrite_wf])

@[simp] theorem State_scrub_sound {s : State} (ecc : Ecc) (hS : State.Sound s) :
    State.Sound (State.scrub s ecc) := by
  unfold State.scrub
  repeat' first
  | with_reducible assumption
  | split
  | with_reducible refine sound_foldl ?_ (fun _ _ _ => ?_)
  all_goals try simp only [pair_eq] at *
  all_goals try casesm* _ ∧ _
  all_goals try subst_vars
  all_goals (first | with_reducible assumption | simp +contextual (maxDischargeDepth := 30) [*, sound_foldl, sound_ite, SoundParts, memWrite_wf])

@[simp] theorem State_wroteScrubPeriod_sound {s : State} (v : Word) (hS : State.Sound s) :
    State.Sound (State.wroteScrubPeriod s v) := by
  unfold State.wroteScrubPeriod
  repeat' first
  | with_reducible assumption
  | split
  | with_reducible refine sound_foldl ?_ (fun _ _ _ => ?_)
  all_goals try simp only [pair_eq] at *
  all_goals try casesm* _ ∧ _
  all_goals try subst_vars
  all_goals (first | with_reducible assumption | simp +contextual (maxDischargeDepth := 30) [*, sound_foldl, sound_ite, SoundParts, memWrite_wf])

@[simp] theorem State_channelAlert_sound {s : State} (c : Nat) (hS : State.Sound s) :
    State.Sound (State.channelAlert s c) := by
  unfold State.channelAlert
  repeat' first
  | with_reducible assumption
  | split
  | with_reducible refine sound_foldl ?_ (fun _ _ _ => ?_)
  all_goals try simp only [pair_eq] at *
  all_goals try casesm* _ ∧ _
  all_goals try subst_vars
  all_goals (first | with_reducible assumption | simp +contextual (maxDischargeDepth := 30) [*, sound_foldl, sound_ite, SoundParts, memWrite_wf])

@[simp] theorem State_fanSpeed_sound {s : State} (f : Nat) (rpm : Nat) (hS : State.Sound s) :
    State.Sound (State.fanSpeed s f rpm) := by
  unfold State.fanSpeed
  repeat' first
  | with_reducible assumption
  | split
  | with_reducible refine sound_foldl ?_ (fun _ _ _ => ?_)
  all_goals try simp only [pair_eq] at *
  all_goals try casesm* _ ∧ _
  all_goals try subst_vars
  all_goals (first | with_reducible assumption | simp +contextual (maxDischargeDepth := 30) [*, sound_foldl, sound_ite, SoundParts, memWrite_wf])

end Sys2Proof.Machine
end

