-- ==== Sys2Proof/Laws/SoundEngines.lean ====
section
/-! SUPPORT. Soundness is kept by every operation: the engines, heads and Caravan. -/

set_option linter.all false
set_option maxRecDepth 4000
set_option maxHeartbeats 400000

namespace Sys2Proof.Machine

@[simp] theorem State_texelFaults_sound {s : State} (c : Nat) (l : List Nat) (hS : State.Sound s) :
    State.Sound (State.texelFaults s c l) := by
  unfold State.texelFaults
  repeat' first
  | with_reducible assumption
  | split
  | with_reducible refine sound_foldl ?_ (fun _ _ _ => ?_)
  all_goals try simp only [pair_eq] at *
  all_goals try casesm* _ ∧ _
  all_goals try subst_vars
  all_goals (first | with_reducible assumption | simp +contextual (maxDischargeDepth := 30) [*, sound_foldl, sound_ite, SoundParts, memWrite_wf])

@[simp] theorem State_writeTileRows_sound (g : ReTarget) (x w : Nat) (l : List (Nat × List Byte)) {s : State} (ok : Bool)
    (hS : s.Sound) : (State.writeTileRows g x w l s ok).1.Sound := by
  induction l generalizing s ok with
  | nil => exact hS
  | cons p l ih =>
    obtain ⟨y, bs⟩ := p
    rw [State.writeTileRows]
    have h := State_storeWrite_sound (g.pixelAddr x y) bs false false hS
    generalize s.storeWrite (g.pixelAddr x y) bs false false = p at h ⊢
    rcases p with ⟨s1, _ | e⟩
    · exact ih _ h
    · exact ih _ h

@[simp] theorem State_finishTile_sound {s : State} (c i : Nat) (flush : Bool) (hS : s.Sound) :
    (s.finishTile c i flush).Sound := by
  have h0 := State_takeFree_sound hS
  unfold State.finishTile
  extract_lets k
  split
  · exact hS
  · rename_i g hg
    generalize s.takeFree = p at h0 ⊢
    rcases p with ⟨free, s0⟩
    dsimp -zeta only at h0 ⊢
    extract_lets px bytes s1 x y w sigAddr same rows
    have h1 : s1.Sound := State_texelFaults_sound _ _ h0
    clear_value same
    split
    · exact State_modContext_sound _ _ h1
    · have h2 := State_writeTileRows_sound g x w rows true h1
      generalize State.writeTileRows g x w rows s1 true = p2 at h2 ⊢
      rcases p2 with ⟨s2, ok⟩
      dsimp -zeta only at h2 ⊢
      have h3 : (if (natBit g.flags 1 && !flush) = true then
          (match s2.storeWrite sigAddr (leBytes 8 (tileSignature bytes)) with
            | (t, none) => (t, true)
            | (t, some _) => (t, false))
          else (s2, true)).1.Sound := by
        split
        · have h4 := State_storeWrite_sound sigAddr (leBytes 8 (tileSignature bytes)) false false h2
          generalize s2.storeWrite sigAddr (leBytes 8 (tileSignature bytes)) = p4 at h4 ⊢
          rcases p4 with ⟨t, _ | e⟩ <;> exact h4
        · exact h2
      exact State_modContext_sound _ _ h3

theorem State_takeJob_sound {s : State} (c op : Nat) (f : Nat → Started → State) (hS : s.Sound)
    (hf : ∀ r b, (f r b).Sound) : (s.takeJob c op f).Sound := by
  unfold State.takeJob
  split
  · exact hS
  · split
    · exact State_refuseBale_sound _ _ _ hS
    · exact hf _ _

@[simp] theorem State_scribble_sound {s : State} (a : Nat) (n : Nat) (hS : State.Sound s) :
    State.Sound (State.scribble s a n) := by
  unfold State.scribble
  repeat' first
  | with_reducible assumption
  | split
  | with_reducible refine sound_foldl ?_ (fun _ _ _ => ?_)
  all_goals try simp only [pair_eq] at *
  all_goals try casesm* _ ∧ _
  all_goals try subst_vars
  all_goals (first | with_reducible assumption | simp +contextual (maxDischargeDepth := 30) [*, sound_foldl, sound_ite, SoundParts, memWrite_wf])

@[simp] theorem State_scribbleBin_sound {s : State} (c : Nat) (hS : State.Sound s) :
    State.Sound (State.scribbleBin s c) := by
  unfold State.scribbleBin
  repeat' first
  | with_reducible assumption
  | split
  | with_reducible refine sound_foldl ?_ (fun _ _ _ => ?_)
  all_goals try simp only [pair_eq] at *
  all_goals try casesm* _ ∧ _
  all_goals try subst_vars
  all_goals (first | with_reducible assumption | simp +contextual (maxDischargeDepth := 30) [*, sound_foldl, sound_ite, SoundParts, memWrite_wf])

@[simp] theorem State_targetBale_sound {s : State} (c : Nat) (hS : s.Sound) : (s.targetBale c).Sound := by
  refine State_takeJob_sound c _ _ hS (fun r b => ?_)
  extract_lets g base size fresh
  split
  · exact State_finishBale_sound _ _ _ (State_scribbleBin_sound _ (State_modContext_sound _ _ hS))
  · exact State_refuseBale_sound _ _ _ (State_modContext_sound _ _ hS)

@[simp] theorem State_textureBale_sound {s : State} (c : Nat) (hS : s.Sound) : (s.textureBale c).Sound := by
  refine State_takeJob_sound c _ _ hS (fun r b => ?_)
  dsimp only
  split
  · exact State_finishBale_sound _ _ _ (State_scribbleBin_sound _ (State_modContext_sound _ _ hS))
  · exact State_refuseBale_sound _ _ _ hS

@[simp] theorem State_flushBins_sound {s : State} (c : Nat) (save : Bool) (hS : State.Sound s) :
    State.Sound (State.flushBins s c save) := by
  unfold State.flushBins
  repeat' first
  | with_reducible assumption
  | (extract_lets +onlyGivenNames x
     first
     | (have hx : State.Sound x := by
          (dsimp only [x]
           repeat' first
           | with_reducible assumption
           | split
           | with_reducible refine sound_foldl ?_ (fun _ _ _ => ?_)
           all_goals try simp only [pair_eq] at *
           all_goals try casesm* _ ∧ _
           all_goals try subst_vars
           all_goals (first | with_reducible assumption | simp +contextual (maxDischargeDepth := 30) [*, sound_foldl, sound_ite, SoundParts, memWrite_wf]))
        clear_value x)
     | skip)
  | split
  | with_reducible refine sound_foldl ?_ (fun _ _ _ => ?_)
  all_goals try simp only [pair_eq] at *
  all_goals try casesm* _ ∧ _
  all_goals try subst_vars
  all_goals (first | with_reducible assumption | (simp +contextual (maxDischargeDepth := 30) [*, sound_foldl, sound_ite, SoundParts, memWrite_wf]; done) | (simp +contextual +zetaDelta (maxDischargeDepth := 30) [*, sound_foldl, sound_ite, SoundParts, memWrite_wf]; done))

@[simp] theorem State_binOverflow_sound {s : State} (c : Nat) (g : ReTarget) (need : Nat) (hS : s.Sound) :
    (s.binOverflow c g need).1.Sound := by
  unfold State.binOverflow
  extract_lets k
  split
  · split
    · exact State_flushBins_sound _ _ hS
    · exact State_modContext_sound _ _ (State_flushBins_sound _ _ hS)
  · exact State_event_sound (hS := State_modContext_sound _ _ hS) ..

@[simp] theorem State_binRest_sound (c : Nat) (g : ReTarget) (n : Nat) {s : State} (hS : s.Sound) :
    (State.binRest c g n s).Sound := by
  induction n generalizing s with
  | zero => exact hS
  | succ n ih =>
    rw [State.binRest]
    dsimp only
    split
    · exact hS
    · rename_i t rest _
      split
      · exact ih (State_modContext_sound _ _ hS)
      · have h := State_binOverflow_sound c g ((s.context c).used + 16 * (t.tiles g).length - s.binCapacity c) hS
        generalize s.binOverflow c g _ = p at h ⊢
        rcases p with ⟨s1, _ | _⟩
        · exact h
        · exact ih h

@[simp] theorem State_bin_sound {s : State} (c : Nat) (hS : State.Sound s) :
    State.Sound (State.bin s c) := by
  unfold State.bin
  repeat' first
  | with_reducible assumption
  | (extract_lets +onlyGivenNames x
     first
     | (have hx : State.Sound x := by
          (dsimp only [x]
           repeat' first
           | with_reducible assumption
           | split
           | with_reducible refine sound_foldl ?_ (fun _ _ _ => ?_)
           all_goals try simp only [pair_eq] at *
           all_goals try casesm* _ ∧ _
           all_goals try subst_vars
           all_goals (first | with_reducible assumption | simp +contextual (maxDischargeDepth := 30) [*, sound_foldl, sound_ite, SoundParts, memWrite_wf]))
        clear_value x)
     | skip)
  | split
  | with_reducible refine sound_foldl ?_ (fun _ _ _ => ?_)
  all_goals try simp only [pair_eq] at *
  all_goals try casesm* _ ∧ _
  all_goals try subst_vars
  all_goals (first | with_reducible assumption | (simp +contextual (maxDischargeDepth := 30) [*, sound_foldl, sound_ite, SoundParts, memWrite_wf]; done) | (simp +contextual +zetaDelta (maxDischargeDepth := 30) [*, sound_foldl, sound_ite, SoundParts, memWrite_wf]; done))

@[simp] theorem State_drawBale_sound {s : State} (c : Nat) (hS : s.Sound) : (s.drawBale c).Sound := by
  refine State_takeJob_sound c _ _ hS (fun r b => ?_)
  extract_lets k slot s1
  split
  · exact State_refuseBale_sound _ _ _ hS
  · split
    · exact State_refuseBale_sound _ _ _ hS
    · split
      · exact State_refuseBale_sound _ _ _ hS
      · exact State_bin_sound _ (State_modContext_sound _ _ (State_modStarted_sound _ _ _ hS))

@[simp] theorem State_drawBinned_sound {s : State} (c : Nat) (hS : State.Sound s) :
    State.Sound (State.drawBinned s c) := by
  unfold State.drawBinned
  repeat' first
  | with_reducible assumption
  | split
  | with_reducible refine sound_foldl ?_ (fun _ _ _ => ?_)
  all_goals try simp only [pair_eq] at *
  all_goals try casesm* _ ∧ _
  all_goals try subst_vars
  all_goals (first | with_reducible assumption | simp +contextual (maxDischargeDepth := 30) [*, sound_foldl, sound_ite, SoundParts, memWrite_wf])

@[simp] theorem State_growExpiry_sound {s : State} (c : Nat) (hS : State.Sound s) :
    State.Sound (State.growExpiry s c) := by
  unfold State.growExpiry
  repeat' first
  | with_reducible assumption
  | split
  | with_reducible refine sound_foldl ?_ (fun _ _ _ => ?_)
  all_goals try simp only [pair_eq] at *
  all_goals try casesm* _ ∧ _
  all_goals try subst_vars
  all_goals (first | with_reducible assumption | simp +contextual (maxDischargeDepth := 30) [*, sound_foldl, sound_ite, SoundParts, memWrite_wf])

@[simp] theorem State_wroteGrow_sound {s : State} (c : Nat) (hS : State.Sound s) :
    State.Sound (State.wroteGrow s c) := by
  unfold State.wroteGrow
  repeat' first
  | with_reducible assumption
  | split
  | with_reducible refine sound_foldl ?_ (fun _ _ _ => ?_)
  all_goals try simp only [pair_eq] at *
  all_goals try casesm* _ ∧ _
  all_goals try subst_vars
  all_goals (first | with_reducible assumption | simp +contextual (maxDischargeDepth := 30) [*, sound_foldl, sound_ite, SoundParts, memWrite_wf])

@[simp] theorem State_endFrameBale_sound {s : State} (c : Nat) (hS : s.Sound) : (s.endFrameBale c).Sound := by
  refine State_takeJob_sound c _ _ hS (fun r b => ?_)
  extract_lets k
  split
  · exact State_refuseBale_sound _ _ _ hS
  · extract_lets tiles s1
    have h1 : s1.Sound := State_modContext_sound _ _ (State_modStarted_sound _ _ _ hS)
    split
    · refine sound_foldl h1 (fun t i ht => ?_)
      split
      · exact State_modCore_sound _ _ ht
      · exact ht
    · exact h1

@[simp] theorem State_endFrameDone_sound {s : State} (c : Nat) (hS : State.Sound s) :
    State.Sound (State.endFrameDone s c) := by
  unfold State.endFrameDone
  repeat' first
  | with_reducible assumption
  | (extract_lets +onlyGivenNames x
     first
     | (have hx : State.Sound x := by
          (dsimp only [x]
           repeat' first
           | with_reducible assumption
           | split
           | with_reducible refine sound_foldl ?_ (fun _ _ _ => ?_)
           all_goals try simp only [pair_eq] at *
           all_goals try casesm* _ ∧ _
           all_goals try subst_vars
           all_goals (first | with_reducible assumption | simp +contextual (maxDischargeDepth := 30) [*, sound_foldl, sound_ite, SoundParts, memWrite_wf]))
        clear_value x)
     | skip)
  | split
  | with_reducible refine sound_foldl ?_ (fun _ _ _ => ?_)
  all_goals try simp only [pair_eq] at *
  all_goals try casesm* _ ∧ _
  all_goals try subst_vars
  all_goals (first | with_reducible assumption | (simp +contextual (maxDischargeDepth := 30) [*, sound_foldl, sound_ite, SoundParts, memWrite_wf]; done) | (simp +contextual +zetaDelta (maxDischargeDepth := 30) [*, sound_foldl, sound_ite, SoundParts, memWrite_wf]; done))

@[simp] theorem State_modTile_sound {s : State} (c : Nat) (i : Nat) (f : ReTile → ReTile) (hS : State.Sound s) :
    State.Sound (State.modTile s c i f) := by
  unfold State.modTile
  repeat' first
  | with_reducible assumption
  | split
  | with_reducible refine sound_foldl ?_ (fun _ _ _ => ?_)
  all_goals try simp only [pair_eq] at *
  all_goals try casesm* _ ∧ _
  all_goals try subst_vars
  all_goals (first | with_reducible assumption | simp +contextual (maxDischargeDepth := 30) [*, sound_foldl, sound_ite, SoundParts, memWrite_wf])

@[simp] theorem State_passStart_sound {s : State} (k : Nat) (hS : State.Sound s) :
    State.Sound (State.passStart s k) := by
  unfold State.passStart
  repeat' first
  | with_reducible assumption
  | split
  | with_reducible refine sound_foldl ?_ (fun _ _ _ => ?_)
  all_goals try simp only [pair_eq] at *
  all_goals try casesm* _ ∧ _
  all_goals try subst_vars
  all_goals (first | with_reducible assumption | simp +contextual (maxDischargeDepth := 30) [*, sound_foldl, sound_ite, SoundParts, memWrite_wf])

@[simp] theorem State_passDone_p_sound {s : State} (k : Nat) (hS : State.Sound s) :
    State.Sound (State.passDone' s k) := by
  unfold State.passDone'
  repeat' first
  | with_reducible assumption
  | split
  | with_reducible refine sound_foldl ?_ (fun _ _ _ => ?_)
  all_goals try simp only [pair_eq] at *
  all_goals try casesm* _ ∧ _
  all_goals try subst_vars
  all_goals (first | with_reducible assumption | simp +contextual (maxDischargeDepth := 30) [*, sound_foldl, sound_ite, SoundParts, memWrite_wf])

@[simp] theorem State_failCore_sound {s : State} (k : Nat) (cause : Nat) (hS : State.Sound s) :
    State.Sound (State.failCore s k cause) := by
  unfold State.failCore
  repeat' first
  | with_reducible assumption
  | split
  | with_reducible refine sound_foldl ?_ (fun _ _ _ => ?_)
  all_goals try simp only [pair_eq] at *
  all_goals try casesm* _ ∧ _
  all_goals try subst_vars
  all_goals (first | with_reducible assumption | simp +contextual (maxDischargeDepth := 30) [*, sound_foldl, sound_ite, SoundParts, memWrite_wf])

@[simp] theorem State_coreTestStart_sound {s : State} (k : Nat) (hS : State.Sound s) :
    State.Sound (State.coreTestStart s k) := by
  unfold State.coreTestStart
  repeat' first
  | with_reducible assumption
  | split
  | with_reducible refine sound_foldl ?_ (fun _ _ _ => ?_)
  all_goals try simp only [pair_eq] at *
  all_goals try casesm* _ ∧ _
  all_goals try subst_vars
  all_goals (first | with_reducible assumption | simp +contextual (maxDischargeDepth := 30) [*, sound_foldl, sound_ite, SoundParts, memWrite_wf])

@[simp] theorem State_coreTestDone_sound {s : State} (k : Nat) (r : TestResult) (hS : State.Sound s) :
    State.Sound (State.coreTestDone s k r) := by
  unfold State.coreTestDone
  repeat' first
  | with_reducible assumption
  | split
  | with_reducible refine sound_foldl ?_ (fun _ _ _ => ?_)
  all_goals try simp only [pair_eq] at *
  all_goals try casesm* _ ∧ _
  all_goals try subst_vars
  all_goals (first | with_reducible assumption | simp +contextual (maxDischargeDepth := 30) [*, sound_foldl, sound_ite, SoundParts, memWrite_wf])

@[simp] theorem State_throttleTo_sound {s : State} (level : Nat) (temperature : Nat) (hS : State.Sound s) :
    State.Sound (State.throttleTo s level temperature) := by
  unfold State.throttleTo
  repeat' first
  | with_reducible assumption
  | split
  | with_reducible refine sound_foldl ?_ (fun _ _ _ => ?_)
  all_goals try simp only [pair_eq] at *
  all_goals try casesm* _ ∧ _
  all_goals try subst_vars
  all_goals (first | with_reducible assumption | simp +contextual (maxDischargeDepth := 30) [*, sound_foldl, sound_ite, SoundParts, memWrite_wf])

@[simp] theorem State_throttleUp_sound {s : State} (t : Nat) (hS : State.Sound s) :
    State.Sound (State.throttleUp s t) := by
  unfold State.throttleUp
  repeat' first
  | with_reducible assumption
  | split
  | with_reducible refine sound_foldl ?_ (fun _ _ _ => ?_)
  all_goals try simp only [pair_eq] at *
  all_goals try casesm* _ ∧ _
  all_goals try subst_vars
  all_goals (first | with_reducible assumption | simp +contextual (maxDischargeDepth := 30) [*, sound_foldl, sound_ite, SoundParts, memWrite_wf])

@[simp] theorem State_setSlot_sound {s : State} (k : Nat) (r : Option BlockRun) (hS : State.Sound s) :
    State.Sound (State.setSlot s k r) := by
  unfold State.setSlot
  repeat' first
  | with_reducible assumption
  | split
  | with_reducible refine sound_foldl ?_ (fun _ _ _ => ?_)
  all_goals try simp only [pair_eq] at *
  all_goals try casesm* _ ∧ _
  all_goals try subst_vars
  all_goals (first | with_reducible assumption | simp +contextual (maxDischargeDepth := 30) [*, sound_foldl, sound_ite, SoundParts, memWrite_wf])

@[simp] theorem State_runBlock_sound {s : State} (o : BlockOp) (hS : s.Sound) : (s.runBlock o).2.Sound := by
  have h := State_takeFree_sound hS
  unfold State.runBlock
  dsimp only
  split <;> exact h

@[simp] theorem State_moveUnit_sound {s : State} (m : UnitMove) (r : BlockRun) (hS : State.Sound s) :
    State.Sound (State.moveUnit s m r).1 := by
  unfold State.moveUnit
  repeat' first
  | with_reducible assumption
  | split
  | with_reducible refine sound_foldl ?_ (fun _ _ _ => ?_)
  all_goals try simp only [pair_eq] at *
  all_goals try casesm* _ ∧ _
  all_goals try subst_vars
  all_goals (first | with_reducible assumption | simp +contextual (maxDischargeDepth := 30) [*, sound_foldl, sound_ite, SoundParts, memWrite_wf])

@[simp] theorem State_burst_sound (l : List UnitMove) (room : Nat) {s : State} (r : BlockRun) (hS : s.Sound) :
    (State.burst l room s r).1.Sound := by
  induction l generalizing s room r with
  | nil => exact hS
  | cons m l ih =>
    rw [State.burst]
    split
    · exact hS
    · exact ih _ _ (State_moveUnit_sound m r hS)

@[simp] theorem State_burstSlot_sound {s : State} (k : Nat) (hS : State.Sound s) :
    State.Sound (State.burstSlot s k) := by
  unfold State.burstSlot
  repeat' first
  | with_reducible assumption
  | split
  | with_reducible refine sound_foldl ?_ (fun _ _ _ => ?_)
  all_goals try simp only [pair_eq] at *
  all_goals try casesm* _ ∧ _
  all_goals try subst_vars
  all_goals (first | with_reducible assumption | simp +contextual (maxDischargeDepth := 30) [*, sound_foldl, sound_ite, SoundParts, memWrite_wf])

@[simp] theorem State_issueBursts_sound (n : Nat) {s : State} (hS : s.Sound) : (State.issueBursts n s).Sound := by
  induction n generalizing s with
  | zero => exact hS
  | succ n ih =>
    rw [State.issueBursts]
    split
    · exact hS
    · split
      · exact hS
      · exact ih (State_burstSlot_sound _ hS)

@[simp] theorem State_drive_sound {s : State} (hS : State.Sound s) :
    State.Sound (State.drive s) := by
  unfold State.drive
  repeat' first
  | with_reducible assumption
  | split
  | with_reducible refine sound_foldl ?_ (fun _ _ _ => ?_)
  all_goals try simp only [pair_eq] at *
  all_goals try casesm* _ ∧ _
  all_goals try subst_vars
  all_goals (first | with_reducible assumption | simp +contextual (maxDischargeDepth := 30) [*, sound_foldl, sound_ite, SoundParts, memWrite_wf])

@[simp] theorem State_wroteBeControl_sound {s : State} (v : Word) (hS : State.Sound s) :
    State.Sound (State.wroteBeControl s v) := by
  unfold State.wroteBeControl
  repeat' first
  | with_reducible assumption
  | split
  | with_reducible refine sound_foldl ?_ (fun _ _ _ => ?_)
  all_goals try simp only [pair_eq] at *
  all_goals try casesm* _ ∧ _
  all_goals try subst_vars
  all_goals (first | with_reducible assumption | simp +contextual (maxDischargeDepth := 30) [*, sound_foldl, sound_ite, SoundParts, memWrite_wf])

@[simp] theorem State_takeBlockBale_sound {s : State} (r : Nat) (op : Nat) (fillOp : Bool) (hS : State.Sound s) :
    State.Sound (State.takeBlockBale s r op fillOp) := by
  unfold State.takeBlockBale
  repeat' first
  | with_reducible assumption
  | split
  | with_reducible refine sound_foldl ?_ (fun _ _ _ => ?_)
  all_goals try simp only [pair_eq] at *
  all_goals try casesm* _ ∧ _
  all_goals try subst_vars
  all_goals (first | with_reducible assumption | simp +contextual (maxDischargeDepth := 30) [*, sound_foldl, sound_ite, SoundParts, memWrite_wf])

@[simp] theorem State_startOp_sound {s : State} (hS : State.Sound s) :
    State.Sound (State.startOp s) := by
  unfold State.startOp
  repeat' first
  | with_reducible assumption
  | split
  | with_reducible refine sound_foldl ?_ (fun _ _ _ => ?_)
  all_goals try simp only [pair_eq] at *
  all_goals try casesm* _ ∧ _
  all_goals try subst_vars
  all_goals (first | with_reducible assumption | simp +contextual (maxDischargeDepth := 30) [*, sound_foldl, sound_ite, SoundParts, memWrite_wf])

@[simp] theorem State_deadTimeEnd_sound {s : State} (hS : State.Sound s) :
    State.Sound (State.deadTimeEnd s) := by
  unfold State.deadTimeEnd
  repeat' first
  | with_reducible assumption
  | split
  | with_reducible refine sound_foldl ?_ (fun _ _ _ => ?_)
  all_goals try simp only [pair_eq] at *
  all_goals try casesm* _ ∧ _
  all_goals try subst_vars
  all_goals (first | with_reducible assumption | simp +contextual (maxDischargeDepth := 30) [*, sound_foldl, sound_ite, SoundParts, memWrite_wf])

@[simp] theorem State_blockBad_sound {s : State} (r : BlockRun) (hS : State.Sound s) :
    State.Sound (State.blockBad s r) := by
  unfold State.blockBad
  repeat' first
  | with_reducible assumption
  | (extract_lets +onlyGivenNames x
     first
     | (have hx : State.Sound x := by
          (dsimp only [x]
           repeat' first
           | with_reducible assumption
           | split
           | with_reducible refine sound_foldl ?_ (fun _ _ _ => ?_)
           all_goals try simp only [pair_eq] at *
           all_goals try casesm* _ ∧ _
           all_goals try subst_vars
           all_goals (first | with_reducible assumption | simp +contextual (maxDischargeDepth := 30) [*, sound_foldl, sound_ite, SoundParts, memWrite_wf]))
        clear_value x)
     | skip)
  | split
  | with_reducible refine sound_foldl ?_ (fun _ _ _ => ?_)
  all_goals try simp only [pair_eq] at *
  all_goals try casesm* _ ∧ _
  all_goals try subst_vars
  all_goals (first | with_reducible assumption | (simp +contextual (maxDischargeDepth := 30) [*, sound_foldl, sound_ite, SoundParts, memWrite_wf]; done) | (simp +contextual +zetaDelta (maxDischargeDepth := 30) [*, sound_foldl, sound_ite, SoundParts, memWrite_wf]; done))

@[simp] theorem State_blockClean_sound {s : State} (r : BlockRun) (hS : State.Sound s) :
    State.Sound (State.blockClean s r) := by
  unfold State.blockClean
  repeat' first
  | with_reducible assumption
  | split
  | with_reducible refine sound_foldl ?_ (fun _ _ _ => ?_)
  all_goals try simp only [pair_eq] at *
  all_goals try casesm* _ ∧ _
  all_goals try subst_vars
  all_goals (first | with_reducible assumption | simp +contextual (maxDischargeDepth := 30) [*, sound_foldl, sound_ite, SoundParts, memWrite_wf])

@[simp] theorem State_opDone_sound {s : State} (k : Nat) (hS : State.Sound s) :
    State.Sound (State.opDone s k) := by
  unfold State.opDone
  repeat' first
  | with_reducible assumption
  | split
  | with_reducible refine sound_foldl ?_ (fun _ _ _ => ?_)
  all_goals try simp only [pair_eq] at *
  all_goals try casesm* _ ∧ _
  all_goals try subst_vars
  all_goals (first | with_reducible assumption | simp +contextual (maxDischargeDepth := 30) [*, sound_foldl, sound_ite, SoundParts, memWrite_wf])

@[simp] theorem State_clearNeedles_sound {s : State} (h : Nat) (skeins : List Nat) (hS : State.Sound s) :
    State.Sound (State.clearNeedles s h skeins) := by
  unfold State.clearNeedles
  repeat' first
  | with_reducible assumption
  | split
  | with_reducible refine sound_foldl ?_ (fun _ _ _ => ?_)
  all_goals try simp only [pair_eq] at *
  all_goals try casesm* _ ∧ _
  all_goals try subst_vars
  all_goals (first | with_reducible assumption | simp +contextual (maxDischargeDepth := 30) [*, sound_foldl, sound_ite, SoundParts, memWrite_wf])

@[simp] theorem State_assignOne_sound {s : State} (h n : Nat) (hS : s.Sound) : (s.assignOne h n).Sound := by
  unfold State.assignOne
  extract_lets c mask pick
  split
  · exact hS
  · generalize pick = p
    cases p with
    | none => exact hS
    | some m => exact State_modSkein_sound _ _ (State_modNeedle_sound _ _ hS)

@[simp] theorem State_assignNeedles_sound {s : State} (h : Nat) (hS : State.Sound s) :
    State.Sound (State.assignNeedles s h) := by
  unfold State.assignNeedles
  repeat' first
  | with_reducible assumption
  | split
  | with_reducible refine sound_foldl ?_ (fun _ _ _ => ?_)
  all_goals try simp only [pair_eq] at *
  all_goals try casesm* _ ∧ _
  all_goals try subst_vars
  all_goals (first | with_reducible assumption | simp +contextual (maxDischargeDepth := 30) [*, sound_foldl, sound_ite, SoundParts, memWrite_wf])

@[simp] theorem State_abortTests_sound {s : State} (hS : State.Sound s) :
    State.Sound (State.abortTests s) := by
  unfold State.abortTests
  repeat' first
  | with_reducible assumption
  | split
  | with_reducible refine sound_foldl ?_ (fun _ _ _ => ?_)
  all_goals try simp only [pair_eq] at *
  all_goals try casesm* _ ∧ _
  all_goals try subst_vars
  all_goals (first | with_reducible assumption | simp +contextual (maxDischargeDepth := 30) [*, sound_foldl, sound_ite, SoundParts, memWrite_wf])

@[simp] theorem State_startTest_sound {s : State} (m : Nat) (hS : State.Sound s) :
    State.Sound (State.startTest s m) := by
  unfold State.startTest
  repeat' first
  | with_reducible assumption
  | split
  | with_reducible refine sound_foldl ?_ (fun _ _ _ => ?_)
  all_goals try simp only [pair_eq] at *
  all_goals try casesm* _ ∧ _
  all_goals try subst_vars
  all_goals (first | with_reducible assumption | simp +contextual (maxDischargeDepth := 30) [*, sound_foldl, sound_ite, SoundParts, memWrite_wf])

@[simp] theorem State_failNeedle_sound {s : State} (m : Nat) (cause : Nat) (hS : State.Sound s) :
    State.Sound (State.failNeedle s m cause) := by
  unfold State.failNeedle
  repeat' first
  | with_reducible assumption
  | split
  | with_reducible refine sound_foldl ?_ (fun _ _ _ => ?_)
  all_goals try simp only [pair_eq] at *
  all_goals try casesm* _ ∧ _
  all_goals try subst_vars
  all_goals (first | with_reducible assumption | simp +contextual (maxDischargeDepth := 30) [*, sound_foldl, sound_ite, SoundParts, memWrite_wf])

@[simp] theorem State_testDone_sound {s : State} (m : Nat) (pass : Bool) (hS : State.Sound s) :
    State.Sound (State.testDone s m pass) := by
  unfold State.testDone
  repeat' first
  | with_reducible assumption
  | split
  | with_reducible refine sound_foldl ?_ (fun _ _ _ => ?_)
  all_goals try simp only [pair_eq] at *
  all_goals try casesm* _ ∧ _
  all_goals try subst_vars
  all_goals (first | with_reducible assumption | simp +contextual (maxDischargeDepth := 30) [*, sound_foldl, sound_ite, SoundParts, memWrite_wf])

@[simp] theorem State_testAbandon_sound {s : State} (m : Nat) (hS : State.Sound s) :
    State.Sound (State.testAbandon s m) := by
  unfold State.testAbandon
  repeat' first
  | with_reducible assumption
  | split
  | with_reducible refine sound_foldl ?_ (fun _ _ _ => ?_)
  all_goals try simp only [pair_eq] at *
  all_goals try casesm* _ ∧ _
  all_goals try subst_vars
  all_goals (first | with_reducible assumption | simp +contextual (maxDischargeDepth := 30) [*, sound_foldl, sound_ite, SoundParts, memWrite_wf])

@[simp] theorem State_retireNeedle_sound {s : State} (m cause h : Nat) (hS : s.Sound) :
    (s.retireNeedle m cause h).Sound := by
  unfold State.retireNeedle
  split
  · exact State_event_sound _ _ _ _ (State_modNeedle_sound _ _ hS)
  · extract_lets served s1 sp s2 s3 moved
    have h1 : s1.Sound := State_modNeedle_sound _ _ hS
    have h2 : s2.Sound := by
      dsimp only [s2]
      generalize sp = x
      cases x with
      | none => exact h1
      | some x => exact State_modNeedle_sound _ _ h1
    have h3 : s3.Sound := by
      dsimp only [s3]
      split
      · exact h2
      · exact State_assignNeedles_sound _ h2
    exact State_event_sound _ _ _ _ (State_event_sound _ _ _ _ h3)

@[simp] theorem State_applyAdmission_sound {s : State} (h : Nat) (hS : State.Sound s) :
    State.Sound (State.applyAdmission s h) := by
  unfold State.applyAdmission
  repeat' first
  | with_reducible assumption
  | split
  | with_reducible refine sound_foldl ?_ (fun _ _ _ => ?_)
  all_goals try simp only [pair_eq] at *
  all_goals try casesm* _ ∧ _
  all_goals try subst_vars
  all_goals (first | with_reducible assumption | simp +contextual (maxDischargeDepth := 30) [*, sound_foldl, sound_ite, SoundParts, memWrite_wf])

@[simp] theorem State_gaugeRestore_sound {s : State} (r : HeadRec) (hS : State.Sound s) :
    State.Sound (State.gaugeRestore s r) := by
  unfold State.gaugeRestore
  repeat' first
  | with_reducible assumption
  | (extract_lets +onlyGivenNames x
     first
     | (have hx : State.Sound x := by
          (dsimp only [x]
           repeat' first
           | with_reducible assumption
           | split
           | with_reducible refine sound_foldl ?_ (fun _ _ _ => ?_)
           all_goals try simp only [pair_eq] at *
           all_goals try casesm* _ ∧ _
           all_goals try subst_vars
           all_goals (first | with_reducible assumption | simp +contextual (maxDischargeDepth := 30) [*, sound_foldl, sound_ite, SoundParts, memWrite_wf]))
        clear_value x)
     | skip)
  | split
  | with_reducible refine sound_foldl ?_ (fun _ _ _ => ?_)
  all_goals try simp only [pair_eq] at *
  all_goals try casesm* _ ∧ _
  all_goals try subst_vars
  all_goals (first | with_reducible assumption | (simp +contextual (maxDischargeDepth := 30) [*, sound_foldl, sound_ite, SoundParts, memWrite_wf]; done) | (simp +contextual +zetaDelta (maxDischargeDepth := 30) [*, sound_foldl, sound_ite, SoundParts, memWrite_wf]; done))

@[simp] theorem State_openRungs_sound {s : State} (n : Nat) (hS : State.Sound s) :
    State.Sound (State.openRungs s n) := by
  unfold State.openRungs
  repeat' first
  | with_reducible assumption
  | split
  | with_reducible refine sound_foldl ?_ (fun _ _ _ => ?_)
  all_goals try simp only [pair_eq] at *
  all_goals try casesm* _ ∧ _
  all_goals try subst_vars
  all_goals (first | with_reducible assumption | simp +contextual (maxDischargeDepth := 30) [*, sound_foldl, sound_ite, SoundParts, memWrite_wf])

@[simp] theorem State_castOn_sound {s : State} (h : Nat) (hS : State.Sound s) :
    State.Sound (State.castOn s h) := by
  unfold State.castOn
  repeat' first
  | with_reducible assumption
  | split
  | with_reducible refine sound_foldl ?_ (fun _ _ _ => ?_)
  all_goals try simp only [pair_eq] at *
  all_goals try casesm* _ ∧ _
  all_goals try subst_vars
  all_goals (first | with_reducible assumption | simp +contextual (maxDischargeDepth := 30) [*, sound_foldl, sound_ite, SoundParts, memWrite_wf])

@[simp] theorem State_shed_sound {s : State} (h : Nat) (lead : Nat) (hS : State.Sound s) :
    State.Sound (State.shed s h lead) := by
  unfold State.shed
  repeat' first
  | with_reducible assumption
  | split
  | with_reducible refine sound_foldl ?_ (fun _ _ _ => ?_)
  all_goals try simp only [pair_eq] at *
  all_goals try casesm* _ ∧ _
  all_goals try subst_vars
  all_goals (first | with_reducible assumption | simp +contextual (maxDischargeDepth := 30) [*, sound_foldl, sound_ite, SoundParts, memWrite_wf])

@[simp] theorem State_lutParity_sound {s : State} (h : Nat) (fails : List Nat) (hS : State.Sound s) :
    State.Sound (State.lutParity s h fails) := by
  unfold State.lutParity
  repeat' first
  | with_reducible assumption
  | split
  | with_reducible refine sound_foldl ?_ (fun _ _ _ => ?_)
  all_goals try simp only [pair_eq] at *
  all_goals try casesm* _ ∧ _
  all_goals try subst_vars
  all_goals (first | with_reducible assumption | simp +contextual (maxDischargeDepth := 30) [*, sound_foldl, sound_ite, SoundParts, memWrite_wf])

@[simp] theorem State_storeLine_sound {s : State} (r : HeadRec) (line : Nat) (bad : List Nat) (hS : State.Sound s) :
    State.Sound (State.storeLine s r line bad) := by
  unfold State.storeLine
  repeat' first
  | with_reducible assumption
  | split
  | with_reducible refine sound_foldl ?_ (fun _ _ _ => ?_)
  all_goals try simp only [pair_eq] at *
  all_goals try casesm* _ ∧ _
  all_goals try subst_vars
  all_goals (first | with_reducible assumption | simp +contextual (maxDischargeDepth := 30) [*, sound_foldl, sound_ite, SoundParts, memWrite_wf])

@[simp] theorem State_closeSkein_sound {s : State} (r : HeadRec) (line : Nat) (n : Nat) (hS : State.Sound s) :
    State.Sound (State.closeSkein s r line n) := by
  unfold State.closeSkein
  repeat' first
  | with_reducible assumption
  | split
  | with_reducible refine sound_foldl ?_ (fun _ _ _ => ?_)
  all_goals try simp only [pair_eq] at *
  all_goals try casesm* _ ∧ _
  all_goals try subst_vars
  all_goals (first | with_reducible assumption | simp +contextual (maxDischargeDepth := 30) [*, sound_foldl, sound_ite, SoundParts, memWrite_wf])

@[simp] theorem State_closeLine_sound {s : State} (r : HeadRec) (line : Nat) (hS : State.Sound s) :
    State.Sound (State.closeLine s r line) := by
  unfold State.closeLine
  repeat' first
  | with_reducible assumption
  | split
  | with_reducible refine sound_foldl ?_ (fun _ _ _ => ?_)
  all_goals try simp only [pair_eq] at *
  all_goals try casesm* _ ∧ _
  all_goals try subst_vars
  all_goals (first | with_reducible assumption | simp +contextual (maxDischargeDepth := 30) [*, sound_foldl, sound_ite, SoundParts, memWrite_wf])

@[simp] theorem State_sendLine_sound {s : State} (r : HeadRec) (h : Nat) (c : Nat) (line : Nat) (px : List Px) (hS : State.Sound s) :
    State.Sound (State.sendLine s r h c line px) := by
  unfold State.sendLine
  repeat' first
  | with_reducible assumption
  | split
  | with_reducible refine sound_foldl ?_ (fun _ _ _ => ?_)
  all_goals try simp only [pair_eq] at *
  all_goals try casesm* _ ∧ _
  all_goals try subst_vars
  all_goals (first | with_reducible assumption | simp +contextual (maxDischargeDepth := 30) [*, sound_foldl, sound_ite, SoundParts, memWrite_wf])

@[simp] theorem State_sendLines_sound {s : State} (r : HeadRec) (line : Nat) (px : List Px) (hS : State.Sound s) :
    State.Sound (State.sendLines s r line px) := by
  unfold State.sendLines
  repeat' first
  | with_reducible assumption
  | split
  | with_reducible refine sound_foldl ?_ (fun _ _ _ => ?_)
  all_goals try simp only [pair_eq] at *
  all_goals try casesm* _ ∧ _
  all_goals try subst_vars
  all_goals (first | with_reducible assumption | simp +contextual (maxDischargeDepth := 30) [*, sound_foldl, sound_ite, SoundParts, memWrite_wf])

@[simp] theorem State_scanLine_sound {s : State} (r : HeadRec) (line : Nat) (hS : State.Sound s) :
    State.Sound (State.scanLine s r line) := by
  unfold State.scanLine
  repeat' first
  | with_reducible assumption
  | split
  | with_reducible refine sound_foldl ?_ (fun _ _ _ => ?_)
  all_goals try simp only [pair_eq] at *
  all_goals try casesm* _ ∧ _
  all_goals try subst_vars
  all_goals (first | with_reducible assumption | simp +contextual (maxDischargeDepth := 30) [*, sound_foldl, sound_ite, SoundParts, memWrite_wf])

@[simp] theorem State_scanTo_sound {s : State} (h : Nat) (last : Nat) (hS : State.Sound s) :
    State.Sound (State.scanTo s h last) := by
  unfold State.scanTo
  repeat' first
  | with_reducible assumption
  | split
  | with_reducible refine sound_foldl ?_ (fun _ _ _ => ?_)
  all_goals try simp only [pair_eq] at *
  all_goals try casesm* _ ∧ _
  all_goals try subst_vars
  all_goals (first | with_reducible assumption | simp +contextual (maxDischargeDepth := 30) [*, sound_foldl, sound_ite, SoundParts, memWrite_wf])

@[simp] theorem State_gaugeBand_sound {s : State} (h : Nat) (band : Nat) (hS : State.Sound s) :
    State.Sound (State.gaugeBand s h band) := by
  unfold State.gaugeBand
  repeat' first
  | with_reducible assumption
  | split
  | with_reducible refine sound_foldl ?_ (fun _ _ _ => ?_)
  all_goals try simp only [pair_eq] at *
  all_goals try casesm* _ ∧ _
  all_goals try subst_vars
  all_goals (first | with_reducible assumption | simp +contextual (maxDischargeDepth := 30) [*, sound_foldl, sound_ite, SoundParts, memWrite_wf])

@[simp] theorem State_lineClose_sound {s : State} (h : Nat) (line : Nat) (hS : State.Sound s) :
    State.Sound (State.lineClose s h line) := by
  unfold State.lineClose
  repeat' first
  | with_reducible assumption
  | split
  | with_reducible refine sound_foldl ?_ (fun _ _ _ => ?_)
  all_goals try simp only [pair_eq] at *
  all_goals try casesm* _ ∧ _
  all_goals try subst_vars
  all_goals (first | with_reducible assumption | simp +contextual (maxDischargeDepth := 30) [*, sound_foldl, sound_ite, SoundParts, memWrite_wf])

@[simp] theorem State_lineComposed_sound {s : State} (h : Nat) (line : Nat) (bad : List LutFault) (hS : State.Sound s) :
    State.Sound (State.lineComposed s h line bad) := by
  unfold State.lineComposed
  repeat' first
  | with_reducible assumption
  | (extract_lets +onlyGivenNames x
     first
     | (have hx : State.Sound x := by
          (dsimp only [x]
           repeat' first
           | with_reducible assumption
           | split
           | with_reducible refine sound_foldl ?_ (fun _ _ _ => ?_)
           all_goals try simp only [pair_eq] at *
           all_goals try casesm* _ ∧ _
           all_goals try subst_vars
           all_goals (first | with_reducible assumption | simp +contextual (maxDischargeDepth := 30) [*, sound_foldl, sound_ite, SoundParts, memWrite_wf]))
        clear_value x)
     | skip)
  | split
  | with_reducible refine sound_foldl ?_ (fun _ _ _ => ?_)
  all_goals try simp only [pair_eq] at *
  all_goals try casesm* _ ∧ _
  all_goals try subst_vars
  all_goals (first | with_reducible assumption | (simp +contextual (maxDischargeDepth := 30) [*, sound_foldl, sound_ite, SoundParts, memWrite_wf]; done) | (simp +contextual +zetaDelta (maxDischargeDepth := 30) [*, sound_foldl, sound_ite, SoundParts, memWrite_wf]; done))

@[simp] theorem State_witnessResult_sound {s : State} (h : Nat) (result : Nat) (actual : Word) (fc : Word) (hS : State.Sound s) :
    State.Sound (State.witnessResult s h result actual fc) := by
  unfold State.witnessResult
  repeat' first
  | with_reducible assumption
  | split
  | with_reducible refine sound_foldl ?_ (fun _ _ _ => ?_)
  all_goals try simp only [pair_eq] at *
  all_goals try casesm* _ ∧ _
  all_goals try subst_vars
  all_goals (first | with_reducible assumption | simp +contextual (maxDischargeDepth := 30) [*, sound_foldl, sound_ite, SoundParts, memWrite_wf])

@[simp] theorem State_witnessFinal_sound {s : State} (h : Nat) (hS : State.Sound s) :
    State.Sound (State.witnessFinal s h) := by
  unfold State.witnessFinal
  repeat' first
  | with_reducible assumption
  | split
  | with_reducible refine sound_foldl ?_ (fun _ _ _ => ?_)
  all_goals try simp only [pair_eq] at *
  all_goals try casesm* _ ∧ _
  all_goals try subst_vars
  all_goals (first | with_reducible assumption | simp +contextual (maxDischargeDepth := 30) [*, sound_foldl, sound_ite, SoundParts, memWrite_wf])

@[simp] theorem State_wroteWitness_sound {s : State} (h : Nat) (v : Word) (hS : State.Sound s) :
    State.Sound (State.wroteWitness s h v) := by
  unfold State.wroteWitness
  repeat' first
  | with_reducible assumption
  | split
  | with_reducible refine sound_foldl ?_ (fun _ _ _ => ?_)
  all_goals try simp only [pair_eq] at *
  all_goals try casesm* _ ∧ _
  all_goals try subst_vars
  all_goals (first | with_reducible assumption | simp +contextual (maxDischargeDepth := 30) [*, sound_foldl, sound_ite, SoundParts, memWrite_wf])

@[simp] theorem State_headFailure_sound {s : State} (h : Nat) (part : Nat) (hS : State.Sound s) :
    State.Sound (State.headFailure s h part) := by
  unfold State.headFailure
  repeat' first
  | with_reducible assumption
  | split
  | with_reducible refine sound_foldl ?_ (fun _ _ _ => ?_)
  all_goals try simp only [pair_eq] at *
  all_goals try casesm* _ ∧ _
  all_goals try subst_vars
  all_goals (first | with_reducible assumption | simp +contextual (maxDischargeDepth := 30) [*, sound_foldl, sound_ite, SoundParts, memWrite_wf])

@[simp] theorem State_wroteLut_sound {s : State} (h : Nat) (v : Word) (hS : State.Sound s) :
    State.Sound (State.wroteLut s h v) := by
  unfold State.wroteLut
  repeat' first
  | with_reducible assumption
  | split
  | with_reducible refine sound_foldl ?_ (fun _ _ _ => ?_)
  all_goals try simp only [pair_eq] at *
  all_goals try casesm* _ ∧ _
  all_goals try subst_vars
  all_goals (first | with_reducible assumption | simp +contextual (maxDischargeDepth := 30) [*, sound_foldl, sound_ite, SoundParts, memWrite_wf])

@[simp] theorem State_callOut_sound {s : State} (type : Nat) (body : List Byte) (hS : State.Sound s) :
    State.Sound (State.callOut s type body) := by
  unfold State.callOut
  repeat' first
  | with_reducible assumption
  | split
  | with_reducible refine sound_foldl ?_ (fun _ _ _ => ?_)
  all_goals try simp only [pair_eq] at *
  all_goals try casesm* _ ∧ _
  all_goals try subst_vars
  all_goals (first | with_reducible assumption | simp +contextual (maxDischargeDepth := 30) [*, sound_foldl, sound_ite, SoundParts, memWrite_wf])

@[simp] theorem State_forward_sound {s : State} (port : CaravanPort) (f : List Byte) (hS : State.Sound s) :
    State.Sound (State.forward s port f) := by
  unfold State.forward
  repeat' first
  | with_reducible assumption
  | split
  | with_reducible refine sound_foldl ?_ (fun _ _ _ => ?_)
  all_goals try simp only [pair_eq] at *
  all_goals try casesm* _ ∧ _
  all_goals try subst_vars
  all_goals (first | with_reducible assumption | simp +contextual (maxDischargeDepth := 30) [*, sound_foldl, sound_ite, SoundParts, memWrite_wf])

@[simp] theorem State_caravanEnter_sound {s : State} (state : Nat) (hS : State.Sound s) :
    State.Sound (State.caravanEnter s state) := by
  unfold State.caravanEnter
  repeat' first
  | with_reducible assumption
  | split
  | with_reducible refine sound_foldl ?_ (fun _ _ _ => ?_)
  all_goals try simp only [pair_eq] at *
  all_goals try casesm* _ ∧ _
  all_goals try subst_vars
  all_goals (first | with_reducible assumption | simp +contextual (maxDischargeDepth := 30) [*, sound_foldl, sound_ite, SoundParts, memWrite_wf])

@[simp] theorem State_caravanCause_sound {s : State} (cause : Nat) (hS : State.Sound s) :
    State.Sound (State.caravanCause s cause) := by
  unfold State.caravanCause
  repeat' first
  | with_reducible assumption
  | split
  | with_reducible refine sound_foldl ?_ (fun _ _ _ => ?_)
  all_goals try simp only [pair_eq] at *
  all_goals try casesm* _ ∧ _
  all_goals try subst_vars
  all_goals (first | with_reducible assumption | simp +contextual (maxDischargeDepth := 30) [*, sound_foldl, sound_ite, SoundParts, memWrite_wf])

@[simp] theorem State_takeLead_sound {s : State} (v : BitVec 64) (tag : Word) (hS : State.Sound s) :
    State.Sound (State.takeLead s v tag) := by
  unfold State.takeLead
  repeat' first
  | with_reducible assumption
  | split
  | with_reducible refine sound_foldl ?_ (fun _ _ _ => ?_)
  all_goals try simp only [pair_eq] at *
  all_goals try casesm* _ ∧ _
  all_goals try subst_vars
  all_goals (first | with_reducible assumption | simp +contextual (maxDischargeDepth := 30) [*, sound_foldl, sound_ite, SoundParts, memWrite_wf])

@[simp] theorem State_electFrom_sound {s : State} (seen : Word) (hS : State.Sound s) :
    State.Sound (State.electFrom s seen) := by
  unfold State.electFrom
  repeat' first
  | with_reducible assumption
  | split
  | with_reducible refine sound_foldl ?_ (fun _ _ _ => ?_)
  all_goals try simp only [pair_eq] at *
  all_goals try casesm* _ ∧ _
  all_goals try subst_vars
  all_goals (first | with_reducible assumption | simp +contextual (maxDischargeDepth := 30) [*, sound_foldl, sound_ite, SoundParts, memWrite_wf])

@[simp] theorem State_elect_sound {s : State} (hS : State.Sound s) :
    State.Sound (State.elect s) := by
  unfold State.elect
  repeat' first
  | with_reducible assumption
  | split
  | with_reducible refine sound_foldl ?_ (fun _ _ _ => ?_)
  all_goals try simp only [pair_eq] at *
  all_goals try casesm* _ ∧ _
  all_goals try subst_vars
  all_goals (first | with_reducible assumption | simp +contextual (maxDischargeDepth := 30) [*, sound_foldl, sound_ite, SoundParts, memWrite_wf])

@[simp] theorem State_setLocked_sound {s : State} (h : Nat) (locked : Bool) (hS : State.Sound s) :
    State.Sound (State.setLocked s h locked) := by
  unfold State.setLocked
  repeat' first
  | with_reducible assumption
  | split
  | with_reducible refine sound_foldl ?_ (fun _ _ _ => ?_)
  all_goals try simp only [pair_eq] at *
  all_goals try casesm* _ ∧ _
  all_goals try subst_vars
  all_goals (first | with_reducible assumption | simp +contextual (maxDischargeDepth := 30) [*, sound_foldl, sound_ite, SoundParts, memWrite_wf])

@[simp] theorem State_beatHead_sound (period : Nat) (predicted : Int) {s : State} (h : Nat) (hS : State.Sound s) :
    State.Sound (State.beatHead period predicted s h) := by
  unfold State.beatHead
  repeat' first
  | with_reducible assumption
  | split
  | with_reducible refine sound_foldl ?_ (fun _ _ _ => ?_)
  all_goals try simp only [pair_eq] at *
  all_goals try casesm* _ ∧ _
  all_goals try subst_vars
  all_goals (first | with_reducible assumption | simp +contextual (maxDischargeDepth := 30) [*, sound_foldl, sound_ite, SoundParts, memWrite_wf])

@[simp] theorem State_beatHeads_sound {s : State} (period : Nat) (ahead : Int) (hS : State.Sound s) :
    State.Sound (State.beatHeads s period ahead) := by
  unfold State.beatHeads
  repeat' first
  | with_reducible assumption
  | split
  | with_reducible refine sound_foldl ?_ (fun _ _ _ => ?_)
  all_goals try simp only [pair_eq] at *
  all_goals try casesm* _ ∧ _
  all_goals try subst_vars
  all_goals (first | with_reducible assumption | simp +contextual (maxDischargeDepth := 30) [*, sound_foldl, sound_ite, SoundParts, memWrite_wf])

@[simp] theorem State_hearMember_sound {s : State} (origin : BitVec 64) (tag : Word) (hS : State.Sound s) :
    State.Sound (State.hearMember s origin tag) := by
  unfold State.hearMember
  repeat' first
  | with_reducible assumption
  | split
  | with_reducible refine sound_foldl ?_ (fun _ _ _ => ?_)
  all_goals try simp only [pair_eq] at *
  all_goals try casesm* _ ∧ _
  all_goals try subst_vars
  all_goals (first | with_reducible assumption | simp +contextual (maxDischargeDepth := 30) [*, sound_foldl, sound_ite, SoundParts, memWrite_wf])

@[simp] theorem State_duplicateValue_sound {s : State} (origin : BitVec 64) (tag : Word) (hS : State.Sound s) :
    State.Sound (State.duplicateValue s origin tag) := by
  unfold State.duplicateValue
  repeat' first
  | with_reducible assumption
  | split
  | with_reducible refine sound_foldl ?_ (fun _ _ _ => ?_)
  all_goals try simp only [pair_eq] at *
  all_goals try casesm* _ ∧ _
  all_goals try subst_vars
  all_goals (first | with_reducible assumption | simp +contextual (maxDischargeDepth := 30) [*, sound_foldl, sound_ite, SoundParts, memWrite_wf])

@[simp] theorem State_takeCall_sound {s : State} (origin : BitVec 64) (tag : Word) (cfnSeen : Word) (hS : State.Sound s) :
    State.Sound (State.takeCall s origin tag cfnSeen) := by
  unfold State.takeCall
  repeat' first
  | with_reducible assumption
  | split
  | with_reducible refine sound_foldl ?_ (fun _ _ _ => ?_)
  all_goals try simp only [pair_eq] at *
  all_goals try casesm* _ ∧ _
  all_goals try subst_vars
  all_goals (first | with_reducible assumption | simp +contextual (maxDischargeDepth := 30) [*, sound_foldl, sound_ite, SoundParts, memWrite_wf])

@[simp] theorem State_hearBeat_sound {s : State} (origin : BitVec 64) (tag : Word) (period : Nat) (members : Nat) (hS : State.Sound s) :
    State.Sound (State.hearBeat s origin tag period members) := by
  unfold State.hearBeat
  repeat' first
  | with_reducible assumption
  | split
  | with_reducible refine sound_foldl ?_ (fun _ _ _ => ?_)
  all_goals try simp only [pair_eq] at *
  all_goals try casesm* _ ∧ _
  all_goals try subst_vars
  all_goals (first | with_reducible assumption | simp +contextual (maxDischargeDepth := 30) [*, sound_foldl, sound_ite, SoundParts, memWrite_wf])

@[simp] theorem State_takeBeat_sound {s : State} (port : CaravanPort) (f : List Byte) (origin : BitVec 64) (tag : Word) (hS : State.Sound s) :
    State.Sound (State.takeBeat s port f origin tag) := by
  unfold State.takeBeat
  repeat' first
  | with_reducible assumption
  | split
  | with_reducible refine sound_foldl ?_ (fun _ _ _ => ?_)
  all_goals try simp only [pair_eq] at *
  all_goals try casesm* _ ∧ _
  all_goals try subst_vars
  all_goals (first | with_reducible assumption | simp +contextual (maxDischargeDepth := 30) [*, sound_foldl, sound_ite, SoundParts, memWrite_wf])

@[simp] theorem State_noteSequence_sound {s : State} (origin : BitVec 64) (tag : Word) (n : Nat) (hS : State.Sound s) :
    State.Sound (State.noteSequence s origin tag n) := by
  unfold State.noteSequence
  repeat' first
  | with_reducible assumption
  | split
  | with_reducible refine sound_foldl ?_ (fun _ _ _ => ?_)
  all_goals try simp only [pair_eq] at *
  all_goals try casesm* _ ∧ _
  all_goals try subst_vars
  all_goals (first | with_reducible assumption | simp +contextual (maxDischargeDepth := 30) [*, sound_foldl, sound_ite, SoundParts, memWrite_wf])

@[simp] theorem State_takeGroupFrame_sound {s : State} (port : CaravanPort) (f : List Byte) (hS : State.Sound s) :
    State.Sound (State.takeGroupFrame s port f) := by
  unfold State.takeGroupFrame
  repeat' first
  | with_reducible assumption
  | split
  | with_reducible refine sound_foldl ?_ (fun _ _ _ => ?_)
  all_goals try simp only [pair_eq] at *
  all_goals try casesm* _ ∧ _
  all_goals try subst_vars
  all_goals (first | with_reducible assumption | simp +contextual (maxDischargeDepth := 30) [*, sound_foldl, sound_ite, SoundParts, memWrite_wf])

@[simp] theorem State_takeEcho_sound {s : State} (port : CaravanPort) (f : List Byte) (hS : State.Sound s) :
    State.Sound (State.takeEcho s port f) := by
  unfold State.takeEcho
  repeat' first
  | with_reducible assumption
  | split
  | with_reducible refine sound_foldl ?_ (fun _ _ _ => ?_)
  all_goals try simp only [pair_eq] at *
  all_goals try casesm* _ ∧ _
  all_goals try subst_vars
  all_goals (first | with_reducible assumption | simp +contextual (maxDischargeDepth := 30) [*, sound_foldl, sound_ite, SoundParts, memWrite_wf])

@[simp] theorem State_takeEchoReply_sound {s : State} (port : CaravanPort) (f : List Byte) (hS : State.Sound s) :
    State.Sound (State.takeEchoReply s port f) := by
  unfold State.takeEchoReply
  repeat' first
  | with_reducible assumption
  | split
  | with_reducible refine sound_foldl ?_ (fun _ _ _ => ?_)
  all_goals try simp only [pair_eq] at *
  all_goals try casesm* _ ∧ _
  all_goals try subst_vars
  all_goals (first | with_reducible assumption | simp +contextual (maxDischargeDepth := 30) [*, sound_foldl, sound_ite, SoundParts, memWrite_wf])

@[simp] theorem State_caravanReceive_sound {s : State} (port : CaravanPort) (f : List Byte) (hS : State.Sound s) :
    State.Sound (State.caravanReceive s port f) := by
  unfold State.caravanReceive
  repeat' first
  | with_reducible assumption
  | split
  | with_reducible refine sound_foldl ?_ (fun _ _ _ => ?_)
  all_goals try simp only [pair_eq] at *
  all_goals try casesm* _ ∧ _
  all_goals try subst_vars
  all_goals (first | with_reducible assumption | simp +contextual (maxDischargeDepth := 30) [*, sound_foldl, sound_ite, SoundParts, memWrite_wf])

@[simp] theorem State_echoOut_sound {s : State} (hS : State.Sound s) :
    State.Sound (State.echoOut s) := by
  unfold State.echoOut
  repeat' first
  | with_reducible assumption
  | split
  | with_reducible refine sound_foldl ?_ (fun _ _ _ => ?_)
  all_goals try simp only [pair_eq] at *
  all_goals try casesm* _ ∧ _
  all_goals try subst_vars
  all_goals (first | with_reducible assumption | simp +contextual (maxDischargeDepth := 30) [*, sound_foldl, sound_ite, SoundParts, memWrite_wf])

@[simp] theorem State_callTimer_sound {s : State} (hS : State.Sound s) :
    State.Sound (State.callTimer s) := by
  unfold State.callTimer
  repeat' first
  | with_reducible assumption
  | split
  | with_reducible refine sound_foldl ?_ (fun _ _ _ => ?_)
  all_goals try simp only [pair_eq] at *
  all_goals try casesm* _ ∧ _
  all_goals try subst_vars
  all_goals (first | with_reducible assumption | simp +contextual (maxDischargeDepth := 30) [*, sound_foldl, sound_ite, SoundParts, memWrite_wf])

@[simp] theorem State_electionEnd_sound {s : State} (hS : State.Sound s) :
    State.Sound (State.electionEnd s) := by
  unfold State.electionEnd
  repeat' first
  | with_reducible assumption
  | (extract_lets +onlyGivenNames x
     first
     | (have hx : State.Sound x := by
          (dsimp only [x]
           repeat' first
           | with_reducible assumption
           | split
           | with_reducible refine sound_foldl ?_ (fun _ _ _ => ?_)
           all_goals try simp only [pair_eq] at *
           all_goals try casesm* _ ∧ _
           all_goals try subst_vars
           all_goals (first | with_reducible assumption | simp +contextual (maxDischargeDepth := 30) [*, sound_foldl, sound_ite, SoundParts, memWrite_wf]))
        clear_value x)
     | skip)
  | split
  | with_reducible refine sound_foldl ?_ (fun _ _ _ => ?_)
  all_goals try simp only [pair_eq] at *
  all_goals try casesm* _ ∧ _
  all_goals try subst_vars
  all_goals (first | with_reducible assumption | (simp +contextual (maxDischargeDepth := 30) [*, sound_foldl, sound_ite, SoundParts, memWrite_wf]; done) | (simp +contextual +zetaDelta (maxDischargeDepth := 30) [*, sound_foldl, sound_ite, SoundParts, memWrite_wf]; done))

@[simp] theorem State_beatOut_sound {s : State} (hS : State.Sound s) :
    State.Sound (State.beatOut s) := by
  unfold State.beatOut
  repeat' first
  | with_reducible assumption
  | split
  | with_reducible refine sound_foldl ?_ (fun _ _ _ => ?_)
  all_goals try simp only [pair_eq] at *
  all_goals try casesm* _ ∧ _
  all_goals try subst_vars
  all_goals (first | with_reducible assumption | simp +contextual (maxDischargeDepth := 30) [*, sound_foldl, sound_ite, SoundParts, memWrite_wf])

@[simp] theorem State_followOther_sound {s : State} (b : HeardBeat) (hS : State.Sound s) :
    State.Sound (State.followOther s b) := by
  unfold State.followOther
  repeat' first
  | with_reducible assumption
  | split
  | with_reducible refine sound_foldl ?_ (fun _ _ _ => ?_)
  all_goals try simp only [pair_eq] at *
  all_goals try casesm* _ ∧ _
  all_goals try subst_vars
  all_goals (first | with_reducible assumption | simp +contextual (maxDischargeDepth := 30) [*, sound_foldl, sound_ite, SoundParts, memWrite_wf])

@[simp] theorem State_loseLead_sound {s : State} (hS : s.Sound) : s.loseLead.Sound := by
  unfold State.loseLead
  split
  · extract_lets unlock s1 s2
    have h1 : s1.Sound := sound_foldl hS (fun t h ht => State_setLocked_sound _ _ (State_modHead_sound _ _ ht))
    have h2 : s2.Sound := State_record_sound _ _ _ _ _ _ h1
    split
    · exact State_followOther_sound _ h2
    · exact State_elect_sound (State_caravanEnter_sound _ (State_caravanCause_sound _ h2))
  · exact hS

@[simp] theorem State_ageMember_sound {s : State} (origin : BitVec 64) (hS : State.Sound s) :
    State.Sound (State.ageMember s origin) := by
  unfold State.ageMember
  repeat' first
  | with_reducible assumption
  | split
  | with_reducible refine sound_foldl ?_ (fun _ _ _ => ?_)
  all_goals try simp only [pair_eq] at *
  all_goals try casesm* _ ∧ _
  all_goals try subst_vars
  all_goals (first | with_reducible assumption | simp +contextual (maxDischargeDepth := 30) [*, sound_foldl, sound_ite, SoundParts, memWrite_wf])

@[simp] theorem State_caravanLinkChange_sound {s : State} (port : CaravanPort) (up : Bool) (hS : State.Sound s) :
    State.Sound (State.caravanLinkChange s port up) := by
  unfold State.caravanLinkChange
  repeat' first
  | with_reducible assumption
  | split
  | with_reducible refine sound_foldl ?_ (fun _ _ _ => ?_)
  all_goals try simp only [pair_eq] at *
  all_goals try casesm* _ ∧ _
  all_goals try subst_vars
  all_goals (first | with_reducible assumption | simp +contextual (maxDischargeDepth := 30) [*, sound_foldl, sound_ite, SoundParts, memWrite_wf])

@[simp] theorem State_barrierResult_sound {s : State} (slot : Nat) (result : Nat) (b : Barrier) (hS : State.Sound s) :
    State.Sound (State.barrierResult s slot result b) := by
  unfold State.barrierResult
  repeat' first
  | with_reducible assumption
  | split
  | with_reducible refine sound_foldl ?_ (fun _ _ _ => ?_)
  all_goals try simp only [pair_eq] at *
  all_goals try casesm* _ ∧ _
  all_goals try subst_vars
  all_goals (first | with_reducible assumption | simp +contextual (maxDischargeDepth := 30) [*, sound_foldl, sound_ite, SoundParts, memWrite_wf])

@[simp] theorem State_armBarrier_sound {s : State} (mask : Nat) (hS : State.Sound s) :
    State.Sound (State.armBarrier s mask) := by
  unfold State.armBarrier
  repeat' first
  | with_reducible assumption
  | split
  | with_reducible refine sound_foldl ?_ (fun _ _ _ => ?_)
  all_goals try simp only [pair_eq] at *
  all_goals try casesm* _ ∧ _
  all_goals try subst_vars
  all_goals (first | with_reducible assumption | simp +contextual (maxDischargeDepth := 30) [*, sound_foldl, sound_ite, SoundParts, memWrite_wf])

@[simp] theorem State_freeBarrier_sound {s : State} (i : Nat) (hS : State.Sound s) :
    State.Sound (State.freeBarrier s i) := by
  unfold State.freeBarrier
  repeat' first
  | with_reducible assumption
  | split
  | with_reducible refine sound_foldl ?_ (fun _ _ _ => ?_)
  all_goals try simp only [pair_eq] at *
  all_goals try casesm* _ ∧ _
  all_goals try subst_vars
  all_goals (first | with_reducible assumption | simp +contextual (maxDischargeDepth := 30) [*, sound_foldl, sound_ite, SoundParts, memWrite_wf])

@[simp] theorem State_fireBarrier_sound (due : Barrier → Bool) (result : Nat) {s : State} (i : Nat) (hS : State.Sound s) :
    State.Sound (State.fireBarrier due result s i) := by
  unfold State.fireBarrier
  repeat' first
  | with_reducible assumption
  | split
  | with_reducible refine sound_foldl ?_ (fun _ _ _ => ?_)
  all_goals try simp only [pair_eq] at *
  all_goals try casesm* _ ∧ _
  all_goals try subst_vars
  all_goals (first | with_reducible assumption | simp +contextual (maxDischargeDepth := 30) [*, sound_foldl, sound_ite, SoundParts, memWrite_wf])

@[simp] theorem State_fireBarriers_sound {s : State} (hS : State.Sound s) :
    State.Sound (State.fireBarriers s) := by
  unfold State.fireBarriers
  repeat' first
  | with_reducible assumption
  | split
  | with_reducible refine sound_foldl ?_ (fun _ _ _ => ?_)
  all_goals try simp only [pair_eq] at *
  all_goals try casesm* _ ∧ _
  all_goals try subst_vars
  all_goals (first | with_reducible assumption | simp +contextual (maxDischargeDepth := 30) [*, sound_foldl, sound_ite, SoundParts, memWrite_wf])

@[simp] theorem State_skipBarriers_sound {s : State} (hS : State.Sound s) :
    State.Sound (State.skipBarriers s) := by
  unfold State.skipBarriers
  repeat' first
  | with_reducible assumption
  | split
  | with_reducible refine sound_foldl ?_ (fun _ _ _ => ?_)
  all_goals try simp only [pair_eq] at *
  all_goals try casesm* _ ∧ _
  all_goals try subst_vars
  all_goals (first | with_reducible assumption | simp +contextual (maxDischargeDepth := 30) [*, sound_foldl, sound_ite, SoundParts, memWrite_wf])

@[simp] theorem State_cancelBarrier_sound {s : State} (i : Nat) (hS : State.Sound s) :
    State.Sound (State.cancelBarrier s i) := by
  unfold State.cancelBarrier
  repeat' first
  | with_reducible assumption
  | split
  | with_reducible refine sound_foldl ?_ (fun _ _ _ => ?_)
  all_goals try simp only [pair_eq] at *
  all_goals try casesm* _ ∧ _
  all_goals try subst_vars
  all_goals (first | with_reducible assumption | simp +contextual (maxDischargeDepth := 30) [*, sound_foldl, sound_ite, SoundParts, memWrite_wf])

@[simp] theorem State_cancelBarriers_sound {s : State} (mask : Nat) (hS : State.Sound s) :
    State.Sound (State.cancelBarriers s mask) := by
  unfold State.cancelBarriers
  repeat' first
  | with_reducible assumption
  | split
  | with_reducible refine sound_foldl ?_ (fun _ _ _ => ?_)
  all_goals try simp only [pair_eq] at *
  all_goals try casesm* _ ∧ _
  all_goals try subst_vars
  all_goals (first | with_reducible assumption | simp +contextual (maxDischargeDepth := 30) [*, sound_foldl, sound_ite, SoundParts, memWrite_wf])

@[simp] theorem State_caravanSwitch_sound {s : State} (new : Pattern) (cause : Nat) (hS : State.Sound s) :
    State.Sound (State.caravanSwitch s new cause) := by
  unfold State.caravanSwitch
  repeat' first
  | with_reducible assumption
  | split
  | with_reducible refine sound_foldl ?_ (fun _ _ _ => ?_)
  all_goals try simp only [pair_eq] at *
  all_goals try casesm* _ ∧ _
  all_goals try subst_vars
  all_goals (first | with_reducible assumption | simp +contextual (maxDischargeDepth := 30) [*, sound_foldl, sound_ite, SoundParts, memWrite_wf])

@[simp] theorem State_porterCount_sound {s : State} (n : Nat) (hS : State.Sound s) :
    State.Sound (State.porterCount s n) := by
  unfold State.porterCount
  repeat' first
  | with_reducible assumption
  | split
  | with_reducible refine sound_foldl ?_ (fun _ _ _ => ?_)
  all_goals try simp only [pair_eq] at *
  all_goals try casesm* _ ∧ _
  all_goals try subst_vars
  all_goals (first | with_reducible assumption | simp +contextual (maxDischargeDepth := 30) [*, sound_foldl, sound_ite, SoundParts, memWrite_wf])

@[simp] theorem State_goLive_sound {s : State} (n : Nat) (hS : State.Sound s) :
    State.Sound (State.goLive s n) := by
  unfold State.goLive
  repeat' first
  | with_reducible assumption
  | (extract_lets +onlyGivenNames x
     first
     | (have hx : State.Sound x := by
          (dsimp only [x]
           repeat' first
           | with_reducible assumption
           | split
           | with_reducible refine sound_foldl ?_ (fun _ _ _ => ?_)
           all_goals try simp only [pair_eq] at *
           all_goals try casesm* _ ∧ _
           all_goals try subst_vars
           all_goals (first | with_reducible assumption | simp +contextual (maxDischargeDepth := 30) [*, sound_foldl, sound_ite, SoundParts, memWrite_wf]))
        clear_value x)
     | skip)
  | split
  | with_reducible refine sound_foldl ?_ (fun _ _ _ => ?_)
  all_goals try simp only [pair_eq] at *
  all_goals try casesm* _ ∧ _
  all_goals try subst_vars
  all_goals (first | with_reducible assumption | (simp +contextual (maxDischargeDepth := 30) [*, sound_foldl, sound_ite, SoundParts, memWrite_wf]; done) | (simp +contextual +zetaDelta (maxDischargeDepth := 30) [*, sound_foldl, sound_ite, SoundParts, memWrite_wf]; done))

@[simp] theorem State_porterIdle_sound {s : State} (n : Nat) (hS : State.Sound s) :
    State.Sound (State.porterIdle s n) := by
  unfold State.porterIdle
  repeat' first
  | with_reducible assumption
  | split
  | with_reducible refine sound_foldl ?_ (fun _ _ _ => ?_)
  all_goals try simp only [pair_eq] at *
  all_goals try casesm* _ ∧ _
  all_goals try subst_vars
  all_goals (first | with_reducible assumption | simp +contextual (maxDischargeDepth := 30) [*, sound_foldl, sound_ite, SoundParts, memWrite_wf])

@[simp] theorem State_porterComplete_sound {s : State} (n : Nat) (hS : State.Sound s) :
    State.Sound (State.porterComplete s n) := by
  unfold State.porterComplete
  repeat' first
  | with_reducible assumption
  | split
  | with_reducible refine sound_foldl ?_ (fun _ _ _ => ?_)
  all_goals try simp only [pair_eq] at *
  all_goals try casesm* _ ∧ _
  all_goals try subst_vars
  all_goals (first | with_reducible assumption | simp +contextual (maxDischargeDepth := 30) [*, sound_foldl, sound_ite, SoundParts, memWrite_wf])

@[simp] theorem State_porterGo_sound {s : State} (n : Nat) (hS : State.Sound s) :
    State.Sound (State.porterGo s n) := by
  unfold State.porterGo
  repeat' first
  | with_reducible assumption
  | split
  | with_reducible refine sound_foldl ?_ (fun _ _ _ => ?_)
  all_goals try simp only [pair_eq] at *
  all_goals try casesm* _ ∧ _
  all_goals try subst_vars
  all_goals (first | with_reducible assumption | simp +contextual (maxDischargeDepth := 30) [*, sound_foldl, sound_ite, SoundParts, memWrite_wf])

@[simp] theorem State_dropDescriptors_sound {s : State} (n : Nat) (l : List Nat) (hS : State.Sound s) :
    State.Sound (State.dropDescriptors s n l) := by
  unfold State.dropDescriptors
  repeat' first
  | with_reducible assumption
  | split
  | with_reducible refine sound_foldl ?_ (fun _ _ _ => ?_)
  all_goals try simp only [pair_eq] at *
  all_goals try casesm* _ ∧ _
  all_goals try subst_vars
  all_goals (first | with_reducible assumption | simp +contextual (maxDischargeDepth := 30) [*, sound_foldl, sound_ite, SoundParts, memWrite_wf])

@[simp] theorem State_clearDone_sound {s : State} (n : Nat) (hS : State.Sound s) :
    State.Sound (State.clearDone s n) := by
  unfold State.clearDone
  repeat' first
  | with_reducible assumption
  | split
  | with_reducible refine sound_foldl ?_ (fun _ _ _ => ?_)
  all_goals try simp only [pair_eq] at *
  all_goals try casesm* _ ∧ _
  all_goals try subst_vars
  all_goals (first | with_reducible assumption | simp +contextual (maxDischargeDepth := 30) [*, sound_foldl, sound_ite, SoundParts, memWrite_wf])

@[simp] theorem State_porterClear_sound {s : State} (n : Nat) (hS : State.Sound s) :
    State.Sound (State.porterClear s n) := by
  unfold State.porterClear
  repeat' first
  | with_reducible assumption
  | split
  | with_reducible refine sound_foldl ?_ (fun _ _ _ => ?_)
  all_goals try simp only [pair_eq] at *
  all_goals try casesm* _ ∧ _
  all_goals try subst_vars
  all_goals (first | with_reducible assumption | simp +contextual (maxDischargeDepth := 30) [*, sound_foldl, sound_ite, SoundParts, memWrite_wf])

@[simp] theorem State_wrotePorter_sound {s : State} (n : Nat) (v : Word) (hS : State.Sound s) :
    State.Sound (State.wrotePorter s n v) := by
  unfold State.wrotePorter
  repeat' first
  | with_reducible assumption
  | split
  | with_reducible refine sound_foldl ?_ (fun _ _ _ => ?_)
  all_goals try simp only [pair_eq] at *
  all_goals try casesm* _ ∧ _
  all_goals try subst_vars
  all_goals (first | with_reducible assumption | simp +contextual (maxDischargeDepth := 30) [*, sound_foldl, sound_ite, SoundParts, memWrite_wf])

end Sys2Proof.Machine
end

