-- ==== Sys2Proof/Laws/SoundAccess.lean ====
section
/-! SUPPORT. Soundness is kept by every operation: register access, bind-off and pattern loads. -/

set_option linter.all false
set_option maxRecDepth 4000
set_option maxHeartbeats 400000

namespace Sys2Proof.Machine

@[simp] theorem State_modUsb_sound {s : State} (f : UsbSt → UsbSt) (hS : State.Sound s) :
    State.Sound (State.modUsb s f) := by
  unfold State.modUsb
  repeat' first
  | with_reducible assumption
  | split
  | with_reducible refine sound_foldl ?_ (fun _ _ _ => ?_)
  all_goals try simp only [pair_eq] at *
  all_goals try casesm* _ ∧ _
  all_goals try subst_vars
  all_goals (first | with_reducible assumption | simp +contextual (maxDischargeDepth := 30) [*, sound_foldl, sound_ite, SoundParts, memWrite_wf])

@[simp] theorem State_usbState_sound {s : State} (st : Nat) (cause : Nat) (hS : State.Sound s) :
    State.Sound (State.usbState s st cause) := by
  unfold State.usbState
  repeat' first
  | with_reducible assumption
  | split
  | with_reducible refine sound_foldl ?_ (fun _ _ _ => ?_)
  all_goals try simp only [pair_eq] at *
  all_goals try casesm* _ ∧ _
  all_goals try subst_vars
  all_goals (first | with_reducible assumption | simp +contextual (maxDischargeDepth := 30) [*, sound_foldl, sound_ite, SoundParts, memWrite_wf])

@[simp] theorem State_resumeBins_sound {s : State} (hS : State.Sound s) :
    State.Sound (State.resumeBins s) := by
  unfold State.resumeBins
  repeat' first
  | with_reducible assumption
  | split
  | with_reducible refine sound_foldl ?_ (fun _ _ _ => ?_)
  all_goals try simp only [pair_eq] at *
  all_goals try casesm* _ ∧ _
  all_goals try subst_vars
  all_goals (first | with_reducible assumption | simp +contextual (maxDischargeDepth := 30) [*, sound_foldl, sound_ite, SoundParts, memWrite_wf])

@[simp] theorem State_enterMode_sound {s : State} (m : UsbMode) (hS : State.Sound s) :
    State.Sound (State.enterMode s m) := by
  unfold State.enterMode
  repeat' first
  | with_reducible assumption
  | split
  | with_reducible refine sound_foldl ?_ (fun _ _ _ => ?_)
  all_goals try simp only [pair_eq] at *
  all_goals try casesm* _ ∧ _
  all_goals try subst_vars
  all_goals (first | with_reducible assumption | simp +contextual (maxDischargeDepth := 30) [*, sound_foldl, sound_ite, SoundParts, memWrite_wf])

@[simp] theorem State_endUsbOwner_sound {s : State} (change : Nat) (hS : State.Sound s) :
    State.Sound (State.endUsbOwner s change) := by
  unfold State.endUsbOwner
  repeat' first
  | with_reducible assumption
  | split
  | with_reducible refine sound_foldl ?_ (fun _ _ _ => ?_)
  all_goals try simp only [pair_eq] at *
  all_goals try casesm* _ ∧ _
  all_goals try subst_vars
  all_goals (first | with_reducible assumption | simp +contextual (maxDischargeDepth := 30) [*, sound_foldl, sound_ite, SoundParts, memWrite_wf])

@[simp] theorem State_endUsbOpen_sound {s : State} (cause : Nat) (hS : State.Sound s) :
    State.Sound (State.endUsbOpen s cause) := by
  unfold State.endUsbOpen
  repeat' first
  | with_reducible assumption
  | split
  | with_reducible refine sound_foldl ?_ (fun _ _ _ => ?_)
  all_goals try simp only [pair_eq] at *
  all_goals try casesm* _ ∧ _
  all_goals try subst_vars
  all_goals (first | with_reducible assumption | simp +contextual (maxDischargeDepth := 30) [*, sound_foldl, sound_ite, SoundParts, memWrite_wf])

@[simp] theorem State_freePage_sound {s : State} (k : Nat) (hS : State.Sound s) :
    State.Sound (State.freePage s k) := by
  unfold State.freePage
  repeat' first
  | with_reducible assumption
  | split
  | with_reducible refine sound_foldl ?_ (fun _ _ _ => ?_)
  all_goals try simp only [pair_eq] at *
  all_goals try casesm* _ ∧ _
  all_goals try subst_vars
  all_goals (first | with_reducible assumption | simp +contextual (maxDischargeDepth := 30) [*, sound_foldl, sound_ite, SoundParts, memWrite_wf])

@[simp] theorem State_dropHeadPage_sound {s : State} (hS : State.Sound s) :
    State.Sound (State.dropHeadPage s) := by
  unfold State.dropHeadPage
  repeat' first
  | with_reducible assumption
  | split
  | with_reducible refine sound_foldl ?_ (fun _ _ _ => ?_)
  all_goals try simp only [pair_eq] at *
  all_goals try casesm* _ ∧ _
  all_goals try subst_vars
  all_goals (first | with_reducible assumption | simp +contextual (maxDischargeDepth := 30) [*, sound_foldl, sound_ite, SoundParts, memWrite_wf])

@[simp] theorem State_usbConnect_sound {s : State} (hS : State.Sound s) :
    State.Sound (State.usbConnect s) := by
  unfold State.usbConnect
  repeat' first
  | with_reducible assumption
  | split
  | with_reducible refine sound_foldl ?_ (fun _ _ _ => ?_)
  all_goals try simp only [pair_eq] at *
  all_goals try casesm* _ ∧ _
  all_goals try subst_vars
  all_goals (first | with_reducible assumption | simp +contextual (maxDischargeDepth := 30) [*, sound_foldl, sound_ite, SoundParts, memWrite_wf])

@[simp] theorem State_wroteUsbDisable_sound {s : State} (v : Word) (hS : State.Sound s) :
    State.Sound (State.wroteUsbDisable s v) := by
  unfold State.wroteUsbDisable
  repeat' first
  | with_reducible assumption
  | split
  | with_reducible refine sound_foldl ?_ (fun _ _ _ => ?_)
  all_goals try simp only [pair_eq] at *
  all_goals try casesm* _ ∧ _
  all_goals try subst_vars
  all_goals (first | with_reducible assumption | simp +contextual (maxDischargeDepth := 30) [*, sound_foldl, sound_ite, SoundParts, memWrite_wf])

@[simp] theorem State_pullupRemoval_sound {s : State} (hS : State.Sound s) :
    State.Sound (State.pullupRemoval s) := by
  unfold State.pullupRemoval
  repeat' first
  | with_reducible assumption
  | split
  | with_reducible refine sound_foldl ?_ (fun _ _ _ => ?_)
  all_goals try simp only [pair_eq] at *
  all_goals try casesm* _ ∧ _
  all_goals try subst_vars
  all_goals (first | with_reducible assumption | simp +contextual (maxDischargeDepth := 30) [*, sound_foldl, sound_ite, SoundParts, memWrite_wf])

@[simp] theorem State_violation_sound {s : State} (acc : Accessor) (write : Bool) (a : Nat) (reason : Nat) (hS : State.Sound s) :
    State.Sound (State.violation s acc write a reason) := by
  unfold State.violation
  repeat' first
  | with_reducible assumption
  | split
  | with_reducible refine sound_foldl ?_ (fun _ _ _ => ?_)
  all_goals try simp only [pair_eq] at *
  all_goals try casesm* _ ∧ _
  all_goals try subst_vars
  all_goals (first | with_reducible assumption | simp +contextual (maxDischargeDepth := 30) [*, sound_foldl, sound_ite, SoundParts, memWrite_wf])

@[simp] theorem State_refuseCommand_sound {s : State} (hS : State.Sound s) :
    State.Sound (State.refuseCommand s) := by
  unfold State.refuseCommand
  repeat' first
  | with_reducible assumption
  | split
  | with_reducible refine sound_foldl ?_ (fun _ _ _ => ?_)
  all_goals try simp only [pair_eq] at *
  all_goals try casesm* _ ∧ _
  all_goals try subst_vars
  all_goals (first | with_reducible assumption | simp +contextual (maxDischargeDepth := 30) [*, sound_foldl, sound_ite, SoundParts, memWrite_wf])

@[simp] theorem State_beginPattern_sound {s : State} (kind : PatOpKind) (source : Nat) (target : Nat) (hS : State.Sound s) :
    State.Sound (State.beginPattern s kind source target) := by
  unfold State.beginPattern
  repeat' first
  | with_reducible assumption
  | split
  | with_reducible refine sound_foldl ?_ (fun _ _ _ => ?_)
  all_goals try simp only [pair_eq] at *
  all_goals try casesm* _ ∧ _
  all_goals try subst_vars
  all_goals (first | with_reducible assumption | simp +contextual (maxDischargeDepth := 30) [*, sound_foldl, sound_ite, SoundParts, memWrite_wf])

@[simp] theorem State_wrotePattern_sound {s : State} (v : Word) (hS : State.Sound s) :
    State.Sound (State.wrotePattern s v) := by
  unfold State.wrotePattern
  repeat' first
  | with_reducible assumption
  | split
  | with_reducible refine sound_foldl ?_ (fun _ _ _ => ?_)
  all_goals try simp only [pair_eq] at *
  all_goals try casesm* _ ∧ _
  all_goals try subst_vars
  all_goals (first | with_reducible assumption | simp +contextual (maxDischargeDepth := 30) [*, sound_foldl, sound_ite, SoundParts, memWrite_wf])

@[simp] theorem State_storeKey_sound {s : State} (hS : State.Sound s) :
    State.Sound (State.storeKey s) := by
  unfold State.storeKey
  repeat' first
  | with_reducible assumption
  | split
  | with_reducible refine sound_foldl ?_ (fun _ _ _ => ?_)
  all_goals try simp only [pair_eq] at *
  all_goals try casesm* _ ∧ _
  all_goals try subst_vars
  all_goals (first | with_reducible assumption | simp +contextual (maxDischargeDepth := 30) [*, sound_foldl, sound_ite, SoundParts, memWrite_wf])

@[simp] theorem State_postStaged_sound {s : State} (route : Nat) (hS : State.Sound s) :
    State.Sound (State.postStaged s route) := by
  unfold State.postStaged
  repeat' first
  | with_reducible assumption
  | (extract_lets +onlyGivenNames x
     first
     | (have hx : State.Sound x := by
          (dsimp only [x]
           repeat' first
           | with_reducible assumption
           | split
           | with_reducible refine sound_foldl ?_ (fun _ _ _ => ?_)
           all_goals try simp only [pair_eq] at *
           all_goals try casesm* _ ∧ _
           all_goals try subst_vars
           all_goals (first | with_reducible assumption | simp +contextual (maxDischargeDepth := 30) [*, sound_foldl, sound_ite, SoundParts, memWrite_wf]))
        clear_value x)
     | skip)
  | split
  | with_reducible refine sound_foldl ?_ (fun _ _ _ => ?_)
  all_goals try simp only [pair_eq] at *
  all_goals try casesm* _ ∧ _
  all_goals try subst_vars
  all_goals (first | with_reducible assumption | (simp +contextual (maxDischargeDepth := 30) [*, sound_foldl, sound_ite, SoundParts, memWrite_wf]; done) | (simp +contextual +zetaDelta (maxDischargeDepth := 30) [*, sound_foldl, sound_ite, SoundParts, memWrite_wf]; done))

@[simp] theorem State_releaseEvents_sound {s : State} (n : Nat) (hS : State.Sound s) :
    State.Sound (State.releaseEvents s n) := by
  unfold State.releaseEvents
  repeat' first
  | with_reducible assumption
  | split
  | with_reducible refine sound_foldl ?_ (fun _ _ _ => ?_)
  all_goals try simp only [pair_eq] at *
  all_goals try casesm* _ ∧ _
  all_goals try subst_vars
  all_goals (first | with_reducible assumption | simp +contextual (maxDischargeDepth := 30) [*, sound_foldl, sound_ite, SoundParts, memWrite_wf])

@[simp] theorem State_clearLedger_sound {s : State} (hS : State.Sound s) :
    State.Sound (State.clearLedger s) := by
  unfold State.clearLedger
  repeat' first
  | with_reducible assumption
  | split
  | with_reducible refine sound_foldl ?_ (fun _ _ _ => ?_)
  all_goals try simp only [pair_eq] at *
  all_goals try casesm* _ ∧ _
  all_goals try subst_vars
  all_goals (first | with_reducible assumption | simp +contextual (maxDischargeDepth := 30) [*, sound_foldl, sound_ite, SoundParts, memWrite_wf])

@[simp] theorem State_countFrom_sound {s : State} (k : Nat) (v : Word) (hS : State.Sound s) :
    State.Sound (State.countFrom s k v) := by
  unfold State.countFrom
  repeat' first
  | with_reducible assumption
  | split
  | with_reducible refine sound_foldl ?_ (fun _ _ _ => ?_)
  all_goals try simp only [pair_eq] at *
  all_goals try casesm* _ ∧ _
  all_goals try subst_vars
  all_goals (first | with_reducible assumption | simp +contextual (maxDischargeDepth := 30) [*, sound_foldl, sound_ite, SoundParts, memWrite_wf])

@[simp] theorem State_applyPair_sound {s : State} (low : Reg) (i : Nat) (v : Word) (hS : State.Sound s) :
    State.Sound (State.applyPair s low i v) := by
  unfold State.applyPair
  repeat' first
  | with_reducible assumption
  | split
  | with_reducible refine sound_foldl ?_ (fun _ _ _ => ?_)
  all_goals try simp only [pair_eq] at *
  all_goals try casesm* _ ∧ _
  all_goals try subst_vars
  all_goals (first | with_reducible assumption | simp +contextual (maxDischargeDepth := 30) [*, sound_foldl, sound_ite, SoundParts, memWrite_wf])

@[simp] theorem State_wroteNetAddress_sound {s : State} {before : State} (p : Nat) (hS : State.Sound s) (hbefore : State.Sound before) :
    State.Sound (State.wroteNetAddress s before p) := by
  unfold State.wroteNetAddress
  repeat' first
  | with_reducible assumption
  | split
  | with_reducible refine sound_foldl ?_ (fun _ _ _ => ?_)
  all_goals try simp only [pair_eq] at *
  all_goals try casesm* _ ∧ _
  all_goals try subst_vars
  all_goals (first | with_reducible assumption | simp +contextual (maxDischargeDepth := 30) [*, sound_foldl, sound_ite, SoundParts, memWrite_wf])

@[simp] theorem State_wroteSrcNet_sound {s : State} (i : Nat) (hS : State.Sound s) :
    State.Sound (State.wroteSrcNet s i) := by
  unfold State.wroteSrcNet
  repeat' first
  | with_reducible assumption
  | split
  | with_reducible refine sound_foldl ?_ (fun _ _ _ => ?_)
  all_goals try simp only [pair_eq] at *
  all_goals try casesm* _ ∧ _
  all_goals try subst_vars
  all_goals (first | with_reducible assumption | simp +contextual (maxDischargeDepth := 30) [*, sound_foldl, sound_ite, SoundParts, memWrite_wf])

@[simp] theorem State_wroteSrcConfig_sound {s : State} {old : State} (i : Nat) (hS : State.Sound s) (hold : State.Sound old) :
    State.Sound (State.wroteSrcConfig s old i) := by
  unfold State.wroteSrcConfig
  repeat' first
  | with_reducible assumption
  | split
  | with_reducible refine sound_foldl ?_ (fun _ _ _ => ?_)
  all_goals try simp only [pair_eq] at *
  all_goals try casesm* _ ∧ _
  all_goals try subst_vars
  all_goals (first | with_reducible assumption | simp +contextual (maxDischargeDepth := 30) [*, sound_foldl, sound_ite, SoundParts, memWrite_wf])

@[simp] theorem State_loadCount_sound {s : State} (k : Nat) (v : Word) (hS : State.Sound s) :
    State.Sound (State.loadCount s k v) := by
  unfold State.loadCount
  repeat' first
  | with_reducible assumption
  | split
  | with_reducible refine sound_foldl ?_ (fun _ _ _ => ?_)
  all_goals try simp only [pair_eq] at *
  all_goals try casesm* _ ∧ _
  all_goals try subst_vars
  all_goals (first | with_reducible assumption | simp +contextual (maxDischargeDepth := 30) [*, sound_foldl, sound_ite, SoundParts, memWrite_wf])

@[simp] theorem State_wroteEffect_sound {s : State} {before : State} (acc : Accessor) (r : Reg) (i : Nat) (old : Word) (v : Word) (hS : State.Sound s) (hS1 : State.Sound before) :
    State.Sound (State.wroteEffect s before acc r i old v) := by
  unfold State.wroteEffect
  repeat' first
  | with_reducible assumption
  | split
  | with_reducible refine sound_foldl ?_ (fun _ _ _ => ?_)
  all_goals try simp only [pair_eq] at *
  all_goals try casesm* _ ∧ _
  all_goals try subst_vars
  all_goals (first | with_reducible assumption | simp +contextual (maxDischargeDepth := 30) [*, sound_foldl, sound_ite, SoundParts, memWrite_wf])

@[simp] theorem State_shadowEffect_sound {s : State} (r : Reg) (hS : State.Sound s) :
    State.Sound (State.shadowEffect s r) := by
  unfold State.shadowEffect
  repeat' first
  | with_reducible assumption
  | split
  | with_reducible refine sound_foldl ?_ (fun _ _ _ => ?_)
  all_goals try simp only [pair_eq] at *
  all_goals try casesm* _ ∧ _
  all_goals try subst_vars
  all_goals (first | with_reducible assumption | simp +contextual (maxDischargeDepth := 30) [*, sound_foldl, sound_ite, SoundParts, memWrite_wf])

@[simp] theorem State_applyWrite_sound {s : State} (acc : Accessor) (r : Reg) (i : Nat) (j : Nat) (v : Word) (hS : State.Sound s) :
    State.Sound (State.applyWrite s acc r i j v) := by
  unfold State.applyWrite
  repeat' first
  | with_reducible assumption
  | split
  | with_reducible refine sound_foldl ?_ (fun _ _ _ => ?_)
  all_goals try simp only [pair_eq] at *
  all_goals try casesm* _ ∧ _
  all_goals try subst_vars
  all_goals (first | with_reducible assumption | simp +contextual (maxDischargeDepth := 30) [*, sound_foldl, sound_ite, SoundParts, memWrite_wf])

@[simp] theorem State_writeAccess_sound {s : State} (acc : Accessor) (a : Nat) (v : Word) (hS : State.Sound s) :
    State.Sound (State.writeAccess s acc a v).1 := by
  unfold State.writeAccess
  repeat' first
  | with_reducible assumption
  | split
  | with_reducible refine sound_foldl ?_ (fun _ _ _ => ?_)
  all_goals try simp only [pair_eq] at *
  all_goals try casesm* _ ∧ _
  all_goals try subst_vars
  all_goals (first | with_reducible assumption | simp +contextual (maxDischargeDepth := 30) [*, sound_foldl, sound_ite, SoundParts, memWrite_wf])

@[simp] theorem State_readAccess_sound {s : State} (acc : Accessor) (a : Nat) (hS : State.Sound s) :
    State.Sound (State.readAccess s acc a).1 := by
  unfold State.readAccess
  repeat' first
  | with_reducible assumption
  | split
  | with_reducible refine sound_foldl ?_ (fun _ _ _ => ?_)
  all_goals try simp only [pair_eq] at *
  all_goals try casesm* _ ∧ _
  all_goals try subst_vars
  all_goals (first | with_reducible assumption | simp +contextual (maxDischargeDepth := 30) [*, sound_foldl, sound_ite, SoundParts, memWrite_wf])

theorem State_writeRun_sound (acc : Accessor) (l : List Word) {s : State} (a k : Nat) (hS : s.Sound) :
    (State.writeRun acc s a l k).1.Sound := by
  induction l generalizing s a k with
  | nil => exact hS
  | cons v l ih =>
    rw [State.writeRun]
    have h := State_writeAccess_sound acc a v hS
    generalize s.writeAccess acc a v = p at h ⊢
    rcases p with ⟨s1, _ | _⟩
    · exact h
    · exact ih _ _ h

theorem State_readRun_sound (acc : Accessor) (n : Nat) {s : State} (a : Nat) (hS : s.Sound) :
    (State.readRun acc n s a).1.Sound := by
  induction n generalizing s a with
  | zero => exact hS
  | succ n ih =>
    rw [State.readRun]
    have h := State_readAccess_sound acc a hS
    generalize s.readAccess acc a = p at h ⊢
    rcases p with ⟨s1, v, _ | _⟩
    · exact h
    · exact ih (a + 4) h

@[simp] theorem State_writeCmd_sound {s : State} (acc : Accessor) (r : Reg) (i : Nat) (j : Nat) (v : Word) (hS : State.Sound s) :
    State.Sound (State.writeCmd s acc r i j v) := by
  unfold State.writeCmd
  repeat' first
  | with_reducible assumption
  | split
  | with_reducible refine sound_foldl ?_ (fun _ _ _ => ?_)
  all_goals try simp only [pair_eq] at *
  all_goals try casesm* _ ∧ _
  all_goals try subst_vars
  all_goals (first | with_reducible assumption | simp +contextual (maxDischargeDepth := 30) [*, sound_foldl, sound_ite, SoundParts, memWrite_wf])

@[simp] theorem State_carryOut_sound {s : State} (h : Nat) (e : Retirement) (hS : State.Sound s) :
    State.Sound (State.carryOut s h e) := by
  unfold State.carryOut
  repeat' first
  | with_reducible assumption
  | split
  | with_reducible refine sound_foldl ?_ (fun _ _ _ => ?_)
  all_goals try simp only [pair_eq] at *
  all_goals try casesm* _ ∧ _
  all_goals try subst_vars
  all_goals (first | with_reducible assumption | simp +contextual (maxDischargeDepth := 30) [*, sound_foldl, sound_ite, SoundParts, memWrite_wf])

@[simp] theorem State_retireAt_sound {s : State} (h : Nat) (hS : State.Sound s) :
    State.Sound (State.retireAt s h) := by
  unfold State.retireAt
  repeat' first
  | with_reducible assumption
  | split
  | with_reducible refine sound_foldl ?_ (fun _ _ _ => ?_)
  all_goals try simp only [pair_eq] at *
  all_goals try casesm* _ ∧ _
  all_goals try subst_vars
  all_goals (first | with_reducible assumption | simp +contextual (maxDischargeDepth := 30) [*, sound_foldl, sound_ite, SoundParts, memWrite_wf])

@[simp] theorem State_countCfn_sound {s : State} (hS : State.Sound s) :
    State.Sound (State.countCfn s) := by
  unfold State.countCfn
  repeat' first
  | with_reducible assumption
  | split
  | with_reducible refine sound_foldl ?_ (fun _ _ _ => ?_)
  all_goals try simp only [pair_eq] at *
  all_goals try casesm* _ ∧ _
  all_goals try subst_vars
  all_goals (first | with_reducible assumption | simp +contextual (maxDischargeDepth := 30) [*, sound_foldl, sound_ite, SoundParts, memWrite_wf])

@[simp] theorem State_meetWaits_sound {s : State} (h : Nat) (hS : State.Sound s) :
    State.Sound (State.meetWaits s h) := by
  unfold State.meetWaits
  repeat' first
  | with_reducible assumption
  | split
  | with_reducible refine sound_foldl ?_ (fun _ _ _ => ?_)
  all_goals try simp only [pair_eq] at *
  all_goals try casesm* _ ∧ _
  all_goals try subst_vars
  all_goals (first | with_reducible assumption | simp +contextual (maxDischargeDepth := 30) [*, sound_foldl, sound_ite, SoundParts, memWrite_wf])

@[simp] theorem State_takeValues_sound {s : State} (h : Nat) (carry : Bool) (hS : State.Sound s) :
    State.Sound (State.takeValues s h carry) := by
  unfold State.takeValues
  repeat' first
  | with_reducible assumption
  | split
  | with_reducible refine sound_foldl ?_ (fun _ _ _ => ?_)
  all_goals try simp only [pair_eq] at *
  all_goals try casesm* _ ∧ _
  all_goals try subst_vars
  all_goals (first | with_reducible assumption | simp +contextual (maxDischargeDepth := 30) [*, sound_foldl, sound_ite, SoundParts, memWrite_wf])

@[simp] theorem State_openFrame_sound {s : State} (r : HeadRec) (st : Nat) (hS : State.Sound s) :
    State.Sound (State.openFrame s r st) := by
  unfold State.openFrame
  repeat' first
  | with_reducible assumption
  | split
  | with_reducible refine sound_foldl ?_ (fun _ _ _ => ?_)
  all_goals try simp only [pair_eq] at *
  all_goals try casesm* _ ∧ _
  all_goals try subst_vars
  all_goals (first | with_reducible assumption | simp +contextual (maxDischargeDepth := 30) [*, sound_foldl, sound_ite, SoundParts, memWrite_wf])

@[simp] theorem State_headBindOff_sound {s : State} (r : HeadRec) (st : Nat) (carry : Bool) (hS : s.Sound) :
    (s.headBindOff r st carry).Sound := by
  unfold State.headBindOff
  extract_lets h s1 s2 s3 s4 s5
  have h1 : s1.Sound := State_modHead_sound _ _ hS
  have h2 : s2.Sound := by
    dsimp only [s2]
    split
    · exact State_countCfn_sound h1
    · exact h1
  have h3 : s3.Sound := State_retireAt_sound _ (State_takeValues_sound _ _ h2)
  have h4 : s4.Sound := State_abortTests_sound (State_assignNeedles_sound _ h3)
  have h5 : s5.Sound := sound_foldl h4 (fun t n ht => State_judgeSkein_sound _ _ ht)
  exact State_meetWaits_sound _ (State_settleGpo_sound (State_settlePorts_sound (State_openFrame_sound _ _ h5) hS) hS)

@[simp] theorem State_startTiming_sound {s : State} (r : HeadRec) (hS : State.Sound s) :
    State.Sound (State.startTiming s r) := by
  unfold State.startTiming
  repeat' first
  | with_reducible assumption
  | split
  | with_reducible refine sound_foldl ?_ (fun _ _ _ => ?_)
  all_goals try simp only [pair_eq] at *
  all_goals try casesm* _ ∧ _
  all_goals try subst_vars
  all_goals (first | with_reducible assumption | simp +contextual (maxDischargeDepth := 30) [*, sound_foldl, sound_ite, SoundParts, memWrite_wf])

@[simp] theorem State_standinFrame_sound {s : State} (h : Nat) (carry : Bool) (hS : State.Sound s) :
    State.Sound (State.standinFrame s h carry) := by
  unfold State.standinFrame
  repeat' first
  | with_reducible assumption
  | split
  | with_reducible refine sound_foldl ?_ (fun _ _ _ => ?_)
  all_goals try simp only [pair_eq] at *
  all_goals try casesm* _ ∧ _
  all_goals try subst_vars
  all_goals (first | with_reducible assumption | simp +contextual (maxDischargeDepth := 30) [*, sound_foldl, sound_ite, SoundParts, memWrite_wf])

@[simp] theorem State_plainBindOff_sound {s : State} (h : Nat) (hS : State.Sound s) :
    State.Sound (State.plainBindOff s h) := by
  unfold State.plainBindOff
  repeat' first
  | with_reducible assumption
  | split
  | with_reducible refine sound_foldl ?_ (fun _ _ _ => ?_)
  all_goals try simp only [pair_eq] at *
  all_goals try casesm* _ ∧ _
  all_goals try subst_vars
  all_goals (first | with_reducible assumption | simp +contextual (maxDischargeDepth := 30) [*, sound_foldl, sound_ite, SoundParts, memWrite_wf])

@[simp] theorem State_applyInit_sound {s : State} (mode : InitMode) (e : InitRec) (hS : State.Sound s) :
    State.Sound (State.applyInit s mode e) := by
  unfold State.applyInit
  repeat' first
  | with_reducible assumption
  | split
  | with_reducible refine sound_foldl ?_ (fun _ _ _ => ?_)
  all_goals try simp only [pair_eq] at *
  all_goals try casesm* _ ∧ _
  all_goals try subst_vars
  all_goals (first | with_reducible assumption | simp +contextual (maxDischargeDepth := 30) [*, sound_foldl, sound_ite, SoundParts, memWrite_wf])

@[simp] theorem State_setPort_sound {s : State} (c : Nat) (w : Word) (hS : State.Sound s) :
    State.Sound (State.setPort s c w) := by
  unfold State.setPort
  repeat' first
  | with_reducible assumption
  | split
  | with_reducible refine sound_foldl ?_ (fun _ _ _ => ?_)
  all_goals try simp only [pair_eq] at *
  all_goals try casesm* _ ∧ _
  all_goals try subst_vars
  all_goals (first | with_reducible assumption | simp +contextual (maxDischargeDepth := 30) [*, sound_foldl, sound_ite, SoundParts, memWrite_wf])

@[simp] theorem State_portsFrom_sound {s : State} (p : Pattern) (hS : State.Sound s) :
    State.Sound (State.portsFrom s p) := by
  unfold State.portsFrom
  repeat' first
  | with_reducible assumption
  | split
  | with_reducible refine sound_foldl ?_ (fun _ _ _ => ?_)
  all_goals try simp only [pair_eq] at *
  all_goals try casesm* _ ∧ _
  all_goals try subst_vars
  all_goals (first | with_reducible assumption | simp +contextual (maxDischargeDepth := 30) [*, sound_foldl, sound_ite, SoundParts, memWrite_wf])

@[simp] theorem State_initCommon_sound {s : State} (p : Pattern) (hS : State.Sound s) :
    State.Sound (State.initCommon s p) := by
  unfold State.initCommon
  repeat' first
  | with_reducible assumption
  | split
  | with_reducible refine sound_foldl ?_ (fun _ _ _ => ?_)
  all_goals try simp only [pair_eq] at *
  all_goals try casesm* _ ∧ _
  all_goals try subst_vars
  all_goals (first | with_reducible assumption | simp +contextual (maxDischargeDepth := 30) [*, sound_foldl, sound_ite, SoundParts, memWrite_wf])

@[simp] theorem State_initHeads_sound {s : State} (p : Pattern) (mode : InitMode) (hs : List Nat) (hS : State.Sound s) :
    State.Sound (State.initHeads s p mode hs) := by
  unfold State.initHeads
  repeat' first
  | with_reducible assumption
  | split
  | with_reducible refine sound_foldl ?_ (fun _ _ _ => ?_)
  all_goals try simp only [pair_eq] at *
  all_goals try casesm* _ ∧ _
  all_goals try subst_vars
  all_goals (first | with_reducible assumption | simp +contextual (maxDischargeDepth := 30) [*, sound_foldl, sound_ite, SoundParts, memWrite_wf])

@[simp] theorem State_initAll_sound {s : State} (p : Pattern) (mode : InitMode) (hs : List Nat) (hS : State.Sound s) :
    State.Sound (State.initAll s p mode hs) := by
  unfold State.initAll
  repeat' first
  | with_reducible assumption
  | split
  | with_reducible refine sound_foldl ?_ (fun _ _ _ => ?_)
  all_goals try simp only [pair_eq] at *
  all_goals try casesm* _ ∧ _
  all_goals try subst_vars
  all_goals (first | with_reducible assumption | simp +contextual (maxDischargeDepth := 30) [*, sound_foldl, sound_ite, SoundParts, memWrite_wf])

@[simp] theorem State_portsOfHead_sound {s : State} (p : Pattern) (h : Nat) (hS : State.Sound s) :
    State.Sound (State.portsOfHead s p h) := by
  unfold State.portsOfHead
  repeat' first
  | with_reducible assumption
  | split
  | with_reducible refine sound_foldl ?_ (fun _ _ _ => ?_)
  all_goals try simp only [pair_eq] at *
  all_goals try casesm* _ ∧ _
  all_goals try subst_vars
  all_goals (first | with_reducible assumption | simp +contextual (maxDischargeDepth := 30) [*, sound_foldl, sound_ite, SoundParts, memWrite_wf])

@[simp] theorem State_spareOff_sound {s : State} (p : Pattern) (hS : State.Sound s) :
    State.Sound (State.spareOff s p) := by
  unfold State.spareOff
  repeat' first
  | with_reducible assumption
  | split
  | with_reducible refine sound_foldl ?_ (fun _ _ _ => ?_)
  all_goals try simp only [pair_eq] at *
  all_goals try casesm* _ ∧ _
  all_goals try subst_vars
  all_goals (first | with_reducible assumption | simp +contextual (maxDischargeDepth := 30) [*, sound_foldl, sound_ite, SoundParts, memWrite_wf])

@[simp] theorem State_beginHead_sound {s : State} (r : HeadRec) (hS : State.Sound s) :
    State.Sound (State.beginHead s r) := by
  unfold State.beginHead
  repeat' first
  | with_reducible assumption
  | split
  | with_reducible refine sound_foldl ?_ (fun _ _ _ => ?_)
  all_goals try simp only [pair_eq] at *
  all_goals try casesm* _ ∧ _
  all_goals try subst_vars
  all_goals (first | with_reducible assumption | simp +contextual (maxDischargeDepth := 30) [*, sound_foldl, sound_ite, SoundParts, memWrite_wf])

@[simp] theorem State_endPattern_sound {s : State} (op : PatOp) (code : Nat) (sec : Nat) (hS : State.Sound s) :
    State.Sound (State.endPattern s op code sec) := by
  unfold State.endPattern
  repeat' first
  | with_reducible assumption
  | split
  | with_reducible refine sound_foldl ?_ (fun _ _ _ => ?_)
  all_goals try simp only [pair_eq] at *
  all_goals try casesm* _ ∧ _
  all_goals try subst_vars
  all_goals (first | with_reducible assumption | simp +contextual (maxDischargeDepth := 30) [*, sound_foldl, sound_ite, SoundParts, memWrite_wf])

@[simp] theorem State_autoLock_sound {s : State} (p : Pattern) (hS : State.Sound s) :
    State.Sound (State.autoLock s p) := by
  unfold State.autoLock
  repeat' first
  | with_reducible assumption
  | split
  | with_reducible refine sound_foldl ?_ (fun _ _ _ => ?_)
  all_goals try simp only [pair_eq] at *
  all_goals try casesm* _ ∧ _
  all_goals try subst_vars
  all_goals (first | with_reducible assumption | simp +contextual (maxDischargeDepth := 30) [*, sound_foldl, sound_ite, SoundParts, memWrite_wf])

@[simp] theorem State_dropPool_sound {s : State} (hS : State.Sound s) :
    State.Sound (State.dropPool s) := by
  unfold State.dropPool
  repeat' first
  | with_reducible assumption
  | split
  | with_reducible refine sound_foldl ?_ (fun _ _ _ => ?_)
  all_goals try simp only [pair_eq] at *
  all_goals try casesm* _ ∧ _
  all_goals try subst_vars
  all_goals (first | with_reducible assumption | simp +contextual (maxDischargeDepth := 30) [*, sound_foldl, sound_ite, SoundParts, memWrite_wf])

@[simp] theorem State_reSource_sound {s : State} (hS : State.Sound s) :
    State.Sound (State.reSource s) := by
  unfold State.reSource
  repeat' first
  | with_reducible assumption
  | split
  | with_reducible refine sound_foldl ?_ (fun _ _ _ => ?_)
  all_goals try simp only [pair_eq] at *
  all_goals try casesm* _ ∧ _
  all_goals try subst_vars
  all_goals (first | with_reducible assumption | simp +contextual (maxDischargeDepth := 30) [*, sound_foldl, sound_ite, SoundParts, memWrite_wf])

@[simp] theorem State_dropPattern_sound {s : State} (hS : State.Sound s) :
    State.Sound (State.dropPattern s) := by
  unfold State.dropPattern
  repeat' first
  | with_reducible assumption
  | split
  | with_reducible refine sound_foldl ?_ (fun _ _ _ => ?_)
  all_goals try simp only [pair_eq] at *
  all_goals try casesm* _ ∧ _
  all_goals try subst_vars
  all_goals (first | with_reducible assumption | simp +contextual (maxDischargeDepth := 30) [*, sound_foldl, sound_ite, SoundParts, memWrite_wf])

@[simp] theorem State_enterFloor_sound {s : State} (cause : Nat) (hS : State.Sound s) :
    State.Sound (State.enterFloor s cause) := by
  unfold State.enterFloor
  repeat' first
  | with_reducible assumption
  | split
  | with_reducible refine sound_foldl ?_ (fun _ _ _ => ?_)
  all_goals try simp only [pair_eq] at *
  all_goals try casesm* _ ∧ _
  all_goals try subst_vars
  all_goals (first | with_reducible assumption | simp +contextual (maxDischargeDepth := 30) [*, sound_foldl, sound_ite, SoundParts, memWrite_wf])

@[simp] theorem State_bindRoutes_sound {s : State} (p : Pattern) (hS : State.Sound s) :
    State.Sound (State.bindRoutes s p) := by
  unfold State.bindRoutes
  repeat' first
  | with_reducible assumption
  | split
  | with_reducible refine sound_foldl ?_ (fun _ _ _ => ?_)
  all_goals try simp only [pair_eq] at *
  all_goals try casesm* _ ∧ _
  all_goals try subst_vars
  all_goals (first | with_reducible assumption | simp +contextual (maxDischargeDepth := 30) [*, sound_foldl, sound_ite, SoundParts, memWrite_wf])

@[simp] theorem State_bringUpEvent_sound {s : State} (hS : State.Sound s) :
    State.Sound (State.bringUpEvent s) := by
  unfold State.bringUpEvent
  repeat' first
  | with_reducible assumption
  | split
  | with_reducible refine sound_foldl ?_ (fun _ _ _ => ?_)
  all_goals try simp only [pair_eq] at *
  all_goals try casesm* _ ∧ _
  all_goals try subst_vars
  all_goals (first | with_reducible assumption | simp +contextual (maxDischargeDepth := 30) [*, sound_foldl, sound_ite, SoundParts, memWrite_wf])

@[simp] theorem State_startHeads_sound {s : State} (p : Pattern) (hS : State.Sound s) :
    State.Sound (State.startHeads s p) := by
  unfold State.startHeads
  repeat' first
  | with_reducible assumption
  | split
  | with_reducible refine sound_foldl ?_ (fun _ _ _ => ?_)
  all_goals try simp only [pair_eq] at *
  all_goals try casesm* _ ∧ _
  all_goals try subst_vars
  all_goals (first | with_reducible assumption | simp +contextual (maxDischargeDepth := 30) [*, sound_foldl, sound_ite, SoundParts, memWrite_wf])

@[simp] theorem State_failSkeins_sound {s : State} (p : Pattern) (bad : List (Fin 96)) (hS : State.Sound s) :
    State.Sound (State.failSkeins s p bad) := by
  unfold State.failSkeins
  repeat' first
  | with_reducible assumption
  | split
  | with_reducible refine sound_foldl ?_ (fun _ _ _ => ?_)
  all_goals try simp only [pair_eq] at *
  all_goals try casesm* _ ∧ _
  all_goals try subst_vars
  all_goals (first | with_reducible assumption | simp +contextual (maxDischargeDepth := 30) [*, sound_foldl, sound_ite, SoundParts, memWrite_wf])

@[simp] theorem State_clearRetired_sound {s : State} (p : Pattern) (map : List Nat) (check : LoadCheck) (hS : State.Sound s) :
    State.Sound (State.clearRetired s p map check) := by
  unfold State.clearRetired
  repeat' first
  | with_reducible assumption
  | (extract_lets +onlyGivenNames x
     first
     | (have hx : State.Sound x := by
          (dsimp only [x]
           repeat' first
           | with_reducible assumption
           | split
           | with_reducible refine sound_foldl ?_ (fun _ _ _ => ?_)
           all_goals try simp only [pair_eq] at *
           all_goals try casesm* _ ∧ _
           all_goals try subst_vars
           all_goals (first | with_reducible assumption | simp +contextual (maxDischargeDepth := 30) [*, sound_foldl, sound_ite, SoundParts, memWrite_wf]))
        clear_value x)
     | skip)
  | split
  | with_reducible refine sound_foldl ?_ (fun _ _ _ => ?_)
  all_goals try simp only [pair_eq] at *
  all_goals try casesm* _ ∧ _
  all_goals try subst_vars
  all_goals (first | with_reducible assumption | (simp +contextual (maxDischargeDepth := 30) [*, sound_foldl, sound_ite, SoundParts, memWrite_wf]; done) | (simp +contextual +zetaDelta (maxDischargeDepth := 30) [*, sound_foldl, sound_ite, SoundParts, memWrite_wf]; done))

@[simp] theorem State_rebindRoute_sound (old : Pattern) (new : Pattern) (all : Bool) {s : State} (r : Nat) (hS : State.Sound s) :
    State.Sound (State.rebindRoute old new all s r) := by
  unfold State.rebindRoute
  repeat' first
  | with_reducible assumption
  | split
  | with_reducible refine sound_foldl ?_ (fun _ _ _ => ?_)
  all_goals try simp only [pair_eq] at *
  all_goals try casesm* _ ∧ _
  all_goals try subst_vars
  all_goals (first | with_reducible assumption | simp +contextual (maxDischargeDepth := 30) [*, sound_foldl, sound_ite, SoundParts, memWrite_wf])

@[simp] theorem State_startRemapped_sound {s : State} (op : PatOp) (p : Pattern) (check : LoadCheck) (hS : State.Sound s) :
    State.Sound (State.startRemapped s op p check) := by
  unfold State.startRemapped
  repeat' first
  | with_reducible assumption
  | (extract_lets +onlyGivenNames x
     first
     | (have hx : State.Sound x := by
          (dsimp only [x]
           repeat' first
           | with_reducible assumption
           | split
           | with_reducible refine sound_foldl ?_ (fun _ _ _ => ?_)
           all_goals try simp only [pair_eq] at *
           all_goals try casesm* _ ∧ _
           all_goals try subst_vars
           all_goals (first | with_reducible assumption | simp +contextual (maxDischargeDepth := 30) [*, sound_foldl, sound_ite, SoundParts, memWrite_wf]))
        clear_value x)
     | skip)
  | split
  | with_reducible refine sound_foldl ?_ (fun _ _ _ => ?_)
  all_goals try simp only [pair_eq] at *
  all_goals try casesm* _ ∧ _
  all_goals try subst_vars
  all_goals (first | with_reducible assumption | (simp +contextual (maxDischargeDepth := 30) [*, sound_foldl, sound_ite, SoundParts, memWrite_wf]; done) | (simp +contextual +zetaDelta (maxDischargeDepth := 30) [*, sound_foldl, sound_ite, SoundParts, memWrite_wf]; done))

@[simp] theorem State_startMapped_sound {s : State} (op : PatOp) (p : Pattern) (check : LoadCheck) (hS : State.Sound s) :
    State.Sound (State.startMapped s op p check) := by
  unfold State.startMapped
  repeat' first
  | with_reducible assumption
  | (extract_lets +onlyGivenNames x
     first
     | (have hx : State.Sound x := by
          (dsimp only [x]
           repeat' first
           | with_reducible assumption
           | split
           | with_reducible refine sound_foldl ?_ (fun _ _ _ => ?_)
           all_goals try simp only [pair_eq] at *
           all_goals try casesm* _ ∧ _
           all_goals try subst_vars
           all_goals (first | with_reducible assumption | simp +contextual (maxDischargeDepth := 30) [*, sound_foldl, sound_ite, SoundParts, memWrite_wf]))
        clear_value x)
     | skip)
  | split
  | with_reducible refine sound_foldl ?_ (fun _ _ _ => ?_)
  all_goals try simp only [pair_eq] at *
  all_goals try casesm* _ ∧ _
  all_goals try subst_vars
  all_goals (first | with_reducible assumption | (simp +contextual (maxDischargeDepth := 30) [*, sound_foldl, sound_ite, SoundParts, memWrite_wf]; done) | (simp +contextual +zetaDelta (maxDischargeDepth := 30) [*, sound_foldl, sound_ite, SoundParts, memWrite_wf]; done))

@[simp] theorem State_startService_sound {s : State} (op : PatOp) (p : Pattern) (check : LoadCheck) (hS : State.Sound s) :
    State.Sound (State.startService s op p check) := by
  unfold State.startService
  repeat' first
  | with_reducible assumption
  | (extract_lets +onlyGivenNames x
     first
     | (have hx : State.Sound x := by
          (dsimp only [x]
           repeat' first
           | with_reducible assumption
           | split
           | with_reducible refine sound_foldl ?_ (fun _ _ _ => ?_)
           all_goals try simp only [pair_eq] at *
           all_goals try casesm* _ ∧ _
           all_goals try subst_vars
           all_goals (first | with_reducible assumption | simp +contextual (maxDischargeDepth := 30) [*, sound_foldl, sound_ite, SoundParts, memWrite_wf]))
        clear_value x)
     | skip)
  | split
  | with_reducible refine sound_foldl ?_ (fun _ _ _ => ?_)
  all_goals try simp only [pair_eq] at *
  all_goals try casesm* _ ∧ _
  all_goals try subst_vars
  all_goals (first | with_reducible assumption | (simp +contextual (maxDischargeDepth := 30) [*, sound_foldl, sound_ite, SoundParts, memWrite_wf]; done) | (simp +contextual +zetaDelta (maxDischargeDepth := 30) [*, sound_foldl, sound_ite, SoundParts, memWrite_wf]; done))

@[simp] theorem State_dropConsole_sound {s : State} (hS : State.Sound s) :
    State.Sound (State.dropConsole s) := by
  unfold State.dropConsole
  repeat' first
  | with_reducible assumption
  | split
  | with_reducible refine sound_foldl ?_ (fun _ _ _ => ?_)
  all_goals try simp only [pair_eq] at *
  all_goals try casesm* _ ∧ _
  all_goals try subst_vars
  all_goals (first | with_reducible assumption | simp +contextual (maxDischargeDepth := 30) [*, sound_foldl, sound_ite, SoundParts, memWrite_wf])

@[simp] theorem State_switchSections_sound {s : State} (z : Restitch) (hS : State.Sound s) :
    State.Sound (State.switchSections s z) := by
  unfold State.switchSections
  repeat' first
  | with_reducible assumption
  | split
  | with_reducible refine sound_foldl ?_ (fun _ _ _ => ?_)
  all_goals try simp only [pair_eq] at *
  all_goals try casesm* _ ∧ _
  all_goals try subst_vars
  all_goals (first | with_reducible assumption | simp +contextual (maxDischargeDepth := 30) [*, sound_foldl, sound_ite, SoundParts, memWrite_wf])

@[simp] theorem State_restitchDone_sound {s : State} (hS : State.Sound s) :
    State.Sound (State.restitchDone s) := by
  unfold State.restitchDone
  repeat' first
  | with_reducible assumption
  | split
  | with_reducible refine sound_foldl ?_ (fun _ _ _ => ?_)
  all_goals try simp only [pair_eq] at *
  all_goals try casesm* _ ∧ _
  all_goals try subst_vars
  all_goals (first | with_reducible assumption | simp +contextual (maxDischargeDepth := 30) [*, sound_foldl, sound_ite, SoundParts, memWrite_wf])

@[simp] theorem State_continueHead_sound {s : State} (kept : Bool) (planned : Option HeadRec) (newMap : Bool) (r : HeadRec) (hS : State.Sound s) :
    State.Sound (State.continueHead s kept planned newMap r) := by
  unfold State.continueHead
  repeat' first
  | with_reducible assumption
  | (extract_lets +onlyGivenNames x
     first
     | (have hx : State.Sound x := by
          (dsimp only [x]
           repeat' first
           | with_reducible assumption
           | split
           | with_reducible refine sound_foldl ?_ (fun _ _ _ => ?_)
           all_goals try simp only [pair_eq] at *
           all_goals try casesm* _ ∧ _
           all_goals try subst_vars
           all_goals (first | with_reducible assumption | simp +contextual (maxDischargeDepth := 30) [*, sound_foldl, sound_ite, SoundParts, memWrite_wf]))
        clear_value x)
     | skip)
  | split
  | with_reducible refine sound_foldl ?_ (fun _ _ _ => ?_)
  all_goals try simp only [pair_eq] at *
  all_goals try casesm* _ ∧ _
  all_goals try subst_vars
  all_goals (first | with_reducible assumption | (simp +contextual (maxDischargeDepth := 30) [*, sound_foldl, sound_ite, SoundParts, memWrite_wf]; done) | (simp +contextual +zetaDelta (maxDischargeDepth := 30) [*, sound_foldl, sound_ite, SoundParts, memWrite_wf]; done))

@[simp] theorem State_switchHead_sound {s : State} (z : Restitch) (h : Nat) (hS : State.Sound s) :
    State.Sound (State.switchHead s z h) := by
  unfold State.switchHead
  repeat' first
  | with_reducible assumption
  | (extract_lets +onlyGivenNames x
     first
     | (have hx : State.Sound x := by
          (dsimp only [x]
           repeat' first
           | with_reducible assumption
           | split
           | with_reducible refine sound_foldl ?_ (fun _ _ _ => ?_)
           all_goals try simp only [pair_eq] at *
           all_goals try casesm* _ ∧ _
           all_goals try subst_vars
           all_goals (first | with_reducible assumption | simp +contextual (maxDischargeDepth := 30) [*, sound_foldl, sound_ite, SoundParts, memWrite_wf]))
        clear_value x)
     | skip)
  | split
  | with_reducible refine sound_foldl ?_ (fun _ _ _ => ?_)
  all_goals try simp only [pair_eq] at *
  all_goals try casesm* _ ∧ _
  all_goals try subst_vars
  all_goals (first | with_reducible assumption | (simp +contextual (maxDischargeDepth := 30) [*, sound_foldl, sound_ite, SoundParts, memWrite_wf]; done) | (simp +contextual +zetaDelta (maxDischargeDepth := 30) [*, sound_foldl, sound_ite, SoundParts, memWrite_wf]; done))

@[simp] theorem State_startRestitch_sound {s : State} (op : PatOp) (p : Pattern) (check : LoadCheck) (hS : State.Sound s) :
    State.Sound (State.startRestitch s op p check) := by
  unfold State.startRestitch
  repeat' first
  | with_reducible assumption
  | (extract_lets +onlyGivenNames x
     first
     | (have hx : State.Sound x := by
          (dsimp only [x]
           repeat' first
           | with_reducible assumption
           | split
           | with_reducible refine sound_foldl ?_ (fun _ _ _ => ?_)
           all_goals try simp only [pair_eq] at *
           all_goals try casesm* _ ∧ _
           all_goals try subst_vars
           all_goals (first | with_reducible assumption | simp +contextual (maxDischargeDepth := 30) [*, sound_foldl, sound_ite, SoundParts, memWrite_wf]))
        clear_value x)
     | skip)
  | split
  | with_reducible refine sound_foldl ?_ (fun _ _ _ => ?_)
  all_goals try simp only [pair_eq] at *
  all_goals try casesm* _ ∧ _
  all_goals try subst_vars
  all_goals (first | with_reducible assumption | (simp +contextual (maxDischargeDepth := 30) [*, sound_foldl, sound_ite, SoundParts, memWrite_wf]; done) | (simp +contextual +zetaDelta (maxDischargeDepth := 30) [*, sound_foldl, sound_ite, SoundParts, memWrite_wf]; done))

@[simp] theorem State_scanOut_sound {s : State} (h : Nat) (hS : State.Sound s) :
    State.Sound (State.scanOut s h) := by
  unfold State.scanOut
  repeat' first
  | with_reducible assumption
  | split
  | with_reducible refine sound_foldl ?_ (fun _ _ _ => ?_)
  all_goals try simp only [pair_eq] at *
  all_goals try casesm* _ ∧ _
  all_goals try subst_vars
  all_goals (first | with_reducible assumption | simp +contextual (maxDischargeDepth := 30) [*, sound_foldl, sound_ite, SoundParts, memWrite_wf])

@[simp] theorem State_bindOff_sound {s : State} (h : Nat) (hS : State.Sound s) :
    State.Sound (State.bindOff s h) := by
  unfold State.bindOff
  repeat' first
  | with_reducible assumption
  | split
  | with_reducible refine sound_foldl ?_ (fun _ _ _ => ?_)
  all_goals try simp only [pair_eq] at *
  all_goals try casesm* _ ∧ _
  all_goals try subst_vars
  all_goals (first | with_reducible assumption | simp +contextual (maxDischargeDepth := 30) [*, sound_foldl, sound_ite, SoundParts, memWrite_wf])

@[simp] theorem State_mapStore_sound {s : State} (map : List Nat) (hS : s.Sound) : (s.mapStore map).Sound := by
  unfold State.mapStore
  extract_lets s1
  have h1 : s1.Sound := by
    refine sound_foldl hS (fun t c ht => ?_)
    split
    · exact State_modChannel_sound _ _ ht
    · exact ht
  exact ⟨rfl, h1.2, h1.3, h1.4, h1.5, h1.6⟩

@[simp] theorem State_fillEvents_sound {s : State} (hS : State.Sound s) :
    State.Sound (State.fillEvents s) := by
  unfold State.fillEvents
  repeat' first
  | with_reducible assumption
  | split
  | with_reducible refine sound_foldl ?_ (fun _ _ _ => ?_)
  all_goals try simp only [pair_eq] at *
  all_goals try casesm* _ ∧ _
  all_goals try subst_vars
  all_goals (first | with_reducible assumption | simp +contextual (maxDischargeDepth := 30) [*, sound_foldl, sound_ite, SoundParts, memWrite_wf])

@[simp] theorem State_fillEnds_sound {s : State} (z : Restitch) (hS : State.Sound s) :
    State.Sound (State.fillEnds s z) := by
  unfold State.fillEnds
  repeat' first
  | with_reducible assumption
  | split
  | with_reducible refine sound_foldl ?_ (fun _ _ _ => ?_)
  all_goals try simp only [pair_eq] at *
  all_goals try casesm* _ ∧ _
  all_goals try subst_vars
  all_goals (first | with_reducible assumption | simp +contextual (maxDischargeDepth := 30) [*, sound_foldl, sound_ite, SoundParts, memWrite_wf])

@[simp] theorem State_programSlot_sound {s : State} (op : PatOp) (flashOk : Bool) (hS : State.Sound s) :
    State.Sound (State.programSlot s op flashOk) := by
  unfold State.programSlot
  repeat' first
  | with_reducible assumption
  | split
  | with_reducible refine sound_foldl ?_ (fun _ _ _ => ?_)
  all_goals try simp only [pair_eq] at *
  all_goals try casesm* _ ∧ _
  all_goals try subst_vars
  all_goals (first | with_reducible assumption | simp +contextual (maxDischargeDepth := 30) [*, sound_foldl, sound_ite, SoundParts, memWrite_wf])

@[simp] theorem State_powerOnFails_sound {s : State} (op : PatOp) (hS : State.Sound s) :
    State.Sound (State.powerOnFails s op) := by
  unfold State.powerOnFails
  repeat' first
  | with_reducible assumption
  | split
  | with_reducible refine sound_foldl ?_ (fun _ _ _ => ?_)
  all_goals try simp only [pair_eq] at *
  all_goals try casesm* _ ∧ _
  all_goals try subst_vars
  all_goals (first | with_reducible assumption | simp +contextual (maxDischargeDepth := 30) [*, sound_foldl, sound_ite, SoundParts, memWrite_wf])

@[simp] theorem State_patternFinish_sound {s : State} (flashOk : Bool) (check : LoadCheck) (hS : State.Sound s) :
    State.Sound (State.patternFinish s flashOk check) := by
  unfold State.patternFinish
  repeat' first
  | with_reducible assumption
  | (extract_lets +onlyGivenNames x
     first
     | (have hx : State.Sound x := by
          (dsimp only [x]
           repeat' first
           | with_reducible assumption
           | split
           | with_reducible refine sound_foldl ?_ (fun _ _ _ => ?_)
           all_goals try simp only [pair_eq] at *
           all_goals try casesm* _ ∧ _
           all_goals try subst_vars
           all_goals (first | with_reducible assumption | simp +contextual (maxDischargeDepth := 30) [*, sound_foldl, sound_ite, SoundParts, memWrite_wf]))
        clear_value x)
     | skip)
  | split
  | with_reducible refine sound_foldl ?_ (fun _ _ _ => ?_)
  all_goals try simp only [pair_eq] at *
  all_goals try casesm* _ ∧ _
  all_goals try subst_vars
  all_goals (first | with_reducible assumption | (simp +contextual (maxDischargeDepth := 30) [*, sound_foldl, sound_ite, SoundParts, memWrite_wf]; done) | (simp +contextual +zetaDelta (maxDischargeDepth := 30) [*, sound_foldl, sound_ite, SoundParts, memWrite_wf]; done))

end Sys2Proof.Machine
end

