-- ==== Sys2Proof/Laws/SoundRequests.lean ====
section
/-! SUPPORT. Soundness is kept by every operation: requests, bring-up, Porter runs and bales. -/

set_option linter.all false
set_option maxRecDepth 4000
set_option maxHeartbeats 400000

namespace Sys2Proof.Machine

@[simp] theorem State_modNet_sound {s : State} (f : NetSt → NetSt) (hS : State.Sound s) :
    State.Sound (State.modNet s f) := by
  unfold State.modNet
  repeat' first
  | with_reducible assumption
  | split
  | with_reducible refine sound_foldl ?_ (fun _ _ _ => ?_)
  all_goals try simp only [pair_eq] at *
  all_goals try casesm* _ ∧ _
  all_goals try subst_vars
  all_goals (first | with_reducible assumption | simp +contextual (maxDischargeDepth := 30) [*, sound_foldl, sound_ite, SoundParts, memWrite_wf])

@[simp] theorem State_netDiscard_sound {s : State} (p : Nat) (hS : State.Sound s) :
    State.Sound (State.netDiscard s p) := by
  unfold State.netDiscard
  repeat' first
  | with_reducible assumption
  | split
  | with_reducible refine sound_foldl ?_ (fun _ _ _ => ?_)
  all_goals try simp only [pair_eq] at *
  all_goals try casesm* _ ∧ _
  all_goals try subst_vars
  all_goals (first | with_reducible assumption | simp +contextual (maxDischargeDepth := 30) [*, sound_foldl, sound_ite, SoundParts, memWrite_wf])

@[simp] theorem State_countDuplicate_sound {s : State} (hS : State.Sound s) :
    State.Sound (State.countDuplicate s) := by
  unfold State.countDuplicate
  repeat' first
  | with_reducible assumption
  | split
  | with_reducible refine sound_foldl ?_ (fun _ _ _ => ?_)
  all_goals try simp only [pair_eq] at *
  all_goals try casesm* _ ∧ _
  all_goals try subst_vars
  all_goals (first | with_reducible assumption | simp +contextual (maxDischargeDepth := 30) [*, sound_foldl, sound_ite, SoundParts, memWrite_wf])

@[simp] theorem State_answer_sound {s : State} (req : PurlReq) (op : Nat) (status : Nat) (payload : List Byte) (param : Nat) (hS : State.Sound s) :
    State.Sound (State.answer s req op status payload param) := by
  unfold State.answer
  repeat' first
  | with_reducible assumption
  | split
  | with_reducible refine sound_foldl ?_ (fun _ _ _ => ?_)
  all_goals try simp only [pair_eq] at *
  all_goals try casesm* _ ∧ _
  all_goals try subst_vars
  all_goals (first | with_reducible assumption | simp +contextual (maxDischargeDepth := 30) [*, sound_foldl, sound_ite, SoundParts, memWrite_wf])

@[simp] theorem State_freshOffer_sound {s : State} (hS : s.Sound) : s.freshOffer.2.Sound := State_takeFree_sound hS

@[simp] theorem State_challenge_sound {s : State} (req : PurlReq) (hS : State.Sound s) :
    State.Sound (State.challenge s req) := by
  unfold State.challenge
  repeat' first
  | with_reducible assumption
  | split
  | with_reducible refine sound_foldl ?_ (fun _ _ _ => ?_)
  all_goals try simp only [pair_eq] at *
  all_goals try casesm* _ ∧ _
  all_goals try subst_vars
  all_goals (first | with_reducible assumption | simp +contextual (maxDischargeDepth := 30) [*, sound_foldl, sound_ite, SoundParts, memWrite_wf])

@[simp] theorem State_spendOffer_sound {s : State} (session : Word) (hS : State.Sound s) :
    State.Sound (State.spendOffer s session) := by
  unfold State.spendOffer
  repeat' first
  | with_reducible assumption
  | split
  | with_reducible refine sound_foldl ?_ (fun _ _ _ => ?_)
  all_goals try simp only [pair_eq] at *
  all_goals try casesm* _ ∧ _
  all_goals try subst_vars
  all_goals (first | with_reducible assumption | simp +contextual (maxDischargeDepth := 30) [*, sound_foldl, sound_ite, SoundParts, memWrite_wf])

@[simp] theorem State_claimFails_sound {s : State} (req : PurlReq) (hS : State.Sound s) :
    State.Sound (State.claimFails s req) := by
  unfold State.claimFails
  repeat' first
  | with_reducible assumption
  | split
  | with_reducible refine sound_foldl ?_ (fun _ _ _ => ?_)
  all_goals try simp only [pair_eq] at *
  all_goals try casesm* _ ∧ _
  all_goals try subst_vars
  all_goals (first | with_reducible assumption | simp +contextual (maxDischargeDepth := 30) [*, sound_foldl, sound_ite, SoundParts, memWrite_wf])

@[simp] theorem State_claim_sound {s : State} (req : PurlReq) (mac : BitVec 256) (hS : State.Sound s) :
    State.Sound (State.claim s req mac) := by
  unfold State.claim
  repeat' first
  | with_reducible assumption
  | split
  | with_reducible refine sound_foldl ?_ (fun _ _ _ => ?_)
  all_goals try simp only [pair_eq] at *
  all_goals try casesm* _ ∧ _
  all_goals try subst_vars
  all_goals (first | with_reducible assumption | simp +contextual (maxDischargeDepth := 30) [*, sound_foldl, sound_ite, SoundParts, memWrite_wf])

@[simp] theorem State_purlRead_sound {s : State} (req : PurlReq) (a n : Nat) (hS : s.Sound) : (s.purlRead req a n).Sound := by
  have h := State_readRun_sound (purlAcc req) n a hS
  unfold State.purlRead
  split
  · exact State_answer_sound (hS := hS) ..
  · exact State_answer_sound (hS := h) ..

@[simp] theorem State_purlWrite_sound {s : State} (req : PurlReq) (a : Nat) (words : List Word) (hS : s.Sound) :
    (s.purlWrite req a words).Sound := by
  have h := State_writeRun_sound (purlAcc req) words a 0 hS
  unfold State.purlWrite
  split
  · exact State_answer_sound (hS := hS) ..
  · exact State_answer_sound (hS := h) ..

@[simp] theorem State_purlPost_sound {s : State} (req : PurlReq) (route : Nat) (bales : List Bale) (hS : s.Sound) :
    (s.purlPost req route bales).Sound := by
  have h := State_acceptPost_sound route bales (.purl req) hS
  unfold State.purlPost
  split
  · exact State_answer_sound (hS := hS) ..
  · generalize s.acceptPost route bales (.purl req) = p at h ⊢
    split
    · exact State_modNet_sound _ h
    · exact State_answer_sound (hS := h) ..
    · exact State_answer_sound (hS := h) ..

@[simp] theorem State_purlStoreRead_sound {s : State} (req : PurlReq) (a : Nat) (n : Nat) (hS : State.Sound s) :
    State.Sound (State.purlStoreRead s req a n) := by
  unfold State.purlStoreRead
  repeat' first
  | with_reducible assumption
  | split
  | with_reducible refine sound_foldl ?_ (fun _ _ _ => ?_)
  all_goals try simp only [pair_eq] at *
  all_goals try casesm* _ ∧ _
  all_goals try subst_vars
  all_goals (first | with_reducible assumption | simp +contextual (maxDischargeDepth := 30) [*, sound_foldl, sound_ite, SoundParts, memWrite_wf])

@[simp] theorem State_purlStoreWrite_sound {s : State} (req : PurlReq) (a : Nat) (data : List Byte) (check : Word) (hS : State.Sound s) :
    State.Sound (State.purlStoreWrite s req a data check) := by
  unfold State.purlStoreWrite
  repeat' first
  | with_reducible assumption
  | split
  | with_reducible refine sound_foldl ?_ (fun _ _ _ => ?_)
  all_goals try simp only [pair_eq] at *
  all_goals try casesm* _ ∧ _
  all_goals try subst_vars
  all_goals (first | with_reducible assumption | simp +contextual (maxDischargeDepth := 30) [*, sound_foldl, sound_ite, SoundParts, memWrite_wf])

@[simp] theorem State_setPage_sound {s : State} (k : Nat) (p : Option Page) (hS : State.Sound s) :
    State.Sound (State.setPage s k p) := by
  unfold State.setPage
  repeat' first
  | with_reducible assumption
  | split
  | with_reducible refine sound_foldl ?_ (fun _ _ _ => ?_)
  all_goals try simp only [pair_eq] at *
  all_goals try casesm* _ ∧ _
  all_goals try subst_vars
  all_goals (first | with_reducible assumption | simp +contextual (maxDischargeDepth := 30) [*, sound_foldl, sound_ite, SoundParts, memWrite_wf])

theorem State_buildPage_sound {s t : State} (base k : Nat) (usb : Bool) (data : List Byte) (hS : s.Sound)
    (h : s.buildPage base k usb data = some t) : t.Sound := by
  unfold State.buildPage at h
  dsimp only at h
  split at h
  · exact nomatch h
  · injection h with h
    rw [← h]
    exact State_setPage_sound _ _ (State_storeWrite_sound _ _ _ _ hS)

@[simp] theorem State_purlCapture_sound {s : State} (req : PurlReq) (c : Capture) (hS : s.Sound) :
    (s.purlCapture req c).Sound := by
  unfold State.purlCapture
  split
  · exact State_answer_sound (hS := hS) ..
  · split
    · exact State_answer_sound (hS := hS) ..
    · split
      · exact State_answer_sound (hS := hS) ..
      · split
        · exact State_answer_sound (hS := hS) ..
        · rename_i hb
          exact State_answer_sound (hS := State_buildPage_sound _ _ _ _ hS hb) ..

@[simp] theorem State_purlCaptureStore_sound {s : State} (req : PurlReq) (a : Nat) (n : Nat) (hS : State.Sound s) :
    State.Sound (State.purlCaptureStore s req a n) := by
  unfold State.purlCaptureStore
  repeat' first
  | with_reducible assumption
  | split
  | with_reducible refine sound_foldl ?_ (fun _ _ _ => ?_)
  all_goals try simp only [pair_eq] at *
  all_goals try casesm* _ ∧ _
  all_goals try subst_vars
  all_goals (first | with_reducible assumption | simp +contextual (maxDischargeDepth := 30) [*, sound_foldl, sound_ite, SoundParts, memWrite_wf])

@[simp] theorem State_purlFree_sound {s : State} (req : PurlReq) (k : Nat) (hS : State.Sound s) :
    State.Sound (State.purlFree s req k) := by
  unfold State.purlFree
  repeat' first
  | with_reducible assumption
  | split
  | with_reducible refine sound_foldl ?_ (fun _ _ _ => ?_)
  all_goals try simp only [pair_eq] at *
  all_goals try casesm* _ ∧ _
  all_goals try subst_vars
  all_goals (first | with_reducible assumption | simp +contextual (maxDischargeDepth := 30) [*, sound_foldl, sound_ite, SoundParts, memWrite_wf])

@[simp] theorem State_runPurl_sound {s : State} (req : PurlReq) (b : PurlBody) (hS : State.Sound s) :
    State.Sound (State.runPurl s req b) := by
  unfold State.runPurl
  repeat' first
  | with_reducible assumption
  | split
  | with_reducible refine sound_foldl ?_ (fun _ _ _ => ?_)
  all_goals try simp only [pair_eq] at *
  all_goals try casesm* _ ∧ _
  all_goals try subst_vars
  all_goals (first | with_reducible assumption | simp +contextual (maxDischargeDepth := 30) [*, sound_foldl, sound_ite, SoundParts, memWrite_wf])

@[simp] theorem State_refuseWrite_sound {s : State} (req : PurlReq) (a : Nat) (words : List Word) (hS : State.Sound s) :
    State.Sound (State.refuseWrite s req a words) := by
  unfold State.refuseWrite
  repeat' first
  | with_reducible assumption
  | split
  | with_reducible refine sound_foldl ?_ (fun _ _ _ => ?_)
  all_goals try simp only [pair_eq] at *
  all_goals try casesm* _ ∧ _
  all_goals try subst_vars
  all_goals (first | with_reducible assumption | simp +contextual (maxDischargeDepth := 30) [*, sound_foldl, sound_ite, SoundParts, memWrite_wf])

@[simp] theorem State_notOwnerLeaves_sound {s : State} (req : PurlReq) (b : PurlBody) (hS : State.Sound s) :
    State.Sound (State.notOwnerLeaves s req b) := by
  unfold State.notOwnerLeaves
  repeat' first
  | with_reducible assumption
  | split
  | with_reducible refine sound_foldl ?_ (fun _ _ _ => ?_)
  all_goals try simp only [pair_eq] at *
  all_goals try casesm* _ ∧ _
  all_goals try subst_vars
  all_goals (first | with_reducible assumption | simp +contextual (maxDischargeDepth := 30) [*, sound_foldl, sound_ite, SoundParts, memWrite_wf])

@[simp] theorem State_judgePurl_sound {s : State} (req : PurlReq) (b : PurlBody) (hS : s.Sound) : (s.judgePurl req b).Sound := by
  unfold State.judgePurl
  split
  · refine State_purlReply_sound (hS := ?_) ..
    split
    · exact State_notOwnerLeaves_sound _ _ hS
    · exact hS
  · split
    · exact State_answer_sound (hS := (State_notOwnerLeaves_sound _ _ hS)) ..
    · exact State_runPurl_sound _ _ hS

@[simp] theorem State_purl_sound {s : State} (req : PurlReq) (b : PurlBody) (hS : s.Sound) : (s.purl req b).Sound := by
  unfold State.purl
  split
  · exact State_netDiscard_sound _ hS
  · split
    · exact State_sendPurl_sound _ _ (State_countDuplicate_sound hS)
    · split
      · exact State_countDuplicate_sound hS
      · split
        · exact State_answer_sound (hS := hS) ..
        · split
          · exact State_judgePurl_sound _ _ hS
          · exact State_modNet_sound _ hS

@[simp] theorem State_claimExpires_sound {s : State} (session : Word) (hS : State.Sound s) :
    State.Sound (State.claimExpires s session) := by
  unfold State.claimExpires
  repeat' first
  | with_reducible assumption
  | split
  | with_reducible refine sound_foldl ?_ (fun _ _ _ => ?_)
  all_goals try simp only [pair_eq] at *
  all_goals try casesm* _ ∧ _
  all_goals try subst_vars
  all_goals (first | with_reducible assumption | simp +contextual (maxDischargeDepth := 30) [*, sound_foldl, sound_ite, SoundParts, memWrite_wf])

@[simp] theorem State_purlPageTimeout_sound {s : State} (k : Nat) (hS : State.Sound s) :
    State.Sound (State.purlPageTimeout s k) := by
  unfold State.purlPageTimeout
  repeat' first
  | with_reducible assumption
  | split
  | with_reducible refine sound_foldl ?_ (fun _ _ _ => ?_)
  all_goals try simp only [pair_eq] at *
  all_goals try casesm* _ ∧ _
  all_goals try subst_vars
  all_goals (first | with_reducible assumption | simp +contextual (maxDischargeDepth := 30) [*, sound_foldl, sound_ite, SoundParts, memWrite_wf])

@[simp] theorem State_sendEvent_sound {s : State} (hS : State.Sound s) :
    State.Sound (State.sendEvent s) := by
  unfold State.sendEvent
  repeat' first
  | with_reducible assumption
  | split
  | with_reducible refine sound_foldl ?_ (fun _ _ _ => ?_)
  all_goals try simp only [pair_eq] at *
  all_goals try casesm* _ ∧ _
  all_goals try subst_vars
  all_goals (first | with_reducible assumption | simp +contextual (maxDischargeDepth := 30) [*, sound_foldl, sound_ite, SoundParts, memWrite_wf])

@[simp] theorem State_usbRequest_sound {s : State} (run : State → State) (hS : State.Sound s) (hr : ∀ t : State, t.Sound → (run t).Sound) :
    State.Sound (State.usbRequest s run) := by
  unfold State.usbRequest
  repeat' first
  | with_reducible assumption
  | split
  | with_reducible refine sound_foldl ?_ (fun _ _ _ => ?_)
  all_goals try simp only [pair_eq] at *
  all_goals try casesm* _ ∧ _
  all_goals try subst_vars
  all_goals (first | with_reducible assumption | simp +contextual (maxDischargeDepth := 30) [*, sound_foldl, sound_ite, SoundParts, memWrite_wf])

@[simp] theorem State_usbEnd_sound {s : State} (req : Nat) (result : Nat) (completed : Nat) (hS : State.Sound s) :
    State.Sound (State.usbEnd s req result completed) := by
  unfold State.usbEnd
  repeat' first
  | with_reducible assumption
  | split
  | with_reducible refine sound_foldl ?_ (fun _ _ _ => ?_)
  all_goals try simp only [pair_eq] at *
  all_goals try casesm* _ ∧ _
  all_goals try subst_vars
  all_goals (first | with_reducible assumption | simp +contextual (maxDischargeDepth := 30) [*, sound_foldl, sound_ite, SoundParts, memWrite_wf])

@[simp] theorem State_serviceRequest_sound {s : State} (req : Nat) (run : State → State) (hS : State.Sound s) (hr : ∀ t : State, t.Sound → (run t).Sound) :
    State.Sound (State.serviceRequest s req run) := by
  unfold State.serviceRequest
  repeat' first
  | with_reducible assumption
  | split
  | with_reducible refine sound_foldl ?_ (fun _ _ _ => ?_)
  all_goals try simp only [pair_eq] at *
  all_goals try casesm* _ ∧ _
  all_goals try subst_vars
  all_goals (first | with_reducible assumption | simp +contextual (maxDischargeDepth := 30) [*, sound_foldl, sound_ite, SoundParts, memWrite_wf])

@[simp] theorem State_ownerRequest_sound {s : State} (req : Nat) (run : State → State) (hS : State.Sound s) (hr : ∀ t : State, t.Sound → (run t).Sound) :
    State.Sound (State.ownerRequest s req run) := by
  unfold State.ownerRequest
  repeat' first
  | with_reducible assumption
  | split
  | with_reducible refine sound_foldl ?_ (fun _ _ _ => ?_)
  all_goals try simp only [pair_eq] at *
  all_goals try casesm* _ ∧ _
  all_goals try subst_vars
  all_goals (first | with_reducible assumption | simp +contextual (maxDischargeDepth := 30) [*, sound_foldl, sound_ite, SoundParts, memWrite_wf])

@[simp] theorem State_usbAnswer_sound {s : State} (req : Nat) (completed : Nat) (data : List Byte) (hS : State.Sound s) :
    State.Sound (State.usbAnswer s req completed data) := by
  unfold State.usbAnswer
  repeat' first
  | with_reducible assumption
  | split
  | with_reducible refine sound_foldl ?_ (fun _ _ _ => ?_)
  all_goals try simp only [pair_eq] at *
  all_goals try casesm* _ ∧ _
  all_goals try subst_vars
  all_goals (first | with_reducible assumption | simp +contextual (maxDischargeDepth := 30) [*, sound_foldl, sound_ite, SoundParts, memWrite_wf])

@[simp] theorem State_usbRead_sound {s : State} (a n : Nat) (hS : s.Sound) : (s.usbRead a n).Sound := by
  have h := State_readRun_sound .usb n a hS
  unfold State.usbRead
  split
  · exact State_usbEnd_sound _ _ _ hS
  · dsimp only
    split
    · exact State_usbAnswer_sound _ _ _ h
    · exact State_usbEnd_sound _ _ _ h

@[simp] theorem State_usbWrite_sound {s : State} (a : Nat) (words : List Word) (hS : s.Sound) :
    (s.usbWrite a words).Sound := by
  have h := State_writeRun_sound .usb words a 0 hS
  have h2 := State_writeAccess_sound .usb a (words.headD 0) hS
  unfold State.usbWrite
  split
  · exact State_usbEnd_sound _ _ _ hS
  · split
    · exact State_usbEnd_sound _ _ _ h2
    · exact State_usbEnd_sound _ _ _ h

@[simp] theorem State_usbNonce_sound {s : State} (hS : State.Sound s) :
    State.Sound (State.usbNonce s) := by
  unfold State.usbNonce
  repeat' first
  | with_reducible assumption
  | split
  | with_reducible refine sound_foldl ?_ (fun _ _ _ => ?_)
  all_goals try simp only [pair_eq] at *
  all_goals try casesm* _ ∧ _
  all_goals try subst_vars
  all_goals (first | with_reducible assumption | simp +contextual (maxDischargeDepth := 30) [*, sound_foldl, sound_ite, SoundParts, memWrite_wf])

@[simp] theorem State_usbClaimFails_sound {s : State} (hS : State.Sound s) :
    State.Sound (State.usbClaimFails s) := by
  unfold State.usbClaimFails
  repeat' first
  | with_reducible assumption
  | split
  | with_reducible refine sound_foldl ?_ (fun _ _ _ => ?_)
  all_goals try simp only [pair_eq] at *
  all_goals try casesm* _ ∧ _
  all_goals try subst_vars
  all_goals (first | with_reducible assumption | simp +contextual (maxDischargeDepth := 30) [*, sound_foldl, sound_ite, SoundParts, memWrite_wf])

@[simp] theorem State_usbClaim_sound {s : State} (mac : BitVec 256) (hS : State.Sound s) :
    State.Sound (State.usbClaim s mac) := by
  unfold State.usbClaim
  repeat' first
  | with_reducible assumption
  | split
  | with_reducible refine sound_foldl ?_ (fun _ _ _ => ?_)
  all_goals try simp only [pair_eq] at *
  all_goals try casesm* _ ∧ _
  all_goals try subst_vars
  all_goals (first | with_reducible assumption | simp +contextual (maxDischargeDepth := 30) [*, sound_foldl, sound_ite, SoundParts, memWrite_wf])

@[simp] theorem State_usbSecret_sound {s : State} (secret : BitVec 256) (hS : State.Sound s) :
    State.Sound (State.usbSecret s secret) := by
  unfold State.usbSecret
  repeat' first
  | with_reducible assumption
  | split
  | with_reducible refine sound_foldl ?_ (fun _ _ _ => ?_)
  all_goals try simp only [pair_eq] at *
  all_goals try casesm* _ ∧ _
  all_goals try subst_vars
  all_goals (first | with_reducible assumption | simp +contextual (maxDischargeDepth := 30) [*, sound_foldl, sound_ite, SoundParts, memWrite_wf])

@[simp] theorem State_usbPosts_sound {s : State} (route : Nat) (bales : List Bale) (hS : State.Sound s) :
    State.Sound (State.usbPosts s route bales) := by
  unfold State.usbPosts
  repeat' first
  | with_reducible assumption
  | split
  | with_reducible refine sound_foldl ?_ (fun _ _ _ => ?_)
  all_goals try simp only [pair_eq] at *
  all_goals try casesm* _ ∧ _
  all_goals try subst_vars
  all_goals (first | with_reducible assumption | simp +contextual (maxDischargeDepth := 30) [*, sound_foldl, sound_ite, SoundParts, memWrite_wf])

@[simp] theorem State_queuePage_sound {s : State} (k : Nat) (data : List Byte) (hS : State.Sound s) :
    State.Sound (State.queuePage s k data) := by
  unfold State.queuePage
  repeat' first
  | with_reducible assumption
  | split
  | with_reducible refine sound_foldl ?_ (fun _ _ _ => ?_)
  all_goals try simp only [pair_eq] at *
  all_goals try casesm* _ ∧ _
  all_goals try subst_vars
  all_goals (first | with_reducible assumption | simp +contextual (maxDischargeDepth := 30) [*, sound_foldl, sound_ite, SoundParts, memWrite_wf])

@[simp] theorem State_captureChip_sound {s : State} (c : Capture) (hS : State.Sound s) :
    State.Sound (State.captureChip s c) := by
  unfold State.captureChip
  repeat' first
  | with_reducible assumption
  | split
  | with_reducible refine sound_foldl ?_ (fun _ _ _ => ?_)
  all_goals try simp only [pair_eq] at *
  all_goals try casesm* _ ∧ _
  all_goals try subst_vars
  all_goals (first | with_reducible assumption | simp +contextual (maxDischargeDepth := 30) [*, sound_foldl, sound_ite, SoundParts, memWrite_wf])

@[simp] theorem State_capturePool_sound {s : State} (base : Nat) (c : Capture) (hS : s.Sound) :
    (s.capturePool base c).Sound := by
  unfold State.capturePool
  split
  · exact State_usbEnd_sound _ _ _ hS
  · split
    · exact State_usbEnd_sound _ _ _ hS
    · extract_lets page
      split
      · exact State_usbEnd_sound _ _ _ hS
      · exact State_usbEnd_sound _ _ _ (State_queuePage_sound _ _ (State_buildPage_sound _ _ _ _ hS (by assumption)))

@[simp] theorem State_usbCapture_sound {s : State} (c : Capture) (hS : State.Sound s) :
    State.Sound (State.usbCapture s c) := by
  unfold State.usbCapture
  repeat' first
  | with_reducible assumption
  | split
  | with_reducible refine sound_foldl ?_ (fun _ _ _ => ?_)
  all_goals try simp only [pair_eq] at *
  all_goals try casesm* _ ∧ _
  all_goals try subst_vars
  all_goals (first | with_reducible assumption | simp +contextual (maxDischargeDepth := 30) [*, sound_foldl, sound_ite, SoundParts, memWrite_wf])

@[simp] theorem State_ep1Ack_sound {s : State} (hS : State.Sound s) :
    State.Sound (State.ep1Ack s) := by
  unfold State.ep1Ack
  repeat' first
  | with_reducible assumption
  | split
  | with_reducible refine sound_foldl ?_ (fun _ _ _ => ?_)
  all_goals try simp only [pair_eq] at *
  all_goals try casesm* _ ∧ _
  all_goals try subst_vars
  all_goals (first | with_reducible assumption | simp +contextual (maxDischargeDepth := 30) [*, sound_foldl, sound_ite, SoundParts, memWrite_wf])

@[simp] theorem State_usbPageTimeout_sound {s : State} (hS : State.Sound s) :
    State.Sound (State.usbPageTimeout s) := by
  unfold State.usbPageTimeout
  repeat' first
  | with_reducible assumption
  | split
  | with_reducible refine sound_foldl ?_ (fun _ _ _ => ?_)
  all_goals try simp only [pair_eq] at *
  all_goals try casesm* _ ∧ _
  all_goals try subst_vars
  all_goals (first | with_reducible assumption | simp +contextual (maxDischargeDepth := 30) [*, sound_foldl, sound_ite, SoundParts, memWrite_wf])

@[simp] theorem State_endUpload_sound {s : State} (result : Nat) (hS : State.Sound s) :
    State.Sound (State.endUpload s result) := by
  unfold State.endUpload
  repeat' first
  | with_reducible assumption
  | split
  | with_reducible refine sound_foldl ?_ (fun _ _ _ => ?_)
  all_goals try simp only [pair_eq] at *
  all_goals try casesm* _ ∧ _
  all_goals try subst_vars
  all_goals (first | with_reducible assumption | simp +contextual (maxDischargeDepth := 30) [*, sound_foldl, sound_ite, SoundParts, memWrite_wf])

@[simp] theorem State_armUpload_sound {s : State} (kind : Nat) (base : Nat) (n : Nat) (hS : State.Sound s) :
    State.Sound (State.armUpload s kind base n) := by
  unfold State.armUpload
  repeat' first
  | with_reducible assumption
  | split
  | with_reducible refine sound_foldl ?_ (fun _ _ _ => ?_)
  all_goals try simp only [pair_eq] at *
  all_goals try casesm* _ ∧ _
  all_goals try subst_vars
  all_goals (first | with_reducible assumption | simp +contextual (maxDischargeDepth := 30) [*, sound_foldl, sound_ite, SoundParts, memWrite_wf])

@[simp] theorem State_bulkStore_sound {s : State} (a : Nat) (n : Nat) (hS : State.Sound s) :
    State.Sound (State.bulkStore s a n) := by
  unfold State.bulkStore
  repeat' first
  | with_reducible assumption
  | split
  | with_reducible refine sound_foldl ?_ (fun _ _ _ => ?_)
  all_goals try simp only [pair_eq] at *
  all_goals try casesm* _ ∧ _
  all_goals try subst_vars
  all_goals (first | with_reducible assumption | simp +contextual (maxDischargeDepth := 30) [*, sound_foldl, sound_ite, SoundParts, memWrite_wf])

@[simp] theorem State_bulkStaging_sound {s : State} (offset : Nat) (n : Nat) (hS : State.Sound s) :
    State.Sound (State.bulkStaging s offset n) := by
  unfold State.bulkStaging
  repeat' first
  | with_reducible assumption
  | split
  | with_reducible refine sound_foldl ?_ (fun _ _ _ => ?_)
  all_goals try simp only [pair_eq] at *
  all_goals try casesm* _ ∧ _
  all_goals try subst_vars
  all_goals (first | with_reducible assumption | simp +contextual (maxDischargeDepth := 30) [*, sound_foldl, sound_ite, SoundParts, memWrite_wf])

@[simp] theorem State_bulkSlot_sound {s : State} (slot : Nat) (a : Nat) (n : Nat) (hS : State.Sound s) :
    State.Sound (State.bulkSlot s slot a n) := by
  unfold State.bulkSlot
  repeat' first
  | with_reducible assumption
  | split
  | with_reducible refine sound_foldl ?_ (fun _ _ _ => ?_)
  all_goals try simp only [pair_eq] at *
  all_goals try casesm* _ ∧ _
  all_goals try subst_vars
  all_goals (first | with_reducible assumption | simp +contextual (maxDischargeDepth := 30) [*, sound_foldl, sound_ite, SoundParts, memWrite_wf])

@[simp] theorem State_writeUpload_sound {s : State} (u : Upload) (bs : List Byte) (hS : State.Sound s) :
    State.Sound (State.writeUpload s u bs).1 := by
  unfold State.writeUpload
  repeat' first
  | with_reducible assumption
  | split
  | with_reducible refine sound_foldl ?_ (fun _ _ _ => ?_)
  all_goals try simp only [pair_eq] at *
  all_goals try casesm* _ ∧ _
  all_goals try subst_vars
  all_goals (first | with_reducible assumption | simp +contextual (maxDischargeDepth := 30) [*, sound_foldl, sound_ite, SoundParts, memWrite_wf])

theorem State_pumpUpload_sound {s : State} (u : Upload) (l : List (List Byte)) (hS : s.Sound) :
    (State.pumpUpload s u l).Sound := by
  induction l generalizing s u with
  | nil => exact State_modUsb_sound _ hS
  | cons b l ih =>
    rw [State.pumpUpload]
    split
    · exact State_modUsb_sound _ hS
    · have h := State_writeUpload_sound u b hS
      generalize s.writeUpload u b = p at h ⊢
      rcases p with ⟨s1, _ | _⟩
      · exact State_endUpload_sound _ h
      · exact ih _ h

@[simp] theorem State_ep2Data_sound {s : State} (packet : List Byte) (hS : s.Sound) : (s.ep2Data packet).Sound := by
  unfold State.ep2Data
  repeat' split
  all_goals first
    | exact hS
    | exact State_send_sound _ hS
    | exact State_send_sound _ (State_pumpUpload_sound _ _ hS)

@[simp] theorem State_checkSlot_sound {s : State} (target : Nat) (hS : s.Sound) : (s.checkSlot target).Sound := by
  unfold State.checkSlot
  dsimp only
  split <;> exact ⟨hS.1, hS.2, hS.3, hS.4, hS.5, hS.6⟩

@[simp] theorem State_uploadDone_sound {s : State} (hS : State.Sound s) :
    State.Sound (State.uploadDone s) := by
  unfold State.uploadDone
  repeat' first
  | with_reducible assumption
  | split
  | with_reducible refine sound_foldl ?_ (fun _ _ _ => ?_)
  all_goals try simp only [pair_eq] at *
  all_goals try casesm* _ ∧ _
  all_goals try subst_vars
  all_goals (first | with_reducible assumption | simp +contextual (maxDischargeDepth := 30) [*, sound_foldl, sound_ite, SoundParts, memWrite_wf])

@[simp] theorem State_eraseDone_sound {s : State} (hS : State.Sound s) :
    State.Sound (State.eraseDone s) := by
  unfold State.eraseDone
  repeat' first
  | with_reducible assumption
  | split
  | with_reducible refine sound_foldl ?_ (fun _ _ _ => ?_)
  all_goals try simp only [pair_eq] at *
  all_goals try casesm* _ ∧ _
  all_goals try subst_vars
  all_goals (first | with_reducible assumption | simp +contextual (maxDischargeDepth := 30) [*, sound_foldl, sound_ite, SoundParts, memWrite_wf])

@[simp] theorem State_ep3Ack_sound {s : State} (hS : State.Sound s) :
    State.Sound (State.ep3Ack s) := by
  unfold State.ep3Ack
  repeat' first
  | with_reducible assumption
  | split
  | with_reducible refine sound_foldl ?_ (fun _ _ _ => ?_)
  all_goals try simp only [pair_eq] at *
  all_goals try casesm* _ ∧ _
  all_goals try subst_vars
  all_goals (first | with_reducible assumption | simp +contextual (maxDischargeDepth := 30) [*, sound_foldl, sound_ite, SoundParts, memWrite_wf])

@[simp] theorem State_breakOff_sound {s : State} (hS : State.Sound s) :
    State.Sound (State.breakOff s) := by
  unfold State.breakOff
  repeat' first
  | with_reducible assumption
  | split
  | with_reducible refine sound_foldl ?_ (fun _ _ _ => ?_)
  all_goals try simp only [pair_eq] at *
  all_goals try casesm* _ ∧ _
  all_goals try subst_vars
  all_goals (first | with_reducible assumption | simp +contextual (maxDischargeDepth := 30) [*, sound_foldl, sound_ite, SoundParts, memWrite_wf])

@[simp] theorem State_busReset_sound {s : State} (stage : UsbStage) (hS : State.Sound s) :
    State.Sound (State.busReset s stage) := by
  unfold State.busReset
  repeat' first
  | with_reducible assumption
  | split
  | with_reducible refine sound_foldl ?_ (fun _ _ _ => ?_)
  all_goals try simp only [pair_eq] at *
  all_goals try casesm* _ ∧ _
  all_goals try subst_vars
  all_goals (first | with_reducible assumption | simp +contextual (maxDischargeDepth := 30) [*, sound_foldl, sound_ite, SoundParts, memWrite_wf])

@[simp] theorem State_graceOver_sound {s : State} (hS : State.Sound s) :
    State.Sound (State.graceOver s) := by
  unfold State.graceOver
  repeat' first
  | with_reducible assumption
  | split
  | with_reducible refine sound_foldl ?_ (fun _ _ _ => ?_)
  all_goals try simp only [pair_eq] at *
  all_goals try casesm* _ ∧ _
  all_goals try subst_vars
  all_goals (first | with_reducible assumption | simp +contextual (maxDischargeDepth := 30) [*, sound_foldl, sound_ite, SoundParts, memWrite_wf])

@[simp] theorem State_vbusChange_sound {s : State} (present : Bool) (hS : State.Sound s) :
    State.Sound (State.vbusChange s present) := by
  unfold State.vbusChange
  repeat' first
  | with_reducible assumption
  | split
  | with_reducible refine sound_foldl ?_ (fun _ _ _ => ?_)
  all_goals try simp only [pair_eq] at *
  all_goals try casesm* _ ∧ _
  all_goals try subst_vars
  all_goals (first | with_reducible assumption | simp +contextual (maxDischargeDepth := 30) [*, sound_foldl, sound_ite, SoundParts, memWrite_wf])

@[simp] theorem State_enumerate_sound {s : State} (stage : EnumStep) (highSpeed : Bool) (hS : State.Sound s) :
    State.Sound (State.enumerate s stage highSpeed) := by
  unfold State.enumerate
  repeat' first
  | with_reducible assumption
  | split
  | with_reducible refine sound_foldl ?_ (fun _ _ _ => ?_)
  all_goals try simp only [pair_eq] at *
  all_goals try casesm* _ ∧ _
  all_goals try subst_vars
  all_goals (first | with_reducible assumption | simp +contextual (maxDischargeDepth := 30) [*, sound_foldl, sound_ite, SoundParts, memWrite_wf])

@[simp] theorem State_purlDatagram_sound {s : State} (p : Fin 2) (d : Datagram) (u : Udp) (hS : State.Sound s) :
    State.Sound (State.purlDatagram s p d u) := by
  unfold State.purlDatagram
  repeat' first
  | with_reducible assumption
  | (extract_lets +onlyGivenNames x
     first
     | (have hx : State.Sound x := by
          (dsimp only [x]
           repeat' first
           | with_reducible assumption
           | split
           | with_reducible refine sound_foldl ?_ (fun _ _ _ => ?_)
           all_goals try simp only [pair_eq] at *
           all_goals try casesm* _ ∧ _
           all_goals try subst_vars
           all_goals (first | with_reducible assumption | simp +contextual (maxDischargeDepth := 30) [*, sound_foldl, sound_ite, SoundParts, memWrite_wf]))
        clear_value x)
     | skip)
  | split
  | with_reducible refine sound_foldl ?_ (fun _ _ _ => ?_)
  all_goals try simp only [pair_eq] at *
  all_goals try casesm* _ ∧ _
  all_goals try subst_vars
  all_goals (first | with_reducible assumption | (simp +contextual (maxDischargeDepth := 30) [*, sound_foldl, sound_ite, SoundParts, memWrite_wf]; done) | (simp +contextual +zetaDelta (maxDischargeDepth := 30) [*, sound_foldl, sound_ite, SoundParts, memWrite_wf]; done))

@[simp] theorem State_consoleDatagram_sound {s : State} (b : List Byte) (hS : State.Sound s) :
    State.Sound (State.consoleDatagram s b) := by
  unfold State.consoleDatagram
  repeat' first
  | with_reducible assumption
  | split
  | with_reducible refine sound_foldl ?_ (fun _ _ _ => ?_)
  all_goals try simp only [pair_eq] at *
  all_goals try casesm* _ ∧ _
  all_goals try subst_vars
  all_goals (first | with_reducible assumption | simp +contextual (maxDischargeDepth := 30) [*, sound_foldl, sound_ite, SoundParts, memWrite_wf])

@[simp] theorem State_sourceDatagram_sound {s : State} (p : Nat) (d : Datagram) (u : Udp) (hS : State.Sound s) :
    State.Sound (State.sourceDatagram s p d u) := by
  unfold State.sourceDatagram
  repeat' first
  | with_reducible assumption
  | split
  | with_reducible refine sound_foldl ?_ (fun _ _ _ => ?_)
  all_goals try simp only [pair_eq] at *
  all_goals try casesm* _ ∧ _
  all_goals try subst_vars
  all_goals (first | with_reducible assumption | simp +contextual (maxDischargeDepth := 30) [*, sound_foldl, sound_ite, SoundParts, memWrite_wf])

@[simp] theorem State_dhcpTake_sound {s : State} (p : Nat) (r : DhcpReply) (hS : State.Sound s) :
    State.Sound (State.dhcpTake s p r) := by
  unfold State.dhcpTake
  repeat' first
  | with_reducible assumption
  | split
  | with_reducible refine sound_foldl ?_ (fun _ _ _ => ?_)
  all_goals try simp only [pair_eq] at *
  all_goals try casesm* _ ∧ _
  all_goals try subst_vars
  all_goals (first | with_reducible assumption | simp +contextual (maxDischargeDepth := 30) [*, sound_foldl, sound_ite, SoundParts, memWrite_wf])

@[simp] theorem State_dhcpDatagram_sound {s : State} (p : Nat) (b : List Byte) (hS : State.Sound s) :
    State.Sound (State.dhcpDatagram s p b) := by
  unfold State.dhcpDatagram
  repeat' first
  | with_reducible assumption
  | (extract_lets +onlyGivenNames x
     first
     | (have hx : State.Sound x := by
          (dsimp only [x]
           repeat' first
           | with_reducible assumption
           | split
           | with_reducible refine sound_foldl ?_ (fun _ _ _ => ?_)
           all_goals try simp only [pair_eq] at *
           all_goals try casesm* _ ∧ _
           all_goals try subst_vars
           all_goals (first | with_reducible assumption | simp +contextual (maxDischargeDepth := 30) [*, sound_foldl, sound_ite, SoundParts, memWrite_wf]))
        clear_value x)
     | skip)
  | split
  | with_reducible refine sound_foldl ?_ (fun _ _ _ => ?_)
  all_goals try simp only [pair_eq] at *
  all_goals try casesm* _ ∧ _
  all_goals try subst_vars
  all_goals (first | with_reducible assumption | (simp +contextual (maxDischargeDepth := 30) [*, sound_foldl, sound_ite, SoundParts, memWrite_wf]; done) | (simp +contextual +zetaDelta (maxDischargeDepth := 30) [*, sound_foldl, sound_ite, SoundParts, memWrite_wf]; done))

@[simp] theorem State_udpDatagram_sound {s : State} (p : Fin 2) (d : Datagram) (u : Udp) (hS : State.Sound s) :
    State.Sound (State.udpDatagram s p d u) := by
  unfold State.udpDatagram
  repeat' first
  | with_reducible assumption
  | split
  | with_reducible refine sound_foldl ?_ (fun _ _ _ => ?_)
  all_goals try simp only [pair_eq] at *
  all_goals try casesm* _ ∧ _
  all_goals try subst_vars
  all_goals (first | with_reducible assumption | simp +contextual (maxDischargeDepth := 30) [*, sound_foldl, sound_ite, SoundParts, memWrite_wf])

@[simp] theorem State_ipv4_sound {s : State} (p : Fin 2) (d : Datagram) (hS : State.Sound s) :
    State.Sound (State.ipv4 s p d) := by
  unfold State.ipv4
  repeat' first
  | with_reducible assumption
  | split
  | with_reducible refine sound_foldl ?_ (fun _ _ _ => ?_)
  all_goals try simp only [pair_eq] at *
  all_goals try casesm* _ ∧ _
  all_goals try subst_vars
  all_goals (first | with_reducible assumption | simp +contextual (maxDischargeDepth := 30) [*, sound_foldl, sound_ite, SoundParts, memWrite_wf])

@[simp] theorem State_arpFrame_sound {s : State} (p : Nat) (b : List Byte) (hS : State.Sound s) :
    State.Sound (State.arpFrame s p b) := by
  unfold State.arpFrame
  repeat' first
  | with_reducible assumption
  | split
  | with_reducible refine sound_foldl ?_ (fun _ _ _ => ?_)
  all_goals try simp only [pair_eq] at *
  all_goals try casesm* _ ∧ _
  all_goals try subst_vars
  all_goals (first | with_reducible assumption | simp +contextual (maxDischargeDepth := 30) [*, sound_foldl, sound_ite, SoundParts, memWrite_wf])

@[simp] theorem State_goodFrame_sound {s : State} (p : Fin 2) (f : List Byte) (hS : State.Sound s) :
    State.Sound (State.goodFrame s p f) := by
  unfold State.goodFrame
  repeat' first
  | with_reducible assumption
  | (extract_lets +onlyGivenNames x
     first
     | (have hx : State.Sound x := by
          (dsimp only [x]
           repeat' first
           | with_reducible assumption
           | split
           | with_reducible refine sound_foldl ?_ (fun _ _ _ => ?_)
           all_goals try simp only [pair_eq] at *
           all_goals try casesm* _ ∧ _
           all_goals try subst_vars
           all_goals (first | with_reducible assumption | simp +contextual (maxDischargeDepth := 30) [*, sound_foldl, sound_ite, SoundParts, memWrite_wf]))
        clear_value x)
     | skip)
  | split
  | with_reducible refine sound_foldl ?_ (fun _ _ _ => ?_)
  all_goals try simp only [pair_eq] at *
  all_goals try casesm* _ ∧ _
  all_goals try subst_vars
  all_goals (first | with_reducible assumption | (simp +contextual (maxDischargeDepth := 30) [*, sound_foldl, sound_ite, SoundParts, memWrite_wf]; done) | (simp +contextual +zetaDelta (maxDischargeDepth := 30) [*, sound_foldl, sound_ite, SoundParts, memWrite_wf]; done))

@[simp] theorem State_etherFrame_sound {s : State} (p : Fin 2) (f : List Byte) (fcsOk : Bool) (hS : State.Sound s) :
    State.Sound (State.etherFrame s p f fcsOk) := by
  unfold State.etherFrame
  repeat' first
  | with_reducible assumption
  | split
  | with_reducible refine sound_foldl ?_ (fun _ _ _ => ?_)
  all_goals try simp only [pair_eq] at *
  all_goals try casesm* _ ∧ _
  all_goals try subst_vars
  all_goals (first | with_reducible assumption | simp +contextual (maxDischargeDepth := 30) [*, sound_foldl, sound_ite, SoundParts, memWrite_wf])

@[simp] theorem State_bootRom_sound {s : State} (romOk : Bool) (usbPhyOk : Bool) (hS : State.Sound s) :
    State.Sound (State.bootRom s romOk usbPhyOk) := by
  unfold State.bootRom
  repeat' first
  | with_reducible assumption
  | split
  | with_reducible refine sound_foldl ?_ (fun _ _ _ => ?_)
  all_goals try simp only [pair_eq] at *
  all_goals try casesm* _ ∧ _
  all_goals try subst_vars
  all_goals (first | with_reducible assumption | simp +contextual (maxDischargeDepth := 30) [*, sound_foldl, sound_ite, SoundParts, memWrite_wf])

@[simp] theorem State_trainChannel_sound (trained : BitVec 8) (margins : List (BitVec 16)) {s : State} (c : Nat) (hS : State.Sound s) :
    State.Sound (State.trainChannel trained margins s c) := by
  unfold State.trainChannel
  repeat' first
  | with_reducible assumption
  | split
  | with_reducible refine sound_foldl ?_ (fun _ _ _ => ?_)
  all_goals try simp only [pair_eq] at *
  all_goals try casesm* _ ∧ _
  all_goals try subst_vars
  all_goals (first | with_reducible assumption | simp +contextual (maxDischargeDepth := 30) [*, sound_foldl, sound_ite, SoundParts, memWrite_wf])

@[simp] theorem State_trainingDone_p_sound {s : State} (trained : BitVec 8) (margins : List (BitVec 16)) (hS : State.Sound s) :
    State.Sound (State.trainingDone' s trained margins) := by
  unfold State.trainingDone'
  repeat' first
  | with_reducible assumption
  | split
  | with_reducible refine sound_foldl ?_ (fun _ _ _ => ?_)
  all_goals try simp only [pair_eq] at *
  all_goals try casesm* _ ∧ _
  all_goals try subst_vars
  all_goals (first | with_reducible assumption | simp +contextual (maxDischargeDepth := 30) [*, sound_foldl, sound_ite, SoundParts, memWrite_wf])

@[simp] theorem State_storeReady_sound {s : State} (hS : State.Sound s) :
    State.Sound (State.storeReady s) := by
  unfold State.storeReady
  repeat' first
  | with_reducible assumption
  | (extract_lets +onlyGivenNames x
     first
     | (have hx : State.Sound x := by
          (dsimp only [x]
           repeat' first
           | with_reducible assumption
           | split
           | with_reducible refine sound_foldl ?_ (fun _ _ _ => ?_)
           all_goals try simp only [pair_eq] at *
           all_goals try casesm* _ ∧ _
           all_goals try subst_vars
           all_goals (first | with_reducible assumption | simp +contextual (maxDischargeDepth := 30) [*, sound_foldl, sound_ite, SoundParts, memWrite_wf]))
        clear_value x)
     | skip)
  | split
  | with_reducible refine sound_foldl ?_ (fun _ _ _ => ?_)
  all_goals try simp only [pair_eq] at *
  all_goals try casesm* _ ∧ _
  all_goals try subst_vars
  all_goals (first | with_reducible assumption | (simp +contextual (maxDischargeDepth := 30) [*, sound_foldl, sound_ite, SoundParts, memWrite_wf]; done) | (simp +contextual +zetaDelta (maxDischargeDepth := 30) [*, sound_foldl, sound_ite, SoundParts, memWrite_wf]; done))

@[simp] theorem State_fillDone_sound {s : State} (hS : State.Sound s) :
    State.Sound (State.fillDone s) := by
  unfold State.fillDone
  repeat' first
  | with_reducible assumption
  | split
  | with_reducible refine sound_foldl ?_ (fun _ _ _ => ?_)
  all_goals try simp only [pair_eq] at *
  all_goals try casesm* _ ∧ _
  all_goals try subst_vars
  all_goals (first | with_reducible assumption | simp +contextual (maxDischargeDepth := 30) [*, sound_foldl, sound_ite, SoundParts, memWrite_wf])

@[simp] theorem State_parityScan_sound {s : State} (k : Nat) (fails : Bool) (hS : State.Sound s) :
    State.Sound (State.parityScan s k fails) := by
  unfold State.parityScan
  repeat' first
  | with_reducible assumption
  | split
  | with_reducible refine sound_foldl ?_ (fun _ _ _ => ?_)
  all_goals try simp only [pair_eq] at *
  all_goals try casesm* _ ∧ _
  all_goals try subst_vars
  all_goals (first | with_reducible assumption | simp +contextual (maxDischargeDepth := 30) [*, sound_foldl, sound_ite, SoundParts, memWrite_wf])

@[simp] theorem State_readBeat_sound {s : State} {mem : State} (reg : Bool) (a : Nat) (w : Nat) (hS : State.Sound s) (hmem : State.Sound mem) :
    State.Sound (State.readBeat s mem reg a w).1 := by
  unfold State.readBeat
  repeat' first
  | with_reducible assumption
  | split
  | with_reducible refine sound_foldl ?_ (fun _ _ _ => ?_)
  all_goals try simp only [pair_eq] at *
  all_goals try casesm* _ ∧ _
  all_goals try subst_vars
  all_goals (first | with_reducible assumption | simp +contextual (maxDischargeDepth := 30) [*, sound_foldl, sound_ite, SoundParts, memWrite_wf])

theorem State_readBeat_sound' {s : State} (m : State) (reg : Bool) (a w : Nat) (hS : s.Sound) :
    (s.readBeat m reg a w).1.Sound := by
  unfold State.readBeat
  split
  · exact hS
  · split
    · have h := State_readAccess_sound .porter (a % 2 ^ 25) hS
      generalize s.readAccess .porter (a % 2 ^ 25) = p at h ⊢
      rcases p with ⟨t, v, _ | _⟩ <;> exact h
    · split <;> exact hS

theorem State_fillHold_sound (mem : Option State) (a w : Nat) (fixed : Bool) (need n : Nat) {s : State} (h : Hold)
    (hS : s.Sound) : (State.fillHold mem a w fixed need n s h).1.Sound := by
  induction n generalizing s h with
  | zero => exact hS
  | succ n ih =>
    rw [State.fillHold]
    split
    · exact hS
    · have h1 := State_readBeat_sound' (mem.getD s) (regSide a) (beatAddr a w fixed h.beat) w hS
      generalize s.readBeat (mem.getD s) (regSide a) (beatAddr a w fixed h.beat) w = p at h1 ⊢
      rcases p with ⟨s1, e | bs⟩
      · exact h1
      · exact ih _ h1

@[simp] theorem State_issueOne_sound (n : Nat) (reg : Bool) {s : State} (q : Issue) (a : Nat) (bs : List Byte) (hS : s.Sound) :
    (State.issueOne n reg s q a bs).1.Sound := by
  have h1 : (if reg && pastRegisters a then (s, some (⟨a, true, causeDecode⟩ : BusErr))
        else if reg then
          match s.writeAccess .porter (a % 2 ^ 25) (wordOf (leNat bs)) with
          | (s1, true) => (s1, none)
          | (s1, false) => (s1, some (⟨a, true, causeRegister⟩ : BusErr))
        else
          match s.storeWrite a bs with
          | (s1, none) => (s1, none)
          | (s1, some f) => (s1, some ⟨f.1, true, f.2⟩)).1.Sound := by
    split
    · exact hS
    · split
      · have h := State_writeAccess_sound .porter (a % 2 ^ 25) (wordOf (leNat bs)) hS
        generalize s.writeAccess .porter (a % 2 ^ 25) (wordOf (leNat bs)) = w at h ⊢
        rcases w with ⟨t, _ | _⟩ <;> exact h
      · have h := State_storeWrite_sound a bs false false hS
        generalize s.storeWrite a bs = w at h ⊢
        rcases w with ⟨t, _ | _⟩ <;> exact h
  unfold State.issueOne
  extract_lets left fail
  generalize (if (reg && pastRegisters a) = true then _ else _ : State × Option BusErr) = w at h1 ⊢
  rcases w with ⟨t, e⟩
  dsimp only
  generalize q.error = qe
  cases qe with
  | some x => exact h1
  | none =>
    cases e with
    | none => exact h1
    | some e => exact State_takeFree_sound h1

theorem State_issueAll_sound (n : Nat) (reg : Bool) (l : List (Nat × List Byte)) {s : State} (q : Issue) (hS : s.Sound) :
    (State.issueAll n reg l s q).1.Sound := by
  induction l generalizing s q with
  | nil => exact hS
  | cons p l ih =>
    obtain ⟨a, bs⟩ := p
    rw [State.issueAll]
    split
    · exact hS
    · exact ih _ (State_issueOne_sound n reg q a bs hS)

theorem State_movePieces_sound (n : Nat) (t : Transfer) (mem : State) (k : Nat) {s : State} (off : Nat) (h : Hold)
    (seen : List Byte) (q : Issue) (hS : s.Sound) : (State.movePieces n t mem k s off h seen q).1.Sound := by
  induction k generalizing s off h seen q with
  | zero => exact hS
  | succ k ih =>
    rw [State.movePieces]
    split
    · exact hS
    · dsimp only
      have h1 : (if t.op = opFill then (s, { h with bytes := t.fillBytes off (t.pieceLen off) })
          else State.fillHold (if t.overlapUp then some mem else none) t.src t.srcWidth t.srcFixed (t.pieceLen off) 65 s
            h).1.Sound := by
        split
        · exact hS
        · exact State_fillHold_sound _ _ _ _ _ _ _ hS
      split
      · exact h1
      · exact ih _ _ _ _ (State_issueAll_sound _ _ _ _ h1)

theorem State_comparePieces_sound (t : Transfer) (k : Nat) {s : State} (off : Nat) (ha hb : Hold) (d : Option Nat)
    (hS : s.Sound) : (State.comparePieces t k s off ha hb d).1.Sound := by
  induction k generalizing s off ha hb d with
  | zero => exact hS
  | succ k ih =>
    rw [State.comparePieces]
    split
    · exact hS
    · dsimp only
      have h1 := State_fillHold_sound none t.src t.srcWidth t.srcFixed (min 64 (t.count - off)) 65 ha hS
      split
      · exact h1
      · have h2 := State_fillHold_sound none t.dst t.dstWidth t.dstFixed (min 64 (t.count - off)) 65 hb h1
        split
        · exact h2
        · exact ih _ _ _ _ h2

@[simp] theorem State_moveData_sound {s : State} (n : Nat) (t : Transfer) (hS : s.Sound) : (s.moveData n t).1.Sound := by
  have h1 := State_comparePieces_sound t t.count 0 default default none hS
  have h2 := State_movePieces_sound n t s t.count 0 default [] default hS
  unfold State.moveData
  split
  · exact hS
  · split
    · generalize State.comparePieces t t.count s 0 default default none = w at h1 ⊢
      rcases w with ⟨s1, e | _ | k⟩
      · exact h1
      · exact State_modPorter_sound _ _ h1
      · exact State_modPorter_sound _ _ h1
    · generalize State.movePieces n t s t.count s 0 default [] default = w at h2 ⊢
      rcases w with ⟨s1, m, seen⟩
      cases m with
      | ok =>
        dsimp only
        split
        · have h3 := State_issueAll_sound n (regSide t.dst) (t.crcRequests (crc32 seen)) default h2
          generalize State.issueAll n (regSide t.dst) (t.crcRequests (crc32 seen)) s1 default = w at h3 ⊢
          rcases w with ⟨s2, q⟩
          dsimp only
          split
          · exact State_modPorter_sound _ _ h3
          · exact h3
        · exact h2
      | cleared => exact h2
      | cut => exact h2
      | failed e => exact h2

theorem State_readBackAll_sound (reg : Bool) (l : List (Nat × Nat)) {s : State} (hS : s.Sound) :
    (State.readBackAll reg l s).1.Sound := by
  induction l generalizing s with
  | nil => exact hS
  | cons p l ih =>
    obtain ⟨a, w⟩ := p
    rw [State.readBackAll]
    have h := State_readBeat_sound' s reg a w hS
    generalize s.readBeat s reg a w = p at h ⊢
    rcases p with ⟨s1, e | bs⟩
    · exact h
    · exact ih h

@[simp] theorem State_confirmReads_sound {s : State} (t : Transfer) (hS : s.Sound) : (s.confirmReads t).1.Sound := by
  unfold State.confirmReads
  split
  · exact State_readBackAll_sound _ _ hS
  · exact hS

@[simp] theorem State_descriptorDone_sound {s : State} (n : Nat) (hS : State.Sound s) :
    State.Sound (State.descriptorDone s n) := by
  unfold State.descriptorDone
  repeat' first
  | with_reducible assumption
  | split
  | with_reducible refine sound_foldl ?_ (fun _ _ _ => ?_)
  all_goals try simp only [pair_eq] at *
  all_goals try casesm* _ ∧ _
  all_goals try subst_vars
  all_goals (first | with_reducible assumption | simp +contextual (maxDischargeDepth := 30) [*, sound_foldl, sound_ite, SoundParts, memWrite_wf])

@[simp] theorem State_confirmOldest_sound {s : State} (n : Nat) (hS : State.Sound s) :
    State.Sound (State.confirmOldest s n) := by
  unfold State.confirmOldest
  repeat' first
  | with_reducible assumption
  | (extract_lets +onlyGivenNames x
     first
     | (have hx : State.Sound x := by
          (dsimp only [x]
           repeat' first
           | with_reducible assumption
           | split
           | with_reducible refine sound_foldl ?_ (fun _ _ _ => ?_)
           all_goals try simp only [pair_eq] at *
           all_goals try casesm* _ ∧ _
           all_goals try subst_vars
           all_goals (first | with_reducible assumption | simp +contextual (maxDischargeDepth := 30) [*, sound_foldl, sound_ite, SoundParts, memWrite_wf]))
        clear_value x)
     | skip)
  | split
  | with_reducible refine sound_foldl ?_ (fun _ _ _ => ?_)
  all_goals try simp only [pair_eq] at *
  all_goals try casesm* _ ∧ _
  all_goals try subst_vars
  all_goals (first | with_reducible assumption | (simp +contextual (maxDischargeDepth := 30) [*, sound_foldl, sound_ite, SoundParts, memWrite_wf]; done) | (simp +contextual +zetaDelta (maxDischargeDepth := 30) [*, sound_foldl, sound_ite, SoundParts, memWrite_wf]; done))

@[simp] theorem State_launch_sound {s : State} (n : Nat) (i : Nat) (t : Transfer) (hS : State.Sound s) :
    State.Sound (State.launch s n i t) := by
  unfold State.launch
  repeat' first
  | with_reducible assumption
  | split
  | with_reducible refine sound_foldl ?_ (fun _ _ _ => ?_)
  all_goals try simp only [pair_eq] at *
  all_goals try casesm* _ ∧ _
  all_goals try subst_vars
  all_goals (first | with_reducible assumption | simp +contextual (maxDischargeDepth := 30) [*, sound_foldl, sound_ite, SoundParts, memWrite_wf])

@[simp] theorem State_launchFails_sound {s : State} (n : Nat) (i : Nat) (e : BusErr) (hS : State.Sound s) :
    State.Sound (State.launchFails s n i e) := by
  unfold State.launchFails
  repeat' first
  | with_reducible assumption
  | split
  | with_reducible refine sound_foldl ?_ (fun _ _ _ => ?_)
  all_goals try simp only [pair_eq] at *
  all_goals try casesm* _ ∧ _
  all_goals try subst_vars
  all_goals (first | with_reducible assumption | simp +contextual (maxDischargeDepth := 30) [*, sound_foldl, sound_ite, SoundParts, memWrite_wf])

@[simp] theorem State_startTransfer_sound {s : State} (n : Nat) (hS : State.Sound s) :
    State.Sound (State.startTransfer s n) := by
  unfold State.startTransfer
  repeat' first
  | with_reducible assumption
  | (extract_lets +onlyGivenNames x
     first
     | (have hx : State.Sound x := by
          (dsimp only [x]
           repeat' first
           | with_reducible assumption
           | split
           | with_reducible refine sound_foldl ?_ (fun _ _ _ => ?_)
           all_goals try simp only [pair_eq] at *
           all_goals try casesm* _ ∧ _
           all_goals try subst_vars
           all_goals (first | with_reducible assumption | simp +contextual (maxDischargeDepth := 30) [*, sound_foldl, sound_ite, SoundParts, memWrite_wf]))
        clear_value x)
     | skip)
  | split
  | with_reducible refine sound_foldl ?_ (fun _ _ _ => ?_)
  all_goals try simp only [pair_eq] at *
  all_goals try casesm* _ ∧ _
  all_goals try subst_vars
  all_goals (first | with_reducible assumption | (simp +contextual (maxDischargeDepth := 30) [*, sound_foldl, sound_ite, SoundParts, memWrite_wf]; done) | (simp +contextual +zetaDelta (maxDischargeDepth := 30) [*, sound_foldl, sound_ite, SoundParts, memWrite_wf]; done))

@[simp] theorem State_transferDone_sound {s : State} (n : Nat) (hS : State.Sound s) :
    State.Sound (State.transferDone s n) := by
  unfold State.transferDone
  repeat' first
  | with_reducible assumption
  | split
  | with_reducible refine sound_foldl ?_ (fun _ _ _ => ?_)
  all_goals try simp only [pair_eq] at *
  all_goals try casesm* _ ∧ _
  all_goals try subst_vars
  all_goals (first | with_reducible assumption | simp +contextual (maxDischargeDepth := 30) [*, sound_foldl, sound_ite, SoundParts, memWrite_wf])

@[simp] theorem State_porterStop_sound {s : State} (n : Nat) (i : Nat) (e : BusErr) (hS : State.Sound s) :
    State.Sound (State.porterStop s n i e) := by
  unfold State.porterStop
  repeat' first
  | with_reducible assumption
  | split
  | with_reducible refine sound_foldl ?_ (fun _ _ _ => ?_)
  all_goals try simp only [pair_eq] at *
  all_goals try casesm* _ ∧ _
  all_goals try subst_vars
  all_goals (first | with_reducible assumption | simp +contextual (maxDischargeDepth := 30) [*, sound_foldl, sound_ite, SoundParts, memWrite_wf])

@[simp] theorem State_markInstr_sound {s : State} (n : Nat) (i : Nat) (hS : State.Sound s) :
    State.Sound (State.markInstr s n i) := by
  unfold State.markInstr
  repeat' first
  | with_reducible assumption
  | split
  | with_reducible refine sound_foldl ?_ (fun _ _ _ => ?_)
  all_goals try simp only [pair_eq] at *
  all_goals try casesm* _ ∧ _
  all_goals try subst_vars
  all_goals (first | with_reducible assumption | simp +contextual (maxDischargeDepth := 30) [*, sound_foldl, sound_ite, SoundParts, memWrite_wf])

@[simp] theorem State_porterBad_sound {s : State} (n : Nat) (e : BusErr) (hS : State.Sound s) :
    State.Sound (State.porterBad s n e) := by
  unfold State.porterBad
  repeat' first
  | with_reducible assumption
  | split
  | with_reducible refine sound_foldl ?_ (fun _ _ _ => ?_)
  all_goals try simp only [pair_eq] at *
  all_goals try casesm* _ ∧ _
  all_goals try subst_vars
  all_goals (first | with_reducible assumption | simp +contextual (maxDischargeDepth := 30) [*, sound_foldl, sound_ite, SoundParts, memWrite_wf])

@[simp] theorem State_instrFails_sound {s : State} (n : Nat) (i : Nat) (e : BusErr) (hS : State.Sound s) :
    State.Sound (State.instrFails s n i e) := by
  unfold State.instrFails
  repeat' first
  | with_reducible assumption
  | split
  | with_reducible refine sound_foldl ?_ (fun _ _ _ => ?_)
  all_goals try simp only [pair_eq] at *
  all_goals try casesm* _ ∧ _
  all_goals try subst_vars
  all_goals (first | with_reducible assumption | simp +contextual (maxDischargeDepth := 30) [*, sound_foldl, sound_ite, SoundParts, memWrite_wf])

@[simp] theorem State_descriptorFails_sound {s : State} (n : Nat) (i : Nat) (e : BusErr) (hS : State.Sound s) :
    State.Sound (State.descriptorFails s n i e) := by
  unfold State.descriptorFails
  repeat' first
  | with_reducible assumption
  | (extract_lets +onlyGivenNames x
     first
     | (have hx : State.Sound x := by
          (dsimp only [x]
           repeat' first
           | with_reducible assumption
           | split
           | with_reducible refine sound_foldl ?_ (fun _ _ _ => ?_)
           all_goals try simp only [pair_eq] at *
           all_goals try casesm* _ ∧ _
           all_goals try subst_vars
           all_goals (first | with_reducible assumption | simp +contextual (maxDischargeDepth := 30) [*, sound_foldl, sound_ite, SoundParts, memWrite_wf]))
        clear_value x)
     | skip)
  | split
  | with_reducible refine sound_foldl ?_ (fun _ _ _ => ?_)
  all_goals try simp only [pair_eq] at *
  all_goals try casesm* _ ∧ _
  all_goals try subst_vars
  all_goals (first | with_reducible assumption | (simp +contextual (maxDischargeDepth := 30) [*, sound_foldl, sound_ite, SoundParts, memWrite_wf]; done) | (simp +contextual +zetaDelta (maxDischargeDepth := 30) [*, sound_foldl, sound_ite, SoundParts, memWrite_wf]; done))

@[simp] theorem State_handleError_sound {s : State} (n : Nat) (hS : State.Sound s) :
    State.Sound (State.handleError s n) := by
  unfold State.handleError
  repeat' first
  | with_reducible assumption
  | (extract_lets +onlyGivenNames x
     first
     | (have hx : State.Sound x := by
          (dsimp only [x]
           repeat' first
           | with_reducible assumption
           | split
           | with_reducible refine sound_foldl ?_ (fun _ _ _ => ?_)
           all_goals try simp only [pair_eq] at *
           all_goals try casesm* _ ∧ _
           all_goals try subst_vars
           all_goals (first | with_reducible assumption | simp +contextual (maxDischargeDepth := 30) [*, sound_foldl, sound_ite, SoundParts, memWrite_wf]))
        clear_value x)
     | skip)
  | split
  | with_reducible refine sound_foldl ?_ (fun _ _ _ => ?_)
  all_goals try simp only [pair_eq] at *
  all_goals try casesm* _ ∧ _
  all_goals try subst_vars
  all_goals (first | with_reducible assumption | (simp +contextual (maxDischargeDepth := 30) [*, sound_foldl, sound_ite, SoundParts, memWrite_wf]; done) | (simp +contextual +zetaDelta (maxDischargeDepth := 30) [*, sound_foldl, sound_ite, SoundParts, memWrite_wf]; done))

@[simp] theorem State_clearFailure_sound {s : State} (n : Nat) (e : BusErr) (hS : State.Sound s) :
    State.Sound (State.clearFailure s n e) := by
  unfold State.clearFailure
  repeat' first
  | with_reducible assumption
  | split
  | with_reducible refine sound_foldl ?_ (fun _ _ _ => ?_)
  all_goals try simp only [pair_eq] at *
  all_goals try casesm* _ ∧ _
  all_goals try subst_vars
  all_goals (first | with_reducible assumption | simp +contextual (maxDischargeDepth := 30) [*, sound_foldl, sound_ite, SoundParts, memWrite_wf])

@[simp] theorem State_lateFailure_sound {s : State} (n : Nat) (f : LateFail) (hS : State.Sound s) :
    State.Sound (State.lateFailure s n f) := by
  unfold State.lateFailure
  repeat' first
  | with_reducible assumption
  | (extract_lets +onlyGivenNames x
     first
     | (have hx : State.Sound x := by
          (dsimp only [x]
           repeat' first
           | with_reducible assumption
           | split
           | with_reducible refine sound_foldl ?_ (fun _ _ _ => ?_)
           all_goals try simp only [pair_eq] at *
           all_goals try casesm* _ ∧ _
           all_goals try subst_vars
           all_goals (first | with_reducible assumption | simp +contextual (maxDischargeDepth := 30) [*, sound_foldl, sound_ite, SoundParts, memWrite_wf]))
        clear_value x)
     | skip)
  | split
  | with_reducible refine sound_foldl ?_ (fun _ _ _ => ?_)
  all_goals try simp only [pair_eq] at *
  all_goals try casesm* _ ∧ _
  all_goals try subst_vars
  all_goals (first | with_reducible assumption | (simp +contextual (maxDischargeDepth := 30) [*, sound_foldl, sound_ite, SoundParts, memWrite_wf]; done) | (simp +contextual +zetaDelta (maxDischargeDepth := 30) [*, sound_foldl, sound_ite, SoundParts, memWrite_wf]; done))

@[simp] theorem State_busError_sound {s : State} (n : Nat) (late : Option LateFail) (hS : State.Sound s) :
    State.Sound (State.busError s n late) := by
  unfold State.busError
  repeat' first
  | with_reducible assumption
  | split
  | with_reducible refine sound_foldl ?_ (fun _ _ _ => ?_)
  all_goals try simp only [pair_eq] at *
  all_goals try casesm* _ ∧ _
  all_goals try subst_vars
  all_goals (first | with_reducible assumption | simp +contextual (maxDischargeDepth := 30) [*, sound_foldl, sound_ite, SoundParts, memWrite_wf])

@[simp] theorem State_porterHalts_sound {s : State} (n : Nat) (hS : State.Sound s) :
    State.Sound (State.porterHalts s n) := by
  unfold State.porterHalts
  repeat' first
  | with_reducible assumption
  | (extract_lets +onlyGivenNames x
     first
     | (have hx : State.Sound x := by
          (dsimp only [x]
           repeat' first
           | with_reducible assumption
           | split
           | with_reducible refine sound_foldl ?_ (fun _ _ _ => ?_)
           all_goals try simp only [pair_eq] at *
           all_goals try casesm* _ ∧ _
           all_goals try subst_vars
           all_goals (first | with_reducible assumption | simp +contextual (maxDischargeDepth := 30) [*, sound_foldl, sound_ite, SoundParts, memWrite_wf]))
        clear_value x)
     | skip)
  | split
  | with_reducible refine sound_foldl ?_ (fun _ _ _ => ?_)
  all_goals try simp only [pair_eq] at *
  all_goals try casesm* _ ∧ _
  all_goals try subst_vars
  all_goals (first | with_reducible assumption | (simp +contextual (maxDischargeDepth := 30) [*, sound_foldl, sound_ite, SoundParts, memWrite_wf]; done) | (simp +contextual +zetaDelta (maxDischargeDepth := 30) [*, sound_foldl, sound_ite, SoundParts, memWrite_wf]; done))

@[simp] theorem State_nextInstr_sound {s : State} (n : Nat) (hS : State.Sound s) :
    State.Sound (State.nextInstr s n) := by
  unfold State.nextInstr
  repeat' first
  | with_reducible assumption
  | split
  | with_reducible refine sound_foldl ?_ (fun _ _ _ => ?_)
  all_goals try simp only [pair_eq] at *
  all_goals try casesm* _ ∧ _
  all_goals try subst_vars
  all_goals (first | with_reducible assumption | simp +contextual (maxDischargeDepth := 30) [*, sound_foldl, sound_ite, SoundParts, memWrite_wf])

@[simp] theorem State_badOpcode_sound {s : State} (n : Nat) (hS : State.Sound s) :
    State.Sound (State.badOpcode s n) := by
  unfold State.badOpcode
  repeat' first
  | with_reducible assumption
  | split
  | with_reducible refine sound_foldl ?_ (fun _ _ _ => ?_)
  all_goals try simp only [pair_eq] at *
  all_goals try casesm* _ ∧ _
  all_goals try subst_vars
  all_goals (first | with_reducible assumption | simp +contextual (maxDischargeDepth := 30) [*, sound_foldl, sound_ite, SoundParts, memWrite_wf])

theorem State_runInstr_sound {s : State} (n op : Nat) (f : State → List Byte → State) (hS : s.Sound)
    (hf : ∀ b, (f s b).Sound) : (s.runInstr n op f).Sound := by
  unfold State.runInstr
  repeat' split
  all_goals first
    | exact hS
    | exact State_porterStop_sound _ _ _ hS
    | exact State_badOpcode_sound _ hS
    | exact hf _

@[simp] theorem State_programEnds_sound {s : State} (n : Nat) (hS : State.Sound s) :
    State.Sound (State.programEnds s n) := by
  unfold State.programEnds
  repeat' first
  | with_reducible assumption
  | split
  | with_reducible refine sound_foldl ?_ (fun _ _ _ => ?_)
  all_goals try simp only [pair_eq] at *
  all_goals try casesm* _ ∧ _
  all_goals try subst_vars
  all_goals (first | with_reducible assumption | simp +contextual (maxDischargeDepth := 30) [*, sound_foldl, sound_ite, SoundParts, memWrite_wf])

@[simp] theorem State_landed_sound {s : State} (n : Nat) (hS : State.Sound s) :
    State.Sound (State.landed s n) := by
  unfold State.landed
  repeat' first
  | with_reducible assumption
  | split
  | with_reducible refine sound_foldl ?_ (fun _ _ _ => ?_)
  all_goals try simp only [pair_eq] at *
  all_goals try casesm* _ ∧ _
  all_goals try subst_vars
  all_goals (first | with_reducible assumption | simp +contextual (maxDischargeDepth := 30) [*, sound_foldl, sound_ite, SoundParts, memWrite_wf])

@[simp] theorem State_dataInstr_sound (n : Nat) (op : Nat) {s : State} (b : List Byte) (hS : State.Sound s) :
    State.Sound (State.dataInstr n op s b) := by
  unfold State.dataInstr
  repeat' first
  | with_reducible assumption
  | (extract_lets +onlyGivenNames x
     first
     | (have hx : State.Sound x := by
          (dsimp only [x]
           repeat' first
           | with_reducible assumption
           | split
           | with_reducible refine sound_foldl ?_ (fun _ _ _ => ?_)
           all_goals try simp only [pair_eq] at *
           all_goals try casesm* _ ∧ _
           all_goals try subst_vars
           all_goals (first | with_reducible assumption | simp +contextual (maxDischargeDepth := 30) [*, sound_foldl, sound_ite, SoundParts, memWrite_wf]))
        clear_value x)
     | skip)
  | split
  | with_reducible refine sound_foldl ?_ (fun _ _ _ => ?_)
  all_goals try simp only [pair_eq] at *
  all_goals try casesm* _ ∧ _
  all_goals try subst_vars
  all_goals (first | with_reducible assumption | (simp +contextual (maxDischargeDepth := 30) [*, sound_foldl, sound_ite, SoundParts, memWrite_wf]; done) | (simp +contextual +zetaDelta (maxDischargeDepth := 30) [*, sound_foldl, sound_ite, SoundParts, memWrite_wf]; done))

@[simp] theorem State_loopInstr_sound (n : Nat) {s : State} (b : List Byte) (hS : State.Sound s) :
    State.Sound (State.loopInstr n s b) := by
  unfold State.loopInstr
  repeat' first
  | with_reducible assumption
  | split
  | with_reducible refine sound_foldl ?_ (fun _ _ _ => ?_)
  all_goals try simp only [pair_eq] at *
  all_goals try casesm* _ ∧ _
  all_goals try subst_vars
  all_goals (first | with_reducible assumption | simp +contextual (maxDischargeDepth := 30) [*, sound_foldl, sound_ite, SoundParts, memWrite_wf])

@[simp] theorem State_waitInstr_sound (n : Nat) {s : State} (b : List Byte) (hS : State.Sound s) :
    State.Sound (State.waitInstr n s b) := by
  unfold State.waitInstr
  repeat' first
  | with_reducible assumption
  | split
  | with_reducible refine sound_foldl ?_ (fun _ _ _ => ?_)
  all_goals try simp only [pair_eq] at *
  all_goals try casesm* _ ∧ _
  all_goals try subst_vars
  all_goals (first | with_reducible assumption | simp +contextual (maxDischargeDepth := 30) [*, sound_foldl, sound_ite, SoundParts, memWrite_wf])

@[simp] theorem State_waitDone_sound {s : State} (n : Nat) (hS : State.Sound s) :
    State.Sound (State.waitDone s n) := by
  unfold State.waitDone
  repeat' first
  | with_reducible assumption
  | split
  | with_reducible refine sound_foldl ?_ (fun _ _ _ => ?_)
  all_goals try simp only [pair_eq] at *
  all_goals try casesm* _ ∧ _
  all_goals try subst_vars
  all_goals (first | with_reducible assumption | simp +contextual (maxDischargeDepth := 30) [*, sound_foldl, sound_ite, SoundParts, memWrite_wf])

@[simp] theorem State_signalInstr_sound (n : Nat) {s : State} (b : List Byte) (hS : s.Sound) :
    (State.signalInstr n s b).Sound := by
  unfold State.signalInstr
  extract_lets post fence route a i signalled fails
  have h1 : (signalled s).Sound := by
    dsimp only [signalled]
    generalize fence = f
    cases f with
    | none => exact hS
    | some f => exact State_signalFence_sound _ hS
  have h2 : ∀ e, (fails e).Sound := fun e => State_modPorter_sound _ _ (State_nextInstr_sound _ h1)
  split
  · exact hS
  · split
    · exact State_badOpcode_sound _ hS
    · split
      · exact State_nextInstr_sound _ h1
      · split
        · exact h2 _
        · split
          · exact h2 _
          · exact State_nextInstr_sound _ (State_postInternal_sound _ _ _ hS)

@[simp] theorem State_endInstr_sound (n : Nat) {s : State} (b : List Byte) (hS : s.Sound) :
    (State.endInstr n s b).Sound := by
  unfold State.endInstr
  split
  · exact State_programEnds_sound _ hS
  · exact hS

@[simp] theorem State_runDescriptor_sound {s : State} (n : Nat) (r : Nat) (op : Nat) (b : Started) (hS : State.Sound s) :
    State.Sound (State.runDescriptor s n r op b) := by
  unfold State.runDescriptor
  repeat' first
  | with_reducible assumption
  | (extract_lets +onlyGivenNames x
     first
     | (have hx : State.Sound x := by
          (dsimp only [x]
           repeat' first
           | with_reducible assumption
           | split
           | with_reducible refine sound_foldl ?_ (fun _ _ _ => ?_)
           all_goals try simp only [pair_eq] at *
           all_goals try casesm* _ ∧ _
           all_goals try subst_vars
           all_goals (first | with_reducible assumption | simp +contextual (maxDischargeDepth := 30) [*, sound_foldl, sound_ite, SoundParts, memWrite_wf]))
        clear_value x)
     | (have hx : ∀ (t : State) e, State.Sound t → State.Sound (x t e) := by
          intro t e ht
          (dsimp only [x]
           repeat' first
           | with_reducible assumption
           | split
           | with_reducible refine sound_foldl ?_ (fun _ _ _ => ?_)
           all_goals try simp only [pair_eq] at *
           all_goals try casesm* _ ∧ _
           all_goals try subst_vars
           all_goals (first | with_reducible assumption | simp +contextual (maxDischargeDepth := 30) [*, sound_foldl, sound_ite, SoundParts, memWrite_wf]))
        clear_value x)
     | skip)
  | split
  | with_reducible refine sound_foldl ?_ (fun _ _ _ => ?_)
  all_goals try simp only [pair_eq] at *
  all_goals try casesm* _ ∧ _
  all_goals try subst_vars
  all_goals (first | with_reducible assumption | (simp +contextual (maxDischargeDepth := 30) [*, sound_foldl, sound_ite, SoundParts, memWrite_wf]; done) | (simp +contextual +zetaDelta (maxDischargeDepth := 30) [*, sound_foldl, sound_ite, SoundParts, memWrite_wf]; done))

@[simp] theorem State_descriptor_sound {s : State} (n : Nat) (op : Nat) (hS : State.Sound s) :
    State.Sound (State.descriptor s n op) := by
  unfold State.descriptor
  repeat' first
  | with_reducible assumption
  | split
  | with_reducible refine sound_foldl ?_ (fun _ _ _ => ?_)
  all_goals try simp only [pair_eq] at *
  all_goals try casesm* _ ∧ _
  all_goals try subst_vars
  all_goals (first | with_reducible assumption | simp +contextual (maxDischargeDepth := 30) [*, sound_foldl, sound_ite, SoundParts, memWrite_wf])

@[simp] theorem State_nopBale_sound {s : State} (r : Nat) (hS : State.Sound s) :
    State.Sound (State.nopBale s r) := by
  unfold State.nopBale
  repeat' first
  | with_reducible assumption
  | split
  | with_reducible refine sound_foldl ?_ (fun _ _ _ => ?_)
  all_goals try simp only [pair_eq] at *
  all_goals try casesm* _ ∧ _
  all_goals try subst_vars
  all_goals (first | with_reducible assumption | simp +contextual (maxDischargeDepth := 30) [*, sound_foldl, sound_ite, SoundParts, memWrite_wf])

@[simp] theorem State_commitBale_sound {s : State} (r : Nat) (hS : State.Sound s) :
    State.Sound (State.commitBale s r) := by
  unfold State.commitBale
  repeat' first
  | with_reducible assumption
  | split
  | with_reducible refine sound_foldl ?_ (fun _ _ _ => ?_)
  all_goals try simp only [pair_eq] at *
  all_goals try casesm* _ ∧ _
  all_goals try subst_vars
  all_goals (first | with_reducible assumption | simp +contextual (maxDischargeDepth := 30) [*, sound_foldl, sound_ite, SoundParts, memWrite_wf])

@[simp] theorem State_regWriteBale_sound {s : State} (r : Nat) (hS : State.Sound s) :
    State.Sound (State.regWriteBale s r) := by
  unfold State.regWriteBale
  repeat' first
  | with_reducible assumption
  | split
  | with_reducible refine sound_foldl ?_ (fun _ _ _ => ?_)
  all_goals try simp only [pair_eq] at *
  all_goals try casesm* _ ∧ _
  all_goals try subst_vars
  all_goals (first | with_reducible assumption | simp +contextual (maxDischargeDepth := 30) [*, sound_foldl, sound_ite, SoundParts, memWrite_wf])

@[simp] theorem State_resetDone_sound {s : State} (r : Nat) (hS : State.Sound s) :
    State.Sound (State.resetDone s r) := by
  unfold State.resetDone
  repeat' first
  | with_reducible assumption
  | split
  | with_reducible refine sound_foldl ?_ (fun _ _ _ => ?_)
  all_goals try simp only [pair_eq] at *
  all_goals try casesm* _ ∧ _
  all_goals try subst_vars
  all_goals (first | with_reducible assumption | simp +contextual (maxDischargeDepth := 30) [*, sound_foldl, sound_ite, SoundParts, memWrite_wf])

@[simp] theorem State_withFetchWord_sound {s : State} (nbits : Nat) (w : Nat) (hS : State.Sound s) :
    State.Sound (State.withFetchWord s nbits w) := by
  unfold State.withFetchWord
  repeat' first
  | with_reducible assumption
  | split
  | with_reducible refine sound_foldl ?_ (fun _ _ _ => ?_)
  all_goals try simp only [pair_eq] at *
  all_goals try casesm* _ ∧ _
  all_goals try subst_vars
  all_goals (first | with_reducible assumption | simp +contextual (maxDischargeDepth := 30) [*, sound_foldl, sound_ite, SoundParts, memWrite_wf])

@[simp] theorem State_runHeld_sound (req : PurlReq) (n : Nat) {s : State} (hS : s.Sound) : (State.runHeld req n s).Sound := by
  induction n generalizing s with
  | zero => exact hS
  | succ n ih =>
    rw [State.runHeld]
    split
    · exact hS
    · split
      · exact hS
      · exact ih (State_judgePurl_sound _ _ (State_modNet_sound _ hS))

@[simp] theorem State_postEnds_sound {s : State} (hS : State.Sound s) :
    State.Sound (State.postEnds s) := by
  unfold State.postEnds
  repeat' first
  | with_reducible assumption
  | split
  | with_reducible refine sound_foldl ?_ (fun _ _ _ => ?_)
  all_goals try simp only [pair_eq] at *
  all_goals try casesm* _ ∧ _
  all_goals try subst_vars
  all_goals (first | with_reducible assumption | simp +contextual (maxDischargeDepth := 30) [*, sound_foldl, sound_ite, SoundParts, memWrite_wf])

@[simp] theorem State_cutTransfer_sound {s : State} (n : Nat) (hS : s.Sound) : (s.cutTransfer n).Sound := by
  have h0 := State_takeFree_sound hS
  unfold State.cutTransfer
  extract_lets p t
  split
  · exact hS
  · generalize s.takeFree = w at h0 ⊢
    rcases w with ⟨k, s1⟩
    dsimp only
    have h1 := State_movePieces_sound n t s1 t.count 0 default [] { (default : Issue) with left := some (Config.freeWord k).toNat } h0
    generalize State.movePieces n t s1 t.count s1 0 default [] _ = w at h1 ⊢
    rcases w with ⟨s2, m, seen⟩
    cases m with
    | failed e =>
      dsimp only
      split
      · exact State_clearFailure_sound _ _ h1
      · exact h1
    | _ => exact h1

@[simp] theorem State_clearEnds_sound {s : State} (n : Nat) (hS : State.Sound s) :
    State.Sound (State.clearEnds s n) := by
  unfold State.clearEnds
  repeat' first
  | with_reducible assumption
  | split
  | with_reducible refine sound_foldl ?_ (fun _ _ _ => ?_)
  all_goals try simp only [pair_eq] at *
  all_goals try casesm* _ ∧ _
  all_goals try subst_vars
  all_goals (first | with_reducible assumption | simp +contextual (maxDischargeDepth := 30) [*, sound_foldl, sound_ite, SoundParts, memWrite_wf])

end Sys2Proof.Machine
end

