-- ==== Sys2Proof/WellFormed.lean ====
section
/-! DEFINITION. Which commands are well-formed: operands with the shapes the manual gives them. A meaning is total
all the same; these are the shapes an environment produces. -/

namespace Sys2Proof

/-- A bale is 64 bytes (R84). -/
def baleShape (b : Bale) : Bool := b.length == 64

/-- A Store address lies below 32 GiB (R97). -/
def storeShape (a n : Nat) : Bool := decide (a + n ≤ 0x800000000)

/-- The operands of a command have the shapes the manual gives them. -/
def Instr.wf : Instr → Bool
  | .purlPost _ _ bales => decide (1 ≤ bales.length) && decide (bales.length ≤ 22) && bales.all baleShape
  | .usbPost _ bales => decide (1 ≤ bales.length) && decide (bales.length ≤ 8) && bales.all baleShape
  | .purlWrite _ _ words => decide (1 ≤ words.length) && decide (words.length ≤ 350)
  | .writeReg _ words => decide (1 ≤ words.length) && decide (words.length ≤ 128)
  | .storeReadServed _ a _ => storeShape a 64
  | .storeWriteServed _ a d => storeShape a d.length && decide (1 ≤ d.length) && decide (d.length ≤ 64)
  | .sdiLine _ l => decide (l.samples.length % 4 = 0)
  | .call _ f => f.length == 48
  | .beat _ f => f.length == 48
  | .echo _ f => f.length == 48
  | .echoReply _ f => f.length == 48
  | .railSample rs => rs.length == 16
  | .storeTrainingDone _ ms => ms.length == 8
  | .e131Packet _ p => decide (p.slots.length ≤ 512) && decide (1 ≤ p.number) && decide (p.number ≤ 63999)
  | .ep2Data d => decide (d.length ≤ 512)
  | .witnessArm _ _ v => v.getLsbD 0
  | .dpRetrain _ _ v => v.getLsbD 12
  | .beCopyGo _ v => v.getLsbD 0
  | .beFillGo _ v => v.getLsbD 0
  | .routeReset _ v => v.getLsbD 4
  | .skeinReadReturn _ b => decide (b < 32)
  | .netLink _ up speed => !up || speed == 1 || speed == 2
  | _ => true

end Sys2Proof
end

