-- ==== Sys2Proof/Tests/Slice0.lean ====
section
/-! SUPPORT. Tests of the model by its author: the manual's worked examples, ill-formed commands, and for each
statement with hypotheses a state and operands that meet all of them. -/

set_option linter.all false
set_option Elab.async false
set_option maxRecDepth 20000
open Sys2Proof Sys2Proof.Machine

namespace Sys2Proof.Tests

/-- A unit in service without a pattern: the registers are up, USB owns it, two channels are in service. -/
def sv : State :=
  { State.reset with
    boot := { State.reset.boot with regsUp := true, mode := 2, inReset := false }
    net := { State.reset.net with owner := .usb }
    ledger := { State.reset.ledger with up := true }
    store := { State.reset.store with chanList := [0, 1] }
    usb := { State.reset.usb with vbus := true, pullup := true } }

/-- A state in debug hold. -/
def hold (s : State) : State := { s with usb := { s.usb with mode := .debugHold } }

/-- A head of four lines with eight pixels. -/
def hd0 : HeadRec := { (default : HeadRec) with hActive := 8, hTotal := 12, vActive := 32, vTotal := 40 }

/-- A pattern with one head. -/
def pt0 : Pattern := { (default : Pattern) with heads := [hd0] }

/-- The unit in service under a pattern. -/
def under (p : Pattern) : State := { sv with pat := { sv.pat with running := some p } }

/-- Under a pattern of one head, which runs. -/
def hv : State := (under pt0).modHead 0 (fun h => { h with state := 1 })

/-- The unit in service with a route bound to a consumer code, of four slots. -/
def rt (r code : Nat) : State := sv.modRoute r (fun q => { q with consumer := code, depthLog2 := 2, base := 0x1000 })

/-- A 64-byte bale that begins with these bytes. -/
def bale (bs : List Byte) : Bale := bs ++ List.replicate (64 - bs.length) 0

/-- A started bale. -/
def started (bs : List Byte) : Started := { (default : Started) with data := bale bs }

/-- The bytes of a pattern of five heads, signed with an owner key (Table 2-1, R33 to R40): built from the manual's format. -/
def rig : List Byte :=
  [beBytes 64 0x5450575901000800C00500009600575902000000010A0000010000000100000028CB28D700050000000000000000000000000000000000000000000000000000,
    beBytes 64 0x01000000C0000000A0000000050000000200000080010000A0000000280000000300000040020000280000000500000005000000800200000001000010000000,
    beBytes 64 0x0600000080030000500000000500000008000000000400002800000002000000090000004004000004000000020000000A000000800400005000000005000000,
    beBytes 64 0x0000000180072008B004D304B0072000B30406003E000000F43B3049000000000100010180072008B004D304B0072000B30406003E000000F43B304900000000,
    beBytes 64 0x0200020180072008B004D304B0072000B30406003E000000F43B30490000000003000403000F30117008CA08B00F580078080A001000000041AD5F2900000000,
    beBytes 64 0x040005038007980838046504D8072C003C0405004000000003B57EA5000000000000000000000000000000000000000000000000000000000000000000000000,
    beBytes 64 0x0100000002000100030002000400030005000400060005000700060008000700090100000A0101000B0102000C0103000D0104000E0105000F01060010010700,
    beBytes 64 0x1102000012020100130202001F02030020020400210205002202060023020700000300011403010115030201160303011703040018030500190306001A030700,
    beBytes 64 0x1B0308001C0309001D030A001E030B00240400002504010026040200270403000000000000000000000000000000000000000000000000000000000000000000,
    beBytes 64 0x000000000F00000001000000F000000003000000000F00000200000000F00000040000000000FF00000000000000000000000000000000000000000000000000,
    beBytes 64 0x000108000000000000000240000000000102080000000000004002400000000002030800000000000080024000000000030408000000000000C0024000000000,
    beBytes 64 0x040508000000000000000340000000000505080000000000004003400000000006100800000000000080034000000000071108000000000000C0034000000000,
    beBytes 64 0x08120800000000000000044000000000091308000000000000400440000000000A1408000000000000800440000000000B1508000000000000C0044000000000,
    beBytes 64 0x0C1608000000000000000540000000000D1708000000000000400540000000000E0608000000000000000040000000000F070A00000000000000014000000000,
    beBytes 64 0x01000000001000000000000000000000020000000020000000000010000000000300000000040000000000300000000004000000100000000000004000000000,
    beBytes 64 0x05000000010000000000104000000000000000000000000000000000000000000000000000000000000000000000000000000000000000000000000000000000,
    beBytes 64 0x010001000000000000000000000000000700030100000000000265001400000000000000FF030000000000000000000000000000000000000000000000000000,
    beBytes 64 0x05010A01000000000000000000000000000000000000000000000000000000000000000000000000000000000000000000000000000000000000000000000000,
    beBytes 64 0x0000000000400000003C0000003C00000100000000400000003C0000003C00000200000000400000003C0000003C00000300000000C0000000A00000005A0000,
    beBytes 64 0x0400000000200000001E0000001E0000000000000000000000000000000000000000000000000000000000000000000000000000000000000000000000000000,
    beBytes 64 0x01000000020000002D84222062EBA472E87035B0685DBBF90B148BD3B0328A59C9D32C31B96D4F2A6513EE6CAD5EEA9F3BF665025D875E39BA89F564279AA6D9,
    beBytes 64 0xDC30C857897969B50000000000000000000000000000000000000000000000000000000000000000000000000000000000000000000000000000000000000000,
    beBytes 64 0x00000000000000000000000000000000000000000000000000000000000000000000000000000000000000000000000000000000000000000000000000000000].flatten

def keyX : Nat := 0x88BB9FF22AB291A74C86FC677BA897BAADEE370CC6129B82D170BA3FC26415C
def keyY : Nat := 0x442DA9A716067956D91EAA02B93AD409490E87CD5E758EA6A331A1DEB75BA846

set_option maxRecDepth 100000 in
/-- The signed pattern passes every check of Table 2-3 under the policy that asks for the owner's signature. -/
theorem rig_accepted : (checkPattern (slotReader ⟨rig⟩) 2 keyX keyY 2).toOption.isSome = true := by decide +kernel

/-- The pattern that the bytes are. -/
def rigPattern : Pattern := (checkPattern (slotReader ⟨rig⟩) 2 keyX keyY 2).toOption.getD default

theorem ok_of {α β : Type} {e : Except α β} (d : β) (h : e.toOption.isSome = true) : e = .ok (e.toOption.getD d) := by
  cases e with
  | error e => cases h
  | ok p => rfl

theorem rig_ok : checkPattern (slotReader ⟨rig⟩) 2 keyX keyY 2 = .ok rigPattern := ok_of default rig_accepted

/-- A load, or a program, of that pattern from slot A. -/
def rigOp (k : PatOpKind) : PatOp := ⟨k, 1, 0, 2, keyX, keyY, [0, 1]⟩

/-- The unit while that operation runs. -/
def rigged (mode : Nat) (k : PatOpKind) : State :=
  { sv with
    boot := { sv.boot with mode := mode, floorCause := 1 }
    pat := { sv.pat with slotA := ⟨rig⟩, op := some (rigOp k) } }

theorem rig_reader (mode : Nat) (k : PatOpKind) :
    (rigged mode k).patternReader (rigOp k) true = slotReader ⟨rig⟩ := rfl

theorem rig_written : SlotSt.erased ⟨rig⟩ = false := by decide +kernel

theorem rig_erased (mode : Nat) (k : PatOpKind) : (rigged mode k).sourceErased (rigOp k) true = false := by
  have h : (rigged mode k).pat.slotA = ⟨rig⟩ := rfl
  have h2 : (rigOp k).source = 1 := rfl
  unfold State.sourceErased
  rw [h, h2, rig_written]
  rfl

theorem rig_admitted (mode : Nat) (k : PatOpKind) (h : (mode == 1 && k != .powerOn && k == .program) = false) :
    (rigged mode k).floorRefuses (rigOp k) = false := by
  unfold State.floorRefuses rigged rigOp
  cases k <;> simp_all

theorem rig_outcome (mode : Nat) (k : PatOpKind) (h : (mode == 1 && k != .powerOn && k == .program) = false) :
    (rigged mode k).patternOutcome (rigOp k) true = .ok rigPattern := by
  have e : ∀ (s : State) (op : PatOp), s.floorRefuses op = false → s.sourceErased op true = false →
      s.patternOutcome op true =
        checkPattern (s.patternReader op true) op.policy op.keyX op.keyY op.map.length := by
    intro s op h1 h2
    unfold State.patternOutcome
    rw [h1, h2, if_neg Bool.false_ne_true, if_neg Bool.false_ne_true]
  have h4 : (rigOp k).policy = 2 := rfl
  have h5 : (rigOp k).keyX = keyX := rfl
  have h6 : (rigOp k).keyY = keyY := rfl
  have h7 : (rigOp k).map.length = 2 := rfl
  exact (e _ _ (rig_admitted mode k h) (rig_erased mode k)).trans
    ((congr (congr (congr (congr (congrArg checkPattern (rig_reader mode k)) h4) h5) h6) h7).trans rig_ok)

/-- A Porter channel in program mode whose next instruction has these bytes. -/
def prog (bs : List Byte) : State :=
  ({ sv with store := { sv.store with mem := memWrite [] 0x1000 bs } } : State).modPorter 0 (fun p =>
    { p with state := 1, live := { p.live with mode := 2, progBase := 0x1000 } })

/-- An instruction: opcode, flags, widths and control, count, source and destination. -/
def instr (op flags ws ctl count src dst : Nat) : List Byte :=
  leBytes 1 op ++ leBytes 1 flags ++ leBytes 1 ws ++ leBytes 1 ctl ++ leBytes 4 count ++ leBytes 8 src ++
    leBytes 8 dst ++ leBytes 8 0

/-- A descriptor bale. -/
def descriptor (op count src dst : Nat) : Bale :=
  bale (leBytes 1 op ++ leBytes 11 0 ++ leBytes 4 count ++ leBytes 8 src ++ leBytes 8 dst)

/-- What the skein of one head latched: a memory source of the head's own size. -/
def latch0 : Latch :=
  { (default : Latch) with
    valid := true, pitch := 256, width := 8, height := 32
    cfg := { (default : SkeinCfg) with enable := true, width := 8, height := 32, srcW := 8, srcH := 32, dstW := 8, dstH := 32 } }

/-- A head that runs with one skein, whose reads are about to be issued. -/
def skv : State :=
  ((under { pt0 with skeins := [default] }).modHead 0 (fun h => { h with state := 1 })).modSkein 0 (fun k =>
    { k with latch := some latch0, rungs := [(0, 0)] })

/-- A head that drives output port 0. -/
def pv : State :=
  ({ hv with boot := { hv.boot with boardsUp := 7 } } : State).setAct .PORT_SELECT 0 0 0x80

/-- A raster context's route with one started bale, its first byte the opcode. -/
def rst (bs : List Byte) : State := (rt 1 1).modRoute 1 (fun q => { q with started := [started bs] })

/-- The bytes of a TARGET of one pixel. -/
def targetBytes : List Byte := [0x20] ++ List.replicate 19 0 ++ [1, 0, 1, 0]

/-- The target of a context. -/
def target0 : ReTarget := { (default : ReTarget) with width := 1, height := 1 }

theorem some_of {α : Type} {o : Option α} (d : α) (h : o.isSome = true) : o = some (o.getD d) := by
  cases o with
  | none => cases h
  | some p => rfl

/-- A client on port 0. -/
def cl : Client := ⟨0x0A000002, 5000, 0⟩

/-- A request of its session 7. -/
def rq : PurlReq := ⟨cl, 1, 7⟩

/-- A request before a claim. -/
def rq0 : PurlReq := ⟨cl, 1, 0⟩

/-- Port 0 has a link and an address; nobody owns the unit. -/
def nv : State :=
  { (sv.setReg .NET_CONFIG 0 0 0).setReg .NET_ADDRESS 0 0 0x0A000001 with
    net := { sv.net with owner := .none, ports := [(0, { (default : PortSt) with link := true })] } }

/-- Port 1 has a link and a DHCP exchange under way. -/
def dv : State :=
  { sv.setReg .NET_CONFIG 1 0 0x10 with
    net := { sv.net with ports := [(1, { (default : PortSt) with link := true, xid := some 9 })] } }

/-- Port 1 has a module. -/
def mv : State :=
  { sv with chassis := { sv.chassis with sfpModules := [(1, some ⟨[], true⟩)] }, boot := { sv.boot with boardsUp := 7 } }

/-- The client owns the unit. -/
def pu : State := { nv with net := { nv.net with owner := .purl cl 7 } }

/-- A pattern with a page pool. -/
def poolPattern : Pattern := { (default : Pattern) with regions := [⟨5, 1, 0x10000⟩] }

/-- That client's unit under a pattern with a page pool. -/
def pp : State := { pu with pat := { pu.pat with running := some poolPattern } }

/-- A challenge of session 7. -/
def offer7 : Offer := ⟨7, 1, 2, true⟩

/-- The answer to a challenge. -/
def macOf (o : Offer) (tail : List Byte) : BitVec 256 := BitVec.ofNat 256 (beAt (o.mac tail) 0 32)

/-- A unit whose optical bypass is closed off: Caravan frames reach it. -/
def cv (state : Nat) : State :=
  { sv with caravan := { sv.caravan with bypassOpen := true, state := state, priority := 5 } }

/-- A Caravan frame of a type from an origin and a tag, with a sequence. -/
def frame (type origin tag seq : Nat) : List Byte :=
  caravanSeal (beBytes 2 0x4356 ++ [1, byteOf type] ++ beBytes 8 origin ++ beBytes 4 tag ++ [0, 0] ++ beBytes 2 seq)

/-- A unit in standby power with this state of the rails. -/
def pw (state : Nat) : State :=
  { State.reset with power := { State.reset.power with standby := true, state := state } }

/-- Every rail of the sequence is up. -/
def upRails : SMap RailSt := (List.range 13).map (fun r => (r, { (default : RailSt) with state := 2 }))

/-! ### Worked examples of the manual -/

/-- Chapter 4's worked example: ROUTE[14] with 256 slots, PUT 0xFFF0 and TAKE 0xFF20. -/
def route14 (put : Nat) : State :=
  (rt 14 0x18).modRoute 14 (fun q => { q with depthLog2 := 8, base := 0x40000000, put := put, take := 0xFF20 })

theorem test_route_occupancy : ((route14 0xFFF0).route 14).occupancy = 208 := by decide +kernel

theorem test_route_slot : ((route14 0xFFF0).route 14).slotAddr 0xFFF0 = 0x40003C00 := by decide +kernel

/-- A post of 22 bales is accepted. -/
abbrev postFits (put : Nat) : Prop := (route14 put).postStatus 14 22 = postPosted

/-- The third post of 22 bales meets 4 free slots. -/
theorem test_route_full :
    ((route14 0x0006).route 14).occupancy = 230 ∧ ((route14 0x001C).route 14).occupancy = 252 ∧
      (postFits 0xFFF0 ∧ postFits 0x0006 ∧ ¬ postFits 0x001C) := by decide +kernel

/-- R97's worked example: the channel of 0x1_2345_6780 with eight channels, and without channel 3. -/
theorem test_channel_of :
    ({ sv with store := { sv.store with chanList := [0, 1, 2, 3, 4, 5, 6, 7] } } : State).channelOf 0x123456780 = some 7 ∧
      ({ sv with store := { sv.store with chanList := [0, 1, 2, 4, 5, 6, 7] } } : State).channelOf 0x123456780 = some 2 := by
  decide +kernel

theorem test_staging_base :
    ({ sv with store := { sv.store with chanList := [0, 1, 2, 4, 5, 6, 7] } } : State).stagingBase = 0x6FFC00000 := by
  decide +kernel

/-- Chapter 6's worked example: SRC[4], and SRC[0] and SRC[1], of Rig A. -/
theorem test_source_layout :
    pitchOf 4 3840 = 10240 ∧ strideOf 4 3840 2160 = 27656192 ∧ pitchOf 4 1920 = 5120 ∧ strideOf 4 1920 1080 = 6946816 := by
  decide +kernel

/-- Chapter 8's worked example: positions at W_src / W_dst = 0.5. -/
theorem test_needle_positions :
    needlePos 1920 3840 0 = (-1, 48) ∧ needlePos 1920 3840 1 = (0, 16) ∧ needlePos 1920 3840 2 = (0, 48) := by
  decide +kernel

/-- Chapter 13's worked example: 0x8000 and 0x4000 of a 16-bit entry over 0 to 1023. -/
theorem test_console_value :
    (⟨7, 2, 101, 20, 0, 0, 1023⟩ : MapRec).value (List.replicate 100 0 ++ [0x80, 0]) = 512 ∧
      (⟨7, 2, 101, 20, 0, 0, 1023⟩ : MapRec).value (List.replicate 100 0 ++ [0x40, 0]) = 256 := by decide +kernel

/-- A unit at CFN 1000 whose reference head has begun line 0, or not. -/
def barrierUnit (begun : Bool) : State :=
  ({ sv with caravan := { sv.caravan with cfn := 1000 } } : State).modHead 0 (fun q => { q with line0Done := begun })

/-- Chapter 15's worked example: at CFN 1000 with line 0 of frame 1000 begun, k = 1002 is in time and k = 1001 late;
before line 0, k = 1001 is in time. -/
theorem test_barrier_late :
    (barrierUnit true).barrierLate 1002 = false ∧ (barrierUnit true).barrierLate 1001 = true ∧
      (barrierUnit false).barrierLate 1001 = false := by decide +kernel

/-- Chapter 17's example: ENABLE of IN_3V3 and SDIIN_2V5. -/
theorem test_link_word : linkWord cmdEnable 3 = 0x01000362 ∧ linkSound 0x01000362 = true := by decide +kernel

/-- The check value of CRC-32, over the digits 1 to 9. -/
theorem test_crc32 : crc32 [0x31, 0x32, 0x33, 0x34, 0x35, 0x36, 0x37, 0x38, 0x39] = 0xCBF43926 := by decide +kernel

/-- FIPS 180-4's message abc. -/
theorem test_sha256 : beNat (sha256 [0x61, 0x62, 0x63]) =
    0xBA7816BF8F01CFEA414140DE5DAE2223B00361A396177A9CB410FF61F20015AD := by decide +kernel

/-! ### Ill-formed commands, one for each check -/

theorem test_ill_formed_posts :
    (Instr.purlPost rq 0 []).wf = false ∧ (Instr.purlPost rq 0 (List.replicate 23 (bale []))).wf = false ∧
      (Instr.purlPost rq 0 [[0]]).wf = false ∧ (Instr.usbPost 0 []).wf = false ∧
      (Instr.usbPost 0 (List.replicate 9 (bale []))).wf = false ∧ (Instr.usbPost 0 [[0]]).wf = false := by decide +kernel

theorem test_ill_formed_words :
    (Instr.purlWrite rq 0 []).wf = false ∧ (Instr.purlWrite rq 0 (List.replicate 351 0)).wf = false ∧
      (Instr.writeReg 0 []).wf = false ∧ (Instr.writeReg 0 (List.replicate 129 0)).wf = false := by decide +kernel

theorem test_ill_formed_store :
    (Instr.storeReadServed .skeins 0x7FFFFFFC1 .clean).wf = false ∧
      (Instr.storeWriteServed .skeins 0x800000000 [1]).wf = false ∧ (Instr.storeWriteServed .skeins 0 []).wf = false ∧
      (Instr.storeWriteServed .skeins 0 (List.replicate 65 0)).wf = false ∧ (Instr.skeinReadReturn 0 32).wf = false := by
  decide +kernel

theorem test_ill_formed_inputs :
    (Instr.sdiLine 0 ⟨0, 0, [1], true, none⟩).wf = false ∧ (Instr.railSample []).wf = false ∧
      (Instr.storeTrainingDone 0 []).wf = false ∧ (Instr.ep2Data (List.replicate 513 0)).wf = false ∧
      (Instr.e131Packet 0 ⟨1, 0, 0, 0, false, false, 0, List.replicate 513 0⟩).wf = false ∧
      (Instr.e131Packet 0 ⟨0, 0, 0, 0, false, false, 0, []⟩).wf = false ∧
      (Instr.e131Packet 0 ⟨64000, 0, 0, 0, false, false, 0, []⟩).wf = false := by decide +kernel

theorem test_ill_formed_frames :
    (Instr.call .east []).wf = false ∧ (Instr.beat .east []).wf = false ∧ (Instr.echo .east []).wf = false ∧
      (Instr.echoReply .east []).wf = false ∧ (Instr.netLink 0 true 3).wf = false := by decide +kernel

theorem test_ill_formed_rows :
    (Instr.witnessArm .usb 0 0).wf = false ∧ (Instr.dpRetrain .usb 0 0).wf = false ∧ (Instr.beCopyGo .usb 0).wf = false ∧
      (Instr.beFillGo .usb 0).wf = false ∧ (Instr.routeReset .usb 0).wf = false := by decide +kernel

/-! ### Witnesses: the hypotheses of each statement met together -/

theorem witness_StepRunsFrontCommand :
    ∃ (c : Instr) (rest : List Instr) (s : State), s.pending = c :: rest :=
  ⟨.standbyLost, [], ({ sv with pending := [.standbyLost] }), by decide +kernel⟩

theorem witness_EmptyQueueTicks :
    (∃ (s : State), s.pending = [] ∧ s.power.standby = false) ∧
    (∃ (s : State), s.pending = [] ∧ s.power.standby = true ∧ s.time.lfclk = false ∧ s.boot.clocks = true) ∧
    (∃ (s : State), s.pending = [] ∧ s.power.standby = true ∧ s.time.lfclk = true ∧ s.wantsLfclk = true) ∧
    (∃ (s : State), s.pending = [] ∧ s.power.standby = true ∧ s.time.lfclk = true ∧ s.wantsLfclk = false) ∧
    (∃ (s : State), s.pending = [] ∧ s.power.standby = true ∧ s.time.lfclk = false ∧ s.boot.clocks = false) :=
  ⟨⟨State.reset, by decide +kernel, by decide +kernel⟩,
   ⟨({ sv with power := { sv.power with standby := true }, boot := { sv.boot with clocks := true } , time := { sv.time with lfclk := false } }), by decide +kernel, by decide +kernel, by decide +kernel, by decide +kernel⟩,
   ⟨({ sv with power := { sv.power with standby := true }, time := { sv.time with lfclk := true }, boot := { sv.boot with clocks := false } }), by decide +kernel, by decide +kernel, by decide +kernel, by decide +kernel⟩,
   ⟨({ sv with power := { sv.power with standby := true }, time := { sv.time with lfclk := true }, boot := { sv.boot with clocks := true } }), by decide +kernel, by decide +kernel, by decide +kernel, by decide +kernel⟩,
   ⟨({ sv with power := { sv.power with standby := true }, time := { sv.time with lfclk := false }, boot := { sv.boot with clocks := false } }), by decide +kernel, by decide +kernel, by decide +kernel, by decide +kernel⟩⟩

theorem witness_StepKeepsSound :
    ∃ (s t : State), s.Sound ∧ step s = .next t :=
  ⟨State.reset, State.reset, ⟨by decide +kernel, by decide +kernel, by decide +kernel, by decide +kernel, by decide +kernel, by decide +kernel⟩, rfl⟩

theorem witness_StoreReadAfterWrite :
    ∃ (s t : State) (a : Nat) (bs : List Byte) (ring stop : Bool), s.storeWrite a bs ring stop = (t, none) :=
  ⟨sv, ((sv.storeWrite 0x1FFFFFFC0 [1, 2] true true).1), 0x1FFFFFFC0, ([1, 2]), true, true, by decide +kernel⟩

theorem witness_EventPosted :
    (∃ (s t : State) (code tag head : Nat) (detail : List Byte), s.outbound = true ∧ 2 ≤ (s.route 15).depth - (s.route 15).occupancy ∧ s.storeWrite ((s.route 15).slotAddr (s.route 15).put) (eventBale s code tag head detail) true = (t, none)) ∧
    (∃ (s t : State) (code tag head : Nat) (detail : List Byte) (e : Nat × Nat), s.outbound = true ∧ 2 ≤ (s.route 15).depth - (s.route 15).occupancy ∧ s.storeWrite ((s.route 15).slotAddr (s.route 15).put) (eventBale s code tag head detail) true = (t, some e)) ∧
    (∃ (s t : State) (code tag head : Nat) (detail : List Byte), s.outbound = true ∧ (s.route 15).depth - (s.route 15).occupancy = 1 ∧ s.storeWrite ((s.route 15).slotAddr (s.route 15).put) (eventBale s 0x85 0 0xFF []) true = (t, none) ∧ t.ledger.up = true ∧ t.ledger.entries.length < 63) ∧
    (∃ (s : State) (code tag head : Nat) (detail : List Byte), s.outbound = true ∧ (s.route 15).depth - (s.route 15).occupancy = 0) ∧
    (∃ (s : State) (code tag head : Nat) (detail : List Byte), s.outbound = false ∧ s.routes.held.length < 16) ∧
    (∃ (s : State) (code tag head : Nat) (detail : List Byte), s.outbound = false ∧ 16 ≤ s.routes.held.length) :=
  ⟨⟨(rt 15 7), (((rt 15 7).storeWrite 0x1000 (eventBale (rt 15 7) 0x80 0 0xFF []) true).1), 0x80, 0, 0xFF, [], by decide +kernel, by decide +kernel, by decide +kernel⟩,
   ⟨((rt 15 7).modRoute 15 (fun q => { q with base := 0x200000000, put := 2 })), _, 0x80, 0, 0xFF, [], _, by decide +kernel, by decide +kernel, rfl⟩,
   ⟨((rt 15 7).modRoute 15 (fun q => { q with put := 3 })), ((((rt 15 7).modRoute 15 (fun q => { q with put := 3 })).storeWrite 0x10C0 (eventBale ((rt 15 7).modRoute 15 (fun q => { q with put := 3 })) 0x85 0 0xFF []) true).1), 0x80, 0, 0xFF, [], by decide +kernel, by decide +kernel, by decide +kernel, by decide +kernel, by decide +kernel⟩,
   ⟨((rt 15 7).modRoute 15 (fun q => { q with put := 4 })), 0x80, 0, 0xFF, [], by decide +kernel, by decide +kernel⟩,
   ⟨({ sv with routes := { sv.routes with held := List.replicate 15 [] } }), 0x80, 0, 0xFF, [], by decide +kernel, by decide +kernel⟩,
   ⟨({ sv with routes := { sv.routes with held := List.replicate 16 [] } }), 0x80, 0, 0xFF, [], by decide +kernel, by decide +kernel⟩⟩

theorem witness_EventBaleLayout :
    ∃ (s : State) (code tag head : Nat) (detail : List Byte), code < 256 ∧ tag < 65536 ∧ head < 256 ∧ detail.length ≤ 40 :=
  ⟨sv, 255, 65535, 255, (List.replicate 40 1), by decide +kernel, by decide +kernel, by decide +kernel, by decide +kernel⟩

theorem witness_RecordWritten :
    (∃ (s : State) (source cls : Nat) (detail : List (Nat × Nat)) (addr : Nat) (head : Option Nat) (secondary : Bool), s.ledger.up = true ∧ s.ledger.entries.length < 63) ∧
    (∃ (s : State) (source cls : Nat) (detail : List (Nat × Nat)) (addr : Nat) (head : Option Nat) (secondary : Bool), s.ledger.up = true ∧ s.ledger.entries.length = 63) ∧
    (∃ (s : State) (source cls : Nat) (detail : List (Nat × Nat)) (addr : Nat) (head : Option Nat) (secondary : Bool), s.ledger.up = true ∧ 64 ≤ s.ledger.entries.length) ∧
    (∃ (s : State) (source cls : Nat) (detail : List (Nat × Nat)) (addr : Nat) (head : Option Nat) (secondary : Bool), s.ledger.up = false ∧ s.ledger.held.length < 16) :=
  ⟨⟨({ sv with ledger := { sv.ledger with entries := List.replicate 62 default } }), 1, 1, [], 0, none, false, by decide +kernel, by decide +kernel⟩,
   ⟨({ sv with ledger := { sv.ledger with entries := List.replicate 63 default } }), 1, 1, [], 0, none, false, by decide +kernel, by decide +kernel⟩,
   ⟨({ sv with ledger := { sv.ledger with entries := List.replicate 64 default } }), 1, 1, [], 0, none, false, by decide +kernel, by decide +kernel⟩,
   ⟨State.reset, 1, 1, [], 0, none, false, by decide +kernel, by decide +kernel⟩⟩

theorem witness_AccessJudged :
    (∃ (s : State) (acc : Accessor) (wr : Bool) (a : Nat), a % 4 ≠ 0) ∧
    (∃ (s : State) (acc : Accessor) (wr : Bool) (a : Nat), a % 4 = 0 ∧ s.boot.mode = 1 ∧ floorAdmits a = false) ∧
    (∃ (s : State) (acc : Accessor) (wr : Bool) (a : Nat), a % 4 = 0 ∧ (¬ (s.boot.mode = 1 ∧ floorAdmits a = false)) ∧ regAt a = none) ∧
    (∃ (s : State) (acc : Accessor) (a : Nat) (r : Reg) (i j : Nat), a % 4 = 0 ∧ (¬ (s.boot.mode = 1 ∧ floorAdmits a = false)) ∧ regAt a = some (r, i, j)) ∧
    (∃ (s : State) (acc : Accessor) (a : Nat) (r : Reg) (i j : Nat), a % 4 = 0 ∧ (¬ (s.boot.mode = 1 ∧ floorAdmits a = false)) ∧ regAt a = some (r, i, j) ∧ s.isOwner acc = false) ∧
    (∃ (s : State) (acc : Accessor) (a : Nat) (r : Reg) (i j : Nat), a % 4 = 0 ∧ (¬ (s.boot.mode = 1 ∧ floorAdmits a = false)) ∧ regAt a = some (r, i, j) ∧ s.isOwner acc = true) ∧
    (∃ (s : State) (acc : Accessor) (a reason : Nat) (v : Word), s.reachable acc = true ∧ s.judgeAccess acc true a = some reason) :=
  ⟨⟨sv, .usb, true, 2, by decide +kernel⟩,
   ⟨({ sv with boot := { sv.boot with mode := 1 } }), .usb, true, 0x18, by decide +kernel, by decide +kernel, by decide +kernel⟩,
   ⟨sv, .usb, true, 0x1400000, by decide +kernel, by decide +kernel, by decide +kernel⟩,
   ⟨sv, .usb, 0x18, .SCRATCH, 0, 0, by decide +kernel, by decide +kernel, by decide +kernel⟩,
   ⟨({ sv with net := { sv.net with owner := .none } }), .usb, 0x18, .SCRATCH, 0, 0, by decide +kernel, by decide +kernel, by decide +kernel, by decide +kernel⟩,
   ⟨sv, .usb, 0x18, .SCRATCH, 0, 0, by decide +kernel, by decide +kernel, by decide +kernel, by decide +kernel⟩,
   ⟨sv, .usb, 0, 3, 1, by decide +kernel, by decide +kernel⟩⟩

theorem witness_ViolationRecorded :
    (∃ (s : State) (acc : Accessor) (wr : Bool) (a reason : Nat), s.ledger.up = true) ∧
    (∃ (s : State) (acc : Accessor) (addr v : Word) (reason : Nat), s.reachable acc = true ∧ s.judgeAccess acc true addr.toNat = some reason) ∧
    (∃ (s : State) (acc : Accessor) (a : Nat) (reason : Nat), s.reachable acc = true ∧ s.judgeAccess acc false a = some reason) :=
  ⟨⟨sv, .usb, true, 0, 3, by decide +kernel⟩,
   ⟨sv, .usb, 0, 1, 3, by decide +kernel, by decide +kernel⟩,
   ⟨sv, .usb, 2, 2, by decide +kernel, by decide +kernel⟩⟩

theorem witness_RegisterWriteAccepted :
    (∃ (s : State) (acc : Accessor) (addr v : Word) (r : Reg) (i j : Nat), s.reachable acc = true ∧ s.judgeAccess acc true addr.toNat = none ∧ regAt addr.toNat = some (r, i, j) ∧ commitBound r = false ∧ storedAtWrite r = false) ∧
    (∃ (s : State) (acc : Accessor) (v : Word), s.Accepts acc .SCRATCH) ∧
    (∃ (s : State) (acc : Accessor) (addr v : Word), s.reachable acc = false) :=
  ⟨⟨sv, .usb, 0x18, 1, .SCRATCH, 0, 0, by decide +kernel, by decide +kernel, by decide +kernel, by decide +kernel, by decide +kernel⟩,
   ⟨sv, .usb, 1, by decide +kernel⟩,
   ⟨State.reset, .usb, 0x18, 1, by decide +kernel⟩⟩

theorem witness_CommitBoundWriteTagged :
    ∃ (s : State) (acc : Accessor) (addr v : Word) (r : Reg) (i j : Nat), s.reachable acc = true ∧ s.judgeAccess acc true addr.toNat = none ∧ regAt addr.toNat = some (r, i, j) ∧ commitBound r = true ∧ r.addr i j = addr.toNat :=
  ⟨sv, .usb, 0x700000, 1, .SKEIN_CONFIG, 0, 0, by decide +kernel, by decide +kernel, by decide +kernel, by decide +kernel, by decide +kernel⟩

theorem witness_CommitMakesPending :
    ∃ (s : State) (acc : Accessor) (v : Word) (g : Fin 16), s.Accepts acc .COMMIT_CONTROL ∧ s.keptValue .COMMIT_CONTROL 0 v = wordOf (2 ^ g.val) ∧ s.dirtyIn g = [] ∧ s.pendingIn g = [] ∧ (s.group g).state ≠ 1 :=
  ⟨sv, .usb, 0x8000, 15, by decide +kernel, by decide +kernel, by decide +kernel, by decide +kernel, by decide +kernel⟩

theorem witness_PatternOperations :
    (∃ (s : State) (acc : Accessor) (source : Fin 4) (target : Fin 2), s.Accepts acc .PATTERN_CONTROL ∧ s.patternBusy = false ∧ source.val ≠ 3) ∧
    (∃ (s : State) (acc : Accessor) (source : Fin 4) (target : Fin 2), s.Accepts acc .PATTERN_CONTROL ∧ s.patternBusy = false) ∧
    (∃ (s : State) (acc : Accessor) (source : Fin 4) (target : Fin 2), s.Accepts acc .PATTERN_CONTROL ∧ s.patternBusy = true) ∧
    (∃ (s : State) (acc : Accessor) (v : Word), s.Accepts acc .PATTERN_LOCK) ∧
    (∃ (s : State) (acc : Accessor) (v : Word), s.Accepts acc .KEY_LOCK) ∧
    (∃ (s : State) (acc : Accessor) (v : Word), s.Accepts acc .OWNER_KEY_Y 7) ∧
    (∃ (s : State) (flashOk : Bool) (c : LoadCheck), s.pat.op = none) ∧
    (∃ (s : State) (op : PatOp) (flashOk : Bool) (c : LoadCheck) (code sec : Nat), s.pat.op = some op ∧ op.kind = .load ∧ (¬ (s.boot.mode ≠ 1 ∧ op.map.length < 2)) ∧ s.patternOutcome op flashOk = .error (code, sec) ∧ code ≠ patOk) ∧
    (∃ (s : State) (op : PatOp) (p : Pattern) (c : LoadCheck), s.pat.op = some op ∧ op.kind = .program ∧ s.patternOutcome op true = .ok p ∧ s.stagingReadable = true) ∧
    (∃ (s : State) (op : PatOp) (p : Pattern) (c : LoadCheck), s.pat.op = some op ∧ op.kind = .program ∧ s.patternOutcome op true = .ok p ∧ s.stagingReadable = false) ∧
    (∃ (s : State) (op : PatOp) (flashOk : Bool) (p : Pattern) (c : LoadCheck), s.pat.op = some op ∧ op.kind = .load ∧ s.boot.mode = 2 ∧ 2 ≤ op.map.length ∧ s.patternOutcome op flashOk = .ok p) ∧
    (∃ (s : State) (op : PatOp) (flashOk : Bool) (p : Pattern) (c : LoadCheck), s.pat.op = some op ∧ op.kind = .load ∧ s.boot.mode = 1 ∧ s.patternOutcome op flashOk = .ok p) ∧
    (∃ (s : State) (op : PatOp) (p : Pattern) (c : LoadCheck), ((List.range 8).filter (fun h => ((s.pattern.head? h).isSome || (p.head? h).isSome) && s.stillWaits p h)).isEmpty = false) ∧
    (∃ (s : State) (p : Pattern) (map : List Nat) (c : LoadCheck), c.skeins = []) :=
  ⟨⟨sv, .usb, 2, 1, by decide +kernel, by decide +kernel, by decide +kernel⟩,
   ⟨sv, .usb, 0, 1, by decide +kernel, by decide +kernel⟩,
   ⟨({ sv with pat := { sv.pat with filling := true } }), .usb, 0, 0, by decide +kernel, by decide +kernel⟩,
   ⟨sv, .usb, 1, by decide +kernel⟩,
   ⟨sv, .usb, 1, by decide +kernel⟩,
   ⟨sv, .usb, 1, by decide +kernel⟩,
   ⟨sv, true, default, by decide +kernel⟩,
   ⟨({ sv with pat := { sv.pat with op := some ⟨.load, 1, 0, 0, 0, 0, [0, 1]⟩ } }), (⟨.load, 1, 0, 0, 0, 0, [0, 1]⟩), true, default, _, _, by decide +kernel, by decide +kernel, by decide +kernel, rfl, by decide +kernel⟩,
   ⟨(rigged 2 .program), (rigOp .program), rigPattern, default, by decide +kernel, by decide +kernel, rig_outcome _ _ rfl, by decide +kernel⟩,
   ⟨((rigged 2 .program).modChannel 0 (fun c => { c with state := 5 })), (rigOp .program), rigPattern, default, by decide +kernel, by decide +kernel, rig_outcome _ _ rfl, by decide +kernel⟩,
   ⟨(rigged 2 .load), (rigOp .load), true, rigPattern, default, by decide +kernel, by decide +kernel, by decide +kernel, by decide +kernel, rig_outcome _ _ rfl⟩,
   ⟨(rigged 1 .load), (rigOp .load), true, rigPattern, default, by decide +kernel, by decide +kernel, by decide +kernel, rig_outcome _ _ rfl⟩,
   ⟨hv, default, pt0, default, by decide +kernel⟩,
   ⟨hv, pt0, [0], ⟨[], [31], [7]⟩, rfl⟩⟩

theorem witness_BindOff :
    (∃ (s : State) (h : Nat), (s.head h).begun = false) ∧
    (∃ (s u : State) (h : Fin 8) (r : HeadRec), u = s.scanOut h ∧ s.pat.restitch = none ∧ u.pat.filling = false ∧ u.liveHead h = some r ∧ (u.head h).nextTiming = none) ∧
    (∃ (s u : State) (h : Fin 8) (r new : HeadRec), u = s.scanOut h ∧ s.pat.restitch = none ∧ u.pat.filling = false ∧ u.liveHead h = some r ∧ (u.head h).nextTiming = some new ∧ new.head = h.val ∧ (u.head h).standinLeft = 0) ∧
    (∃ (s u : State) (h : Fin 8) (r new : HeadRec) (k : Nat), u = s.scanOut h ∧ s.pat.restitch = none ∧ u.liveHead h = some r ∧ (u.head h).nextTiming = some new ∧ (u.head h).standinLeft = k + 1) ∧
    (∃ (s : State) (h : Fin 8), s.pat.restitch = none ∧ s.liveHead h = none) ∧
    (∃ (s : State) (h : Fin 8) (z : Restitch), s.pat.restitch = some z ∧ z.waiting.contains h.val = true) :=
  ⟨⟨hv, 0, by decide +kernel⟩,
   ⟨hv, _, 0, hd0, rfl, by decide +kernel, by decide +kernel, by decide +kernel, by decide +kernel⟩,
   ⟨(hv.modHead 0 (fun h => { h with nextTiming := some { hd0 with vTotal := 48 } })), _, 0, hd0, { hd0 with vTotal := 48 }, rfl, by decide +kernel, by decide +kernel, by decide +kernel, by decide +kernel, by decide +kernel, by decide +kernel⟩,
   ⟨(hv.modHead 0 (fun h => { h with nextTiming := some { hd0 with vTotal := 48 }, standinLeft := 1 })), _, 0, hd0, { hd0 with vTotal := 48 }, 0, rfl, by decide +kernel, by decide +kernel, by decide +kernel, by decide +kernel⟩,
   ⟨hv, 7, by decide +kernel, by decide +kernel⟩,
   ⟨({ hv with pat := { hv.pat with restitch := some { (default : Restitch) with waiting := [0] } } }), 0, ({ (default : Restitch) with waiting := [0] }), by decide +kernel, by decide +kernel⟩⟩

theorem witness_HeadEventsAndFailure :
    (∃ (s : State) (h : Fin 8) (r : HeadRec), s.liveHead h = some r) ∧
    (∃ (s u : State) (h : Fin 8) (r : HeadRec) (band : Nat), s.liveHead h = some r ∧ 16 * band + 15 < r.vActive ∧ u = s.scanTo h (16 * band + 15) ∧ ((u.gauge r).enable = true → (u.gauge r).shedLow ≤ u.leadAt r (16 * band + 15))) ∧
    (∃ (s u : State) (h : Fin 8) (r : HeadRec) (band : Nat), s.liveHead h = some r ∧ 16 * band + 15 < r.vActive ∧ u = s.scanTo h (16 * band + 15) ∧ (u.gauge r).enable = true ∧ u.leadAt r (16 * band + 15) < (u.gauge r).shedLow) ∧
    (∃ (s u : State) (h : Fin 8) (r : HeadRec) (line : Nat), s.liveHead h = some r ∧ line < r.vActive ∧ u = (if line = 0 then s else s.scanTo h (line - 1)) ∧ (u.head h).hank.any (fun p => p.1 == line) = true) ∧
    (∃ (s u : State) (h : Fin 8) (r : HeadRec) (line : Nat), s.liveHead h = some r ∧ line < r.vActive ∧ u = (if line = 0 then s else s.scanTo h (line - 1)) ∧ (u.head h).hank.any (fun p => p.1 == line) = false ∧ (u.head h).closed.contains line = false ∧ u.pattern.stack h = []) ∧
    (∃ (s : State) (h : Fin 8) (r : HeadRec) (line : Nat), s.liveHead h = some r ∧ line + 1 < r.vActive ∧ (s.head h).begun = true ∧ (s.head h).scanned ≤ line) ∧
    (∃ (s : State) (h : Fin 8) (r : HeadRec) (line : Nat) (bad : List LutFault), s.liveHead h = some r ∧ line < r.vActive ∧ (s.head h).hank.any (fun p => p.1 == line) = false ∧ s.slotFree r line = true ∧ s.lineWaits r line = false) ∧
    (∃ (s : State) (h k : Nat) (ks : List Nat), (s.head h).parityThisFrame = false) ∧
    (∃ (s u : State) (h : Fin 8) (r : HeadRec), s.pattern.owner? h = some r ∧ s.liveHead r.head = some r ∧ (s.head r.head).begun = true ∧ u = s.scanTo r.head (r.vActive - 1) ∧ (u.head h).armed = false) ∧
    (∃ (s u : State) (h : Fin 8) (r : HeadRec), s.pattern.owner? h = some r ∧ s.liveHead r.head = some r ∧ (s.head r.head).begun = true ∧ u = s.scanTo r.head (r.vActive - 1) ∧ (u.head h).armed = true ∧ (u.head h).tag = (u.head r.head).frameFc) ∧
    (∃ (s : State) (h : Fin 8) (r : HeadRec), s.pattern.owner? h = some r ∧ (s.head r.head).begun = false) ∧
    (∃ (s : State) (acc : Accessor) (h : Fin 8) (v : Word), s.Accepts acc .WITNESS_CONTROL h ∧ bitAt (s.keptValue .WITNESS_CONTROL h v) 0 = true ∧ 1 ≤ (s.reg .WITNESS_TAG h - (s.head (((s.pattern.owner? h).map (·.head)).getD h)).fc).toNat ∧ (s.reg .WITNESS_TAG h - (s.head (((s.pattern.owner? h).map (·.head)).getD h)).fc).toNat < 2 ^ 31) ∧
    (∃ (s : State) (h : Fin 8) (part : HeadPart) (r : HeadRec), s.pattern.owner? h = some r ∧ (s.head r.head).state ≠ 4) ∧
    (∃ (s : State) (h : Fin 8) (part : HeadPart) (r : HeadRec), s.pattern.owner? h = some r ∧ (s.head r.head).state = 4) ∧
    (∃ (s : State) (h : Fin 8) (part : HeadPart), s.pattern.owner? h = none) :=
  ⟨⟨hv, 0, hd0, by decide +kernel⟩,
   ⟨(hv.setAct .GAUGE_CONTROL 0 0 0), _, 0, hd0, 0, by decide +kernel, by decide +kernel, rfl, by decide +kernel⟩,
   ⟨(hv.setAct .GAUGE_CONTROL 0 0 0x8000000F), _, 0, hd0, 0, by decide +kernel, by decide +kernel, rfl, by decide +kernel, by decide +kernel⟩,
   ⟨(hv.modHead 0 (fun h => { h with hank := [(31, [])] })), _, 0, hd0, 31, by decide +kernel, by decide +kernel, rfl, by decide +kernel⟩,
   ⟨hv, _, 0, hd0, 31, by decide +kernel, by decide +kernel, rfl, by decide +kernel, by decide +kernel, by decide +kernel⟩,
   ⟨(hv.modHead 0 (fun h => { h with begun := true, scanned := 30 })), 0, hd0, 30, by decide +kernel, by decide +kernel, by decide +kernel, by decide +kernel⟩,
   ⟨hv, 0, hd0, 0, [default], by decide +kernel, by decide +kernel, by decide +kernel, by decide +kernel, by decide +kernel⟩,
   ⟨hv, 7, 0, [1], by decide +kernel⟩,
   ⟨(hv.modHead 0 (fun h => { h with begun := true, scanned := 32 })), _, 0, hd0, by decide +kernel, by decide +kernel, by decide +kernel, rfl, by decide +kernel⟩,
   ⟨(hv.modHead 0 (fun h => { h with begun := true, scanned := 32, armed := true })), _, 0, hd0, by decide +kernel, by decide +kernel, by decide +kernel, rfl, by decide +kernel, by decide +kernel⟩,
   ⟨hv, 0, hd0, by decide +kernel, by decide +kernel⟩,
   ⟨(hv.setReg .WITNESS_TAG 0 0 1), .usb, 0, 1, by decide +kernel, by decide +kernel, by decide +kernel, by decide +kernel⟩,
   ⟨hv, 0, .timing, hd0, by decide +kernel, by decide +kernel⟩,
   ⟨(hv.modHead 0 (fun h => { h with state := 4 })), 0, .hank, hd0, by decide +kernel, by decide +kernel⟩,
   ⟨hv, 7, .port, by decide +kernel⟩⟩

theorem witness_LutPort :
    (∃ (s : State) (acc : Accessor) (h : Fin 8) (v : Word), s.Accepts acc .LUT_PORT_DATA h ∧ s.lutPresent h (lutTable (s.reg .LUT_PORT_ADDR h)) = true ∧ fld (s.reg .LUT_PORT_ADDR h) 0 16 ≤ lutLast (lutTable (s.reg .LUT_PORT_ADDR h))) ∧
    (∃ (s : State) (acc : Accessor) (h : Fin 8) (v : Word), s.Accepts acc .LUT_PORT_DATA h ∧ s.lutPresent h (lutTable (s.reg .LUT_PORT_ADDR h)) = false) ∧
    (∃ (s : State) (acc : Accessor) (h : Fin 8) (v : Word), s.Accepts acc .LUT_PORT_DATA h ∧ s.lutPresent h (lutTable (s.reg .LUT_PORT_ADDR h)) = true ∧ lutLast (lutTable (s.reg .LUT_PORT_ADDR h)) < fld (s.reg .LUT_PORT_ADDR h) 0 16) ∧
    (∃ (w : Word), fld w 0 16 < lutLast (lutTable w)) ∧
    (∃ (w : Word), fld w 0 16 = lutLast (lutTable w)) :=
  ⟨⟨(sv.setReg .LUT_PORT_ADDR 0 0 0), .usb, 0, 1, by decide +kernel, by decide +kernel, by decide +kernel⟩,
   ⟨({ hv with pat := { hv.pat with running := hv.pat.running.map (fun p => { p with colours := [{ (default : ColourRec) with head := 0 }] }) } }), .usb, 0, 1, by decide +kernel, by decide +kernel⟩,
   ⟨(sv.setReg .LUT_PORT_ADDR 0 0 0xFFFF), .usb, 0, 1, by decide +kernel, by decide +kernel, by decide +kernel⟩,
   ⟨0, by decide +kernel⟩,
   ⟨(BitVec.ofNat 32 (lutLast (lutTable 0))), by decide +kernel⟩⟩

theorem witness_RoutePosting :
    (∃ (s : State) (acc : Accessor) (v : Word), s.Accepts acc .ROUTE_POST ∧ s.postStatus (fld (s.keptValue .ROUTE_POST 0 v) 0 4) 1 = 1) ∧
    (∃ (s : State) (acc : Accessor) (v : Word), s.Accepts acc .ROUTE_POST ∧ s.postStatus (fld (s.keptValue .ROUTE_POST 0 v) 0 4) 1 ≠ 1) ∧
    (∃ (s : State) (r n : Nat), s.inbound r = false) ∧
    (∃ (s : State) (r n : Nat), s.inbound r = true ∧ (s.routeBusyReset r = true ∨ (s.route r).depth < (s.route r).occupancy + s.postsAhead r + n)) ∧
    (∃ (s : State) (r n : Nat), s.inbound r = true ∧ s.routeBusyReset r = false ∧ (s.route r).occupancy + s.postsAhead r + n ≤ (s.route r).depth) ∧
    (∃ (s : State), s.routes.posts = []) ∧
    (∃ (s t : State) (r : Nat) (bales : List Bale) (rest : List Post), s.routes.posts = ⟨r, bales, .stage s.routes.stageSerial⟩ :: rest ∧ s.routes.resetWait = [] ∧ ({ s with routes := { s.routes with posts := rest } } : State).writeBales r (s.route r).put bales = (t, true)) ∧
    (∃ (s t : State) (r : Nat) (bales : List Bale) (rest : List Post), s.routes.posts = ⟨r, bales, .stage s.routes.stageSerial⟩ :: rest ∧ s.routes.resetWait = [] ∧ ({ s with routes := { s.routes with posts := rest } } : State).writeBales r (s.route r).put bales = (t, false)) ∧
    (∃ (s : State) (r : Fin 16), s.holding = false ∧ s.inbound r = true ∧ (s.route r).resetting = none ∧ (s.route r).fetched.length + min (4 - (s.route r).nextFetch % (s.route r).depth % 4) (s.route r).unfetched ≤ 8) ∧
    (∃ (s : State) (r : Fin 16), s.holding = true) ∧
    (∃ (s : State) (r : Fin 16) (i : Nat) (b : Bale) (rest : List Fetched), (s.route r).resetting = none ∧ (s.route r).fetched = ⟨i, some b⟩ :: rest ∧ baleFlag b flagFenceWait = false ∧ baleFlag b flagFenceSignal = false ∧ s.consumerReady r = true ∧ s.otherTurn r = false ∧ opcodeReason (s.consumer r) (baleOpcode b) = none) ∧
    (∃ (s : State) (r : Fin 16) (i : Nat) (rest : List Fetched), (s.route r).resetting = none ∧ s.holding = false ∧ (s.route r).fetched = ⟨i, none⟩ :: rest) ∧
    (∃ (s : State) (r : Fin 16) (i : Nat) (b : Bale) (rest : List Fetched), (s.route r).resetting = none ∧ (s.route r).fetched = ⟨i, some b⟩ :: rest ∧ baleFlag b flagFenceWait = true ∧ baleFence b < 32 ∧ s.fenceMet (baleFence b) (baleWaitValue b) = false) ∧
    (∃ (s : State) (f v : Nat), v < 65536) :=
  ⟨⟨(rt 3 6), .usb, 3, by decide +kernel, by decide +kernel⟩,
   ⟨(rt 3 6), .usb, 4, by decide +kernel, by decide +kernel⟩,
   ⟨(rt 15 7), 15, 1, by decide +kernel⟩,
   ⟨(rt 3 6), 3, 5, by decide +kernel, by decide +kernel⟩,
   ⟨(rt 3 6), 3, 4, by decide +kernel, by decide +kernel, by decide +kernel⟩,
   ⟨sv, by decide +kernel⟩,
   ⟨({ rt 3 6 with routes := { (rt 3 6).routes with posts := [⟨3, [bale [6]], .stage 0⟩] } }), (((rt 3 6).writeBales 3 0 [bale [6]]).1), 3, ([bale [6]]), [], by decide +kernel, by decide +kernel, Prod.ext rfl (by decide +kernel)⟩,
   ⟨({ rt 3 6 with routes := { ((rt 3 6).modRoute 3 (fun q => { q with base := 0x200000000 })).routes with posts := [⟨3, [bale [6]], .stage 0⟩] } }), ((((rt 3 6).modRoute 3 (fun q => { q with base := 0x200000000 })).writeBales 3 0 [bale [6]]).1), 3, ([bale [6]]), [], by decide +kernel, by decide +kernel, Prod.ext rfl (by decide +kernel)⟩,
   ⟨((rt 3 6).modRoute 3 (fun q => { q with put := 4 })), 3, by decide +kernel, by decide +kernel, by decide +kernel, by decide +kernel⟩,
   ⟨({ sv with usb := { sv.usb with mode := .debugHold } }), 3, by decide +kernel⟩,
   ⟨((rt 3 6).modRoute 3 (fun q => { q with fetched := [⟨0, some (bale [1])⟩] })), 3, 0, (bale [1]), [], by decide +kernel, by decide +kernel, by decide +kernel, by decide +kernel, by decide +kernel, by decide +kernel, by decide +kernel⟩,
   ⟨((rt 3 6).modRoute 3 (fun q => { q with fetched := [⟨0, none⟩] })), 3, 0, [], by decide +kernel, by decide +kernel, by decide +kernel⟩,
   ⟨((rt 3 6).modRoute 3 (fun q => { q with fetched := [⟨0, some (bale [1, 1, 0, 0, 31, 0, 1])⟩] })), 3, 0, (bale [1, 1, 0, 0, 31, 0, 1]), [], by decide +kernel, by decide +kernel, by decide +kernel, by decide +kernel, by decide +kernel⟩,
   ⟨sv, 31, 65535, by decide +kernel⟩⟩

theorem witness_BalesExecuted :
    (∃ (s : State) (r : Nat) (b : Started) (rest : List Started), b.done = false) ∧
    (∃ (s : State) (r : Nat) (b : Started) (rest : List Started), b.done = true ∧ baleFlag b.data flagFenceSignal = false) ∧
    (∃ (s : State) (r : Nat) (b : Started) (rest : List Started), b.done = true ∧ baleFlag b.data flagFenceSignal = true ∧ baleFence b.data < 32) ∧
    (∃ (s : State) (r : Nat) (b : Started) (rest : List Started), ((b.done && !b.reported) = false ∨ baleFlag b.data flagEventOnDone = false)) ∧
    (∃ (s : State) (r : Nat) (b : Started) (rest : List Started), b.done = true ∧ b.reported = false ∧ baleFlag b.data flagEventOnDone = true) ∧
    (∃ (s : State) (r : Fin 16) (b : Started), s.holding = false ∧ s.nextStarted r 0 = some b) ∧
    (∃ (s : State) (r : Fin 16) (b : Started), s.holding = false ∧ s.consumer r = .executor ∧ s.nextStarted r 1 = some b) ∧
    (∃ (s : State) (r : Fin 16) (b : Started), s.holding = false ∧ s.consumer r = .executor ∧ s.nextStarted r 2 = some b ∧ 1 ≤ leAt b.data 8 1 ∧ leAt b.data 8 1 ≤ 6) ∧
    (∃ (s : State) (r : Fin 16) (b : Started), s.holding = false ∧ s.consumer r = .executor ∧ s.nextStarted r 2 = some b ∧ (leAt b.data 8 1 = 0 ∨ 6 < leAt b.data 8 1)) ∧
    (∃ (s : State) (r i : Nat) (bad : Bool) (b : Started), b ∈ (s.route r).started ∧ b.index = i) :=
  ⟨⟨sv, 3, (started [1]), [], by decide +kernel⟩,
   ⟨sv, 3, ({ started [1] with done := true }), [], by decide +kernel, by decide +kernel⟩,
   ⟨sv, 3, ({ started [1, 2, 0, 0, 31] with done := true }), [], by decide +kernel, by decide +kernel, by decide +kernel⟩,
   ⟨sv, 3, ({ started [1] with done := true }), [], by decide +kernel⟩,
   ⟨sv, 3, ({ started [1, 4] with done := true }), [], by decide +kernel, by decide +kernel, by decide +kernel⟩,
   ⟨((rt 3 6).modRoute 3 (fun q => { q with started := [started [0]] })), 3, (started [0]), by decide +kernel, by decide +kernel⟩,
   ⟨((rt 3 6).modRoute 3 (fun q => { q with started := [started [1]] })), 3, (started [1]), by decide +kernel, by decide +kernel, by decide +kernel⟩,
   ⟨((rt 3 6).modRoute 3 (fun q => { q with started := [started [2, 0, 0, 0, 0, 0, 0, 0, 6]] })), 3, (started [2, 0, 0, 0, 0, 0, 0, 0, 6]), by decide +kernel, by decide +kernel, by decide +kernel, by decide +kernel, by decide +kernel⟩,
   ⟨((rt 3 6).modRoute 3 (fun q => { q with started := [started [2, 0, 0, 0, 0, 0, 0, 0, 7]] })), 3, (started [2, 0, 0, 0, 0, 0, 0, 0, 7]), by decide +kernel, by decide +kernel, by decide +kernel, by decide +kernel⟩,
   ⟨((rt 3 6).modRoute 3 (fun q => { q with started := [started [2]] })), 3, 0, true, (started [2]), by decide +kernel, by decide +kernel⟩⟩

theorem witness_RouteControls :
    (∃ (s : State) (acc : Accessor) (v : Word), s.Accepts acc .ROUTE_CONTROL ∧ bitAt (s.keptValue .ROUTE_CONTROL 0 v) 4 = true) ∧
    (∃ (s : State) (r : Nat), r ≠ 15 ∧ s.routeBusyReset r = false ∧ s.routes.posts.any (fun p => p.route == r) = false ∧ (s.route r).started = [] ∧ s.pat.filling = false) ∧
    (∃ (s : State) (r : Nat), s.routeBusyReset r = false ∧ s.routes.posts.any (fun p => p.route == r) = false ∧ (s.route r).started ≠ []) ∧
    (∃ (s : State) (r : Nat), s.routeBusyReset r = true) ∧
    (∃ (s : State) (r : Nat), s.routeBusyReset r = false ∧ s.routes.posts.any (fun p => p.route == r) = true) ∧
    (∃ (s : State) (r : Fin 16) (z : Resetting), (s.route r).resetting = some z ∧ (s.route r).started.all (·.done) = true) ∧
    (∃ (s : State) (r : Fin 16), (s.route r).resetting = none) ∧
    (∃ (s : State) (acc : Accessor) (v : Word), s.Accepts acc .EVENT_RELEASE) ∧
    (∃ (s : State) (acc : Accessor) (f : Fin 32) (v : Word), s.Accepts acc .FENCE_COUNT f) :=
  ⟨⟨sv, .usb, 0x1E, by decide +kernel, by decide +kernel⟩,
   ⟨(rt 14 6), 14, by decide +kernel, by decide +kernel, by decide +kernel, by decide +kernel, by decide +kernel⟩,
   ⟨((rt 3 6).modRoute 3 (fun q => { q with started := [started [1]] })), 3, by decide +kernel, by decide +kernel, by decide +kernel⟩,
   ⟨((rt 3 6).modRoute 3 (fun q => { q with resetting := some default })), 3, by decide +kernel⟩,
   ⟨({ rt 3 6 with routes := { (rt 3 6).routes with posts := [⟨3, [], .stage 0⟩] } }), 3, by decide +kernel, by decide +kernel⟩,
   ⟨((rt 3 6).modRoute 3 (fun q => { q with resetting := some default, started := [{ started [1] with done := true }] })), 3, default, by decide +kernel, by decide +kernel⟩,
   ⟨sv, 3, by decide +kernel⟩,
   ⟨sv, .usb, 0x1FFF, by decide +kernel⟩,
   ⟨sv, .usb, 31, 0xFFFF, by decide +kernel⟩⟩

theorem witness_StoreService :
    (∃ (s : State) (cls : ReqClass) (a c words : Nat), s.channelOf a = some c ∧ s.channelGone c = false ∧ s.store.poison.contains (a / 64) = false) ∧
    (∃ (s : State) (cls : ReqClass) (a c : Nat), s.channelOf a = some c ∧ s.channelGone c = false ∧ s.store.poison.contains (a / 64) = false ∧ fld (s.reg .STORE_RETIRE_THRESHOLD) 0 16 = 0) ∧
    (∃ (s : State) (cls : ReqClass) (a : Nat) (e : Ecc), (s.channelOf a = none ∨ s.store.poison.contains (a / 64) = true ∨ (∃ c, s.channelOf a = some c ∧ s.channelGone c = true))) ∧
    (∃ (s : State) (cls : ReqClass) (a : Nat) (bs : List Byte), cls ≠ .skeins) ∧
    (∃ (s : State) (a n : Nat), s.inRingRegion a n = true) ∧
    (∃ (s : State) (e : Ecc), s.store.scrubPeriod = 0) ∧
    (∃ (s : State), s.store.scrubPeriod ≠ 0 ∧ s.storeSpan ≠ 0) ∧
    (∃ (s : State) (acc : Accessor) (v : Word), s.Accepts acc .STORE_SCRUB_PERIOD) ∧
    (∃ (s : State) (c : Fin 8), s.channelGone c = false ∧ s.store.chanList.contains c.val = true) ∧
    (∃ (s : State) (c : Fin 8), s.channelGone c = true) ∧
    (∃ (s : State) (c : Fin 8), s.channelGone c = false ∧ s.store.chanList.contains c.val = false) ∧
    (∃ (s : State) (a c : Nat), s.channelOf a = some c ∧ s.channelGone c = true) ∧
    (∃ (s : State), s.pat.filling = false) ∧
    (∃ (s : State), s.pat.filling = true ∧ s.pat.restitch = none ∧ s.power.state ≠ 4 ∧ s.boot.buttonFloor = false) ∧
    (∃ (s : State), s.pat.filling = true ∧ s.pat.restitch = none ∧ s.power.state ≠ 4 ∧ s.boot.buttonFloor = true) ∧
    (∃ (s : State) (z : Restitch), s.pat.filling = true ∧ s.pat.restitch = some z) :=
  ⟨⟨sv, .skeins, 0x1FFFFFFFF, 1, 8, by decide +kernel, by decide +kernel, by decide +kernel⟩,
   ⟨(sv.setReg .STORE_RETIRE_THRESHOLD 0 0 0), .porter, 0, 0, by decide +kernel, by decide +kernel, by decide +kernel, by decide +kernel⟩,
   ⟨sv, .block, 0x200000000, .clean, by decide +kernel⟩,
   ⟨sv, .block, 0, [1], by decide +kernel⟩,
   ⟨(under { (default : Pattern) with regions := [⟨4, 1, 0x10000⟩] }), 0x1FFFF, 1, by decide +kernel⟩,
   ⟨sv, .clean, by decide +kernel⟩,
   ⟨({ sv with store := { sv.store with scrubPeriod := 1 } }), by decide +kernel, by decide +kernel⟩,
   ⟨sv, .usb, 1, by decide +kernel⟩,
   ⟨sv, 1, by decide +kernel, by decide +kernel⟩,
   ⟨(sv.modChannel 1 (fun c => { c with state := 5 })), 1, by decide +kernel⟩,
   ⟨sv, 7, by decide +kernel, by decide +kernel⟩,
   ⟨(sv.modChannel 1 (fun c => { c with state := 3 })), 0x1FF, 1, by decide +kernel, by decide +kernel⟩,
   ⟨sv, by decide +kernel⟩,
   ⟨({ sv with pat := { sv.pat with filling := true } }), by decide +kernel, by decide +kernel, by decide +kernel, by decide +kernel⟩,
   ⟨({ sv with pat := { sv.pat with filling := true }, boot := { sv.boot with buttonFloor := true } }), by decide +kernel, by decide +kernel, by decide +kernel, by decide +kernel⟩,
   ⟨({ sv with pat := { sv.pat with filling := true, restitch := some default } }), default, by decide +kernel, by decide +kernel⟩⟩

theorem witness_PorterControls :
    (∃ (s : State) (acc : Accessor) (n : Fin 16), s.Accepts acc .PORTER_CONTROL n ∧ (s.porterCh n).state ≠ 0) ∧
    (∃ (s : State) (acc : Accessor) (n : Fin 16), s.Accepts acc .PORTER_CONTROL n ∧ (s.porterCh n).state = 0 ∧ (s.porterCh n).clearing = false ∧ (s.porterShadow n).mode = 2) ∧
    (∃ (s : State) (acc : Accessor) (n : Fin 16), s.Accepts acc .PORTER_CONTROL n ∧ (s.porterCh n).state = 0 ∧ (s.porterCh n).clearing = false ∧ (s.porterShadow n).mode = 1 ∧ (s.porterShadow n).count ≠ 0) ∧
    (∃ (s : State) (acc : Accessor) (n : Fin 16), s.Accepts acc .PORTER_CONTROL n ∧ (s.porterCh n).busy = false) ∧
    (∃ (s : State) (acc : Accessor) (n : Fin 16), s.Accepts acc .PORTER_CONTROL n ∧ (s.porterCh n).busy = true ∧ (s.porterCh n).error = none) ∧
    (∃ (s : State) (n : Fin 16), (s.porterCh n).clearing = false) ∧
    (∃ (s : State) (n : Fin 16), (s.porterCh n).clearing = true ∧ (s.porterCh n).goAfter = false ∧ (s.porterCh n).starting = false ∧ (s.porterCh n).live.mode ≠ 3) ∧
    (∃ (s : State) (n : Fin 16) (i : Nat) (t : Transfer) (rest : List InFlight), (s.porterCh n).starting = false ∧ (s.porterCh n).clearing = false ∧ (s.porterCh n).halting = false ∧ (s.porterCh n).error = none ∧ (s.porterCh n).unconfirmed = ⟨i, t, []⟩ :: rest ∧ t.readBack = false ∧ (s.porterCh n).live.mode = 1) ∧
    (∃ (s : State) (n : Fin 16) (i : Nat) (t : Transfer) (rest : List InFlight), s.holding = true ∧ (s.porterCh n).unconfirmed = ⟨i, t, []⟩ :: rest ∧ t.readBack = true) ∧
    (∃ (s : State) (n : Fin 16) (i : Nat) (e : BusErr), s.holding = true ∧ (s.porterCh n).clearing = false ∧ (s.porterCh n).halting = false ∧ (s.porterCh n).error = some (i, e) ∧ (s.porterCh n).live.mode = 3) ∧
    (∃ (s : State) (n : Fin 16) (i : Nat) (e : BusErr), (s.porterCh n).starting = false ∧ (s.porterCh n).clearing = false ∧ (s.porterCh n).halting = false ∧ (s.porterCh n).error = some (i, e) ∧ (s.porterCh n).live.mode = 1) ∧
    (∃ (s : State) (n : Fin 16) (i : Nat) (e : BusErr), (s.porterCh n).halting = true ∧ (s.porterCh n).error = some (i, e)) ∧
    (∃ (s : State) (n : Fin 16), (s.porterCh n).halting = false) ∧
    (∃ (s : State) (n : Fin 16) (f : LateFail), (s.porterCh n).starting = false ∧ (s.porterCh n).error = none ∧ (s.porterCh n).state = 2) ∧
    (∃ (s : State) (n : Fin 16) (f : LateFail), (s.porterCh n).starting = false ∧ (s.porterCh n).error = none ∧ (s.porterCh n).state ≠ 2 ∧ (s.porterCh n).halting = false ∧ (s.porterCh n).clearing = true ∧ (s.porterCh n).clearRecorded = false) :=
  ⟨⟨(sv.modPorter 15 (fun p => { p with state := 1 })), .usb, 15, by decide +kernel, by decide +kernel⟩,
   ⟨(sv.setReg .PORTER_CONFIG 15 0 2), .usb, 15, by decide +kernel, by decide +kernel, by decide +kernel, by decide +kernel⟩,
   ⟨((sv.setReg .PORTER_CONFIG 15 0 1).setReg .PORTER_COUNT 15 0 1), .usb, 15, by decide +kernel, by decide +kernel, by decide +kernel, by decide +kernel, by decide +kernel⟩,
   ⟨sv, .usb, 15, by decide +kernel, by decide +kernel⟩,
   ⟨(sv.modPorter 15 (fun p => { p with unconfirmed := [default] })), .usb, 15, by decide +kernel, by decide +kernel, by decide +kernel⟩,
   ⟨sv, 15, by decide +kernel⟩,
   ⟨(sv.modPorter 15 (fun p => { p with clearing := true })), 15, by decide +kernel, by decide +kernel, by decide +kernel, by decide +kernel⟩,
   ⟨(sv.modPorter 0 (fun p => { p with unconfirmed := [default], live := { p.live with mode := 1 } })), 0, 0, default, [], by decide +kernel, by decide +kernel, by decide +kernel, by decide +kernel, by decide +kernel, by decide +kernel, by decide +kernel⟩,
   ⟨(hold (sv.modPorter 0 (fun p => { p with unconfirmed := [⟨0, { (default : Transfer) with readBack := true }, []⟩] }))), 0, 0, ({ (default : Transfer) with readBack := true }), [], by decide +kernel, by decide +kernel, by decide +kernel⟩,
   ⟨(hold (sv.modPorter 0 (fun p => { p with error := some (0, default), live := { p.live with mode := 3 } }))), 0, 0, default, by decide +kernel, by decide +kernel, by decide +kernel, by decide +kernel, by decide +kernel⟩,
   ⟨(sv.modPorter 0 (fun p => { p with error := some (0, default), live := { p.live with mode := 1 } })), 0, 0, default, by decide +kernel, by decide +kernel, by decide +kernel, by decide +kernel, by decide +kernel⟩,
   ⟨(sv.modPorter 0 (fun p => { p with error := some (0, default), halting := true })), 0, 0, default, by decide +kernel, by decide +kernel⟩,
   ⟨sv, 15, by decide +kernel⟩,
   ⟨(sv.modPorter 0 (fun p => { p with state := 2 })), 0, ({ addr := 0, cause := .decode }), by decide +kernel, by decide +kernel, by decide +kernel⟩,
   ⟨(sv.modPorter 0 (fun p => { p with clearing := true })), 0, ({ addr := 0, cause := .decode }), by decide +kernel, by decide +kernel, by decide +kernel, by decide +kernel, by decide +kernel, by decide +kernel⟩⟩

theorem witness_PorterPrograms :
    (∃ (s u : State) (n : Fin 16) (b : List Byte), s.programReady n = true ∧ s.fetchInstr n = .ok b ∧ (instrTransfer opMove b).count ≠ 0 ∧ leAt b 0 1 = 1 ∧ (s.launch n (s.porterCh n).pc (instrTransfer opMove b)).moveData n (instrTransfer opMove b) = (u, .ok)) ∧
    (∃ (s u : State) (n : Fin 16) (b : List Byte), s.programReady n = true ∧ s.fetchInstr n = .ok b ∧ (instrTransfer opFill b).count ≠ 0 ∧ leAt b 0 1 = 5 ∧ (s.launch n (s.porterCh n).pc (instrTransfer opFill b)).moveData n (instrTransfer opFill b) = (u, .ok)) ∧
    (∃ (s u : State) (n : Fin 16) (b : List Byte), s.programReady n = true ∧ s.fetchInstr n = .ok b ∧ (instrTransfer opCheck b).count ≠ 0 ∧ leAt b 0 1 = 7 ∧ (s.launch n (s.porterCh n).pc (instrTransfer opCheck b)).moveData n (instrTransfer opCheck b) = (u, .ok)) ∧
    (∃ (s u : State) (n : Fin 16) (b : List Byte) (e : BusErr), s.programReady n = true ∧ s.fetchInstr n = .ok b ∧ (instrTransfer opFill b).count ≠ 0 ∧ leAt b 0 1 = 5 ∧ (s.launch n (s.porterCh n).pc (instrTransfer opFill b)).moveData n (instrTransfer opFill b) = (u, .failed e)) ∧
    (∃ (s u : State) (n : Fin 16) (b : List Byte), s.programReady n = true ∧ s.fetchInstr n = .ok b ∧ (instrTransfer opCompare b).count ≠ 0 ∧ leAt b 0 1 = 6 ∧ natBit (leAt b 1 1) 1 = false ∧ (s.launch n (s.porterCh n).pc (instrTransfer opCompare b)).moveData n (instrTransfer opCompare b) = (u, .ok)) ∧
    (∃ (s u : State) (n : Fin 16) (b : List Byte), s.programReady n = true ∧ s.fetchInstr n = .ok b ∧ (instrTransfer opCompare b).count ≠ 0 ∧ leAt b 0 1 = 6 ∧ natBit (leAt b 1 1) 1 = true ∧ (s.porterCh n).confirmed = true ∧ (s.launch n (s.porterCh n).pc (instrTransfer opCompare b)).moveData n (instrTransfer opCompare b) = (u, .ok) ∧ ((u.landed n).porterCh n).mismatch = true) ∧
    (∃ (s : State) (n : Fin 16) (b : List Byte), s.programReady n = true ∧ s.fetchInstr n = .ok b ∧ leAt b 0 1 = 2 ∧ leAt b 2 1 ≤ 3 ∧ leAt b 8 4 ≤ (s.porterCh n).pc) ∧
    (∃ (s : State) (n : Fin 16) (b : List Byte), s.programReady n = true ∧ s.fetchInstr n = .ok b ∧ leAt b 0 1 = 0) ∧
    (∃ (s : State) (n : Fin 16) (b : List Byte), s.programReady n = true ∧ s.fetchInstr n = .ok b ∧ 7 < leAt b 0 1) ∧
    (∃ (s : State) (n : Fin 16) (e : BusErr), s.programReady n = true ∧ s.fetchInstr n = .error e) ∧
    (∃ (s : State) (n : Nat) (t : Transfer) (e : BusErr), t.refusal = some e) ∧
    (∃ (s : State) (n : Fin 16) (b : List Byte) (w : WaitFor), s.programReady n = true ∧ s.fetchInstr n = .ok b ∧ leAt b 0 1 = 3 ∧ (s.porterCh n).confirmed = true ∧ waitFor b = some w) ∧
    (∃ (s : State) (n : Fin 16) (b : List Byte), s.programReady n = true ∧ s.fetchInstr n = .ok b ∧ leAt b 0 1 = 3 ∧ (s.porterCh n).confirmed = false) ∧
    (∃ (b : List Byte), leAt b 2 1 = 0 ∧ leAt b 3 1 ≤ 31) ∧
    (∃ (b : List Byte), leAt b 2 1 = 1 ∧ leAt b 3 1 ≤ 7) ∧
    (∃ (b : List Byte), leAt b 2 1 = 2) ∧
    (∃ (s : State) (n : Fin 16) (w : WaitFor), (s.porterCh n).waiting = some w ∧ s.waitHolds n w = true) ∧
    (∃ (s : State) (n : Fin 16) (w : WaitFor), (s.porterCh n).waiting = some w ∧ s.waitHolds n w = false) ∧
    (∃ (s : State) (n : Fin 16) (b : List Byte), s.programReady n = true ∧ s.fetchInstr n = .ok b ∧ leAt b 0 1 = 4 ∧ (s.porterCh n).confirmed = true ∧ natBit (leAt b 1 1) 2 = false ∧ natBit (leAt b 1 1) 3 = true ∧ leAt b 3 1 ≤ 31) ∧
    (∃ (s : State) (n : Fin 16) (b : List Byte) (bale : Bale), s.programReady n = true ∧ s.fetchInstr n = .ok b ∧ leAt b 0 1 = 4 ∧ (s.porterCh n).confirmed = true ∧ natBit (leAt b 1 1) 2 = true ∧ natBit (leAt b 1 1) 3 = false ∧ leAt b 2 1 ≤ 15 ∧ leAt b 8 8 < 2 ^ 35 ∧ s.storeRead (leAt b 8 8) 64 = .ok bale) :=
  ⟨⟨(prog (instr 1 0 0 0 1 0x2000 0x3000)), ((((prog (instr 1 0 0 0 1 0x2000 0x3000)).launch 0 0 (instrTransfer opMove (instr 1 0 0 0 1 0x2000 0x3000))).moveData 0 (instrTransfer opMove (instr 1 0 0 0 1 0x2000 0x3000))).1), 0, (instr 1 0 0 0 1 0x2000 0x3000), by decide +kernel, ok_of [] (by decide +kernel), by decide +kernel, by decide +kernel, Prod.ext rfl (by decide +kernel)⟩,
   ⟨(prog (instr 5 0 0 0 1 0 0x3000)), ((((prog (instr 5 0 0 0 1 0 0x3000)).launch 0 0 (instrTransfer opFill (instr 5 0 0 0 1 0 0x3000))).moveData 0 (instrTransfer opFill (instr 5 0 0 0 1 0 0x3000))).1), 0, (instr 5 0 0 0 1 0 0x3000), by decide +kernel, ok_of [] (by decide +kernel), by decide +kernel, by decide +kernel, Prod.ext rfl (by decide +kernel)⟩,
   ⟨(prog (instr 7 0 0 0 4 0x2000 0x3000)), ((((prog (instr 7 0 0 0 4 0x2000 0x3000)).launch 0 0 (instrTransfer opCheck (instr 7 0 0 0 4 0x2000 0x3000))).moveData 0 (instrTransfer opCheck (instr 7 0 0 0 4 0x2000 0x3000))).1), 0, (instr 7 0 0 0 4 0x2000 0x3000), by decide +kernel, ok_of [] (by decide +kernel), by decide +kernel, by decide +kernel, Prod.ext rfl (by decide +kernel)⟩,
   ⟨(prog (instr 5 0 0 0 1 0 0x200000000)), _, 0, (instr 5 0 0 0 1 0 0x200000000), _, by decide +kernel, ok_of [] (by decide +kernel), by decide +kernel, by decide +kernel, rfl⟩,
   ⟨(prog (instr 6 0 0 0 1 0x2000 0x3000)), ((((prog (instr 6 0 0 0 1 0x2000 0x3000)).launch 0 0 (instrTransfer opCompare (instr 6 0 0 0 1 0x2000 0x3000))).moveData 0 (instrTransfer opCompare (instr 6 0 0 0 1 0x2000 0x3000))).1), 0, (instr 6 0 0 0 1 0x2000 0x3000), by decide +kernel, ok_of [] (by decide +kernel), by decide +kernel, by decide +kernel, by decide +kernel, Prod.ext rfl (by decide +kernel)⟩,
   ⟨(prog (instr 6 2 0 0 1 0x1000 0x3000)), ((((prog (instr 6 2 0 0 1 0x1000 0x3000)).launch 0 0 (instrTransfer opCompare (instr 6 2 0 0 1 0x1000 0x3000))).moveData 0 (instrTransfer opCompare (instr 6 2 0 0 1 0x1000 0x3000))).1), 0, (instr 6 2 0 0 1 0x1000 0x3000), by decide +kernel, ok_of [] (by decide +kernel), by decide +kernel, by decide +kernel, by decide +kernel, by decide +kernel, Prod.ext rfl (by decide +kernel), by decide +kernel⟩,
   ⟨(prog (instr 2 0 3 0 1 0 0)), 0, (instr 2 0 3 0 1 0 0), by decide +kernel, ok_of [] (by decide +kernel), by decide +kernel, by decide +kernel, by decide +kernel⟩,
   ⟨(prog (instr 0 0 0 0 0 0 0)), 0, (instr 0 0 0 0 0 0 0), by decide +kernel, ok_of [] (by decide +kernel), by decide +kernel⟩,
   ⟨(prog (instr 8 0 0 0 0 0 0)), 0, (instr 8 0 0 0 0 0 0), by decide +kernel, ok_of [] (by decide +kernel), by decide +kernel⟩,
   ⟨((prog []).modPorter 0 (fun p => { p with live := { p.live with progBase := 2 ^ 35 } })), 0, _, by decide +kernel, rfl⟩,
   ⟨sv, 0, ({ (default : Transfer) with dst := 2 ^ 35, dstWidth := 1, srcWidth := 1 }), _, rfl⟩,
   ⟨(prog (instr 3 0 0 31 0 0 0)), 0, (instr 3 0 0 31 0 0 0), (.fence 31 0), by decide +kernel, ok_of [] (by decide +kernel), by decide +kernel, by decide +kernel, by decide +kernel⟩,
   ⟨((prog (instr 3 0 0 31 0 0 0)).modPorter 0 (fun p => { p with unconfirmed := [default] })), 0, (instr 3 0 0 31 0 0 0), by decide +kernel, ok_of [] (by decide +kernel), by decide +kernel, by decide +kernel⟩,
   ⟨(instr 3 0 0 31 0 0 0), by decide +kernel, by decide +kernel⟩,
   ⟨(instr 3 0 1 7 0 0 0), by decide +kernel, by decide +kernel⟩,
   ⟨(instr 3 0 2 0 0 0 0), by decide +kernel⟩,
   ⟨(sv.modPorter 0 (fun p => { p with waiting := some (.tb 0) })), 0, (.tb 0), by decide +kernel, by decide +kernel⟩,
   ⟨(sv.modPorter 0 (fun p => { p with waiting := some (.tb 1) })), 0, (.tb 1), by decide +kernel, by decide +kernel⟩,
   ⟨(prog (instr 4 8 0 31 0 0 0)), 0, (instr 4 8 0 31 0 0 0), by decide +kernel, ok_of [] (by decide +kernel), by decide +kernel, by decide +kernel, by decide +kernel, by decide +kernel, by decide +kernel⟩,
   ⟨(prog (instr 4 4 15 0 0 0x2000 0)), 0, (instr 4 4 15 0 0 0x2000 0), (List.replicate 64 0), by decide +kernel, ok_of [] (by decide +kernel), by decide +kernel, by decide +kernel, by decide +kernel, by decide +kernel, by decide +kernel, by decide +kernel, ok_of [] (by decide +kernel)⟩⟩

theorem witness_PorterDescriptors :
    (∃ (s : State) (n : Fin 16) (r : Nat), (s.porterCh n).live.mode = 3 ∧ (s.porterCh n).state ≠ 2 ∧ (s.porterCh n).clearing = false ∧ (s.porterCh n).halting = false ∧ (s.porterCh n).error = none ∧ s.holding = false ∧ s.routeFor (.porter n) = some r ∧ (s.porterShadow n).mode = 3) ∧
    (∃ (s u : State) (n r op : Nat) (b : Started), (descriptorTransfer op b.data).count ≠ 0 ∧ op ≠ opCompare ∧ ((s.modStarted r b.index (fun x => { x with taken := true })).launch n b.index (descriptorTransfer op b.data)).moveData n (descriptorTransfer op b.data) = (u, .ok)) ∧
    (∃ (s u : State) (n r op : Nat) (b : Started) (e : BusErr), (descriptorTransfer op b.data).count ≠ 0 ∧ ((s.modStarted r b.index (fun x => { x with taken := true })).launch n b.index (descriptorTransfer op b.data)).moveData n (descriptorTransfer op b.data) = (u, .failed e)) ∧
    (∃ (s u : State) (n r : Nat) (b : Started), (descriptorTransfer opCompare b.data).count ≠ 0 ∧ ((s.modStarted r b.index (fun x => { x with taken := true })).launch n b.index (descriptorTransfer opCompare b.data)).moveData n (descriptorTransfer opCompare b.data) = (u, .ok) ∧ (u.porterCh n).mismatch = true) ∧
    (∃ (s : State) (n r op : Nat) (b : Started), (descriptorTransfer op b.data).count = 0) ∧
    (∃ (s : State) (n : Fin 16), ((s.porterCh n).live.mode ≠ 3 ∨ (s.porterCh n).error.isSome = true)) :=
  ⟨⟨(((rt 3 0x10).modPorter 0 (fun p => { p with live := { p.live with mode := 3 } })).setReg .PORTER_CONFIG 0 0 3), 0, 3, by decide +kernel, by decide +kernel, by decide +kernel, by decide +kernel, by decide +kernel, by decide +kernel, by decide +kernel, by decide +kernel⟩,
   ⟨(rt 3 0x10), (((((rt 3 0x10).modStarted 3 0 (fun x => { x with taken := true })).launch 0 0 (descriptorTransfer opFill (descriptor 0x41 1 0 0x3000))).moveData 0 (descriptorTransfer opFill (descriptor 0x41 1 0 0x3000))).1), 0, 3, opFill, ({ (default : Started) with data := descriptor 0x41 1 0 0x3000 }), by decide +kernel, by decide +kernel, Prod.ext rfl (by decide +kernel)⟩,
   ⟨(rt 3 0x10), _, 0, 3, opFill, ({ (default : Started) with data := descriptor 0x41 1 0 0x200000000 }), _, by decide +kernel, rfl⟩,
   ⟨({ rt 3 0x10 with store := { sv.store with mem := [(0x2000, 1)] } }), (((({ rt 3 0x10 with store := { sv.store with mem := [(0x2000, 1)] } }.modStarted 3 0 (fun x => { x with taken := true })).launch 0 0 (descriptorTransfer opCompare (descriptor 0x42 1 0x2000 0x3000))).moveData 0 (descriptorTransfer opCompare (descriptor 0x42 1 0x2000 0x3000))).1), 0, 3, ({ (default : Started) with data := descriptor 0x42 1 0x2000 0x3000 }), by decide +kernel, Prod.ext rfl (by decide +kernel), by decide +kernel⟩,
   ⟨sv, 0, 3, opMove, ({ (default : Started) with data := descriptor 0x40 0 0 0 }), by decide +kernel⟩,
   ⟨sv, 15, by decide +kernel⟩⟩

theorem witness_SourceReception :
    (∃ (s : State) (i : Fin 4) (l : SdiLine), l.payload = none ∧ (s.srcRuns i = false ∨ (s.source i).signal = none)) ∧
    (∃ (s : State) (i : Fin 4) (l : SdiLine) (g : SdiSignal) (f : FrameSt), s.srcRuns i = true ∧ (s.source i).signal = some g ∧ s.holding = false ∧ (s.source i).fifo = [] ∧ (s.source i).frame = some f ∧ f.ended = false ∧ l.payload = none ∧ l.crcOk = true ∧ sdiRow g l ≠ 0) ∧
    (∃ (s : State) (i : Fin 4) (l : SdiLine) (g : SdiSignal), s.srcRuns i = true ∧ (s.source i).signal = some g ∧ s.holding = false ∧ (s.source i).fifo = [] ∧ l.payload = none ∧ l.crcOk = true ∧ sdiRow g l = 0) ∧
    (∃ (s : State) (i : Fin 4) (l : SdiLine) (g : SdiSignal) (f : FrameSt), s.srcRuns i = true ∧ (s.source i).signal = some g ∧ l.payload = none ∧ l.crcOk = false ∧ sdiRow g l ≠ 0 ∧ s.holding = true ∧ (s.source i).frame = some f ∧ f.ended = false) ∧
    (∃ (g : SdiSignal) (l : SdiLine), g.woven = true) ∧
    (∃ (g : SdiSignal) (l : SdiLine), g.woven = false) ∧
    (∃ (s : State) (i : Fin 4) (g : SdiSignal), srcEnabled (s.reg .SRC_CONFIG i) = false) ∧
    (∃ (s : State) (i : Fin 4) (g : SdiSignal), srcEnabled (s.reg .SRC_CONFIG i) = true) ∧
    (∃ (s : State) (i : Nat) (g : SdiSignal), i < 4 ∧ (s.source i).signal = some g ∧ (g.rateCode.val = 0 ∨ g.link ≠ .single ∨ g.sampling = false)) ∧
    (∃ (s : State) (i : Fin 8) (p : Fin 2) (k : RtpPacket), (s.srcRuns (i + 4) = false ∨ srcPath (s.reg .SRC_CONFIG (i + 4)) p = false)) ∧
    (∃ (s : State) (i : Fin 8) (p : Fin 2) (k : RtpPacket), s.srcRuns (i + 4) = true ∧ srcPath (s.reg .SRC_CONFIG (i + 4)) p = true) ∧
    (∃ (s : State) (i : Fin 8) (p : Fin 2) (k : RtpPacket), s.srcRuns (i + 4) = true ∧ srcPath (s.reg .SRC_CONFIG (i + 4)) p = true ∧ s.pathUp (i + 4) p = true ∧ (s.source (i + 4)).fifo = [] ∧ (s.source (i + 4)).early = [] ∧ (s.source (i + 4)).lastSeq = some (k.seq - 1) ∧ s.seqSeen (i + 4) k.seq = none) ∧
    (∃ (s : State) (i : Nat) (k : RtpPacket) (f : FrameSt), (s.source i).awaiting = false ∧ (s.source i).frame = some f ∧ f.ended = false ∧ (s.source i).lastSeq = some (k.seq - 1) ∧ (s.source i).prevRow ≤ (packetStart k (s.source i).prevRow).1) ∧
    (∃ (s : State) (i p : Nat), s.pathUp i p = true) :=
  ⟨⟨sv, 3, default, by decide +kernel, by decide +kernel⟩,
   ⟨((sv.setReg .SRC_CONFIG 0 0 1).modSource 0 (fun q => { q with state := 1, signal := some default, frame := some default })), 0, ({ (default : SdiLine) with line := 1, crcOk := true }), default, default, by decide +kernel, by decide +kernel, by decide +kernel, by decide +kernel, by decide +kernel, by decide +kernel, by decide +kernel, by decide +kernel, by decide +kernel⟩,
   ⟨((sv.setReg .SRC_CONFIG 0 0 1).modSource 0 (fun q => { q with state := 1, signal := some default })), 0, ({ (default : SdiLine) with line := 0, crcOk := true }), default, by decide +kernel, by decide +kernel, by decide +kernel, by decide +kernel, by decide +kernel, by decide +kernel, by decide +kernel⟩,
   ⟨(({ sv.setReg .SRC_CONFIG 0 0 1 with usb := { sv.usb with mode := .debugHold } } : State).modSource 0 (fun q => { q with state := 1, signal := some default, frame := some default })), 0, ({ (default : SdiLine) with line := 1, crcOk := false }), default, default, by decide +kernel, by decide +kernel, by decide +kernel, by decide +kernel, by decide +kernel, by decide +kernel, by decide +kernel, by decide +kernel⟩,
   ⟨({ (default : SdiSignal) with woven := true }), default, by decide +kernel⟩,
   ⟨default, default, by decide +kernel⟩,
   ⟨(sv.setReg .SRC_CONFIG 3 0 0), 3, default, by decide +kernel⟩,
   ⟨(sv.setReg .SRC_CONFIG 3 0 1), 3, default, by decide +kernel⟩,
   ⟨(sv.modSource 3 (fun q => { q with signal := some default })), 3, default, by decide +kernel, by decide +kernel, by decide +kernel⟩,
   ⟨(sv.setReg .SRC_CONFIG 4 0 0), 0, 0, default, by decide +kernel⟩,
   ⟨((sv.setReg .SRC_CONFIG 11 0 0x21).modSource 11 (fun q => { q with state := 1 })), 7, 1, default, by decide +kernel, by decide +kernel⟩,
   ⟨((sv.setReg .SRC_CONFIG 4 0 0x11).modSource 4 (fun q => { q with state := 1, pathA := true, lastSeq := some 4 })), 0, 0, ({ (default : RtpPacket) with seq := 5 }), by decide +kernel, by decide +kernel, by decide +kernel, by decide +kernel, by decide +kernel, by decide +kernel, by decide +kernel⟩,
   ⟨(sv.modSource 4 (fun q => { q with frame := some default, lastSeq := some 4 })), 4, ({ (default : RtpPacket) with seq := 5 }), default, by decide +kernel, by decide +kernel, by decide +kernel, by decide +kernel, by decide +kernel⟩,
   ⟨(sv.modSource 4 (fun q => { q with pathB := true })), 4, 1, by decide +kernel⟩⟩

theorem witness_FrameCompletes :
    (∃ (s : State) (i : Fin 12) (f : FrameSt) (k : Nat), s.holding = false ∧ (s.source i).fifo = [] ∧ (s.source i).early = [] ∧ (s.source i).frame = some f ∧ f.ended = true ∧ f.corrupt = false ∧ f.mismatch = false ∧ f.buf = some k ∧ (s.source i).state ≠ srcRefused ∧ (s.source i).state ≠ srcDisabled) ∧
    (∃ (s : State) (i : Fin 12) (f : FrameSt) (k : Nat), s.holding = false ∧ (s.source i).fifo = [] ∧ (s.source i).early = [] ∧ (s.source i).frame = some f ∧ f.ended = true ∧ f.corrupt = true ∧ f.mismatch = false ∧ f.buf = some k ∧ srcDiscards (s.reg .SRC_CONFIG i) = true ∧ (s.source i).state ≠ srcRefused ∧ (s.source i).state ≠ srcDisabled) ∧
    (∃ (s : State) (i : Fin 12) (f : FrameSt) (k : Nat), s.holding = false ∧ (s.source i).fifo = [] ∧ (s.source i).early = [] ∧ (s.source i).frame = some f ∧ f.ended = true ∧ f.mismatch = true ∧ f.buf = some k ∧ srcDiscards (s.reg .SRC_CONFIG i) = true) ∧
    (∃ (s : State) (i : Fin 12), (s.source i).early = [] ∧ s.holding = true) :=
  ⟨⟨(sv.modSource 11 (fun q => { q with state := 1, frame := some { (default : FrameSt) with ended := true, buf := some 2 } })), 11, ({ (default : FrameSt) with ended := true, buf := some 2 }), 2, by decide +kernel, by decide +kernel, by decide +kernel, by decide +kernel, by decide +kernel, by decide +kernel, by decide +kernel, by decide +kernel, by decide +kernel, by decide +kernel⟩,
   ⟨((sv.setReg .SRC_CONFIG 0 0 4).modSource 0 (fun q => { q with state := 1, frame := some { (default : FrameSt) with ended := true, corrupt := true, buf := some 0 } })), 0, ({ (default : FrameSt) with ended := true, corrupt := true, buf := some 0 }), 0, by decide +kernel, by decide +kernel, by decide +kernel, by decide +kernel, by decide +kernel, by decide +kernel, by decide +kernel, by decide +kernel, by decide +kernel, by decide +kernel, by decide +kernel⟩,
   ⟨((sv.setReg .SRC_CONFIG 4 0 4).modSource 4 (fun q => { q with state := 1, frame := some { (default : FrameSt) with ended := true, mismatch := true, buf := some 0 } })), 4, ({ (default : FrameSt) with ended := true, mismatch := true, buf := some 0 }), 0, by decide +kernel, by decide +kernel, by decide +kernel, by decide +kernel, by decide +kernel, by decide +kernel, by decide +kernel, by decide +kernel⟩,
   ⟨({ sv with usb := { sv.usb with mode := .debugHold } }), 11, by decide +kernel, by decide +kernel⟩⟩

theorem witness_SourceLossAndSettings :
    (∃ (s : State) (i : Fin 4), (s.source i).state = srcLocked) ∧
    (∃ (s : State) (i : Fin 8), (s.source (i + 4)).state = srcLocked) ∧
    (∃ (s : State) (i : Fin 4), (s.source i).state ≠ srcLocked ∧ (s.source i).state ≠ srcSearching) ∧
    (∃ (s : State) (i : Fin 12), (s.source i).state = srcHolding ∧ srcLossHold (s.reg .SRC_CONFIG i) ≠ 0) ∧
    (∃ (s : State) (i : Fin 12), ((s.source i).state ≠ srcHolding ∨ srcLossHold (s.reg .SRC_CONFIG i) = 0)) ∧
    (∃ (s : State) (i : Fin 8) (p : Fin 2), s.pathUp (i + 4) p = false) ∧
    (∃ (s : State) (i : Fin 8) (p : Fin 2), s.pathUp (i + 4) p = true ∧ fld (s.reg .SRC_CONFIG (i + 4)) 4 2 ≠ 3) ∧
    (∃ (s : State) (i : Fin 8) (p : Fin 2), s.pathUp (i + 4) p = true ∧ fld (s.reg .SRC_CONFIG (i + 4)) 4 2 = 3) ∧
    (∃ (s : State) (i st reason : Nat), (s.source i).state ≠ st) ∧
    (∃ (s : State) (acc : Accessor) (i : Fin 12) (v : Word), s.Accepts acc .SRC_CONFIG i) ∧
    (∃ (s : State) (acc : Accessor) (i : Fin 12) (v : Word), s.Accepts acc .SRC_NET_FORMAT i) ∧
    (∃ (s : State) (acc : Accessor) (i : Fin 12) (v : Word), s.Accepts acc .SRC_NET_SIZE i) ∧
    (∃ (s : State) (acc : Accessor) (i : Fin 12) (v : Word), s.Accepts acc .SRC_BASE_HIGH i) ∧
    (∃ (s : State) (i : Nat), (s.source i).newest.isSome = true) :=
  ⟨⟨(sv.modSource 3 (fun q => { q with state := srcLocked })), 3, by decide +kernel⟩,
   ⟨(sv.modSource 11 (fun q => { q with state := srcLocked })), 7, by decide +kernel⟩,
   ⟨sv, 3, by decide +kernel, by decide +kernel⟩,
   ⟨((sv.setReg .SRC_CONFIG 0 0 0x10000).modSource 0 (fun q => { q with state := srcHolding })), 0, by decide +kernel, by decide +kernel⟩,
   ⟨sv, 11, by decide +kernel⟩,
   ⟨sv, 7, 1, by decide +kernel⟩,
   ⟨((sv.setReg .SRC_CONFIG 4 0 0x10).modSource 4 (fun q => { q with pathA := true })), 0, 0, by decide +kernel, by decide +kernel⟩,
   ⟨((sv.setReg .SRC_CONFIG 4 0 0x30).modSource 4 (fun q => { q with pathA := true })), 0, 0, by decide +kernel, by decide +kernel⟩,
   ⟨sv, 11, 3, 0, by decide +kernel⟩,
   ⟨sv, .usb, 11, 1, by decide +kernel⟩,
   ⟨sv, .usb, 11, 1, by decide +kernel⟩,
   ⟨sv, .usb, 11, 1, by decide +kernel⟩,
   ⟨sv, .usb, 11, 1, by decide +kernel⟩,
   ⟨(sv.modSource 0 (fun q => { q with newest := some 1 })), 0, by decide +kernel⟩⟩

theorem witness_SkeinReadsAndFailures :
    (∃ (s : State) (n : Fin 96) (a y : Nat) (q : SkeinRec), (s.skein n).outstanding.length < 32 ∧ s.creditsUsed < 512 ∧ s.nextRead n = some (a, y) ∧ s.slotFor a = true ∧ s.pattern.skein? n = some q ∧ s.firstSkein q.head = some n.val ∧ s.headTurn q.head = true) ∧
    (∃ (s : State) (n : Fin 96), (32 ≤ (s.skein n).outstanding.length ∨ 512 ≤ s.creditsUsed ∨ s.nextRead n = none ∨ (∀ a y, s.nextRead n = some (a, y) → s.slotFor a = false) ∨ (∀ q, s.pattern.skein? n = some q → s.firstSkein q.head ≠ some n.val ∨ s.headTurn q.head = false))) ∧
    (∃ (s : State) (n : Fin 96) (i a y : Nat) (b : List Byte), (s.skein n).outstanding[i]? = some (a, y) ∧ s.storeRead a 256 = .ok b ∧ y ≠ 65536 ∧ (s.skein n).closedLines.any (fun c => c.1 == y) = false) ∧
    (∃ (s : State) (n : Fin 96) (i a y : Nat) (e : Nat × Nat), (s.skein n).outstanding[i]? = some (a, y) ∧ s.storeRead a 256 = .error e ∧ (s.skein n).badThisFrame = false) ∧
    (∃ (s : State) (n : Fin 96) (i : Nat), (s.skein n).outstanding[i]? = none) ∧
    (∃ (s : State) (n : Fin 96) (p : SkeinPart) (bad : Bool), (s.skein n).retired = false ∧ (s.skein n).queued = false) ∧
    (∃ (s : State) (n : Fin 96) (p : SkeinPart) (bad : Bool), ((s.skein n).retired = true ∨ (s.skein n).queued = true)) ∧
    (∃ (s : State) (m : Fin 32), ((s.needle m).retired = true ∨ (s.needle m).queued = true)) ∧
    (∃ (s : State) (m : Fin 32), (s.needle m).retired = false ∧ (s.needle m).queued = false ∧ (∀ n : Nat, n < 96 → (s.skein n).needle ≠ some m.val)) :=
  ⟨⟨(skv.modSkein 95 (fun k => { k with outstanding := List.replicate 511 (0x700000000, 0) })), 0, 0, 0, _, by decide +kernel, by decide +kernel, by decide +kernel, by decide +kernel, rfl, by decide +kernel, by decide +kernel⟩,
   ⟨(skv.modSkein 0 (fun k => { k with outstanding := List.replicate 32 default })), 0, Or.inl (by decide +kernel)⟩,
   ⟨(sv.modSkein 95 (fun k => { k with outstanding := [(0x1FFFFFF00, 31)] })), 95, 0, 0x1FFFFFF00, 31, (List.replicate 256 0), by decide +kernel, ok_of [] (by decide +kernel), by decide +kernel, by decide +kernel⟩,
   ⟨(sv.modSkein 95 (fun k => { k with outstanding := [(0x200000000, 31)] })), 95, 0, 0x200000000, 31, _, by decide +kernel, rfl, by decide +kernel⟩,
   ⟨sv, 95, 0, by decide +kernel⟩,
   ⟨sv, 95, .lineStore, true, by decide +kernel, by decide +kernel⟩,
   ⟨(sv.modSkein 95 (fun k => { k with queued := true })), 95, .registerSet, false, by decide +kernel⟩,
   ⟨(sv.modNeedle 31 (fun k => { k with retired := true })), 31, by decide +kernel⟩,
   ⟨sv, 31, by decide +kernel, by decide +kernel, fun n hn => (by decide +kernel : ∀ n : Nat, n < 96 → (sv.skein n).needle ≠ some ((31 : Fin 32) : Nat)) n hn⟩⟩

theorem witness_NeedleTests :
    (∃ (s : State) (m : Fin 32), bitAt (s.reg .NEEDLE_TEST_CONTROL) 0 = true ∧ s.inService m = false ∧ (s.needle m).retired = false ∧ (s.needle m).queued = false ∧ s.needles.any (fun p => p.2.testing) = false) ∧
    (∃ (s : State) (m : Fin 32), (bitAt (s.reg .NEEDLE_TEST_CONTROL) 0 = false ∨ s.inService m = true ∨ (s.needle m).retired = true ∨ (s.needle m).queued = true ∨ s.needles.any (fun p => p.2.testing) = true)) ∧
    (∃ (s : State) (m : Fin 32), (s.needle m).testing = true ∧ (s.needle m).draining = false) ∧
    (∃ (s : State) (m : Fin 32), (s.needle m).testing = true ∧ (s.needle m).draining = false) ∧
    (∃ (s : State) (m : Fin 32) (pass : Bool), ((s.needle m).testing = false ∨ (s.needle m).draining = true)) ∧
    (∃ (s : State) (m : Fin 32), (s.needle m).testing = true ∧ (s.needle m).draining = true) ∧
    (∃ (s : State) (m : Fin 32), ((s.needle m).testing = false ∨ (s.needle m).draining = false)) ∧
    (∃ (s : State) (acc : Accessor) (n : Fin 96) (v : Word), s.Accepts acc .SKEIN_NEEDLE n) ∧
    (∃ (s : State) (m : Nat), (s.needle m).testing = true ∧ s.inService m = true ∧ s.needles.any (fun p => p.1 == m) = true ∧ s.needles.Pairwise (fun p q => p.1 < q.1)) :=
  ⟨⟨(sv.setReg .NEEDLE_TEST_CONTROL 0 0 1), 31, by decide +kernel, by decide +kernel, by decide +kernel, by decide +kernel, by decide +kernel⟩,
   ⟨(sv.setReg .NEEDLE_TEST_CONTROL 0 0 0), 31, by decide +kernel⟩,
   ⟨(sv.modNeedle 31 (fun k => { k with testing := true })), 31, by decide +kernel, by decide +kernel⟩,
   ⟨(sv.modNeedle 31 (fun k => { k with testing := true })), 31, by decide +kernel, by decide +kernel⟩,
   ⟨sv, 31, true, by decide +kernel⟩,
   ⟨(sv.modNeedle 31 (fun k => { k with testing := true, draining := true })), 31, by decide +kernel, by decide +kernel⟩,
   ⟨sv, 31, by decide +kernel⟩,
   ⟨sv, .usb, 95, 0x21F, by decide +kernel⟩,
   ⟨((sv.setReg .SKEIN_NEEDLE 7 0 0x21E).modNeedle 30 (fun k => { k with testing := true })), 30, by decide +kernel, by decide +kernel, by decide +kernel, by decide +kernel⟩⟩

theorem witness_DisplayPort :
    (∃ (s : State) (p : Fin 4) (k : SinkCaps), (s.dpPort p).hpd = true ∧ (s.portUse p).isSome = true ∧ (s.dpPort p).sink = none) ∧
    (∃ (s : State) (p : Fin 4) (k : SinkCaps), (s.dpPort p).hpd = true ∧ s.outputOff = false ∧ (s.portUse p).isNone = true ∧ (s.dpPort p).sink = none) ∧
    (∃ (s : State) (p : Fin 4) (k : SinkCaps), ((s.dpPort p).hpd = false ∨ s.outputOff = true ∨ (s.dpPort p).sink.isSome = true)) ∧
    (∃ (s : State) (p : Fin 4) (n : Nat), (s.dpPort p).state = 2 ∧ (s.dpPort p).attempts = 0 ∧ (trainSteps (s.trainStart p).1 (s.trainStart p).2).length ≤ n) ∧
    (∃ (s : State) (p : Fin 4) (n : Nat) (k : SinkCaps), (s.dpPort p).sink = some k ∧ ∃ x y, (trainSteps (s.trainStart p).1 (s.trainStart p).2)[n]? = some x ∧ (trainSteps (s.trainStart p).1 (s.trainStart p).2)[n + 1]? = some y) ∧
    (∃ (s : State) (p : Fin 4) (n code lanes : Nat), (s.dpPort p).state = 2 ∧ (trainSteps (s.trainStart p).1 (s.trainStart p).2)[n]? = some (code, lanes)) ∧
    (∃ (s : State) (p : Fin 4) (n : Nat), (s.dpPort p).state ≠ 2) ∧
    (∃ (s : State) (p : Fin 4), (s.dpPort p).hpd = true ∧ (s.dpPort p).state = 3) ∧
    (∃ (s : State) (acc : Accessor) (p : Fin 4) (v : Word), s.Accepts acc .DP_CONFIG p ∧ 2 ≤ (s.dpPort p).state ∧ (s.portUse p).isSome = true) ∧
    (∃ (s : State) (acc : Accessor) (p : Fin 4) (v : Word), s.Accepts acc .DP_CONFIG p ∧ (s.dpPort p).state < 2) :=
  ⟨⟨({ pv with dp := [(0, { (default : DpSt) with hpd := true })] }), 0, default, by decide +kernel, by decide +kernel, by decide +kernel⟩,
   ⟨({ pv with dp := [(3, { (default : DpSt) with hpd := true })] }), 3, default, by decide +kernel, by decide +kernel, by decide +kernel, by decide +kernel⟩,
   ⟨sv, 3, default, by decide +kernel⟩,
   ⟨({ sv with dp := [(3, { (default : DpSt) with state := 2 })] }), 3, 1, by decide +kernel, by decide +kernel, by decide +kernel⟩,
   ⟨({ sv with dp := [(3, { (default : DpSt) with state := 2, sink := some ⟨3, 4, []⟩ })] }), 3, 4, ⟨3, 4, []⟩, by decide +kernel, (0, 2), (0, 1), by decide +kernel, by decide +kernel⟩,
   ⟨({ sv with dp := [(3, { (default : DpSt) with state := 2, sink := some ⟨3, 4, []⟩ })] }), 3, 3, 0, 4, by decide +kernel, by decide +kernel⟩,
   ⟨sv, 3, 0, by decide +kernel⟩,
   ⟨({ sv with dp := [(3, { (default : DpSt) with hpd := true, state := 3 })] }), 3, by decide +kernel, by decide +kernel⟩,
   ⟨({ pv with dp := [(0, { (default : DpSt) with state := 2 })] }), .usb, 0, 0x1000, by decide +kernel, by decide +kernel, by decide +kernel⟩,
   ⟨sv, .usb, 3, 0x1000, by decide +kernel, by decide +kernel⟩⟩

theorem witness_RasterJobsAndFrames :
    (∃ (s : State) (c : Fin 4) (r : Nat) (b : Started), s.rasterJob c 0x20 = some (r, b) ∧ s.noCore = false ∧ (targetOf b.data).valid = true) ∧
    (∃ (s : State) (c : Fin 4) (r : Nat) (b : Started), s.rasterJob c 0x20 = some (r, b) ∧ s.noCore = false ∧ (targetOf b.data).valid = false) ∧
    (∃ (s : State) (c : Fin 4) (r : Nat) (b : Started), s.rasterJob c 0x21 = some (r, b) ∧ s.noCore = false ∧ (textureOf b.data).valid = true) ∧
    (∃ (s : State) (c : Fin 4) (r : Nat) (b : Started), s.rasterJob c 0x21 = some (r, b) ∧ s.noCore = false ∧ (textureOf b.data).valid = false) ∧
    (∃ (s : State) (c : Fin 4) (r : Nat) (b : Started) (g : ReTarget), s.rasterJob c 0x22 = some (r, b) ∧ s.noCore = false ∧ (s.context c).target = some g ∧ leAt b.data 0x1D 1 = 0xFF ∧ (s.context c).binFull = false) ∧
    (∃ (s : State) (c : Fin 4) (r : Nat) (b : Started), s.rasterJob c 0x22 = some (r, b) ∧ s.noCore = false ∧ (s.context c).target = none) ∧
    (∃ (s : State) (c : Fin 4) (r : Nat) (b : Started) (g : ReTarget), s.rasterJob c 0x22 = some (r, b) ∧ s.noCore = false ∧ (s.context c).target = some g ∧ (s.context c).binFull = true ∧ leAt b.data 0x1D 1 = 0xFF) ∧
    (∃ (s : State) (c : Fin 4) (r : Nat) (b : Started) (g : ReTarget), s.rasterJob c 0x23 = some (r, b) ∧ s.noCore = false ∧ (s.context c).target = some g ∧ c.val ≠ 0) ∧
    (∃ (s : State) (c : Fin 4) (r : Nat) (b : Started) (op : Nat) (f : Nat → Started → State), s.rasterJob c op = some (r, b) ∧ s.noCore = true) ∧
    (∃ (s : State) (c : Fin 4), s.holding = true) ∧
    (∃ (s : State) (c : Fin 4) (d : Nat × Started) (rest : List (Nat × Started)), s.openDraws c = d :: rest ∧ ((s.context c).drawing ≠ some d.2.index ∨ ((s.context c).toBin = [] ∧ (s.context c).growWait = false))) ∧
    (∃ (s : State) (c : Fin 4) (d : Nat × Started) (rest : List (Nat × Started)), s.openDraws c = d :: rest ∧ (s.context c).drawing = some d.2.index ∧ ((s.context c).toBin ≠ [] ∨ (s.context c).growWait = true)) ∧
    (∃ (s : State) (c : Fin 4), s.openDraws c = []) ∧
    (∃ (s : State) (c : Nat), (s.context c).partialOn = false ∧ bitAt (s.reg .RE_CONTEXT_CONTROL c) 1 = false) ∧
    (∃ (s : State) (c : Fin 4), (s.context c).rendering = true ∧ (s.context c).tiles = [] ∧ s.routeFor (.raster c) = none ∧ (s.holding = false ∨ (s.context c).writeBad = false)) ∧
    (∃ (s : State) (c : Fin 4) (r : Nat) (b : Started), (s.context c).rendering = true ∧ (s.context c).tiles = [] ∧ s.routeFor (.raster c) = some r ∧ (s.route r).started.find? (fun b => b.taken && !b.done && baleOpcode b.data == 0x23) = some b ∧ (s.context c).writeBad = false) ∧
    (∃ (s : State) (c : Fin 4) (r : Nat) (b : Started), (s.context c).rendering = true ∧ (s.context c).tiles = [] ∧ s.routeFor (.raster c) = some r ∧ (s.route r).started.find? (fun b => b.taken && !b.done && baleOpcode b.data == 0x23) = some b ∧ (s.context c).writeBad = true ∧ s.holding = false) ∧
    (∃ (s : State) (c : Fin 4) (r : Nat) (b : Started), (s.context c).rendering = true ∧ (s.context c).tiles = [] ∧ s.routeFor (.raster c) = some r ∧ (s.route r).started.find? (fun b => b.taken && !b.done && baleOpcode b.data == 0x23) = some b ∧ (s.context c).writeBad = true ∧ s.holding = true) ∧
    (∃ (s : State) (c : Fin 4), ((s.context c).rendering = false ∨ (s.context c).tiles ≠ [])) ∧
    (∃ (s : State) (c : Fin 4), (s.context c).growWait = true) ∧
    (∃ (s : State) (c : Fin 4), (s.context c).growWait = false) ∧
    (∃ (s : State) (acc : Accessor) (c : Fin 4) (v : Word), s.Accepts acc .RE_BIN_GROW_SIZE c ∧ (s.context c).extents.length < 8 ∧ (s.context c).growWait = false ∧ s.inRasterBin (s.pair .RE_BIN_GROW_LOW c) (4096 * (s.keptValue .RE_BIN_GROW_SIZE c v).toNat) = true) ∧
    (∃ (s : State) (acc : Accessor) (c : Fin 4) (v : Word), s.Accepts acc .RE_BIN_GROW_SIZE c ∧ 8 ≤ (s.context c).extents.length) :=
  ⟨⟨(rst targetBytes), 0, 1, (started targetBytes), by decide +kernel, by decide +kernel, by decide +kernel⟩,
   ⟨(rst [0x20]), 0, 1, (started [0x20]), by decide +kernel, by decide +kernel, by decide +kernel⟩,
   ⟨(rst [0x21, 0, 0, 0, 0, 0, 0, 0, 15, 0, 0, 16, 14]), 0, 1, (started [0x21, 0, 0, 0, 0, 0, 0, 0, 15, 0, 0, 16, 14]), by decide +kernel, by decide +kernel, by decide +kernel⟩,
   ⟨(rst [0x21, 0, 0, 0, 0, 0, 0, 0, 16, 0, 0, 16, 14]), 0, 1, (started [0x21, 0, 0, 0, 0, 0, 0, 0, 16, 0, 0, 16, 14]), by decide +kernel, by decide +kernel, by decide +kernel⟩,
   ⟨((rst ([0x22] ++ List.replicate 28 0 ++ [0xFF])).modContext 0 (fun k => { k with target := some target0 })), 0, 1, (started ([0x22] ++ List.replicate 28 0 ++ [0xFF])), target0, by decide +kernel, by decide +kernel, by decide +kernel, by decide +kernel, by decide +kernel⟩,
   ⟨(rst [0x22]), 0, 1, (started [0x22]), by decide +kernel, by decide +kernel, by decide +kernel⟩,
   ⟨((rst ([0x22] ++ List.replicate 28 0 ++ [0xFF])).modContext 0 (fun k => { k with target := some target0, binFull := true })), 0, 1, (started ([0x22] ++ List.replicate 28 0 ++ [0xFF])), target0, by decide +kernel, by decide +kernel, by decide +kernel, by decide +kernel, by decide +kernel⟩,
   ⟨(((rt 1 2).modRoute 1 (fun q => { q with started := [started [0x23]] })).modContext 1 (fun k => { k with target := some target0 })), 1, 1, (started [0x23]), target0, by decide +kernel, by decide +kernel, by decide +kernel, by decide +kernel⟩,
   ⟨((List.range 8).foldl (fun s k => s.modCore k (fun c => { c with retired := true })) (rst [0x20])), 0, 1, (started [0x20]), 0x20, (fun _ _ => sv), by decide +kernel, by decide +kernel⟩,
   ⟨({ sv with usb := { sv.usb with mode := .debugHold } }), 3, by decide +kernel⟩,
   ⟨((rt 1 1).modRoute 1 (fun q => { q with started := [{ started [0x22] with taken := true }] })), 0, (1, { started [0x22] with taken := true }), [], by decide +kernel, by decide +kernel⟩,
   ⟨(((rt 1 1).modRoute 1 (fun q => { q with started := [{ started [0x22] with taken := true }] })).modContext 0 (fun k => { k with drawing := some (started [0x22]).index, growWait := true })), 0, (1, { started [0x22] with taken := true }), [], by decide +kernel, by decide +kernel, by decide +kernel⟩,
   ⟨sv, 3, by decide +kernel⟩,
   ⟨sv, 3, by decide +kernel, by decide +kernel⟩,
   ⟨(sv.modContext 3 (fun k => { k with rendering := true })), 3, by decide +kernel, by decide +kernel, by decide +kernel, by decide +kernel⟩,
   ⟨(((rt 1 1).modRoute 1 (fun q => { q with started := [{ started [0x23] with taken := true }] })).modContext 0 (fun k => { k with rendering := true })), 0, 1, ({ started [0x23] with taken := true }), by decide +kernel, by decide +kernel, by decide +kernel, by decide +kernel, by decide +kernel⟩,
   ⟨(((rt 1 1).modRoute 1 (fun q => { q with started := [{ started [0x23] with taken := true }] })).modContext 0 (fun k => { k with rendering := true, writeBad := true })), 0, 1, ({ started [0x23] with taken := true }), by decide +kernel, by decide +kernel, by decide +kernel, by decide +kernel, by decide +kernel, by decide +kernel⟩,
   ⟨(hold (((rt 1 1).modRoute 1 (fun q => { q with started := [{ started [0x23] with taken := true }] })).modContext 0 (fun k => { k with rendering := true, writeBad := true }))), 0, 1, ({ started [0x23] with taken := true }), by decide +kernel, by decide +kernel, by decide +kernel, by decide +kernel, by decide +kernel, by decide +kernel⟩,
   ⟨sv, 3, by decide +kernel⟩,
   ⟨(sv.modContext 3 (fun k => { k with growWait := true })), 3, by decide +kernel⟩,
   ⟨sv, 3, by decide +kernel⟩,
   ⟨((({ sv with pairs := [((Reg.RE_BIN_GROW_LOW).addr 3, 0x1F000)], pat := { sv.pat with running := some { (default : Pattern) with regions := [⟨3, 1, 0x10000⟩] } } } : State).modContext 3 (fun k => { k with extents := List.replicate 7 default }))), .usb, 3, 1, by decide +kernel, by decide +kernel, by decide +kernel, by decide +kernel⟩,
   ⟨(sv.modContext 3 (fun k => { k with extents := List.replicate 8 default })), .usb, 3, 1, by decide +kernel, by decide +kernel⟩⟩

theorem witness_RasterCores :
    (∃ (s : State) (k : Fin 8) (c i : Nat), (s.core k).retired = false ∧ (s.core k).queued = false ∧ (s.core k).busy = none ∧ s.holding = false ∧ s.passFor k = some (c, i) ∧ (s.core k).testing = false) ∧
    (∃ (s : State) (k : Fin 8), ((s.core k).retired = true ∨ (s.core k).queued = true ∨ (s.core k).busy.isSome = true ∨ s.holding = true)) ∧
    (∃ (s : State) (k : Fin 8), (s.core k).busy = none) ∧
    (∃ (s : State) (k : Fin 8) (c i : Nat) (x : ReTile), (s.core k).busy = some (c, i) ∧ (s.context c).tiles.find? (fun t => t.index == i) = some x) ∧
    (∃ (s : State) (k : Fin 8) (c i : Nat) (x : ReTile), (s.core k).busy = some (c, i) ∧ (s.context c).tiles.find? (fun t => t.index == i) = some x ∧ x.passes ≤ 1 ∧ s.holding = true) ∧
    (∃ (s : State) (k : Fin 8), ((s.core k).retired = true ∨ (s.core k).queued = true)) ∧
    (∃ (s : State) (k : Fin 8), (s.core k).retired = false ∧ (s.core k).queued = false) ∧
    (∃ (s : State) (k : Fin 8), bitAt (s.reg .RE_TEST_CONTROL) 0 = true ∧ (s.core k).retired = false ∧ (s.core k).queued = false ∧ (s.core k).testing = false ∧ (s.core k).busy = none ∧ (∀ c : Nat, c < 4 → (s.context c).tiles.any (fun t => t.core == some k.val) = false)) ∧
    (∃ (s : State) (k : Fin 8), (s.core k).testing = true) ∧
    (∃ (s : State) (k : Fin 8) (r : TestResult), (s.core k).testing = false) ∧
    (∃ (s : State) (n : Nat), 100 ≤ n ∧ s.raster.throttle ≠ 2) ∧
    (∃ (s : State) (n : Nat), 95 ≤ n ∧ n < 100 ∧ s.raster.throttle = 0) ∧
    (∃ (s : State) (n : Nat), n < 95) ∧
    (∃ (s : State), s.raster.throttle = 0) ∧
    (∃ (s : State), 0 < s.raster.throttle ∧ s.raster.throttle ≤ 2) :=
  ⟨⟨(sv.modContext 3 (fun k => { k with rendering := true, tiles := [default] })), 7, 3, 0, by decide +kernel, by decide +kernel, by decide +kernel, by decide +kernel, by decide +kernel, by decide +kernel⟩,
   ⟨(sv.modCore 7 (fun c => { c with queued := true })), 7, by decide +kernel⟩,
   ⟨sv, 7, by decide +kernel⟩,
   ⟨((sv.modCore 7 (fun c => { c with busy := some (3, 0) })).modContext 3 (fun k => { k with rendering := true, tiles := [default] })), 7, 3, 0, default, by decide +kernel, by decide +kernel⟩,
   ⟨({ ((sv.modCore 7 (fun c => { c with busy := some (3, 0) })).modContext 3 (fun k => { k with tiles := [default] })) with usb := { sv.usb with mode := .debugHold } }), 7, 3, 0, default, by decide +kernel, by decide +kernel, by decide +kernel, by decide +kernel⟩,
   ⟨(sv.modCore 7 (fun c => { c with retired := true })), 7, by decide +kernel⟩,
   ⟨sv, 7, by decide +kernel, by decide +kernel⟩,
   ⟨(sv.setReg .RE_TEST_CONTROL 0 0 1), 7, by decide +kernel, by decide +kernel, by decide +kernel, by decide +kernel, by decide +kernel, by decide +kernel⟩,
   ⟨(sv.modCore 7 (fun c => { c with testing := true })), 7, by decide +kernel⟩,
   ⟨sv, 7, .pass, by decide +kernel⟩,
   ⟨sv, 100, by decide +kernel, by decide +kernel⟩,
   ⟨sv, 99, by decide +kernel, by decide +kernel, by decide +kernel⟩,
   ⟨sv, 94, by decide +kernel⟩,
   ⟨sv, by decide +kernel⟩,
   ⟨({ sv with raster := { sv.raster with throttle := 2 } }), by decide +kernel, by decide +kernel⟩⟩

theorem witness_BlockEngine :
    (∃ (s : State) (acc : Accessor) (v : Word), s.Accepts acc .BE_CONTROL ∧ s.regOpBusy = false) ∧
    (∃ (s : State) (acc : Accessor) (v : Word), s.Accepts acc .BE_CONTROL ∧ s.regOpBusy = true) ∧
    (∃ (s : State) (r : Fin 16) (b : Started), s.consumer r = .block ∧ s.holding = false ∧ s.nextStarted r 0x30 = some b) ∧
    (∃ (s : State) (r : Fin 16) (b : Started), s.consumer r = .block ∧ s.holding = false ∧ s.nextStarted r 0x31 = some b) ∧
    (∃ (s u : State) (o : BlockOp) (k : Nat) (r : BlockRun), s.holding = false ∧ s.nextOp = some o ∧ (List.range 4).find? (fun k => (s.slotAt k).isNone) = some k ∧ s.runBlock o = (r, u) ∧ o.bale = none) ∧
    (∃ (s : State), (s.holding = true ∨ s.nextOp = none)) ∧
    (∃ (s : State) (k : Fin 4) (r : BlockRun), s.slotAt k = some r ∧ r.todo = [] ∧ r.reason = 0 ∧ r.op.bale = none ∧ r.op.eventOnDone = false) ∧
    (∃ (s : State) (k : Fin 4) (r : BlockRun), s.slotAt k = some r ∧ r.todo = [] ∧ r.reason ≠ 0 ∧ r.op.bale = none ∧ r.op.eventOnDone = false) ∧
    (∃ (s : State) (k : Fin 4), s.slotAt k = none) ∧
    (∃ (s : State) (k : Fin 4) (r : BlockRun), s.slotAt k = some r ∧ s.holding = true ∧ r.reason ≠ 0 ∧ r.op.bale ≠ none) ∧
    (∃ (s : State) (a n : Nat) (e : Nat × Nat), s.storeRead a n = .error e) ∧
    (∃ (s : State) (r : BlockRun) (m : UnitMove) (bs : List Byte) (e : Option (Nat × Nat)) (u : State), s.unitData r m.data = .ok bs ∧ s.storeWrite m.dst bs = (u, e)) ∧
    (∃ (s : State) (r : BlockRun) (a n : Nat) (bs : List Byte), r.kept = [] ∧ s.storeRead a n = .ok bs) ∧
    (∃ (s : State) (r : Nat), s.consumer r = .block ∧ 4 ≤ (s.blockRoutes.map s.openCount).foldl (· + ·) (if s.regOpBusy then 1 else 0) ∧ (s.route r).resetting = none ∧ (∀ f ∈ (s.route r).fetched, f.data.isSome = true)) :=
  ⟨⟨sv, .usb, 1, by decide +kernel, by decide +kernel⟩,
   ⟨({ sv with block := { sv.block with regWait := some default } }), .usb, 1, by decide +kernel, by decide +kernel⟩,
   ⟨((rt 3 5).modRoute 3 (fun q => { q with started := [started [0x30]] })), 3, (started [0x30]), by decide +kernel, by decide +kernel, by decide +kernel⟩,
   ⟨((rt 3 5).modRoute 3 (fun q => { q with started := [started [0x31]] })), 3, (started [0x31]), by decide +kernel, by decide +kernel, by decide +kernel⟩,
   ⟨({ sv with block := { sv.block with regWait := some default } }), _, default, 0, _, by decide +kernel, by decide +kernel, by decide +kernel, rfl, by decide +kernel⟩,
   ⟨sv, by decide +kernel⟩,
   ⟨({ sv with block := { sv.block with slots := [(3, some default)] } }), 3, default, by decide +kernel, by decide +kernel, by decide +kernel, by decide +kernel, by decide +kernel⟩,
   ⟨({ sv with block := { sv.block with slots := [(3, some { (default : BlockRun) with reason := 9 })] } }), 3, ({ (default : BlockRun) with reason := 9 }), by decide +kernel, by decide +kernel, by decide +kernel, by decide +kernel, by decide +kernel⟩,
   ⟨sv, 3, by decide +kernel⟩,
   ⟨(hold { sv with block := { sv.block with slots := [(3, some { (default : BlockRun) with reason := 9, op := { (default : BlockOp) with bale := some (3, 0) } })] } }), 3, ({ (default : BlockRun) with reason := 9, op := { (default : BlockOp) with bale := some (3, 0) } }), by decide +kernel, by decide +kernel, by decide +kernel, by decide +kernel⟩,
   ⟨State.reset, 0, 1, _, rfl⟩,
   ⟨sv, default, ⟨0x40, .fill [1]⟩, [1], none, _, rfl, rfl⟩,
   ⟨sv, default, 0, 1, _, rfl, rfl⟩,
   ⟨({ ((rt 3 5).modRoute 3 (fun q => { q with started := List.replicate 3 (started [0x30]), fetched := [⟨0, some (bale [0x30])⟩] })) with block := { sv.block with regWait := some default } }), 3, by decide +kernel, by decide +kernel, by decide +kernel, by decide +kernel⟩⟩

theorem witness_TimeBaseAndCompare :
    (∃ (s : State), s.power.standby = true ∧ s.time.lfclk ≠ s.wantsLfclk) ∧
    (∃ (s : State), (s.power.standby = false ∨ s.time.lfclk = s.wantsLfclk)) ∧
    (∃ (s : State), s.time.lfclk = false ∧ s.boot.clocks = true) ∧
    (∃ (s : State), s.time.lfclk = true ∧ s.wantsLfclk = true) ∧
    (∃ (s : State), s.time.lfclk = true ∧ s.wantsLfclk = false) ∧
    (∃ (s : State), s.pending = [] ∧ s.power.standby = true ∧ s.settleCycle.wantsLfclk = true) ∧
    (∃ (s : State) (n : Fin 32) (v : BitVec 64), (s.cmp n).crossed = some v ∧ ∀ k < n.val, (s.cmp k).crossed = none) ∧
    (∃ (s : State) (n : Nat), cmpPost (s.reg .CMP_CONFIG n) = false ∧ cmpAction (s.reg .CMP_CONFIG n) = 0 ∧ cmpEvent (s.reg .CMP_CONFIG n) = false) ∧
    (∃ (s : State) (n : Fin 32), ∀ k ≤ n.val, (s.cmp k).crossed = none) ∧
    (∃ (s : State) (d n : Nat), (s.cmp n).enable = true ∧ s.holding = false ∧ s.cmpActive = true ∧ crosses s.time.tb d (s.cmp n).live = true) ∧
    (∃ (s : State) (d n : Nat), (s.cmp n).enable = false ∨ (s.holding = false ∧ (s.cmpActive = false ∨ crosses s.time.tb d (s.cmp n).live = false))) ∧
    (∃ (s : State) (n : Nat), (s.cmp n).enable = true ∧ s.holding = true) ∧
    (∃ (s : State) (n : Nat), (s.cmp n).bale = none) ∧
    (∃ (s : State) (n : Nat) (b : Bale), (s.cmp n).bale = some b ∧ cmpPost (s.reg .CMP_CONFIG n) = true) ∧
    (∃ (s : State) (n : Fin 32), (s.cmp n).configDue = false ∧ (s.cmp n).valueDue = true) ∧
    (∃ (s : State) (n : Fin 32), (s.cmp n).configDue = true ∧ bitAt (s.reg .CMP_CONFIG n) 1 = false) ∧
    (∃ (s : State) (acc : Accessor) (n : Fin 32) (v : Word), s.Accepts acc .CMP_CONFIG n) ∧
    (∃ (s : State) (acc : Accessor) (n : Fin 32) (v : Word), s.Accepts acc .CMP_VALUE_HIGH n) ∧
    (∃ (s : State) (acc : Accessor) (n : Fin 32) (v : Word), s.Accepts acc .CMP_BALE_ADDR_HIGH n) ∧
    (∃ (s : State) (n : Fin 32) (a : Nat) (b : List Byte), (s.cmp n).reading = some a ∧ s.storeRead a 64 = .ok b) ∧
    (∃ (s : State) (n : Fin 32) (a : Nat) (e : Nat × Nat), (s.cmp n).reading = some a ∧ s.storeRead a 64 = .error e) ∧
    (∃ (s : State) (n : Fin 32), (s.cmp n).reading = none) :=
  ⟨⟨({ sv with power := { sv.power with standby := true } }), by decide +kernel, by decide +kernel⟩,
   ⟨sv, by decide +kernel⟩,
   ⟨{ sv with time := { sv.time with lfclk := false }, boot := { sv.boot with clocks := true } }, by decide +kernel, by decide +kernel⟩,
   ⟨{ sv with time := { sv.time with lfclk := true }, boot := { sv.boot with clocks := false } }, by decide +kernel, by decide +kernel⟩,
   ⟨{ sv with time := { sv.time with lfclk := true }, boot := { sv.boot with clocks := true } }, by decide +kernel, by decide +kernel⟩,
   ⟨{ sv with power := { sv.power with standby := true }, boot := { sv.boot with clocks := false } }, by decide +kernel, by decide +kernel, by decide +kernel⟩,
   ⟨(sv.modCmp 31 (fun c => { c with crossed := some 5 })), 31, 5, by decide +kernel, by decide +kernel⟩,
   ⟨sv, 31, by decide +kernel, by decide +kernel, by decide +kernel⟩,
   ⟨sv, 31, by decide +kernel⟩,
   ⟨(sv.modCmp 31 (fun c => { c with enable := true, live := sv.time.tb + 1 })), 1, 31, by decide +kernel, by decide +kernel, by decide +kernel, by decide +kernel⟩,
   ⟨sv, 1, 31, by decide +kernel⟩,
   ⟨({ sv.modCmp 31 (fun c => { c with enable := true }) with usb := { sv.usb with mode := .debugHold } }), 31, by decide +kernel, by decide +kernel⟩,
   ⟨sv, 31, by decide +kernel⟩,
   ⟨((sv.setReg .CMP_CONFIG 31 0 4).modCmp 31 (fun c => { c with bale := some (bale [1]) })), 31, (bale [1]), by decide +kernel, by decide +kernel⟩,
   ⟨(sv.modCmp 31 (fun c => { c with valueDue := true })), 31, by decide +kernel, by decide +kernel⟩,
   ⟨((sv.setReg .CMP_CONFIG 31 0 1).modCmp 31 (fun c => { c with configDue := true })), 31, by decide +kernel, by decide +kernel⟩,
   ⟨sv, .usb, 31, 1, by decide +kernel⟩,
   ⟨sv, .usb, 31, 1, by decide +kernel⟩,
   ⟨sv, .usb, 31, 1, by decide +kernel⟩,
   ⟨(sv.modCmp 31 (fun c => { c with reading := some 0 })), 31, 0, (List.replicate 64 0), by decide +kernel, ok_of [] (by decide +kernel)⟩,
   ⟨(sv.modCmp 31 (fun c => { c with reading := some 0x200000000 })), 31, 0x200000000, _, by decide +kernel, rfl⟩,
   ⟨sv, 31, by decide +kernel⟩⟩

theorem witness_CountersAndGpio :
    (∃ (s : State) (k : Fin 8) (x : Word × Bool), (s.cnt k).wrapFrom = some x ∧ bitAt (s.reg .CNT_CONFIG k) 4 = false) ∧
    (∃ (s : State) (k : Fin 8) (x : Word × Bool), (s.cnt k).wrapFrom = some x ∧ bitAt (s.reg .CNT_CONFIG k) 4 = true ∧ (s.cnt k).lastEvent = none) ∧
    (∃ (s : State) (k : Fin 8), (s.cnt k).wrapFrom = none) ∧
    (∃ (s : State) (k : Nat), (s.cntNext k).2 = true) ∧
    (∃ (c : CntSt) (g : Bool) (v : Word), c.count = 0) ∧
    (∃ (c : CntSt) (g : Bool) (v : Word), c.count ≠ 0) ∧
    (∃ (s : State) (acc : Accessor) (k : Fin 8) (v : Word), s.Accepts acc .CNT_LOAD k) ∧
    (∃ (s : State) (p : Fin 8), s.time.gpoPulse.getLsbD p = true) ∧
    (∃ (s : State) (p : Fin 8), s.time.gpoPulse.getLsbD p = false) ∧
    (∃ (s : State) (p : Fin 8) (level : Bool), s.boot.regsUp = true ∧ s.pattern.gpioFn p ≠ 1) ∧
    (∃ (s : State) (p : Fin 8) (level : Bool), s.pattern.gpioFn p = 1) ∧
    (∃ (s : State) (p : Fin 8), s.boot.regsUp = true) :=
  ⟨⟨(sv.modCnt 7 (fun c => { c with wrapFrom := some (9, true) })), 7, (9, true), by decide +kernel, by decide +kernel⟩,
   ⟨((sv.setReg .CNT_CONFIG 7 0 0x12).modCnt 7 (fun c => { c with wrapFrom := some (9, true) })), 7, (9, true), by decide +kernel, by decide +kernel, by decide +kernel⟩,
   ⟨sv, 7, by decide +kernel⟩,
   ⟨(sv.setReg .CNT_CONFIG 7 0 2), 7, by decide +kernel⟩,
   ⟨default, true, 9, by decide +kernel⟩,
   ⟨({ (default : CntSt) with count := 1 }), true, 9, by decide +kernel⟩,
   ⟨sv, .usb, 7, 1, by decide +kernel⟩,
   ⟨({ sv with time := { sv.time with gpoPulse := 0x80 } }), 7, by decide +kernel⟩,
   ⟨sv, 7, by decide +kernel⟩,
   ⟨sv, 7, true, by decide +kernel, by decide +kernel⟩,
   ⟨(under { (default : Pattern) with gpio := [⟨7, 1⟩] }), 7, true, by decide +kernel⟩,
   ⟨sv, 7, by decide +kernel⟩⟩

theorem witness_NetworkPorts :
    (∃ (s : State) (p : Fin 2) (m : BitVec 48) (a : Word), s.netReady p = true ∧ s.boot.regsUp = true) ∧
    (∃ (s : State) (p : Fin 2) (m : BitVec 48) (a b : Word), (s.netReady p = false ∨ b ≠ s.addressOf p)) ∧
    (∃ (s : State) (p : Fin 2) (a : Word) (msg : List Byte), s.netReady p = true ∧ s.boot.regsUp = true ∧ 24 + msg.length ≤ 1500) ∧
    (∃ (s : State) (p : Fin 2) (a : Word) (msg : List Byte), s.netReady p = true ∧ s.boot.regsUp = true ∧ 1500 < 24 + msg.length) ∧
    (∃ (s : State) (p : Fin 2) (r : DhcpReply), s.dhcpRuns p = true ∧ (s.netPort p).xid = some r.xid ∧ r.chaddr = Config.portMac p ∧ r.kind = 5) ∧
    (∃ (s : State) (p : Fin 2) (r : DhcpReply), s.dhcpRuns p = true ∧ (s.netPort p).xid = some r.xid ∧ r.chaddr = Config.portMac p ∧ r.kind = 2 ∧ (s.netPort p).leased = false) ∧
    (∃ (s : State) (p : Fin 2) (r : DhcpReply), s.dhcpRuns p = false ∨ (s.netPort p).xid ≠ some r.xid ∨ r.chaddr ≠ Config.portMac p) ∧
    (∃ (s : State) (p : Nat) (g : Word × Word) (u : State), s.netReady p = true ∧ s.groupsOf p = [g] ∧ u.netReady p = false) ∧
    (∃ (s : State) (p : Fin 2), s.dhcpOn p = true ∧ (s.netPort p).leased = true ∧ s.net.owner = .none) ∧
    (∃ (s : State) (p : Fin 2), s.dhcpRuns p = true) ∧
    (∃ (s : State) (p : Fin 2), s.dhcpRuns p = false) ∧
    (∃ (s : State) (p : Fin 2) (g : Option Word) (l : List Word), s.boot.regsUp = false) ∧
    (∃ (s : State) (p : Fin 2) (g : Word × Word), s.boot.regsUp = true ∧ s.groupsOf p = [g] ∧ s.netReady p = true) ∧
    (∃ (s : State) (p : Fin 2), s.boot.regsUp = true ∧ (s.netPort p).link = false ∧ s.linkable p = true) ∧
    (∃ (s : State) (p : Fin 2) (speed : Nat), s.boot.regsUp = true ∧ s.linkable p = true ∧ speed ≠ s.speedChosen p) ∧
    (∃ (s : State) (p : Fin 2), s.boot.regsUp = true ∧ s.linkable p = false) ∧
    (∃ (s : State) (p : Nat), s.sfpModule p = none ∨ s.chassis.sfpFault.getLsbD p = true) ∧
    (∃ (s : State) (p : Fin 2), s.boot.regsUp = true ∧ (s.netPort p).link = true) ∧
    (∃ (s u : State) (p : Nat), s.addressOf p = 0 ∨ u.addressOf p ≠ 0) ∧
    (∃ (s u : State) (p : Nat), s.addressOf p ≠ 0 ∧ u.addressOf p = 0) ∧
    (∃ (s : State) (acc : Accessor) (p : Fin 2) (v : Word), s.Accepts acc .NET_CONFIG p ∧ (s.netPort p).link = false) ∧
    (∃ (s : State) (p : Fin 2) (k : E131), s.netReady p = true ∧ s.boot.regsUp = true ∧ ((∀ r ∈ s.pattern.universes, r.universe' ≠ k.number) ∨ k.preview = true ∨ k.startCode ≠ 0)) ∧
    (∃ (s : State) (p : Fin 2) (k : E131) (u : Nat), s.netReady p = true ∧ s.boot.regsUp = true ∧ s.pattern.universes.findIdx? (fun r => r.universe' == k.number) = some u ∧ k.preview = false ∧ k.startCode = 0 ∧ k.priority ≤ 200) ∧
    (∃ (s : State) (u : Nat) (k : E131), (s.universe' u).sources = [] ∧ k.terminated = false) ∧
    (∃ (s : State) (u : Fin 64) (cid : BitVec 128), (s.universe' u).sources.any (fun q => q.cid == cid) = true) ∧
    (∃ (s : State) (u : Fin 64) (cid : BitVec 128), (s.universe' u).sources.any (fun q => q.cid == cid) = false) :=
  ⟨⟨nv, 0, 1, 2, by decide +kernel, by decide +kernel⟩,
   ⟨nv, 0, 1, 2, 0x0A000003, by decide +kernel⟩,
   ⟨nv, 0, 2, [8], by decide +kernel, by decide +kernel, by decide +kernel⟩,
   ⟨nv, 0, 2, List.replicate 1477 0, by decide +kernel, by decide +kernel, by decide +kernel⟩,
   ⟨dv, 1, { (default : DhcpReply) with kind := 5, xid := 9, chaddr := Config.portMac 1 }, by decide +kernel, by decide +kernel, rfl, rfl⟩,
   ⟨dv, 1, { (default : DhcpReply) with kind := 2, xid := 9, chaddr := Config.portMac 1 }, by decide +kernel, by decide +kernel, rfl, rfl, by decide +kernel⟩,
   ⟨dv, 1, default, Or.inr (Or.inl (by decide +kernel))⟩,
   ⟨({ nv with pat := { nv.pat with running := some { (default : Pattern) with universes := [⟨1, 1, 1⟩] } } }), 0, _, sv, by decide +kernel, rfl, by decide +kernel⟩,
   ⟨({ sv.setReg .NET_CONFIG 1 0 0x10 with net := { sv.net with owner := .none, ports := [(1, { (default : PortSt) with leased := true })] } }), 1, by decide +kernel, by decide +kernel, by decide +kernel⟩,
   ⟨dv, 1, by decide +kernel⟩,
   ⟨sv, 1, by decide +kernel⟩,
   ⟨State.reset, 1, none, [], by decide +kernel⟩,
   ⟨({ nv with pat := { nv.pat with running := some { (default : Pattern) with universes := [⟨1, 1, 1⟩] } } }), 0, _, by decide +kernel, rfl, by decide +kernel⟩,
   ⟨mv, 1, by decide +kernel, by decide +kernel, by decide +kernel⟩,
   ⟨mv, 1, 3, by decide +kernel, by decide +kernel, by decide +kernel⟩,
   ⟨sv, 1, by decide +kernel, by decide +kernel⟩,
   ⟨sv, 1, by decide +kernel⟩,
   ⟨nv, 0, by decide +kernel, by decide +kernel⟩,
   ⟨sv, sv, 0, by decide +kernel⟩,
   ⟨nv, sv, 0, by decide +kernel, by decide +kernel⟩,
   ⟨sv, .usb, 1, 0x10, by decide +kernel, by decide +kernel⟩,
   ⟨nv, 0, default, by decide +kernel, by decide +kernel, Or.inl (fun r hr => absurd (show r ∈ ([] : List UniverseRec) from hr) (by simp))⟩,
   ⟨({ nv with pat := { nv.pat with running := some { (default : Pattern) with universes := [⟨63999, 1, 1⟩] } } }), 0, ({ (default : E131) with number := 63999, priority := 200 }), 0, by decide +kernel, by decide +kernel, by decide +kernel, by decide +kernel, by decide +kernel, by decide +kernel⟩,
   ⟨sv, 63, default, by decide +kernel, by decide +kernel⟩,
   ⟨({ sv with net := { sv.net with universes := [(63, { (default : UniverseSt) with sources := [default] })] } }), 63, 0, by decide +kernel⟩,
   ⟨sv, 63, 1, by decide +kernel⟩⟩

theorem witness_PurlSessions :
    (∃ (s : State) (req : PurlReq) (b : PurlBody), s.PurlRuns req b.opcode ∧ (b.ownerOnly = false ∨ s.ownerReq req = true)) ∧
    (∃ (s : State) (req : PurlReq) (b : PurlBody), s.PurlRuns req b.opcode ∧ b.ownerOnly = true ∧ s.ownerReq req = false) ∧
    (∃ (s : State) (req : PurlReq) (b : PurlBody), s.purlServed req.client.net = false) ∧
    (∃ (s : State) (req : PurlReq) (b : PurlBody), s.purlServed req.client.net = true ∧ s.keptReply req b.opcode = none ∧ s.flightOf req = [] ∧ s.sessionRefusal req b.opcode = some stSession) ∧
    (∃ (s : State) (req : PurlReq) (b : PurlBody), s.purlServed req.client.net = true ∧ s.keptReply req b.opcode = none ∧ s.flightOf req = [] ∧ s.sessionRefusal req b.opcode = some stNotOwner) ∧
    (∃ (s : State) (req : PurlReq) (b : PurlBody) (m : NetMsg), s.purlServed req.client.net = true ∧ s.keptReply req b.opcode = some m) ∧
    (∃ (s : State) (req : PurlReq) (b : PurlBody), s.purlServed req.client.net = true ∧ s.keptReply req b.opcode = none ∧ s.net.flight.any (fun f => f.names req b.opcode) = true) ∧
    (∃ (s : State) (req : PurlReq) (b : PurlBody), s.purlServed req.client.net = true ∧ s.keptReply req b.opcode = none ∧ s.net.flight.any (fun f => f.names req b.opcode) = false ∧ 16 ≤ (s.flightOf req).length) ∧
    (∃ (s : State) (req : PurlReq) (b : PurlBody), s.purlServed req.client.net = true ∧ s.keptReply req b.opcode = none ∧ s.net.flight.any (fun f => f.names req b.opcode) = false ∧ (s.flightOf req).length < 16 ∧ s.flightOf req ≠ []) ∧
    (∃ (s : State) (req : PurlReq), s.flightOf req = []) ∧
    (∃ (s : State) (req : PurlReq) (f : Flight), s.flightOf req = [f] ∧ f.begun = false) ∧
    (∃ s : State, s.net.offers.length + 2 < 2 ^ 32) ∧
    (∃ (s : State) (req : PurlReq) (op : Nat), req.session ≠ 0 ∧ s.net.owner = .none ∧ s.net.offers = []) ∧
    (∃ (s : State) (req : PurlReq) (c : Client) (op : Nat), req.session ≠ 0 ∧ s.net.owner = .purl c req.session ∧ c ≠ req.client) ∧
    (∃ (s : State) (req : PurlReq), s.PurlRuns req opClaim ∧ req.session = 0 ∧ s.net.lockouts.contains req.client.addr = false ∧ s.owned = false) ∧
    (∃ (s : State) (req : PurlReq), s.PurlRuns req opClaim ∧ req.session = 0 ∧ s.net.lockouts.contains req.client.addr = true) ∧
    (∃ (s : State) (req : PurlReq), s.PurlRuns req opClaim ∧ req.session = 0 ∧ s.net.lockouts.contains req.client.addr = false ∧ s.owned = true) ∧
    (∃ (s : State) (req : PurlReq) (o : Offer) (mac : BitVec 256), s.PurlRuns req opClaim ∧ req.session ≠ 0 ∧ s.ownerReq req = false ∧ s.owned = false ∧ s.net.offers.find? (fun o => o.session == req.session && o.live) = some o ∧ beBytes 32 mac.toNat = o.mac (beBytes 4 req.client.addr.toNat ++ beBytes 2 req.client.port.toNat)) ∧
    (∃ (s : State) (req : PurlReq) (o : Offer) (mac : BitVec 256), s.PurlRuns req opClaim ∧ req.session ≠ 0 ∧ s.ownerReq req = false ∧ s.net.offers.find? (fun o => o.session == req.session && o.live) = some o ∧ beBytes 32 mac.toNat ≠ o.mac (beBytes 4 req.client.addr.toNat ++ beBytes 2 req.client.port.toNat)) ∧
    (∃ (s : State) (req : PurlReq), s.PurlRuns req opRelease ∧ s.ownerReq req = true) ∧
    (∃ (s : State) (c : Client) (n : Word), s.net.owner = .purl c n) ∧
    (∃ (s : State), (∀ c n, s.net.owner ≠ .purl c n)) :=
  ⟨⟨pu, rq, .read 0 1, by decide +kernel, by decide +kernel⟩,
   ⟨nv, rq0, .write 0 [1] true, by decide +kernel, by decide +kernel, by decide +kernel⟩,
   ⟨sv, rq, .release, by decide +kernel⟩,
   ⟨nv, rq, .release, by decide +kernel, by decide +kernel, by decide +kernel, by decide +kernel⟩,
   ⟨pu, ({ rq with client := { cl with port := 5001 } }), .write 0 [1] true, by decide +kernel, by decide +kernel, by decide +kernel, by decide +kernel⟩,
   ⟨({ pu with net := { pu.net with kept := [⟨cl, 7, 1, opRead, default⟩] } }), rq, .read 0 1, default, by decide +kernel, by decide +kernel⟩,
   ⟨({ pu with net := { pu.net with flight := [⟨cl, 7, 1, .post 3 [], true⟩] } }), rq, .post 3 [], by decide +kernel, by decide +kernel, by decide +kernel⟩,
   ⟨({ pu with net := { pu.net with flight := List.replicate 16 ⟨cl, 7, 2, .post 3 [], false⟩ } }), rq, .post 3 [], by decide +kernel, by decide +kernel, by decide +kernel, by decide +kernel⟩,
   ⟨({ pu with net := { pu.net with flight := [⟨cl, 7, 2, .post 3 [], true⟩] } }), rq, .post 3 [], by decide +kernel, by decide +kernel, by decide +kernel, by decide +kernel, by decide +kernel⟩,
   ⟨nv, rq, by decide +kernel⟩,
   ⟨({ pu with net := { pu.net with flight := [⟨cl, 7, 2, .post 3 [], false⟩] } }), rq, ⟨cl, 7, 2, .post 3 [], false⟩, by decide +kernel, by decide +kernel⟩,
   ⟨nv, by decide +kernel⟩,
   ⟨nv, rq, opRead, by decide +kernel, by decide +kernel, by decide +kernel⟩,
   ⟨pu, ({ rq with client := { cl with port := 5001 } }), cl, opRead, by decide +kernel, by decide +kernel, by decide +kernel⟩,
   ⟨nv, rq0, by decide +kernel, by decide +kernel, by decide +kernel, by decide +kernel⟩,
   ⟨({ nv with net := { nv.net with lockouts := [0x0A000002] } }), rq0, by decide +kernel, by decide +kernel, by decide +kernel⟩,
   ⟨pu, rq0, by decide +kernel, by decide +kernel, by decide +kernel, by decide +kernel⟩,
   ⟨({ nv with net := { nv.net with offers := [offer7] } }), rq, offer7, (macOf offer7 (beBytes 4 0x0A000002 ++ beBytes 2 5000)), by decide +kernel, by decide +kernel, by decide +kernel, by decide +kernel, by decide +kernel, by decide +kernel⟩,
   ⟨({ nv with net := { nv.net with offers := [offer7] } }), rq, offer7, 0, by decide +kernel, by decide +kernel, by decide +kernel, by decide +kernel, by decide +kernel⟩,
   ⟨pu, rq, by decide +kernel, by decide +kernel⟩,
   ⟨pu, cl, 7, by decide +kernel⟩,
   ⟨nv, fun _ _ h => Owner.noConfusion h⟩⟩

theorem witness_PurlRegisters :
    (∃ (s u : State) (req : PurlReq) (a : Word) (n : Nat) (ws : List Word), s.PurlRuns req opRead ∧ 1 ≤ n ∧ n ≤ 351 ∧ State.readRun (.purl req.client req.session) n s a.toNat = (u, ws)) ∧
    (∃ (s : State) (req : PurlReq) (a : Word) (n : Nat), s.PurlRuns req opRead ∧ (n = 0 ∨ 351 < n)) ∧
    (∃ (s u : State) (req : PurlReq) (a : Word) (ws : List Word) (k : Nat), s.PurlRuns req opWrite ∧ s.ownerReq req = true ∧ ws ≠ [] ∧ ws.length ≤ 350 ∧ State.writeRun (.purl req.client req.session) s a.toNat ws 0 = (u, k)) ∧
    (∃ (s : State) (req : PurlReq) (a : Word) (ws : List Word), s.PurlRuns req opWrite ∧ s.ownerReq req = false) ∧
    (∃ (s u : State) (req : PurlReq) (r : Nat) (bales : List Bale), s.PurlRuns req opPost ∧ s.ownerReq req = true ∧ r ≤ 15 ∧ bales ≠ [] ∧ bales.length ≤ 22 ∧ bales.any (fun b => b.length != 64) = false ∧ s.acceptPost r bales (.purl req) = (u, 1)) ∧
    (∃ (s u : State) (req : PurlReq) (r : Nat) (bales : List Bale), s.PurlRuns req opPost ∧ s.ownerReq req = true ∧ r ≤ 15 ∧ bales ≠ [] ∧ bales.length ≤ 22 ∧ bales.any (fun b => b.length != 64) = false ∧ s.acceptPost r bales (.purl req) = (u, 2)) ∧
    (∃ (s u : State) (req : PurlReq) (r : Nat) (bales : List Bale), s.PurlRuns req opPost ∧ s.ownerReq req = true ∧ r ≤ 15 ∧ bales ≠ [] ∧ bales.length ≤ 22 ∧ bales.any (fun b => b.length != 64) = false ∧ s.acceptPost r bales (.purl req) = (u, 3)) ∧
    (∃ (s : State) (req : PurlReq) (r : Nat) (bales : List Bale), s.PurlRuns req opPost ∧ s.ownerReq req = false) :=
  ⟨⟨pu, ((State.readRun (.purl cl 7) 1 pu 0x18).1), rq, 0x18, 1, ((State.readRun (.purl cl 7) 1 pu 0x18).2), by decide +kernel, by decide +kernel, by decide +kernel, rfl⟩,
   ⟨pu, rq, 0x18, 352, by decide +kernel, by decide +kernel⟩,
   ⟨pu, ((State.writeRun (.purl cl 7) pu 0x18 [1] 0).1), rq, 0x18, [1], ((State.writeRun (.purl cl 7) pu 0x18 [1] 0).2), by decide +kernel, by decide +kernel, by decide +kernel, by decide +kernel, rfl⟩,
   ⟨nv, rq0, 0x18, [1], by decide +kernel, by decide +kernel⟩,
   ⟨(pu.modRoute 3 (fun q => { q with consumer := 6, depthLog2 := 2 })), _, rq, 3, ([bale [0]]), by decide +kernel, by decide +kernel, by decide +kernel, by decide +kernel, by decide +kernel, by decide +kernel, rfl⟩,
   ⟨(pu.modRoute 3 (fun q => { q with consumer := 6, depthLog2 := 2, put := 4 })), _, rq, 3, ([bale [0]]), by decide +kernel, by decide +kernel, by decide +kernel, by decide +kernel, by decide +kernel, by decide +kernel, rfl⟩,
   ⟨pu, _, rq, 3, ([bale [0]]), by decide +kernel, by decide +kernel, by decide +kernel, by decide +kernel, by decide +kernel, by decide +kernel, rfl⟩,
   ⟨nv, rq0, 3, ([bale [0]]), by decide +kernel, by decide +kernel⟩⟩

theorem witness_PurlStoreAndPages :
    (∃ (s : State) (req : PurlReq) (a n : Nat) (bs : List Byte), s.PurlRuns req opStoreRead ∧ 1 ≤ n ∧ n ≤ 1392 ∧ a < 2 ^ 64 ∧ s.storeRead a n = .ok bs) ∧
    (∃ (s : State) (req : PurlReq) (a n : Nat) (e : Nat × Nat), s.PurlRuns req opStoreRead ∧ 1 ≤ n ∧ n ≤ 1392 ∧ a < 2 ^ 64 ∧ s.storeRead a n = .error e) ∧
    (∃ (s t : State) (req : PurlReq) (a : Nat) (d : List Byte) (check : Word), s.PurlRuns req opStoreWrite ∧ s.ownerReq req = true ∧ d ≠ [] ∧ d.length ≤ 1396 ∧ a < 2 ^ 64 ∧ check.toNat = crc32 (beBytes 8 a ++ d) ∧ s.storeWrite a d false true = (t, none)) ∧
    (∃ (s : State) (req : PurlReq) (a : Nat) (d : List Byte) (check : Word), s.PurlRuns req opStoreWrite ∧ s.ownerReq req = true ∧ d ≠ [] ∧ d.length ≤ 1396 ∧ a < 2 ^ 64 ∧ check.toNat ≠ crc32 (beBytes 8 a ++ d)) ∧
    (∃ (s : State) (req : PurlReq) (a n : Nat), s.PurlRuns req opCapture ∧ s.ownerReq req = true ∧ s.pattern.poolBase = none) ∧
    (∃ (s t : State) (req : PurlReq) (base k : Nat) (c : Instr) (cap : Capture) (data : List Byte), s.PurlRuns req opCapture ∧ s.ownerReq req = true ∧ s.pattern.poolBase = some base ∧ s.freeIndex = some k ∧ s.captured cap = .ok data ∧ s.buildPage base k false data = some t ∧ (c = .purlCaptureLedger req ∧ cap = .ledger ∨ c = .purlCapturePowerLog req ∧ cap = .powerLog ∨ ∃ a n, c = .purlCaptureStore req a n ∧ cap = .store a n ∧ 1 ≤ n ∧ n ≤ 4096 ∧ a < 2 ^ 64)) ∧
    (∃ (s : State) (req : PurlReq) (base a n : Nat), s.PurlRuns req opCapture ∧ s.ownerReq req = true ∧ s.pattern.poolBase = some base ∧ s.freeIndex = none) ∧
    (∃ (s : State) (req : PurlReq) (base k : Nat), s.PurlRuns req opCapture ∧ s.ownerReq req = true ∧ s.pattern.poolBase = some base ∧ k ≤ 3 ∧ s.purlHolds k = true) ∧
    (∃ (s : State) (k : Fin 4), s.purlHolds k = true) ∧
    (∃ (s : State) (k : Fin 4), s.purlHolds k = false) :=
  ⟨⟨pu, rq, 0, 1392, (List.replicate 1392 0), by decide +kernel, by decide +kernel, by decide +kernel, by decide +kernel, ok_of [] (by decide +kernel)⟩,
   ⟨pu, rq, 0x200000000, 1, _, by decide +kernel, by decide +kernel, by decide +kernel, by decide +kernel, rfl⟩,
   ⟨pu, ((pu.storeWrite 0 [1] false true).1), rq, 0, [1], (wordOf (crc32 (beBytes 8 0 ++ [1]))), by decide +kernel, by decide +kernel, by decide +kernel, by decide +kernel, by decide +kernel, by decide +kernel, Prod.ext rfl (by decide +kernel)⟩,
   ⟨pu, rq, 0, [1], 0, by decide +kernel, by decide +kernel, by decide +kernel, by decide +kernel, by decide +kernel, by decide +kernel⟩,
   ⟨pu, rq, 0, 1, by decide +kernel, by decide +kernel, by decide +kernel⟩,
   ⟨pp, ((pp.buildPage 0x10000 0 false pp.ledgerPage).getD sv), rq, 0x10000, 0, (.purlCaptureLedger rq), .ledger, pp.ledgerPage, by decide +kernel, by decide +kernel, by decide +kernel, by decide +kernel, rfl, some_of sv (by decide +kernel), Or.inl ⟨rfl, rfl⟩⟩,
   ⟨({ pp with net := { pp.net with pages := [(0, some default), (1, some default), (2, some default), (3, some default)] } }), rq, 0x10000, 0, 4096, by decide +kernel, by decide +kernel, by decide +kernel, by decide +kernel⟩,
   ⟨({ pp with net := { pp.net with pages := [(3, some default)] } }), rq, 0x10000, 3, by decide +kernel, by decide +kernel, by decide +kernel, by decide +kernel, by decide +kernel⟩,
   ⟨({ sv with net := { sv.net with pages := [(3, some default)] } }), 3, by decide +kernel⟩,
   ⟨sv, 3, by decide +kernel⟩⟩

theorem witness_FramesAndEvents :
    (∃ (s : State) (p : Fin 2) (f : List Byte) (ok : Bool), (s.boot.regsUp = false ∨ (s.netPort p).link = false)) ∧
    (∃ (s : State) (p : Fin 2) (f : List Byte), s.boot.regsUp = true ∧ (s.netPort p).link = true) ∧
    (∃ (s : State) (p : Fin 2) (f : List Byte), s.boot.regsUp = true ∧ (s.netPort p).link = true ∧ 1518 < f.length) ∧
    (∃ (s : State) (p : Fin 2) (f : List Byte), s.boot.regsUp = true ∧ (s.netPort p).link = true ∧ f.length ≤ 1518) ∧
    (∃ (s : State) (c : Client) (n : Word), s.net.owner = .purl c n ∧ s.purlServed c.net = true ∧ s.eventsDue ≠ 0) ∧
    (∃ (s : State), (s.eventsDue = 0 ∨ ∀ c n, s.net.owner ≠ .purl c n)) :=
  ⟨⟨sv, 1, [], true, by decide +kernel⟩,
   ⟨nv, 0, [], by decide +kernel, by decide +kernel⟩,
   ⟨nv, 0, (List.replicate 1519 0), by decide +kernel, by decide +kernel, by decide +kernel⟩,
   ⟨nv, 0, (List.replicate 1518 0), by decide +kernel, by decide +kernel, by decide +kernel⟩,
   ⟨(pu.modRoute 15 (fun q => { q with consumer := 7, depthLog2 := 2, put := 1 })), cl, 7, by decide +kernel, by decide +kernel, by decide +kernel⟩,
   ⟨sv, Or.inl (by decide +kernel)⟩⟩

theorem witness_UsbRequests :
    (∃ (s : State) (run : State → State), s.usbLive = false) ∧
    (∃ (s u : State) (a : Word) (n : Nat) (ws : List Word), s.usbLive = true ∧ 1 ≤ n ∧ n ≤ 128 ∧ State.readRun .usb n s.usbBegun a.toNat = (u, ws)) ∧
    (∃ (s u : State) (a : Word) (ws : List Word) (k : Nat), s.usbLive = true ∧ s.net.owner = .usb ∧ ws ≠ [] ∧ ws.length ≤ 128 ∧ State.writeRun .usb s.usbBegun a.toNat ws 0 = (u, k)) ∧
    (∃ (s : State) (a : Word) (ws : List Word), s.usbLive = true ∧ s.net.owner ≠ .usb ∧ ws ≠ [] ∧ ws.length ≤ 128) ∧
    (∃ (s : State), s.usbLive = true) ∧
    (∃ (s : State), s.usbLive = true ∧ s.net.lockouts.contains 0 = false ∧ s.owned = false) ∧
    (∃ (s : State), s.usbLive = true ∧ (s.net.lockouts.contains 0 = true ∨ s.owned = true)) ∧
    (∃ (s : State) (mac : BitVec 256), s.usbLive = true ∧ (s.chassis.button = true ∨ s.usbMacOk mac = true) ∧ s.owned = false) ∧
    (∃ (s : State) (mac : BitVec 256), s.usbLive = true ∧ s.chassis.button = false ∧ s.usbMacOk mac = false) ∧
    (∃ (s : State), s.usbLive = true ∧ s.net.owner = .usb) ∧
    (∃ (s : State) (k : BitVec 256), s.usbLive = true ∧ s.net.owner = .usb ∧ s.pat.keyLock = false) ∧
    (∃ (s : State) (k : BitVec 256), s.usbLive = true ∧ s.net.owner = .usb ∧ s.pat.keyLock = true) ∧
    (∃ (s : State) (b : Byte), s.usbLive = true ∧ b.toNat ≠ rqGetResult) ∧
    (∃ (s : State), s.usbLive = true ∧ s.boot.mode ≠ 1 ∧ s.net.owner ≠ .usb) :=
  ⟨⟨State.reset, id, by decide +kernel⟩,
   ⟨sv, ((State.readRun .usb 128 sv.usbBegun 0x18).1), 0x18, 128, ((State.readRun .usb 128 sv.usbBegun 0x18).2), by decide +kernel, by decide +kernel, by decide +kernel, rfl⟩,
   ⟨sv, ((State.writeRun .usb sv.usbBegun 0x18 [1] 0).1), 0x18, [1], ((State.writeRun .usb sv.usbBegun 0x18 [1] 0).2), by decide +kernel, by decide +kernel, by decide +kernel, by decide +kernel, rfl⟩,
   ⟨nv, 0x18, (List.replicate 128 1), by decide +kernel, by decide +kernel, by decide +kernel, by decide +kernel⟩,
   ⟨sv, by decide +kernel⟩,
   ⟨nv, by decide +kernel, by decide +kernel, by decide +kernel⟩,
   ⟨sv, by decide +kernel, by decide +kernel⟩,
   ⟨({ nv with chassis := { nv.chassis with button := true } }), 0, by decide +kernel, by decide +kernel, by decide +kernel⟩,
   ⟨nv, 0, by decide +kernel, by decide +kernel, by decide +kernel⟩,
   ⟨sv, by decide +kernel, by decide +kernel⟩,
   ⟨sv, 1, by decide +kernel, by decide +kernel, by decide +kernel⟩,
   ⟨({ sv with pat := { sv.pat with keyLock := true } }), 1, by decide +kernel, by decide +kernel, by decide +kernel⟩,
   ⟨sv, 0xFF, by decide +kernel, by decide +kernel⟩,
   ⟨nv, by decide +kernel, by decide +kernel, by decide +kernel⟩⟩

theorem witness_UsbPostsAndModes :
    (∃ (s u : State) (r : Nat) (b : List Bale), s.usbLive = true ∧ s.boot.mode ≠ 1 ∧ s.net.owner = .usb ∧ balesMalformed r b = false ∧ s.usbBegun.acceptPost r b .usb = (u, 1)) ∧
    (∃ (s u : State) (r : Nat) (b : List Bale), s.usbLive = true ∧ s.boot.mode ≠ 1 ∧ s.net.owner = .usb ∧ balesMalformed r b = false ∧ s.usbBegun.acceptPost r b .usb = (u, 2)) ∧
    (∃ (s u : State) (r : Nat) (b : List Bale), s.usbLive = true ∧ s.boot.mode ≠ 1 ∧ s.net.owner = .usb ∧ balesMalformed r b = false ∧ s.usbBegun.acceptPost r b .usb = (u, 3)) ∧
    (∃ (s : State) (r : Nat) (b : List Bale), s.usbLive = true ∧ (b = [] ∨ 8 < b.length)) ∧
    (∃ (s : State) (r : Nat) (b : List Bale), s.usbLive = true ∧ s.boot.mode = 1) ∧
    (∃ (s : State), s.usbLive = true ∧ s.boot.mode ≠ 1 ∧ s.net.owner = .usb) :=
  ⟨⟨(rt 3 6), _, 3, ([bale [0]]), by decide +kernel, by decide +kernel, by decide +kernel, by decide +kernel, rfl⟩,
   ⟨((rt 3 6).modRoute 3 (fun q => { q with put := 4 })), _, 3, ([bale [0]]), by decide +kernel, by decide +kernel, by decide +kernel, by decide +kernel, rfl⟩,
   ⟨sv, _, 15, (List.replicate 8 (bale [0])), by decide +kernel, by decide +kernel, by decide +kernel, by decide +kernel, rfl⟩,
   ⟨sv, 3, (List.replicate 9 (bale [0])), by decide +kernel, by decide +kernel⟩,
   ⟨({ sv with boot := { sv.boot with mode := 1 } }), 3, [], by decide +kernel, by decide +kernel⟩,
   ⟨sv, by decide +kernel, by decide +kernel, by decide +kernel⟩⟩

theorem witness_UsbUploads :
    (∃ (s : State) (a n : Nat), s.usbLive = true ∧ s.net.owner = .usb ∧ s.boot.mode ≠ 1 ∧ 1 ≤ n ∧ n ≤ 4194304 ∧ a % 64 = 0 ∧ a + n ≤ s.storeSpan) ∧
    (∃ (s : State) (a n : Nat), s.usbLive = true ∧ s.net.owner = .usb ∧ (n = 0 ∨ 4194304 < n ∨ a % 64 ≠ 0 ∨ s.storeSpan < a + n)) ∧
    (∃ (s : State) (a n : Nat), s.usbLive = true ∧ s.net.owner = .usb ∧ s.boot.mode ≠ 1 ∧ 1 ≤ n ∧ a % 64 = 0 ∧ a + n ≤ 4194304) ∧
    (∃ (s : State) (k : Fin 2) (n : Nat), s.usbLive = true ∧ s.net.owner = .usb ∧ s.boot.mode = 1 ∧ 1 ≤ n ∧ n ≤ 4194304) ∧
    (∃ (s : State) (k : Fin 2) (a n : Nat), s.usbLive = true ∧ s.net.owner = .usb ∧ 1 ≤ n ∧ n ≤ 4194304) ∧
    (∃ (s : State) (u : Upload), s.usb.upload = some u) ∧
    (∃ (s : State) (p : List Byte), s.usbLive = true) ∧
    (∃ (s t : State) (u : Upload) (p : List Byte), s.usbLive = true ∧ s.usb.upload = some u ∧ u.erasing = false ∧ u.kind ≤ 1 ∧ u.held = [] ∧ u.remaining = p.length ∧ p ≠ [] ∧ p.length ≤ 64 ∧ s.storeWrite (u.base + u.offset) p = (t, none)) ∧
    (∃ (s t : State) (u : Upload) (p : List Byte) (e : Nat × Nat), s.usbLive = true ∧ s.usb.upload = some u ∧ u.erasing = false ∧ u.kind ≤ 1 ∧ u.held = [] ∧ u.remaining = p.length ∧ p ≠ [] ∧ p.length ≤ 64 ∧ s.storeWrite (u.base + u.offset) p = (t, some e)) ∧
    (∃ (s : State) (u : Upload) (p : List Byte), s.usbLive = true ∧ s.usb.upload = some u ∧ u.erasing = false ∧ u.held.length + p.length < 64 ∧ 0 < p.length ∧ p.length < u.remaining) ∧
    (∃ (s : State) (u : Upload), s.usb.upload = some u ∧ u.remaining = 0) ∧
    (∃ (s : State), (s.usb.upload = none ∨ ∃ u, s.usb.upload = some u ∧ u.remaining ≠ 0)) :=
  ⟨⟨sv, 0x1FFC00000, 4194304, by decide +kernel, by decide +kernel, by decide +kernel, by decide +kernel, by decide +kernel, by decide +kernel, by decide +kernel⟩,
   ⟨sv, 0x1FFC00000, 4194305, by decide +kernel, by decide +kernel, by decide +kernel⟩,
   ⟨sv, 64, 4194240, by decide +kernel, by decide +kernel, by decide +kernel, by decide +kernel, by decide +kernel, by decide +kernel⟩,
   ⟨({ sv with boot := { sv.boot with mode := 1 } }), 1, 4194304, by decide +kernel, by decide +kernel, by decide +kernel, by decide +kernel, by decide +kernel⟩,
   ⟨sv, 1, 0, 4194304, by decide +kernel, by decide +kernel, by decide +kernel, by decide +kernel⟩,
   ⟨({ sv with usb := { sv.usb with upload := some default } }), default, by decide +kernel⟩,
   ⟨sv, [1], by decide +kernel⟩,
   ⟨({ sv with usb := { sv.usb with upload := some { (default : Upload) with remaining := 64 } } }), _, ({ (default : Upload) with remaining := 64 }), (List.replicate 64 1), by decide +kernel, by decide +kernel, by decide +kernel, by decide +kernel, by decide +kernel, by decide +kernel, by decide +kernel, by decide +kernel, Prod.ext rfl (by decide +kernel)⟩,
   ⟨({ sv with usb := { sv.usb with upload := some { (default : Upload) with base := 0x200000000, remaining := 1 } } }), _, ({ (default : Upload) with base := 0x200000000, remaining := 1 }), [1], _, by decide +kernel, by decide +kernel, by decide +kernel, by decide +kernel, by decide +kernel, by decide +kernel, by decide +kernel, by decide +kernel, rfl⟩,
   ⟨({ sv with usb := { sv.usb with upload := some { (default : Upload) with remaining := 65 } } }), ({ (default : Upload) with remaining := 65 }), (List.replicate 63 1), by decide +kernel, by decide +kernel, by decide +kernel, by decide +kernel, by decide +kernel, by decide +kernel⟩,
   ⟨({ sv with usb := { sv.usb with upload := some default } }), default, by decide +kernel, by decide +kernel⟩,
   ⟨sv, Or.inl rfl⟩⟩

theorem witness_UsbPages :
    (∃ (s t : State) (base k : Nat) (c : Instr) (cap : Capture) (data : List Byte), s.usbLive = true ∧ s.net.owner = .usb ∧ s.boot.mode ≠ 1 ∧ s.pattern.poolBase = some base ∧ s.freeIndex = some k ∧ s.usbBegun.captured cap = .ok data ∧ (c = .usbCaptureLedger ∧ cap = .ledger ∨ c = .usbCapturePowerLog ∧ cap = .powerLog ∨ ∃ a n, c = .usbCaptureStore a n ∧ cap = .store a n ∧ 1 ≤ n ∧ n ≤ 4096 ∧ a < 2 ^ 64) ∧ s.usbBegun.buildPage base k true (padTo 4096 data) = some t) ∧
    (∃ (s : State) (base : Nat), s.usbLive = true ∧ s.net.owner = .usb ∧ s.boot.mode ≠ 1 ∧ s.pattern.poolBase = some base ∧ s.freeIndex = none) ∧
    (∃ (s : State), s.usbLive = true ∧ s.net.owner = .usb ∧ (s.boot.mode = 1 ∨ s.pattern.poolBase = none) ∧ s.net.chipPage = none) ∧
    (∃ (s : State), s.usbLive = true ∧ s.net.owner = .usb ∧ (s.boot.mode = 1 ∨ s.pattern.poolBase = none) ∧ s.net.chipPage ≠ none) ∧
    (∃ (s : State) (a n : Nat), s.usbLive = true ∧ s.net.owner = .usb ∧ s.boot.mode = 1 ∧ 1 ≤ n ∧ n ≤ 4096 ∧ a < 2 ^ 64) ∧
    (∃ (s : State), s.usbLive = true ∧ s.usb.queue = []) ∧
    (∃ (s : State) (k : Nat) (q : List Nat), s.usbLive = true ∧ s.usb.queue = k :: q) ∧
    (∃ (s : State) (k : Nat) (q : List Nat), s.usb.queue = k :: q) ∧
    (∃ (s : State), s.usb.queue = []) ∧
    (∃ (s : State), s.usbLive = true ∧ s.net.owner = .usb ∧ s.eventsDue ≠ 0) ∧
    (∃ (s : State), s.usbLive = true ∧ (s.net.owner ≠ .usb ∨ s.eventsDue = 0)) :=
  ⟨⟨(under poolPattern), (((under poolPattern).usbBegun.buildPage 0x10000 0 true (padTo 4096 (under poolPattern).ledgerPage)).getD sv), 0x10000, 0, .usbCaptureLedger, .ledger, ((under poolPattern).ledgerPage), by decide +kernel, by decide +kernel, by decide +kernel, by decide +kernel, by decide +kernel, rfl, Or.inl ⟨rfl, rfl⟩, some_of sv (by decide +kernel)⟩,
   ⟨({ under poolPattern with net := { sv.net with pages := [(0, some default), (1, some default), (2, some default), (3, some default)] } }), 0x10000, by decide +kernel, by decide +kernel, by decide +kernel, by decide +kernel, by decide +kernel⟩,
   ⟨sv, by decide +kernel, by decide +kernel, by decide +kernel, by decide +kernel⟩,
   ⟨({ sv with net := { sv.net with chipPage := some default } }), by decide +kernel, by decide +kernel, by decide +kernel, by decide +kernel⟩,
   ⟨({ sv with boot := { sv.boot with mode := 1 } }), 0x1FFFFFFFF, 4096, by decide +kernel, by decide +kernel, by decide +kernel, by decide +kernel, by decide +kernel, by decide +kernel⟩,
   ⟨sv, by decide +kernel, by decide +kernel⟩,
   ⟨({ sv with usb := { sv.usb with queue := [3] } }), 3, [], by decide +kernel, by decide +kernel⟩,
   ⟨({ sv with usb := { sv.usb with queue := [4] } }), 4, [], by decide +kernel⟩,
   ⟨sv, by decide +kernel⟩,
   ⟨(sv.modRoute 15 (fun q => { q with consumer := 7, depthLog2 := 2, put := 1 })), by decide +kernel, by decide +kernel, by decide +kernel⟩,
   ⟨nv, by decide +kernel, by decide +kernel⟩⟩

theorem witness_UsbBus :
    (∃ (s : State) (stage : UsbStage), s.usbLive = true) ∧
    (∃ (s : State) (stage : UsbStage), s.usbLive = false) ∧
    (∃ (s : State), s.usb.grace = true ∧ s.net.owner = .usb) ∧
    (∃ (s : State), s.usb.grace = false) ∧
    (∃ (s : State), s.usb.vbus = true) ∧
    (∃ (s : State) (cause : Nat), s.net.owner = .usb) ∧
    (∃ (s : State) (cause : Nat), s.net.owner ≠ .usb) ∧
    (∃ (s : State), s.usb.vbus = false ∧ s.usb.disabled = false ∧ s.boot.usbPhyOk = true ∧ s.boot.mode ≠ 0 ∧ s.usb.pullup = false) ∧
    (∃ (s : State) (b : Bool), s.usb.vbus = b) ∧
    (∃ (s : State) (e : EnumStep) (b : Bool), s.usbLive = true ∧ e ≠ .addressed) ∧
    (∃ (s : State) (b : Bool), s.usbLive = true) ∧
    (∃ (s : State) (acc : Accessor) (v : Word), s.Accepts acc .USB_PORT_DISABLE ∧ bitAt v 0 = true) ∧
    (∃ (s : State) (acc : Accessor) (v : Word), s.Accepts acc .USB_PORT_DISABLE ∧ bitAt v 0 = false) ∧
    (∃ (s : State), s.usb.removalDue = true) ∧
    (∃ (s : State), s.usb.removalDue = false) :=
  ⟨⟨sv, .outPartial, by decide +kernel⟩,
   ⟨State.reset, .idle, by decide +kernel⟩,
   ⟨({ sv with usb := { sv.usb with grace := true } }), by decide +kernel, by decide +kernel⟩,
   ⟨sv, by decide +kernel⟩,
   ⟨sv, by decide +kernel⟩,
   ⟨sv, 3, by decide +kernel⟩,
   ⟨nv, 3, by decide +kernel⟩,
   ⟨({ sv with usb := default, boot := { sv.boot with usbPhyOk := true } }), by decide +kernel, by decide +kernel, by decide +kernel, by decide +kernel, by decide +kernel⟩,
   ⟨sv, true, by decide +kernel⟩,
   ⟨sv, .configured, true, by decide +kernel, by decide +kernel⟩,
   ⟨sv, true, by decide +kernel⟩,
   ⟨sv, .usb, 1, by decide +kernel, by decide +kernel⟩,
   ⟨sv, .usb, 2, by decide +kernel, by decide +kernel⟩,
   ⟨({ sv with usb := { sv.usb with removalDue := true } }), by decide +kernel⟩,
   ⟨sv, by decide +kernel⟩⟩

theorem witness_CaravanFrames :
    (∃ (s : State) (p : CaravanPort) (f : List Byte) (c : Instr), c ∈ [.call p f, .beat p f, .echo p f, .echoReply p f]) ∧
    (∃ (s : State) (p : CaravanPort) (f : List Byte), s.caravan.bypassOpen = true ∧ caravanSound f = true ∧ beAt f 3 1 = typeEcho ∧ s.caravan.state ≤ 1) ∧
    (∃ (s : State) (p : CaravanPort) (f : List Byte), s.caravan.bypassOpen = true ∧ caravanSound f = true ∧ beAt f 3 1 = typeEcho ∧ 2 ≤ s.caravan.state) ∧
    (∃ (s : State) (f : List Byte), s.caravan.bypassOpen = true ∧ caravanSound f = true ∧ beAt f 3 1 = typeEchoReply) ∧
    (∃ (s : State) (p : CaravanPort) (f : List Byte) (c : Instr), c ∈ [.call p f, .beat p f] ∧ s.caravan.bypassOpen = true ∧ caravanSound f = true ∧ (beAt f 3 1 = typeCall ∨ beAt f 3 1 = typeBeat) ∧ ((BitVec.ofNat 64 (beAt f 4 8) = s.caravan.priority ∧ wordOf (beAt f 0x0C 4) = s.boot.bootTag) ∨ s.laterSequence (BitVec.ofNat 64 (beAt f 4 8)) (wordOf (beAt f 0x0C 4)) (beAt f 0x12 2) = false)) ∧
    (∃ (s : State) (p : CaravanPort) (f : List Byte), s.caravan.bypassOpen = true ∧ caravanSound f = true ∧ beAt f 3 1 = typeCall ∧ BitVec.ofNat 64 (beAt f 4 8) ≠ s.caravan.priority ∧ s.laterSequence (BitVec.ofNat 64 (beAt f 4 8)) (wordOf (beAt f 0x0C 4)) (beAt f 0x12 2) = true) ∧
    (∃ (s : State) (p : CaravanPort) (f : List Byte), s.caravan.bypassOpen = true ∧ caravanSound f = true ∧ beAt f 3 1 = typeCall ∧ BitVec.ofNat 64 (beAt f 4 8) = s.caravan.priority ∧ wordOf (beAt f 0x0C 4) ≠ s.boot.bootTag ∧ s.laterSequence (BitVec.ofNat 64 (beAt f 4 8)) (wordOf (beAt f 0x0C 4)) (beAt f 0x12 2) = true) ∧
    (∃ (s : State) (p : CaravanPort) (f : List Byte), s.caravan.bypassOpen = true ∧ caravanSound f = true ∧ beAt f 3 1 = typeBeat ∧ BitVec.ofNat 64 (beAt f 4 8) ≠ s.caravan.priority ∧ s.laterSequence (BitVec.ofNat 64 (beAt f 4 8)) (wordOf (beAt f 0x0C 4)) (beAt f 0x12 2) = true ∧ s.follows (BitVec.ofNat 64 (beAt f 4 8)) (wordOf (beAt f 0x0C 4)) = true) ∧
    (∃ (s : State) (p : CaravanPort) (f : List Byte), s.caravan.bypassOpen = true ∧ caravanSound f = true ∧ beAt f 3 1 = typeBeat ∧ BitVec.ofNat 64 (beAt f 4 8) ≠ s.caravan.priority ∧ s.laterSequence (BitVec.ofNat 64 (beAt f 4 8)) (wordOf (beAt f 0x0C 4)) (beAt f 0x12 2) = true ∧ s.follows (BitVec.ofNat 64 (beAt f 4 8)) (wordOf (beAt f 0x0C 4)) = false) :=
  ⟨⟨(cv 2), .east, [], (.echoReply .east []), by decide +kernel⟩,
   ⟨(cv 1), .west, (frame 3 9 9 1), by decide +kernel, by decide +kernel, by decide +kernel, by decide +kernel⟩,
   ⟨(cv 2), .west, (frame 3 9 9 1), by decide +kernel, by decide +kernel, by decide +kernel, by decide +kernel⟩,
   ⟨(cv 2), (frame 4 9 9 1), by decide +kernel, by decide +kernel, by decide +kernel⟩,
   ⟨(cv 2), .east, (frame 1 5 0 1), (.call .east (frame 1 5 0 1)), by decide +kernel, by decide +kernel, by decide +kernel, by decide +kernel, by decide +kernel⟩,
   ⟨(cv 2), .east, (frame 1 9 9 32767), by decide +kernel, by decide +kernel, by decide +kernel, by decide +kernel, by decide +kernel⟩,
   ⟨(cv 2), .east, (frame 1 5 9 1), by decide +kernel, by decide +kernel, by decide +kernel, by decide +kernel, by decide +kernel, by decide +kernel⟩,
   ⟨(cv 2), .east, (frame 2 9 9 1), by decide +kernel, by decide +kernel, by decide +kernel, by decide +kernel, by decide +kernel, by decide +kernel⟩,
   ⟨({ cv 3 with caravan := { (cv 3).caravan with lead := 9, leadTag := 9 } }), .east, (frame 2 6 0 1), by decide +kernel, by decide +kernel, by decide +kernel, by decide +kernel, by decide +kernel, by decide +kernel⟩⟩

theorem witness_CaravanTimers :
    (∃ (s : State), (s.caravan.bypassOpen = false ∨ s.caravan.state ≤ 1)) ∧
    (∃ (s : State), s.caravan.bypassOpen = true ∧ 2 ≤ s.caravan.state) ∧
    (∃ (s : State), s.caravan.bypassOpen = true ∧ 2 ≤ s.caravan.state ∧ (s.caravan.state = 2 → s.caravan.waitingBeat = false)) ∧
    (∃ (s : State), (s.caravan.state = 1 ∨ s.caravan.state = 2 ∧ s.caravan.waitingBeat = true)) ∧
    (∃ (s : State), s.caravan.state = 2 ∧ s.caravan.waitingBeat = false ∧ s.caravan.best = s.caravan.priority ∧ s.caravan.bestTag = s.boot.bootTag) ∧
    (∃ (s : State), s.caravan.state = 2 ∧ s.caravan.waitingBeat = false ∧ (s.caravan.best ≠ s.caravan.priority ∨ s.caravan.bestTag ≠ s.boot.bootTag)) ∧
    (∃ (s : State), (s.caravan.state = 0 ∨ 3 ≤ s.caravan.state)) ∧
    (∃ (s : State), s.caravan.state ≠ 4) ∧
    (∃ (s : State) (r : HeadRec), s.caravan.state = 4 ∧ s.pattern.heads.find? (fun r => r.head == s.refHead) = some r) ∧
    (∃ (s : State), s.caravan.state ≠ 3) ∧
    (∃ (s : State), s.caravan.state = 3 ∧ s.otherLead = none) ∧
    (∃ (s : State) (b : HeardBeat), s.caravan.state = 3 ∧ s.otherLead = some b) :=
  ⟨⟨(cv 1), by decide +kernel⟩,
   ⟨(cv 2), by decide +kernel, by decide +kernel⟩,
   ⟨(cv 2), by decide +kernel, by decide +kernel, by decide +kernel⟩,
   ⟨({ cv 2 with caravan := { (cv 2).caravan with waitingBeat := true } }), by decide +kernel⟩,
   ⟨({ cv 2 with caravan := { (cv 2).caravan with best := 5 } }), by decide +kernel, by decide +kernel, by decide +kernel, by decide +kernel⟩,
   ⟨(cv 2), by decide +kernel, by decide +kernel, by decide +kernel⟩,
   ⟨(cv 3), by decide +kernel⟩,
   ⟨(cv 3), by decide +kernel⟩,
   ⟨({ under pt0 with caravan := (cv 4).caravan }), hd0, by decide +kernel, by decide +kernel⟩,
   ⟨(cv 4), by decide +kernel⟩,
   ⟨(cv 3), by decide +kernel, by decide +kernel⟩,
   ⟨({ cv 3 with caravan := { (cv 3).caravan with lead := 9, heard := [⟨9, 0, 0, 0, 1⟩, ⟨7, 0, 0, 0, 1⟩, ⟨8, 0, 0, 0, 1⟩] } }), ⟨8, 0, 0, 0, 1⟩, by decide +kernel, by decide +kernel⟩⟩

theorem witness_CaravanBarriers :
    (∃ (s : State) (acc : Accessor) (v : Word), s.Accepts acc .CARAVAN_BARRIER_COMMIT ∧ fld v 0 16 = 0) ∧
    (∃ (s : State) (acc : Accessor) (v : Word) (i : Nat), s.Accepts acc .CARAVAN_BARRIER_COMMIT ∧ fld v 0 16 ≠ 0 ∧ s.barrierLate (s.reg .CARAVAN_BARRIER_CFN) = false ∧ (List.range 8).find? (fun i => (s.barrier i).isNone) = some i) ∧
    (∃ (s : State) (acc : Accessor) (v : Word), s.Accepts acc .CARAVAN_BARRIER_COMMIT ∧ fld v 0 16 ≠ 0 ∧ s.barrierLate (s.reg .CARAVAN_BARRIER_CFN) = true) ∧
    (∃ (s : State) (acc : Accessor) (v : Word), s.Accepts acc .CARAVAN_BARRIER_COMMIT ∧ fld v 0 16 ≠ 0 ∧ s.barrierLate (s.reg .CARAVAN_BARRIER_CFN) = false ∧ (∀ i, i < 8 → s.barrier i ≠ none)) ∧
    (∃ (s : State), (∀ i b, i < 8 → s.barrier i = some b → b.cfn - 1 ≠ s.caravan.cfn)) ∧
    (∃ (s : State) (i : Nat) (b : Barrier), i < 8 ∧ s.barrier i = some b ∧ b.cfn - 1 = s.caravan.cfn ∧ (∀ k c, k < 8 → k ≠ i → s.barrier k = some c → c.cfn - 1 ≠ s.caravan.cfn)) ∧
    (∃ (s : State) (acc : Accessor) (v : Word), s.Accepts acc .CARAVAN_BARRIER_CANCEL) :=
  ⟨⟨sv, .usb, 0, by decide +kernel, by decide +kernel⟩,
   ⟨(sv.setReg .CARAVAN_BARRIER_CFN 0 0 2), .usb, 0xFFFF, 0, by decide +kernel, by decide +kernel, by decide +kernel, by decide +kernel⟩,
   ⟨(sv.setReg .CARAVAN_BARRIER_CFN 0 0 0), .usb, 1, by decide +kernel, by decide +kernel, by decide +kernel⟩,
   ⟨({ sv.setReg .CARAVAN_BARRIER_CFN 0 0 2 with caravan := { sv.caravan with barriers := (List.range 8).map (fun i => (i, some ⟨9, 1⟩)) } }), .usb, 1, by decide +kernel, by decide +kernel, by decide +kernel, by decide +kernel⟩,
   ⟨sv, fun i b hi h => absurd (show (none : Option Barrier) = some b from h) (by simp)⟩,
   ⟨({ sv with caravan := { sv.caravan with barriers := [(7, some ⟨1, 1⟩)] } }), 7, (⟨1, 1⟩), by decide +kernel, by decide +kernel, by decide +kernel, fun k c hk hne h => absurd h ((by decide +kernel : ∀ k : Nat, k < 8 → k ≠ 7 → ({ sv with caravan := { sv.caravan with barriers := [(7, some ⟨1, 1⟩)] } } : State).barrier k = none) k hk hne ▸ by simp)⟩,
   ⟨sv, .usb, 0xFF, by decide +kernel⟩⟩

theorem witness_Chassis :
    (∃ (s : State), s.power.standby = false) ∧
    (∃ (s : State), s.power.standby = true ∧ s.power.latch = true) ∧
    (∃ (s : State) (f g : Nat), f < 5 ∧ g < 5 ∧ g ≠ f ∧ s.chassis.fanStopped.getLsbD g = true) ∧
    (∃ (s : State) (p : Fin 2), s.sfpModule p.val = none) ∧
    (∃ (s : State) (p : Fin 2) (m : SfpModule), s.sfpModule p.val = some m) ∧
    (∃ (s : State) (p : Fin 2), (s.sfpModule p.val).isSome = true ∧ s.chassis.sfpFault.getLsbD p.val = false) ∧
    (∃ (s : State) (p : Fin 2), s.sfpModule p.val = none ∨ s.chassis.sfpFault.getLsbD p.val = true) ∧
    (∃ (s : State) (p : Fin 4), s.chassis.dpFault.getLsbD p.val = false) ∧
    (∃ (s : State) (p : Fin 4), s.chassis.dpFault.getLsbD p.val = true) ∧
    (∃ (s : State) (p : Fin 8), s.gpoDriven p.val = true ∧ s.time.gpoTripped.getLsbD p.val = false) ∧
    (∃ (s : State) (p : Fin 8), (s.gpoDriven p.val = false ∨ s.time.gpoTripped.getLsbD p.val = true)) ∧
    (∃ (s : State), s.mode < 2 ∧ s.reg .GPO_CONTROL ≠ 0) :=
  ⟨⟨State.reset, by decide +kernel⟩,
   ⟨({ sv with power := { sv.power with standby := true, latch := true } }), by decide +kernel, by decide +kernel⟩,
   ⟨({ sv with chassis := { sv.chassis with fanStopped := 16 } }), 0, 4, by decide +kernel, by decide +kernel, by decide +kernel, by decide +kernel⟩,
   ⟨sv, 1, by decide +kernel⟩,
   ⟨mv, 1, ⟨[], true⟩, by decide +kernel⟩,
   ⟨mv, 1, by decide +kernel, by decide +kernel⟩,
   ⟨sv, 1, by decide +kernel⟩,
   ⟨sv, 3, by decide +kernel⟩,
   ⟨({ sv with chassis := { sv.chassis with dpFault := 8 } }), 3, by decide +kernel⟩,
   ⟨(sv.setReg .GPO_CONTROL 0 0 0xFF), 7, by decide +kernel, by decide +kernel⟩,
   ⟨sv, 7, by decide +kernel⟩,
   ⟨(State.reset.setReg .GPO_CONTROL 0 0 0xFF), by decide +kernel, by decide +kernel⟩⟩

theorem witness_PowerSequence :
    (∃ (s : State), s.power.standby = true ∧ s.power.state = 0 ∧ s.power.latch = false ∧ s.mains = true) ∧
    (∃ (s : State), (s.power.standby = false ∨ s.power.state ≠ 0 ∨ s.power.latch = true ∨ s.mains = false)) ∧
    (∃ (s : State), s.power.after = .fullStart) ∧
    (∃ (s : State), s.power.after ≠ .fullStart) ∧
    (∃ (s : State) (r : Fin 13), s.power.standby = true ∧ s.power.state = 1 ∧ s.power.offTable = false ∧ s.power.reverse = [] ∧ s.boardHeld (railBoard r.val) = false ∧ (s.rail r.val).state = 0) ∧
    (∃ (s : State) (r : Fin 13), (s.power.standby = false ∨ (s.rail r.val).state ≠ 0 ∨ s.boardHeld (railBoard r.val) = true)) ∧
    (∃ (s : State) (r : Fin 16) (g : RailReading), (s.rail r.val).state ≠ 1) ∧
    (∃ (s : State) (r : Fin 16) (g : RailReading), (s.rail r.val).state = 1 ∧ s.railReached r.val g = true) ∧
    (∃ (s : State) (r : Fin 16) (g : RailReading), r.val < 14 ∧ (s.rail r.val).state = 1 ∧ s.railReached r.val g = false ∧ s.power.state = 1 ∧ s.boot.inReset = true) ∧
    (∃ (s : State) (r : Nat) (q : List Nat), s.power.reverse = r :: q ∧ s.boot.inReset = true) ∧
    (∃ (s : State), s.power.reverse = []) ∧
    (∃ (s : State), s.power.standby = true ∧ s.power.state = 0 ∧ s.power.latch = true ∧ s.power.after = .floorStart ∧ s.mains = true) ∧
    (∃ (s : State), (s.power.state ≠ 0 ∨ s.power.after ≠ .floorStart ∨ s.mains = false)) ∧
    (∃ (s : State), s.boot.inReset = true ∧ s.boot.held = false ∧ s.wholeOff = false ∧ (s.power.state = 1 ∨ s.power.state = 4) ∧ s.sequenceUp = true) ∧
    (∃ (s : State), (s.boot.inReset = false ∨ s.boot.held = true ∨ s.wholeOff = true ∨ s.sequenceUp = false)) ∧
    (∃ (s : State) (r : Fin 13), (s.rail r.val).state = 5 ∧ s.wholeOff = false ∧ s.boardHeld (railBoard r.val) = false) ∧
    (∃ (s : State) (r : Fin 13), ((s.rail r.val).state ≠ 5 ∨ s.wholeOff = true ∨ s.boardHeld (railBoard r.val) = true)) :=
  ⟨⟨(pw 0), by decide +kernel, by decide +kernel, by decide +kernel, by decide +kernel⟩,
   ⟨(pw 1), by decide +kernel⟩,
   ⟨({ pw 0 with power := { (pw 0).power with after := .fullStart } }), by decide +kernel⟩,
   ⟨(pw 0), by decide +kernel⟩,
   ⟨(pw 1), 12, by decide +kernel, by decide +kernel, by decide +kernel, by decide +kernel, by decide +kernel, by decide +kernel⟩,
   ⟨State.reset, 12, by decide +kernel⟩,
   ⟨(pw 1), 15, default, by decide +kernel⟩,
   ⟨((pw 1).modRail 13 (fun q => { q with state := 1 })), 13, ({ (default : RailReading) with millivolts := 4500, powerGood := true }), by decide +kernel, by decide +kernel⟩,
   ⟨((pw 1).modRail 0 (fun q => { q with state := 1 })), 0, ({ (default : RailReading) with millivolts := 10799 }), by decide +kernel, by decide +kernel, by decide +kernel, by decide +kernel, by decide +kernel⟩,
   ⟨({ pw 1 with power := { (pw 1).power with reverse := [5] } }), 5, [], by decide +kernel, by decide +kernel⟩,
   ⟨(pw 1), by decide +kernel⟩,
   ⟨({ pw 0 with power := { (pw 0).power with latch := true, after := .floorStart } }), by decide +kernel, by decide +kernel, by decide +kernel, by decide +kernel, by decide +kernel⟩,
   ⟨(pw 1), by decide +kernel⟩,
   ⟨({ pw 1 with power := { (pw 1).power with rails := upRails } }), by decide +kernel, by decide +kernel, by decide +kernel, by decide +kernel, by decide +kernel⟩,
   ⟨(pw 1), by decide +kernel⟩,
   ⟨((pw 1).modRail 12 (fun q => { q with state := 5 })), 12, by decide +kernel, by decide +kernel, by decide +kernel⟩,
   ⟨(pw 1), 12, by decide +kernel⟩⟩

theorem witness_RailFaults :
    (∃ (s : State) (r : Fin 16), (railGated r.val = false ∨ s.railOn r.val = false)) ∧
    (∃ (s : State) (r : Fin 16), 14 ≤ r.val ∧ s.railOn r.val = true) ∧
    (∃ (s : State) (r : Fin 16), r.val < 14 ∧ railGated r.val = true ∧ s.railOn r.val = true ∧ s.power.state = 1 ∧ s.boot.inReset = true) ∧
    (∃ (s : State) (gs : List RailReading), s.power.standby = false) ∧
    (∃ (s : State) (gs : List RailReading), s.power.standby = true ∧ s.starting = true ∧ s.power.offTable = false ∧ gs.length = 16) ∧
    (∃ (r : Nat) (levels : Word) (q : RailSt) (g : RailReading), 400 * g.millivolts + levelAt r (fld levels 8 8) < 400 * railNominal r) ∧
    (∃ (r : Nat) (levels : Word) (q : RailSt) (g : RailReading), 400 * railNominal r ≤ 400 * g.millivolts + levelAt r (fld levels 8 8)) ∧
    (∃ (s : State) (r : Nat), r ≤ 12 ∧ fld (s.railConfig r) 0 2 = 1 ∧ 6 ≤ r) ∧
    (∃ (s : State) (r : Nat), r ≤ 5 ∧ fld (s.railConfig r) 0 2 = 1) ∧
    (∃ (s : State) (r : Fin 16), s.power.offTable = true ∧ r.val ≤ 12 ∧ s.railOn r.val = true ∧ s.boot.inReset = true) ∧
    (∃ (s : State) (r : Fin 16), s.power.offTable = false ∧ s.boardHeld (railBoard r.val) = false) :=
  ⟨⟨(pw 1), 1, by decide +kernel⟩,
   ⟨((pw 1).modRail 15 (fun q => { q with state := 2 })), 15, by decide +kernel, by decide +kernel⟩,
   ⟨((pw 1).modRail 11 (fun q => { q with state := 2 })), 11, by decide +kernel, by decide +kernel, by decide +kernel, by decide +kernel, by decide +kernel⟩,
   ⟨State.reset, [], by decide +kernel⟩,
   ⟨(pw 1), (List.replicate 16 default), by decide +kernel, by decide +kernel, by decide +kernel, by decide +kernel⟩,
   ⟨0, 0x0100, default, ({ (default : RailReading) with millivolts := 11969 }), by decide +kernel⟩,
   ⟨0, 0x0100, default, ({ (default : RailReading) with millivolts := 11970 }), by decide +kernel⟩,
   ⟨(pw 1), 11, by decide +kernel, by decide +kernel, by decide +kernel⟩,
   ⟨((pw 1).setReg .RAIL_CONFIG 5 0 1), 5, by decide +kernel, by decide +kernel⟩,
   ⟨(({ pw 3 with power := { (pw 3).power with offTable := true } } : State).modRail 12 (fun q => { q with state := 3 })), 12, by decide +kernel, by decide +kernel, by decide +kernel, by decide +kernel⟩,
   ⟨(pw 1), 15, by decide +kernel, by decide +kernel⟩⟩

theorem witness_MainsAndHeat :
    (∃ (s : State) (i : Fin 2) (c : PsuCond), mapGet default s.power.psus i.val = c) ∧
    (∃ (s : State) (i : Fin 2), mapGet default s.power.psus i.val ≠ .delivering) ∧
    (∃ (s : State) (i : Fin 2) (c : PsuCond), mapGet default s.power.psus i.val ≠ c ∧ c ≠ .delivering) ∧
    (∃ (s : State), s.power.standby = true ∧ s.power.state ≠ 0 ∧ s.power.pfw = false) ∧
    (∃ (s : State), (s.power.standby = false ∨ s.power.state = 0 ∧ s.power.after ≠ .fullStart)) ∧
    (∃ (s : State), s.power.standby = true ∧ s.power.state = 0 ∧ s.power.after = .fullStart) ∧
    (∃ (s : State), s.power.pfw = true ∧ s.power.mainsDown = true ∧ s.power.state ≠ 0 ∧ s.power.after ≠ .mainsStart) ∧
    (∃ (s : State), (s.power.pfw = false ∨ s.power.mainsDown = false ∨ s.power.state = 0 ∨ s.power.after = .mainsStart)) ∧
    (∃ (s : State), s.power.pfw = true ∧ s.power.after ≠ .mainsStart) ∧
    (∃ (s : State), s.power.after = .mainsStart) ∧
    (∃ (s : State), s.power.pfw = false ∧ s.power.after ≠ .mainsStart) ∧
    (∃ (s : State) (t : Byte), s.power.state ≠ 0 ∧ s.power.thermal = false) ∧
    (∃ (s : State) (t : Byte), (s.power.state = 0 ∨ s.power.thermal = true)) ∧
    (∃ (s : State), s.power.standby = true ∧ s.power.state = 0 ∧ s.power.after = .thermalStart ∧ s.mains = true) ∧
    (∃ (s : State), (s.power.state ≠ 0 ∨ s.power.after ≠ .thermalStart)) ∧
    (∃ (s : State), (s.rail 0).state ≠ 2 ∧ (s.rail 0).state ≠ 3) ∧
    (∃ (s : State), ((s.rail 0).state = 2 ∨ (s.rail 0).state = 3)) :=
  ⟨⟨sv, 1, .delivering, by decide +kernel⟩,
   ⟨({ sv with power := { sv.power with psus := [(1, .noMains)] } }), 1, by decide +kernel⟩,
   ⟨sv, 1, .absent, by decide +kernel, by decide +kernel⟩,
   ⟨(pw 2), by decide +kernel, by decide +kernel, by decide +kernel⟩,
   ⟨(pw 0), by decide +kernel⟩,
   ⟨({ pw 0 with power := { (pw 0).power with after := .fullStart } }), by decide +kernel, by decide +kernel, by decide +kernel⟩,
   ⟨({ pw 2 with power := { (pw 2).power with pfw := true, mainsDown := true } }), by decide +kernel, by decide +kernel, by decide +kernel, by decide +kernel⟩,
   ⟨(pw 2), by decide +kernel⟩,
   ⟨({ pw 2 with power := { (pw 2).power with pfw := true } }), by decide +kernel, by decide +kernel⟩,
   ⟨({ pw 0 with power := { (pw 0).power with after := .mainsStart } }), by decide +kernel⟩,
   ⟨(pw 2), by decide +kernel, by decide +kernel⟩,
   ⟨(pw 2), 90, by decide +kernel, by decide +kernel⟩,
   ⟨(pw 0), 90, by decide +kernel⟩,
   ⟨({ pw 0 with power := { (pw 0).power with after := .thermalStart } }), by decide +kernel, by decide +kernel, by decide +kernel, by decide +kernel⟩,
   ⟨(pw 0), by decide +kernel⟩,
   ⟨(pw 0), by decide +kernel, by decide +kernel⟩,
   ⟨((pw 2).modRail 0 (fun q => { q with state := 2 })), by decide +kernel⟩⟩

theorem witness_SupervisorLink :
    (∃ (s : State) (b : Board) (c : Byte) (d : BitVec 16), s.power.standby = true ∧ (s.slave (boardOf b - 1)).state ≠ 2) ∧
    (∃ (s : State) (b : Board) (c : Byte) (d : BitVec 16) (w : Word), (s.power.standby = false ∨ (s.slave (boardOf b - 1)).state = 2)) ∧
    (∃ (s : State) (b : Board) (w : Word), s.power.standby = true ∧ (s.slave (boardOf b - 1)).state ≠ 2 ∧ linkSound w = true ∧ fld w 24 8 = fld (s.slave (boardOf b - 1)).lastWord 24 8) ∧
    (∃ (s : State) (b : Board) (w : Word), s.power.standby = true ∧ (s.slave (boardOf b - 1)).state ≠ 2 ∧ linkSound w = false ∧ (s.slave (boardOf b - 1)).tries < 3) ∧
    (∃ (s : State) (b : Board) (w : Word), s.power.standby = true ∧ (s.slave (boardOf b - 1)).state ≠ 2 ∧ linkSound w = false ∧ 3 ≤ (s.slave (boardOf b - 1)).tries) ∧
    (∃ (s : State) (b : Board), (s.power.state = 0 ∨ s.wholeOff = true)) :=
  ⟨⟨(pw 2), .network, 1, 0, by decide +kernel, by decide +kernel⟩,
   ⟨State.reset, .network, 1, 0, 0, by decide +kernel⟩,
   ⟨(pw 2), .output, 0, by decide +kernel, by decide +kernel, by decide +kernel, by decide +kernel⟩,
   ⟨((pw 2).modSlave 0 (fun q => { q with tries := 2 })), .output, 1, by decide +kernel, by decide +kernel, by decide +kernel, by decide +kernel⟩,
   ⟨((pw 2).modSlave 0 (fun q => { q with tries := 3 })), .output, 1, by decide +kernel, by decide +kernel, by decide +kernel, by decide +kernel⟩,
   ⟨(pw 0), .input, by decide +kernel⟩⟩

theorem witness_PowerCommands :
    (∃ (s : State), s.Accepts .usb .PSV_COMMAND) ∧
    (∃ (s : State) (acc : Accessor), acc ≠ .usb ∧ s.Accepts acc .PSV_COMMAND) ∧
    (∃ (s : State) (acc : Accessor), s.Accepts acc .PSV_COMMAND) ∧
    (∃ (s : State) (acc : Accessor), s.Accepts acc .PSV_COMMAND) ∧
    (∃ (s : State) (acc : Accessor) (b : Fin 4), s.Accepts acc .PSV_COMMAND ∧ (b.val = 0 ∨ s.power.latch = true ∨ s.wholeOff = true)) ∧
    (∃ (s : State) (acc : Accessor) (b : Fin 4), s.Accepts acc .PSV_COMMAND ∧ b.val ≠ 0 ∧ s.power.latch = false ∧ s.wholeOff = false ∧ s.boardHeld b.val = true ∧ (s.slave (b.val - 1)).state ≠ 2) ∧
    (∃ (s : State) (acc : Accessor) (v : Word) (k : Fin 2), s.Accepts acc .ACC_CONTROL ∧ s.boot.mode = 2) ∧
    (∃ (s : State) (a : BitVec 3), s.power.standby = true) ∧
    (∃ (s : State), s.power.standby = false) :=
  ⟨⟨sv, by decide +kernel⟩,
   ⟨sv, .porter, by decide +kernel, by decide +kernel⟩,
   ⟨sv, .usb, by decide +kernel⟩,
   ⟨sv, .usb, by decide +kernel⟩,
   ⟨sv, .usb, 0, by decide +kernel, by decide +kernel⟩,
   ⟨({ sv with power := { sv.power with boardsOff := 4 } }), .usb, 3, by decide +kernel, by decide +kernel, by decide +kernel, by decide +kernel, by decide +kernel, by decide +kernel⟩,
   ⟨sv, .usb, 3, 1, by decide +kernel, by decide +kernel⟩,
   ⟨(pw 2), 7, by decide +kernel⟩,
   ⟨State.reset, by decide +kernel⟩⟩

theorem witness_BringUp :
    (∃ (s : State), s.released = true ∧ s.boot.vcoLock = false) ∧
    (∃ (s : State) (b : Bool), (s.released = false ∨ s.boot.vcoLock = true ∨ b = false)) ∧
    (∃ (s : State) (c : Fin 7) (d : BitVec 16), (c.val = 5 ∨ s.boot.clocks = false ∨ s.boot.inReset = true)) ∧
    (∃ (s : State) (c : Fin 7) (d : BitVec 16), c.val ≠ 5 ∧ s.boot.clocks = true ∧ s.boot.inReset = false) ∧
    (∃ (s : State) (acc : Accessor) (v : Word), s.Accepts acc .RESET_CONTROL ∧ bitAt v 0 = true ∧ fld v 16 16 = 0x5A5A) ∧
    (∃ (s : State) (acc : Accessor) (v : Word), s.Accepts acc .RESET_CONTROL ∧ (bitAt v 0 = false ∨ fld v 16 16 ≠ 0x5A5A)) ∧
    (∃ (s : State) (b : Bool), s.bootReady = true) ∧
    (∃ (s : State) (a b : Bool), (s.bootReady = false ∨ a = false)) ∧
    (∃ (s : State) (tr : BitVec 8) (m : List (BitVec 16)), (s.boot.regsUp = false ∨ s.boot.step ≠ 6 ∨ s.pat.filling = true)) ∧
    (∃ (s : State) (tr : BitVec 8) (m : List (BitVec 16)), s.boot.regsUp = true ∧ s.boot.step = 6 ∧ s.pat.filling = false ∧ (∀ c, (s.channel c).state ≠ 3 ∧ (s.channel c).state ≠ 4)) ∧
    (∃ (s : State), s.released = true ∧ s.boot.step < 6) ∧
    (∃ (s : State), (s.released = false ∨ 6 ≤ s.boot.step)) ∧
    (∃ (s : State) (acc : Accessor) (v : Word), s.Accepts acc .LEDGER_CONTROL ∧ bitAt v 0 = true ∧ fld v 16 16 = 0x4C44) ∧
    (∃ (s : State) (acc : Accessor) (v : Word), s.Accepts acc .LEDGER_CONTROL ∧ (bitAt v 0 = false ∨ fld v 16 16 ≠ 0x4C44)) ∧
    (∃ (s : State) (k : Fin 64), s.ledger.up = true ∧ k.val < s.ledger.entries.length) ∧
    (∃ (s : State) (k : Fin 64) (b : Bool), (s.ledger.up = false ∨ b = false ∨ s.ledger.entries.length ≤ k.val)) :=
  ⟨⟨({ pw 2 with boot := default }), by decide +kernel, by decide +kernel⟩,
   ⟨State.reset, true, by decide +kernel⟩,
   ⟨sv, 5, 0, by decide +kernel⟩,
   ⟨({ sv with boot := { sv.boot with clocks := true } }), 6, 0, by decide +kernel, by decide +kernel, by decide +kernel⟩,
   ⟨sv, .usb, 0x5A5A0001, by decide +kernel, by decide +kernel, by decide +kernel⟩,
   ⟨sv, .usb, 0x5A5A0000, by decide +kernel, by decide +kernel⟩,
   ⟨({ pw 2 with boot := { (default : BootSt) with step := 5, clocks := true } }), true, by decide +kernel⟩,
   ⟨sv, true, true, by decide +kernel⟩,
   ⟨sv, 0, [], by decide +kernel⟩,
   ⟨({ sv with boot := { sv.boot with step := 6 } }), 3, (List.replicate 8 0), by decide +kernel, by decide +kernel, by decide +kernel, fun c => ⟨by show (0 : Nat) ≠ 3; decide, by show (0 : Nat) ≠ 4; decide⟩⟩,
   ⟨({ pw 2 with boot := { (default : BootSt) with step := 5 } }), by decide +kernel, by decide +kernel⟩,
   ⟨({ pw 2 with boot := { (default : BootSt) with step := 6 } }), by decide +kernel⟩,
   ⟨sv, .usb, 0x4C440001, by decide +kernel, by decide +kernel, by decide +kernel⟩,
   ⟨sv, .usb, 0x4C450001, by decide +kernel, by decide +kernel⟩,
   ⟨({ sv with ledger := { sv.ledger with entries := List.replicate 64 default } }), 63, by decide +kernel, by decide +kernel⟩,
   ⟨sv, 0, true, by decide +kernel⟩⟩

theorem witness_RegisterSpace :
    (∃ (r : Reg) (i j : Nat), i < r.row.count ∧ j < r.row.count') ∧
    (∃ (a : Nat) (r : Reg) (i j : Nat), regAt a = some (r, i, j)) ∧
    (∃ (r r' : Reg) (i j i' j' : Nat), i < r.row.count ∧ j < r.row.count' ∧ i' < r'.row.count ∧ j' < r'.row.count' ∧ r.addr i j = r'.addr i' j') :=
  ⟨⟨.SKEIN_BASE, 95, 0, by decide +kernel, by decide +kernel⟩,
   ⟨0x18, .SCRATCH, 0, 0, by decide +kernel⟩,
   ⟨.SKEIN_BASE, .SKEIN_BASE, 95, 0, 95, 0, by decide +kernel, by decide +kernel, by decide +kernel, by decide +kernel, by decide +kernel⟩⟩

theorem witness_NonOwnerWritesNothing :
    ∃ (s : State) (acc : Accessor) (a : Nat) (vs : List Word), s.isOwner acc = false :=
  ⟨nv, .usb, 0x18, [1], by decide +kernel⟩

end Sys2Proof.Tests
end

/-! PROOFS. The register interface: how an access is judged (R410), and what a commit-bound write does (R65). -/

namespace Sys2Proof.Machine

section Judging

variable {s : State} {acc : Accessor} {wr : Bool} {a : Nat}

/-! ### The order of the reasons (R410) -/

theorem judgeAccess_unaligned (ha : a % 4 ≠ 0) : s.judgeAccess acc wr a = some whyAlignment := if_pos ha

theorem judgeAccess_floor (ha : a % 4 = 0) (hm : s.boot.mode = 1) (hf : floorAdmits a = false) :
    s.judgeAccess acc wr a = some whyFloor := by
  rw [State.judgeAccess, if_neg (not_not_intro ha), if_pos ⟨hm, hf⟩]

theorem judgeAccess_unmapped (ha : a % 4 = 0) (hf : ¬ (s.boot.mode = 1 ∧ floorAdmits a = false))
    (hr : regAt a = none) : s.judgeAccess acc wr a = some whyUnmapped := by
  rw [State.judgeAccess, if_neg (not_not_intro ha), if_neg hf, hr]

/-- A register in reach refuses no read, and a write for want of ownership before its own type is asked. -/
theorem judgeAccess_mapped {r : Reg} {i j : Nat} (ha : a % 4 = 0)
    (hf : ¬ (s.boot.mode = 1 ∧ floorAdmits a = false)) (hr : regAt a = some (r, i, j)) :
    s.judgeAccess acc wr a =
      if wr = false then none else if s.isOwner acc = false then some whyNotOwner else s.typeRefusal r := by
  rw [State.judgeAccess, if_neg (not_not_intro ha), if_neg hf, hr]

end Judging

theorem typeRefusal_of_rwP {s : State} {r : Reg} (h : r.row.access = .rwP) :
    s.typeRefusal r =
      if s.pat.lock = true ∨ (keyRegister r = true ∧ s.pat.keyLock = true) then some whyLocked else none := by
  simp only [State.typeRefusal, h, Bool.or_eq_true, Bool.and_eq_true]

/-! ### A refused access (R74) -/

/-- A violation is a record after the three VIOLATION registers of the Ledger: an event's effects and the Ledger, and
nothing else. -/
theorem violation_frame (s : State) (acc : Accessor) (wr : Bool) (a reason : Nat) :
    s.violation acc wr a reason =
      { s with routes := (s.violation acc wr a reason).routes, store := (s.violation acc wr a reason).store
               ledger := (s.violation acc wr a reason).ledger } := by
  unfold State.violation
  have h : ∀ s1 : State, EventFrame s1 (s1.record 0x01 classB [(8, reason), (8, pathCode acc)] a) :=
    fun s1 => record_frame s1 _ _ _ _ _ _
  unfold EventFrame at h
  rw [h]

theorem violation_writtenOnce (s : State) (acc : Accessor) (wr : Bool) (a reason : Nat) (r : Reg) :
    (s.violation acc wr a reason).writtenOnce r = s.writtenOnce r := by
  rw [violation_frame]
  rfl

theorem writeAccess_refused {s : State} {acc : Accessor} {a reason : Nat} (v : Word) (hs : s.reachable acc = true)
    (hj : s.judgeAccess acc true a = some reason) :
    s.writeAccess acc a v = (s.violation acc true a reason, false) := by
  rw [State.writeAccess, if_neg (by simp [hs]), hj]

theorem writeAccess_accepted {s : State} {acc : Accessor} {a : Nat} {r : Reg} {i j : Nat} (v : Word)
    (hs : s.reachable acc = true) (hj : s.judgeAccess acc true a = none) (hr : regAt a = some (r, i, j)) :
    s.writeAccess acc a v = (s.applyWrite acc r i j v, true) := by
  rw [State.writeAccess, if_neg (by simp [hs]), hj, hr]

/-- Settles O10: one clause for each place in R410's order, and the frame of the violation a refused write leaves. -/
theorem accessJudged : Obligations.AccessJudged := by
  refine ⟨fun s acc wr a => judgeAccess_unaligned, fun s acc wr a => judgeAccess_floor,
    fun s acc wr a => judgeAccess_unmapped, ?_, ?_, ?_, ?_⟩
  · intro s acc a r i j ha hf hr
    rw [judgeAccess_mapped ha hf hr, if_pos rfl]
  · intro s acc a r i j ha hf hr ho
    rw [judgeAccess_mapped ha hf hr, if_neg (by decide), if_pos ho]
    rfl
  · intro s acc a r i j ha hf hr ho
    rw [judgeAccess_mapped ha hf hr, if_neg (by decide), if_neg (by simp [ho])]
    cases h : r.row.access with
    | rwP => exact typeRefusal_of_rwP h
    | ro | roL | wo | rwI | rwF => simp only [State.typeRefusal, h] <;> rfl
  · intro s acc a reason v hs hj
    refine ⟨writeAccess_refused v hs hj, ?_, ?_, ?_, ?_, ?_, violation_writtenOnce s acc true a reason⟩ <;>
      rw [violation_frame]

/-! ### A commit-bound write (R65) -/

/-- What follows a tag in the commit groups can change their states and the demand figures alone. -/
def GroupsFrame (s t : State) : Prop :=
  t = { s with commit := { s.commit with groups := t.commit.groups, demand := t.commit.demand } }

theorem GroupsFrame.refl (s : State) : GroupsFrame s s := rfl

theorem GroupsFrame.trans {s t u : State} (h1 : GroupsFrame s t) (h2 : GroupsFrame t u) : GroupsFrame s u := by
  unfold GroupsFrame at *
  rw [h1] at h2
  exact h2

theorem GroupsFrame.regs {s t : State} (h : GroupsFrame s t) : t.regs = s.regs := by
  unfold GroupsFrame at h
  rw [h]

theorem GroupsFrame.dirtyAt {s t : State} (h : GroupsFrame s t) (a : Nat) : t.dirtyAt a = s.dirtyAt a := by
  unfold GroupsFrame at h
  rw [h]
  rfl

theorem leaveGroup_groupsFrame (s : State) (g : Nat) : GroupsFrame s (s.leaveGroup g) := by
  unfold GroupsFrame
  rw [leaveGroup_frame]

theorem admission_groupsFrame (s : State) : GroupsFrame s s.admission := rfl

@[simp] theorem setDirty_dirtyAt_same (s : State) (a : Nat) (d : Option Dirty) : (s.setDirty a d).dirtyAt a = d := by
  simp [State.setDirty, State.dirtyAt]

theorem setDirty_dirtyAt_ne (s : State) {a b : Nat} (d : Option Dirty) (h : b ≠ a) :
    (s.setDirty a d).dirtyAt b = s.dirtyAt b := by
  simp [State.setDirty, State.dirtyAt, mapGet_mapSet_ne _ _ _ h]

theorem reg_congr {s t : State} (h : t.regs = s.regs) (r : Reg) (i j : Nat) : t.reg r i j = s.reg r i j :=
  congrArg (fun m => mapGet (r.resetValue i j) m (r.addr i j)) h

/-- All a tagged write can do: the shadow value, the field dirty in the selected group, pending at once only where that
group is PENDING, and what follows in the groups. -/
theorem tagWrite_groupsFrame (s : State) (r : Reg) (i j : Nat) (v : Word) :
    ∃ d : Dirty, d.group = fld (s.reg .CGROUP_SELECT) 0 4 ∧
      ((s.group (fld (s.reg .CGROUP_SELECT) 0 4)).state ≠ 1 → d.serial = none) ∧
      GroupsFrame ((s.setReg r i j v).setDirty (r.addr i j) (some d)) (s.tagWrite r i j v) := by
  unfold State.tagWrite
  extract_lets a s1 g joins s2 s3
  have hjoins : (s.group g).state ≠ 1 → joins = false := by
    intro hg
    have hs1 : (s1.group g).state ≠ 1 := hg
    dsimp only [joins]
    split
    · simp [State.groupAwaits, hs1]
    · rfl
  have hs3 : GroupsFrame s2 s3 := by
    dsimp only [s3]
    split
    · split
      · exact leaveGroup_groupsFrame s2 _
      · exact .refl s2
    · exact .refl s2
  refine ⟨⟨g, if joins then some (s.group g).serial else none⟩, rfl, fun hg => by simp [hjoins hg], ?_⟩
  have htail : GroupsFrame s3 (if joins then s3.admission else s3) := by
    split
    · exact admission_groupsFrame s3
    · exact .refl s3
  exact hs3.trans htail

theorem foldl_needles_frame {α : Type} (f : State → α → State)
    (hf : ∀ s x, f s x = { s with needles := (f s x).needles }) (l : List α) (s : State) :
    l.foldl f s = { s with needles := (l.foldl f s).needles } := by
  induction l generalizing s with
  | nil => rfl
  | cons x l ih =>
    rw [List.foldl_cons, ih, hf]

/-- Aborting tests changes the needles alone (R177). -/
theorem abortTests_frame (s : State) : s.abortTests = { s with needles := s.abortTests.needles } := by
  refine foldl_needles_frame _ (fun s p => ?_) _ s
  split <;> rfl

theorem shadowEffect_frame (s : State) (r : Reg) :
    s.shadowEffect r = { s with needles := (s.shadowEffect r).needles } := by
  unfold State.shadowEffect
  split
  · exact abortTests_frame s
  · exact abortTests_frame s
  · rfl

theorem shadowEffect_of_ne (s : State) {r : Reg} (h1 : r ≠ .SKEIN_NEEDLE) (h2 : r ≠ .SKEIN_CONFIG) :
    s.shadowEffect r = s := by
  unfold State.shadowEffect
  split
  · contradiction
  · contradiction
  · rfl

theorem exec_registerWrite_commitBound {s : State} {acc : Accessor} {addr : Word} {r : Reg} {i j : Nat} (v : Word)
    (hs : s.reachable acc = true) (hj : s.judgeAccess acc true addr.toNat = none)
    (hr : regAt addr.toNat = some (r, i, j)) (hc : commitBound r = true) :
    exec (.registerWrite acc addr v) s = .next ((s.tagWrite r i j (s.keptValue r i v)).shadowEffect r) := by
  change Host.Outcome.next (s.writeAccess acc addr.toNat v).1 = _
  rw [writeAccess_accepted v hs hj hr, State.applyWrite, if_pos hc]

/-- Settles O13: what a tagged write does, and that the abort of tests after it touches the needles alone. -/
theorem commitBoundWriteTagged : Obligations.CommitBoundWriteTagged := by
  intro s acc addr v r i j hs hj hr hc ha
  obtain ⟨d, hgroup, hserial, htag⟩ := tagWrite_groupsFrame s r i j (s.keptValue r i v)
  have hfx := shadowEffect_frame (s.tagWrite r i j (s.keptValue r i v)) r
  have hregs := (congrArg State.regs hfx).trans htag.regs
  have hdirty a := (congrArg (fun u : State => u.dirtyAt a) hfx).trans (htag.dirtyAt a)
  refine ⟨_, exec_registerWrite_commitBound v hs hj hr hc, ?_, ?_, ⟨d, ?_, hgroup, hserial⟩, ?_, ?_, ?_⟩
  · exact (reg_congr hregs r i j).trans (reg_setReg_same s r i j _)
  · intro r' i' j' hne
    exact (reg_congr hregs r' i' j').trans (reg_setReg s r r' i j i' j' _ hne)
  · rw [← ha]
    exact (hdirty _).trans (setDirty_dirtyAt_same _ _ _)
  · intro b hb
    rw [← ha] at hb
    exact (hdirty b).trans (setDirty_dirtyAt_ne _ _ hb)
  · rw [hfx, htag]
    rfl
  · intro h1 h2
    rw [shadowEffect_of_ne _ h1 h2, htag]
    rfl

end Sys2Proof.Machine

/-! PROOFS. Event bales: the layout of Table 4-4 (R91). -/

namespace Sys2Proof.Machine

/-! ### Little-endian fields one after another -/

theorem drop_leBytes_append {k off : Nat} (h : k ≤ off) (x : Nat) (rest : List Byte) :
    (leBytes k x ++ rest).drop off = rest.drop (off - k) := by
  rw [List.drop_append, List.drop_eq_nil_of_le (by rwa [leBytes_length]), leBytes_length, List.nil_append]

/-- Reading past a field reads in what follows it. -/
theorem leAt_leBytes_append_of_le {k off : Nat} (h : k ≤ off) (x n : Nat) (rest : List Byte) :
    leAt (leBytes k x ++ rest) off n = leAt rest (off - k) n := by
  rw [leAt, slice, drop_leBytes_append h]
  rfl

/-- The first field reads back as the value it was made of. -/
theorem leAt_leBytes_append_zero {n x : Nat} (h : x < 256 ^ n) (rest : List Byte) :
    leAt (leBytes n x ++ rest) 0 n = x := by
  rw [leAt, slice, List.drop_zero, List.take_left' (leBytes_length n x), leNat_leBytes, Nat.mod_eq_of_lt h]

theorem padTo_of_length_le {n : Nat} {bs : List Byte} (h : bs.length ≤ n) :
    padTo n bs = bs ++ List.replicate (n - bs.length) 0 :=
  List.take_of_length_le (by rw [List.length_append, List.length_replicate]; omega)

/-! ### The event bale -/

/-- An event bale is the fields of Table 4-4 in order, the detail last. -/
theorem eventBale_eq_fields (s : State) (code tag head : Nat) (detail : List Byte) :
    eventBale s code tag head detail =
      leBytes 1 code ++ (leBytes 1 0 ++ (leBytes 2 tag ++ (leBytes 1 head ++ (leBytes 3 0 ++
        (leBytes 8 s.time.tb.toNat ++ (leBytes 4 (s.fcOf (if head < 8 then some head else none)).toNat ++
          (leBytes 4 0 ++ padTo 40 detail))))))) := rfl

/-- The FC an event carries: of its head, or of the reference head where it names none (R58, R91). -/
theorem fcOf_eventHead (s : State) (head : Nat) :
    s.fcOf (if head < 8 then some head else none) = if head < 8 then (s.head head).fc else (s.head s.refHead).fc := by
  split <;> rfl

/-- Settles O8: the bale as a sequence of fields, each read after those before it are passed over. -/
theorem eventBaleLayout : Obligations.EventBaleLayout := by
  intro s code tag head detail hcode htag hhead hdetail
  have htb : s.time.tb.toNat < 256 ^ 8 := s.time.tb.isLt
  have hfc : (if head < 8 then (s.head head).fc else (s.head s.refHead).fc).toNat < 256 ^ 4 := BitVec.isLt _
  rw [eventBale_eq_fields, fcOf_eventHead, padTo_of_length_le hdetail]
  refine ⟨?length, ?fields⟩
  case length =>
    simp only [List.length_append, leBytes_length, List.length_replicate]
    omega
  case fields =>
    simp only [leAt_leBytes_append_of_le, Nat.reduceLeDiff, Nat.reduceSub]
    have hzero : ∀ n, 0 < 256 ^ n := fun n => Nat.pow_pos (by decide)
    refine ⟨leAt_leBytes_append_zero hcode _, leAt_leBytes_append_zero (hzero 1) _, leAt_leBytes_append_zero htag _,
      leAt_leBytes_append_zero hhead _, leAt_leBytes_append_zero (hzero 3) _, leAt_leBytes_append_zero htb _,
      leAt_leBytes_append_zero hfc _, leAt_leBytes_append_zero (hzero 4) _, ?tail⟩
    case tail => simp only [drop_leBytes_append, Nat.reduceLeDiff, Nat.reduceSub, List.drop_zero]

end Sys2Proof.Machine

/-! PROOFS. How a Ledger record is written: appended, counted on a full Ledger, or held (R391 to R398). -/

namespace Sys2Proof.Machine

/-! ### One record written to the Ledger (R396, R398) -/

section Writing

variable {l : LedgerSt} {e : Entry}

/-- A class count moves no entry. -/
@[simp] theorem countClass_entries (l : LedgerSt) (c : Nat) : (l.countClass c).entries = l.entries := by
  rw [countClass_frame]

/-- With room left the entry is appended and counted in its class; the Bool tells the 64th. -/
theorem ledger_write_append (hup : l.up = true) (hroom : l.entries.length < 64) :
    l.write e = ({ l.countClass e.cls with entries := l.entries ++ [e] }, l.entries.length + 1 == 64) := by
  rw [LedgerSt.write, if_neg (by simp [hup]), if_pos hroom]

/-- A full Ledger takes no entry, and counts the record in its class and as lost. -/
theorem ledger_write_full (hup : l.up = true) (hfull : 64 ≤ l.entries.length) :
    l.write e = ({ l.countClass e.cls with overflow := satInc l.overflow }, false) := by
  rw [LedgerSt.write, if_neg (by simp [hup]), if_neg (by omega)]

/-- Before the Ledger is up a record is held on chip, with HELD set. -/
theorem ledger_write_held (hup : l.up = false) (hroom : l.held.length < 16) :
    l.write e = ({ l with held := l.held ++ [{ e with flags := e.flags ||| 0x40000000 }] }, false) := by
  rw [LedgerSt.write, if_pos hup, if_pos hroom]

end Writing

/-! ### What a record does to the state (R391 to R398, R406) -/

section Recording

variable {s : State} {e : Entry} {l : LedgerSt}

/-- A record that does not fill the Ledger changes the Ledger alone. -/
theorem record'_of_write_false (h : s.ledger.write e = (l, false)) : s.record' e = { s with ledger := l } := by
  rw [State.record', ledgerWrite, h]

/-- The record that fills the Ledger posts the LEDGER event after it (R406). -/
theorem record'_of_write_true (h : s.ledger.write e = (l, true)) :
    s.record' e = State.ledgerEvent { s with ledger := l } 1 := by
  rw [State.record', ledgerWrite, h]

theorem record'_append (hup : s.ledger.up = true) (hroom : s.ledger.entries.length < 63) :
    s.record' e = { s with ledger := { s.ledger.countClass e.cls with entries := s.ledger.entries ++ [e] } } := by
  have hnot64 : (s.ledger.entries.length + 1 == 64) = false := beq_eq_false_iff_ne.mpr (by omega)
  exact record'_of_write_false (by rw [ledger_write_append hup (by omega), hnot64])

theorem record'_fills (hup : s.ledger.up = true) (h63 : s.ledger.entries.length = 63) :
    s.record' e = State.ledgerEvent
      { s with ledger := { s.ledger.countClass e.cls with entries := s.ledger.entries ++ [e] } } 1 :=
  record'_of_write_true (by rw [ledger_write_append hup (by omega), h63]; rfl)

theorem record'_full (hup : s.ledger.up = true) (hfull : 64 ≤ s.ledger.entries.length) :
    s.record' e = { s with ledger := { s.ledger.countClass e.cls with overflow := satInc s.ledger.overflow } } :=
  record'_of_write_false (ledger_write_full hup hfull)

theorem record'_held (hup : s.ledger.up = false) (hroom : s.ledger.held.length < 16) :
    s.record' e = { s with ledger :=
      { s.ledger with held := s.ledger.held ++ [{ e with flags := e.flags ||| 0x40000000 }] } } :=
  record'_of_write_false (ledger_write_held hup hroom)

end Recording

/-! ### The flags of an entry (R393) -/

/-- DETAIL below bit 24 and SECONDARY in bit 31 share no bit, so the flags are their sum. -/
theorem mkEntry_flags_toNat (s : State) (source cls detail addr : Nat) (head : Option Nat) (secondary : Bool) :
    (mkEntry s source cls detail addr head secondary).flags.toNat =
      detail % 2 ^ 24 + if secondary then 2 ^ 31 else 0 := by
  have hfits : detail % 2 ^ 24 + (if secondary then 2 ^ 31 else 0) < 2 ^ 32 := by split <;> omega
  exact (BitVec.toNat_ofNat _ _).trans (Nat.mod_eq_of_lt hfits)

theorem mkEntry_flags_detail (s : State) (source cls detail addr : Nat) (head : Option Nat) (secondary : Bool) :
    (mkEntry s source cls detail addr head secondary).flags.toNat % 2 ^ 24 = detail % 2 ^ 24 := by
  rw [mkEntry_flags_toNat]
  split <;> omega

theorem mkEntry_flags_secondary (s : State) (source cls detail addr : Nat) (head : Option Nat) (secondary : Bool) :
    (mkEntry s source cls detail addr head secondary).flags.getLsbD 31 = secondary := by
  rw [← BitVec.msb_eq_getLsbD_last, BitVec.msb_eq_decide, mkEntry_flags_toNat]
  cases secondary with
  | false => exact decide_eq_false (by simp; omega)
  | true => exact decide_eq_true (by simp)

/-- Settles O9: a record is the write of the entry made from its fields, by how many records are held and whether the
Ledger is up. -/
theorem recordWritten : Obligations.RecordWritten := by
  refine ⟨?append, ?fills, ?full, ?held, ?entry⟩
  case append =>
    intro s source cls detail addr head secondary hup hroom
    exact record'_append hup hroom
  case fills =>
    intro s source cls detail addr head secondary hup h63
    exact ⟨_, record'_fills hup h63, rfl, by simp [h63], rfl⟩
  case full =>
    intro s source cls detail addr head secondary hup hfull
    refine ⟨_, record'_full hup hfull, rfl, countClass_entries .., rfl, ?_, ?_, ?_, ?_⟩ <;>
      (rintro rfl; rfl)
  case held =>
    intro s source cls detail addr head secondary hup hroom
    have hbit (w : Word) : (w ||| 0x40000000).getLsbD 30 = true := by simp
    exact ⟨_, _, record'_held hup hroom, rfl, rfl, rfl, rfl, rfl, hbit _, rfl⟩
  case entry =>
    intro s source cls detail addr head secondary
    exact ⟨mkEntry_flags_detail .., mkEntry_flags_secondary .., rfl, rfl, rfl⟩

end Sys2Proof.Machine

/-! PROOFS. Every step keeps soundness (R367, R396, R398, R414). -/

namespace Sys2Proof.Machine

section UsbRequests

variable {s : State} {run : State → State} (hs : s.Sound) (hr : ∀ t : State, t.Sound → (run t).Sound)
include hs hr

theorem usbRequest_ownerRequest_sound (r : Nat) : (s.usbRequest fun s => s.ownerRequest r run).Sound :=
  State_usbRequest_sound _ hs fun _ ht => State_ownerRequest_sound r run ht hr

theorem usbRequest_serviceRequest_sound (r : Nat) :
    (s.usbRequest fun s => s.serviceRequest r fun s => s.ownerRequest r run).Sound :=
  State_usbRequest_sound _ hs fun _ ht =>
    State_serviceRequest_sound r _ ht fun _ hu => State_ownerRequest_sound r run hu hr

end UsbRequests

/-- Every command keeps soundness. A Porter instruction and a USB request run a part of their own under a guard; the
rest are one operation each. -/
theorem exec_sound (c : Instr) {s : State} (hs : s.Sound) : ∃ t, exec c s = .next t ∧ t.Sound := by
  cases c
  case programEnd n => exact ⟨_, rfl, State_runInstr_sound _ _ _ hs fun b => State_endInstr_sound n b hs⟩
  case programMove n => exact ⟨_, rfl, State_runInstr_sound _ _ _ hs fun b => State_dataInstr_sound n opMove b hs⟩
  case programFill n => exact ⟨_, rfl, State_runInstr_sound _ _ _ hs fun b => State_dataInstr_sound n opFill b hs⟩
  case programCompare n => exact ⟨_, rfl, State_runInstr_sound _ _ _ hs fun b => State_dataInstr_sound n opCompare b hs⟩
  case programCheck n => exact ⟨_, rfl, State_runInstr_sound _ _ _ hs fun b => State_dataInstr_sound n opCheck b hs⟩
  case programLoop n => exact ⟨_, rfl, State_runInstr_sound _ _ _ hs fun b => State_loopInstr_sound n b hs⟩
  case programWait n => exact ⟨_, rfl, State_runInstr_sound _ _ _ hs fun b => State_waitInstr_sound n b hs⟩
  case programSignal n => exact ⟨_, rfl, State_runInstr_sound _ _ _ hs fun b => State_signalInstr_sound n b hs⟩
  case readReg => exact ⟨_, rfl, State_usbRequest_sound _ hs fun _ ht => State_usbRead_sound _ _ ht⟩
  case writeReg => exact ⟨_, rfl, State_usbRequest_sound _ hs fun _ ht => State_usbWrite_sound _ _ ht⟩
  case getResult => exact ⟨_, rfl, State_usbRequest_sound _ hs fun _ ht => State_send_sound _ ht⟩
  case claimNonce => exact ⟨_, rfl, State_usbRequest_sound _ hs fun _ ht => State_usbNonce_sound ht⟩
  case usbClaim => exact ⟨_, rfl, State_usbRequest_sound _ hs fun _ ht => State_usbClaim_sound _ ht⟩
  case usbRelease => exact ⟨_, rfl, usbRequest_ownerRequest_sound hs (fun _ ht => by simp [ht]) _⟩
  case usbCaptureLedger => exact ⟨_, rfl, usbRequest_ownerRequest_sound hs (fun _ ht => by simp [ht]) _⟩
  case usbCapturePowerLog => exact ⟨_, rfl, usbRequest_ownerRequest_sound hs (fun _ ht => by simp [ht]) _⟩
  case bulkSetupStore => exact ⟨_, rfl, usbRequest_ownerRequest_sound hs (fun _ ht => by simp [ht]) _⟩
  case bulkSetupStaging => exact ⟨_, rfl, usbRequest_ownerRequest_sound hs (fun _ ht => by simp [ht]) _⟩
  case bulkSetupSlot => exact ⟨_, rfl, usbRequest_ownerRequest_sound hs (fun _ ht => by simp [ht]) _⟩
  case setSecret => exact ⟨_, rfl, usbRequest_ownerRequest_sound hs (fun _ ht => by simp [ht]) _⟩
  case setModeNormal => exact ⟨_, rfl, usbRequest_serviceRequest_sound hs (fun _ ht => by simp [ht]) _⟩
  case setModeFreeze => exact ⟨_, rfl, usbRequest_serviceRequest_sound hs (fun _ ht => by simp [ht]) _⟩
  case setModeDebugHold => exact ⟨_, rfl, usbRequest_serviceRequest_sound hs (fun _ ht => by simp [ht]) _⟩
  case usbPost r b =>
    refine ⟨_, rfl, State_usbRequest_sound _ hs fun t ht => ?_⟩
    split
    · simp [ht]
    · exact State_serviceRequest_sound _ _ ht fun u hu => State_ownerRequest_sound _ _ hu fun v hv => by simp [hv]
  case usbCaptureStore a n =>
    refine ⟨_, rfl, State_usbRequest_sound _ hs fun t ht => ?_⟩
    split
    · simp [ht]
    · exact State_serviceRequest_sound _ _ ht fun u hu => State_ownerRequest_sound _ _ hu fun v hv => by simp [hv]
  case usbMalformedRequest b =>
    refine ⟨_, rfl, State_usbRequest_sound _ hs fun t ht => ?_⟩
    split <;> simp [ht]
  all_goals
    refine ⟨_, rfl, ?_⟩
    simp [hs, sound_ite]

/-- Settles O5: a tick keeps soundness, and so does the front command. -/
theorem stepKeepsSound : Obligations.StepKeepsSound := by
  intro s t hs h
  cases hp : s.pending with
  | nil =>
    rw [step, hp] at h
    cases h
    exact State_tick_sound hs
  | cons c rest =>
    have hq : State.Sound { s with pending := rest } := ⟨hs.1, hs.2, hs.3, hs.4, hs.5, hs.6⟩
    obtain ⟨u, hu, hsound⟩ := exec_sound c hq
    rw [step, hp] at h
    cases hu.symm.trans h
    exact hsound

end Sys2Proof.Machine

/-! PROOFS. Steps, the state after reset, and single register accesses. -/

namespace Sys2Proof.Machine

/-! ### Steps -/

theorem step_of_pending {s : State} {c : Instr} {rest : List Instr} (h : s.pending = c :: rest) :
    step s = exec c { s with pending := rest } := by
  rw [step, h]

theorem step_of_pending_nil {s : State} (h : s.pending = []) : step s = .next s.tick := by
  rw [step, h]

/-- Settles O1: the queue's front is the command that runs. -/
theorem stepRunsFrontCommand : Obligations.StepRunsFrontCommand :=
  ⟨fun _ _ _ h => step_of_pending h, fun _ _ => rfl, fun _ _ _ => rfl⟩

theorem exec_next (c : Instr) (s : State) : ∃ t, exec c s = .next t := by
  cases c <;> exact ⟨_, rfl⟩

/-- Settles O59: every arm of the dispatch is a next state, and so is a tick. -/
theorem commandsComplete : Obligations.CommandsComplete := by
  refine ⟨exec_next, fun s => ?_⟩
  cases hp : s.pending with
  | nil => exact ⟨_, step_of_pending_nil hp⟩
  | cons c rest => exact (step_of_pending hp).symm ▸ exec_next c _

/-! ### The step of the time base (R239, R240) -/

theorem tbStep_tclk {s : State} (h : s.time.lfclk = false) (hc : s.boot.clocks = true) : s.tbStep = (1, 0) := by
  simp [State.tbStep, h, hc]

theorem tbStep_stopped {s : State} (h : s.time.lfclk = false) (hc : s.boot.clocks = false) : s.tbStep = (0, 0) := by
  simp [State.tbStep, h, hc]

theorem tbStep_lfclk {s : State} (h : s.time.lfclk = true) (hw : s.wantsLfclk = true) :
    s.tbStep = (3051 + (s.time.lfAcc + 97) / 128, (s.time.lfAcc + 97) % 128) := by
  simp [State.tbStep, h, hw]

theorem tbStep_beforeEdge {s : State} (h : s.time.lfclk = true) (hw : s.wantsLfclk = false) :
    s.tbStep = (0, s.time.lfAcc) := by
  simp [State.tbStep, h, hw]

/-- A tick in standby power: TB and its fraction move by the step of the state before, on the same source. -/
theorem step_tick {s : State} (hp : s.pending = []) (hs : s.power.standby = true) :
    ∃ t, step s = .next t ∧ t.time.tb = s.time.tb + BitVec.ofNat 64 s.tbStep.1 ∧ t.time.lfAcc = s.tbStep.2 ∧
      t.time.lfclk = s.time.lfclk ∧ t.pending = [] := by
  obtain ⟨u, ⟨htb, hlf, -, hpend, -, -⟩, htick⟩ := tick_eq s hs
  exact ⟨_, (step_of_pending_nil hp).trans (congrArg _ htick), congrArg (· + _) htb, rfl, hlf, hpend.trans hp⟩

/-- Settles O2: one clause for each source of the tick. -/
theorem emptyQueueTicks : Obligations.EmptyQueueTicks := by
  refine ⟨?dark, ?tclk, ?lfclk, ?holds⟩
  case dark =>
    intro s hp hs
    rw [step_of_pending_nil hp, State.tick, if_pos hs]
  case tclk =>
    intro s hp hs hl hc
    obtain ⟨t, hstep, htb, -, hlf, hpend⟩ := step_tick hp hs
    rw [tbStep_tclk hl hc] at htb
    exact ⟨t, hstep, htb, hlf.trans hl, hpend⟩
  case lfclk =>
    intro s hp hs hl hw
    obtain ⟨t, hstep, htb, hacc, hlf, hpend⟩ := step_tick hp hs
    rw [tbStep_lfclk hl hw] at htb hacc
    exact ⟨t, hstep, htb, hacc, hlf.trans hl, hpend⟩
  case holds =>
    intro s hp hs h
    obtain ⟨t, hstep, htb, -, hlf, hpend⟩ := step_tick hp hs
    have hzero : s.tbStep.1 = 0 := by
      rcases h with ⟨hl, hw⟩ | ⟨hl, hc⟩
      · rw [tbStep_beforeEdge hl hw]
      · rw [tbStep_stopped hl hc]
    rw [hzero] at htb
    exact ⟨t, hstep, htb.trans (BitVec.add_zero _), hlf, hpend⟩

/-! ### The state after reset -/

/-- Settles O3: every map of the state after reset is empty, so each read is of its default. -/
theorem resetState : Obligations.ResetState := by
  refine ⟨rfl, rfl, rfl, rfl, rfl, rfl, rfl, rfl, rfl, rfl, rfl, fun _ _ _ => rfl, fun _ _ _ => rfl, fun _ => rfl,
    fun _ => rfl, fun _ => rfl, fun _ => ⟨rfl, rfl, rfl⟩⟩

/-- Settles O4: nothing is listed or held at reset. -/
theorem resetSound : Obligations.ResetSound := by
  constructor <;> decide

/-! ### One register access (R74, R59) -/

theorem readAccess_refused {s : State} {acc : Accessor} {a reason : Nat} (hs : s.reachable acc = true)
    (hj : s.judgeAccess acc false a = some reason) :
    s.readAccess acc a = (s.violation acc false a reason, 0, false) := by
  rw [State.readAccess, if_neg (by simp [hs]), hj]

theorem readAccess_accepted {s : State} {acc : Accessor} {a : Nat} {r : Reg} {i j : Nat} (hs : s.reachable acc = true)
    (hj : s.judgeAccess acc false a = none) (hr : regAt a = some (r, i, j)) :
    s.readAccess acc a = (s, s.readReg r i j, true) := by
  rw [State.readAccess, if_neg (by simp [hs]), hj, hr]

theorem writeAccess_unreachable {s : State} {acc : Accessor} (a : Nat) (v : Word) (hs : s.reachable acc = false) :
    s.writeAccess acc a v = (s, false) := by
  rw [State.writeAccess, if_pos hs]

theorem record_ledgerFrame (s : State) (source cls : Nat) (detail : List (Nat × Nat)) (addr : Nat) (head : Option Nat)
    (secondary : Bool) :
    (s.record source cls detail addr head secondary).ledger = { s.ledger with
      entries := (s.record source cls detail addr head secondary).ledger.entries
      overflow := (s.record source cls detail addr head secondary).ledger.overflow
      held := (s.record source cls detail addr head secondary).ledger.held
      countA := (s.record source cls detail addr head secondary).ledger.countA
      countB := (s.record source cls detail addr head secondary).ledger.countB
      countC := (s.record source cls detail addr head secondary).ledger.countC
      countD := (s.record source cls detail addr head secondary).ledger.countD } :=
  congrArg State.ledger (record_frame s source cls detail addr head secondary)

/-- Settles O11: the violation registers are kept by the record that follows them. -/
theorem violationRecorded : Obligations.ViolationRecorded := by
  refine ⟨fun _ _ _ _ _ => rfl, ?registers, ?write, ?read⟩
  case registers =>
    intro s acc wr a reason _
    refine ⟨_, rfl, ?_, ?_⟩ <;>
      (rw [State.violation, record_ledgerFrame])
  case write =>
    intro s acc addr v reason hs hj
    change Host.Outcome.next (s.writeAccess acc addr.toNat v).1 = _
    rw [writeAccess_refused v hs hj]
  case read => exact fun s acc a reason hs hj => readAccess_refused hs hj

theorem exec_registerWrite_accepted {s : State} {acc : Accessor} {addr v : Word} {r : Reg} {i j : Nat}
    (hs : s.reachable acc = true) (hj : s.judgeAccess acc true addr.toNat = none)
    (hr : regAt addr.toNat = some (r, i, j)) (hc : commitBound r = false) (hk : storedAtWrite r = false) :
    exec (.registerWrite acc addr v) s =
      .next ((s.written r i j v).wroteEffect s acc r i (s.reg r i j) (s.keptValue r i v)) := by
  change Host.Outcome.next (s.writeAccess acc addr.toNat v).1 = _
  rw [writeAccess_accepted v hs hj hr, State.applyWrite]
  simp [hc, hk, State.written]

theorem regAt_scratch : regAt 0x18 = some (.SCRATCH, 0, 0) := by decide

/-- Where a write is accepted, so is a read. -/
theorem judgeAccess_read_of_write {s : State} {acc : Accessor} {a : Nat} (h : s.judgeAccess acc true a = none) :
    s.judgeAccess acc false a = none := by
  by_cases ha : a % 4 = 0
  · by_cases hf : s.boot.mode = 1 ∧ floorAdmits a = false
    · rw [judgeAccess_floor ha hf.1 hf.2] at h
      contradiction
    · cases hr : regAt a with
      | none =>
        rw [judgeAccess_unmapped ha hf hr] at h
        contradiction
      | some p => exact (judgeAccess_mapped ha hf hr).trans (if_pos rfl)
  · rw [judgeAccess_unaligned ha] at h
    contradiction

/-- Settles O12: what SCRATCH reads back is the value written, none of its bits being reserved. -/
theorem registerWriteAccepted : Obligations.RegisterWriteAccepted := by
  refine ⟨?effect, ?scratch, ?unreachable⟩
  case effect =>
    intro s acc addr v r i j hs hj hr hc hk
    exact ⟨exec_registerWrite_accepted hs hj hr hc hk, reg_setReg_same .., rfl, rfl,
      fun r' i' j' h => reg_setReg _ _ _ _ _ _ _ _ h⟩
  case scratch =>
    intro s acc v ⟨hs, hj⟩
    have hkept : s.keptValue .SCRATCH 0 v = v := BitVec.and_allOnes
    have hexec := exec_registerWrite_accepted (addr := 0x18) (v := v) hs hj regAt_scratch rfl rfl
    rw [hkept] at hexec
    have hset : (s.written .SCRATCH 0 0 v).wroteEffect s acc .SCRATCH 0 (s.reg .SCRATCH) v = s.setReg .SCRATCH 0 0 v :=
      congrArg (s.setReg .SCRATCH 0 0) hkept
    have hreg : (s.setReg .SCRATCH 0 0 v).reg .SCRATCH = v := reg_setReg_same ..
    refine ⟨_, hexec.trans (congrArg _ hset), rfl, hreg, ?_⟩
    exact (readAccess_accepted (s := s.setReg .SCRATCH 0 0 v) hs (judgeAccess_read_of_write hj) regAt_scratch).trans
      (congrArg (fun w => (s.setReg .SCRATCH 0 0 v, w, true)) hreg)
  case unreachable =>
    intro s acc addr v hs
    change Host.Outcome.next (s.writeAccess acc addr.toNat v).1 = _
    rw [writeAccess_unreachable _ _ hs]

end Sys2Proof.Machine

/-! PROOFS. The register space: every address decodes to the register and the indices it encodes (R7, R16, R56). -/

namespace Sys2Proof.Machine

/-! ### Addresses of one row -/

/-- The address of the register of a row at indices i and j. -/
def RegRow.at (r : RegRow) (i j : Nat) : Nat := r.base + i * r.stride + j * r.stride'

theorem addr_eq_row_at (r : Reg) (i j : Nat) : r.addr i j = r.row.at i j := rfl

/-- How far the last index of the second kind lies beyond the first. -/
def RegRow.width (r : RegRow) : Nat := (r.count' - 1) * r.stride'

def RegRow.last (r : RegRow) : Nat := r.base + (r.count - 1) * r.stride + r.width

/-- The row lies in 1 MiB block b, its words are aligned, and its second index never reaches the next of its first. -/
def RegRow.regular (b : Nat) (r : RegRow) : Bool :=
  r.base / 0x100000 == b && r.last / 0x100000 == b && (r.count == 1 || decide (r.width < r.stride)) &&
    decide (0 < r.stride') && r.base % 4 == 0 && r.stride % 4 == 0 && r.stride' % 4 == 0

/-- The window of row p within a stride lies below that of row q. -/
def RegRow.below (p q : RegRow) : Bool :=
  decide (p.base % p.stride + p.width < q.base % p.stride) && decide (q.base % p.stride + q.width < p.stride)

/-- Two rows share no address: one ends before the other begins, or they have one stride and separate windows within
it, or they take different words of each double word. -/
def RegRow.apart (p q : RegRow) : Bool :=
  decide (p.last < q.base) || decide (q.last < p.base) ||
    (p.stride == q.stride && (p.below q || q.below p)) ||
    (p.base % 8 != q.base % 8 && p.stride % 8 == 0 && p.stride' % 8 == 0 && q.stride % 8 == 0 && q.stride' % 8 == 0)

section Row

variable {p q : RegRow} {i j k l : Nat}

theorem RegRow.second_le_width (hj : j < p.count') : j * p.stride' ≤ p.width :=
  Nat.mul_le_mul_right _ (by omega)

theorem RegRow.base_le_at : p.base ≤ p.at i j := by
  rw [RegRow.at]
  omega

theorem RegRow.at_le_last (hi : i < p.count) (hj : j < p.count') : p.at i j ≤ p.last := by
  have hfirst : i * p.stride ≤ (p.count - 1) * p.stride := Nat.mul_le_mul_right _ (by omega)
  have hsecond := RegRow.second_le_width hj
  rw [RegRow.at, RegRow.last]
  omega

/-- Within a stride, an address keeps to the window of its row. -/
theorem RegRow.at_mod_stride {m : Nat} (hm : p.stride = m) (hfit : p.base % m + p.width < m) (hj : j < p.count') :
    p.at i j % m = p.base % m + j * p.stride' := by
  have hsecond := RegRow.second_le_width hj
  rw [RegRow.at, hm, Nat.add_right_comm, Nat.add_mul_mod_self_right, Nat.add_mod, Nat.mod_eq_of_lt (a := j * p.stride'),
    Nat.mod_eq_of_lt] <;> omega

theorem RegRow.below_ne (h : p.below q = true) (hs : p.stride = q.stride) (hj : j < p.count') (hl : l < q.count') :
    p.at i j ≠ q.at k l := by
  simp only [RegRow.below, Bool.and_eq_true, decide_eq_true_eq] at h
  obtain ⟨hbelow, hfit⟩ := h
  intro heq
  have hp := RegRow.at_mod_stride (i := i) (j := j) rfl (by omega) hj
  have hq := RegRow.at_mod_stride (i := k) (j := l) hs.symm hfit hl
  have hwidth := RegRow.second_le_width hj
  rw [heq] at hp
  omega

theorem RegRow.at_mod_eight (hs : p.stride % 8 = 0) (hs' : p.stride' % 8 = 0) : p.at i j % 8 = p.base % 8 := by
  rw [RegRow.at, Nat.add_mod, Nat.mul_mod j, hs', Nat.add_mod p.base, Nat.mul_mod i, hs]
  simp

/-- Rows that are apart give different addresses. -/
theorem RegRow.apart_ne (h : p.apart q = true) (hi : i < p.count) (hj : j < p.count') (hk : k < q.count)
    (hl : l < q.count') : p.at i j ≠ q.at k l := by
  have hplast := RegRow.at_le_last hi hj
  have hqlast := RegRow.at_le_last hk hl
  have hpbase := RegRow.base_le_at (p := p) (i := i) (j := j)
  have hqbase := RegRow.base_le_at (p := q) (i := k) (j := l)
  simp only [RegRow.apart, Bool.or_eq_true, Bool.and_eq_true, decide_eq_true_eq, beq_iff_eq, bne_iff_ne] at h
  rcases h with ((hend | hend) | ⟨hs, hbelow | hbelow⟩) | ⟨⟨⟨⟨hb, hp⟩, hp'⟩, hq⟩, hq'⟩
  · omega
  · omega
  · exact RegRow.below_ne hbelow hs hj hl
  · exact (RegRow.below_ne hbelow hs.symm hl hj).symm
  · intro heq
    rw [← RegRow.at_mod_eight hp hp', ← RegRow.at_mod_eight (i := k) (j := l) hq hq', heq] at hb
    exact hb rfl

/-- A regular row finds its own indices in an address. -/
theorem RegRow.index_at {b : Nat} (h : p.regular b = true) (hi : i < p.count) (hj : j < p.count') :
    p.index (p.at i j) = some (i, j) := by
  simp only [RegRow.regular, Bool.and_eq_true, Bool.or_eq_true, decide_eq_true_eq, beq_iff_eq] at h
  obtain ⟨⟨⟨⟨⟨⟨-, -⟩, hwidth⟩, hpos⟩, -⟩, -⟩, -⟩ := h
  have hsecond := RegRow.second_le_width hj
  have hd : p.at i j - p.base = i * p.stride + j * p.stride' := by
    rw [RegRow.at]
    omega
  have hfirst : (if p.count = 1 then 0 else (i * p.stride + j * p.stride') / p.stride) = i := by
    split
    · omega
    · have hlt : j * p.stride' < p.stride := by omega
      rw [Nat.add_comm, Nat.add_mul_div_right _ _ (by omega), Nat.div_eq_of_lt hlt, Nat.zero_add]
  have hrest : (if p.count' = 1 then 0 else j * p.stride' / p.stride') = j := by
    split
    · omega
    · exact Nat.mul_div_cancel _ hpos
  rw [RegRow.index, if_neg (Nat.not_lt.mpr RegRow.base_le_at)]
  simp only [hd, hfirst, Nat.add_sub_cancel_left, hrest]
  rw [if_pos ⟨hi, hj, trivial⟩]

end Row

/-! ### The whole space -/

/-- Every row of a block is regular, and any two of them are apart. -/
theorem regsIn_regular_apart : ∀ b < 20, ∀ p ∈ regsIn b, p.row.regular b = true ∧
    ∀ q ∈ regsIn b, p = q ∨ p.row.apart q.row = true := by
  decide +kernel

/-- Every register stands in the list of its block. -/
theorem mem_regsIn (r : Reg) : r.row.base / 0x100000 < 20 ∧ r ∈ regsIn (r.row.base / 0x100000) := by
  cases r <;> decide +kernel

/-- A search meets no other register on its way to the one whose address it is given. -/
theorem findReg_of_mem {l : List Reg} {r : Reg} {a i j : Nat} (hr : r ∈ l) (hown : r.row.index a = some (i, j))
    (hother : ∀ q ∈ l, q ≠ r → q.row.index a = none) : findReg l a = some (r, i, j) := by
  induction l with
  | nil => contradiction
  | cons q l ih =>
    rw [findReg]
    by_cases hq : q = r
    · rw [hq, hown]
    · rw [hother q List.mem_cons_self hq]
      exact ih (List.mem_of_ne_of_mem (Ne.symm hq) hr) fun x hx => hother x (List.mem_cons_of_mem _ hx)

/-- The address of a register decodes to it and its indices. -/
theorem regAt_addr_same {r : Reg} {i j : Nat} (hi : i < r.row.count) (hj : j < r.row.count') :
    regAt (r.addr i j) = some (r, i, j) := by
  obtain ⟨hblock, hmem⟩ := mem_regsIn r
  obtain ⟨hreg, hapart⟩ := regsIn_regular_apart _ hblock r hmem
  have hdiv : r.addr i j / 0x100000 = r.row.base / 0x100000 := by
    have hreg' := hreg
    simp only [RegRow.regular, Bool.and_eq_true, beq_iff_eq] at hreg'
    obtain ⟨⟨⟨⟨⟨⟨-, hlast⟩, -⟩, -⟩, -⟩, -⟩, -⟩ := hreg'
    have hlow := Nat.div_le_div_right (c := 0x100000) (RegRow.base_le_at (p := r.row) (i := i) (j := j))
    have hhigh := Nat.div_le_div_right (c := 0x100000) (RegRow.at_le_last hi hj)
    rw [addr_eq_row_at]
    omega
  rw [regAt, hdiv]
  refine findReg_of_mem hmem (RegRow.index_at hreg hi hj) fun q hq hne => ?_
  cases hindex : q.row.index (r.addr i j) with
  | none => rfl
  | some x =>
    obtain ⟨k, l⟩ := x
    obtain ⟨heq, hk, hl⟩ := regRow_index hindex
    have hrq := (hapart q hq).resolve_left (Ne.symm hne)
    exact absurd heq.symm (RegRow.apart_ne hrq hi hj hk hl)

theorem addr_aligned (r : Reg) (i j : Nat) : r.addr i j % 4 = 0 := by
  obtain ⟨hblock, hmem⟩ := mem_regsIn r
  have hreg := (regsIn_regular_apart _ hblock r hmem).1
  simp only [RegRow.regular, Bool.and_eq_true, beq_iff_eq] at hreg
  obtain ⟨⟨⟨-, hbase⟩, hstride⟩, hstride'⟩ := hreg
  rw [Reg.addr, Nat.add_mod, Nat.mul_mod j, hstride', Nat.add_mod r.row.base, Nat.mul_mod i, hstride, hbase]
  simp

/-- Settles O58: decoding is the inverse of encoding, so encoding is injective. -/
theorem registerSpace : Obligations.RegisterSpace := by
  refine ⟨fun r i j hi hj => regAt_addr_same hi hj, ?decoded, ?injective⟩
  case decoded =>
    intro a r i j h
    obtain ⟨haddr, hi, hj⟩ := regAt_addr h
    exact ⟨haddr, haddr ▸ addr_aligned r i j, hi, hj⟩
  case injective =>
    intro r r' i j i' j' hi hj hi' hj' h
    have heq := (regAt_addr_same hi hj).symm.trans (h ▸ regAt_addr_same hi' hj')
    simpa using heq

end Sys2Proof.Machine

/-! PROOFS. The Store, events and what others than the owner may write. -/

namespace Sys2Proof.Machine

/-! ### The Store (R97) -/

/-- Settles O6: the bytes after a write that reports no failure are those of `memWrite`. -/
theorem storeReadAfterWrite : Obligations.StoreReadAfterWrite := by
  intro s t a bs ring stop h
  have hmem := storeWrite_mem h
  have hframe := storeWrite_frame s a bs ring stop
  rw [h] at hframe
  refine ⟨?same, ?apart, hframe, storeWrite_poison h⟩
  case same => rw [hmem, memBytes_memWrite_same]
  case apart =>
    intro x hx
    rw [hmem, mapGet_memWrite, if_neg (by omega)]

/-! ### How an event leaves (R89, R90, R414) -/

section Emit

variable {s t : State} (b : Bale)

theorem emit_held (ho : s.outbound = false) (hroom : s.routes.held.length < 16) :
    s.emit b = ({ s with routes := { s.routes with held := s.routes.held ++ [b] } }, false) := by
  rw [State.emit, if_pos ho, if_pos hroom]

theorem emit_notHeld (ho : s.outbound = false) (hfull : 16 ≤ s.routes.held.length) :
    s.emit b = (s.loseEvent, false) := by
  rw [State.emit, if_pos ho, if_neg (by omega)]

theorem emit_ringFull (ho : s.outbound = true) (hfree : (s.route 15).depth - (s.route 15).occupancy = 0) :
    s.emit b = (s.loseEvent, false) := by
  simp [State.emit, ho, hfree]

theorem emit_lastSlot (ho : s.outbound = true) (hfree : (s.route 15).depth - (s.route 15).occupancy = 1) :
    s.emit b = ((s.writeOutbound (eventBale s 0x85 0 0xFF [])).loseEvent, true) := by
  simp [State.emit, ho, hfree]

theorem emit_room (ho : s.outbound = true) (hfree : 2 ≤ (s.route 15).depth - (s.route 15).occupancy) :
    s.emit b = (s.writeOutbound b, false) := by
  obtain ⟨n, hn⟩ := Nat.exists_eq_add_of_le' hfree
  simp [State.emit, ho, hn]

variable {b}

theorem writeOutbound_ok (h : s.storeWrite ((s.route 15).slotAddr (s.route 15).put) b true = (t, none)) :
    s.writeOutbound b = t.modRoute 15 (fun r => { r with put := (r.put + 1) % 65536 }) := by
  rw [State.writeOutbound, h]

theorem writeOutbound_fails {e : Nat × Nat}
    (h : s.storeWrite ((s.route 15).slotAddr (s.route 15).put) b true = (t, some e)) :
    s.writeOutbound b = t.loseEvent := by
  rw [State.writeOutbound, h]

theorem postBale_of_emit_false (h : s.emit b = (t, false)) : s.postBale b = t := by
  rw [State.postBale, h]

/-- The record of an OVERFLOW (R90), while it does not fill the Ledger. -/
theorem postBale_overflow (h : s.emit b = (t, true)) (hup : t.ledger.up = true) (hroom : t.ledger.entries.length < 63) :
    s.postBale b = { t with ledger := { t.ledger.countClass classA with
      entries := t.ledger.entries ++ [mkEntry t 0x03 classA 0 15 none false] } } := by
  have hnot64 : (t.ledger.entries.length + 1 == 64) = false := beq_eq_false_iff_ne.mpr (by omega)
  rw [State.postBale, h]
  simp only [ledgerWrite, ledger_write_append (e := mkEntry t 0x03 classA 0 15 none false) hup (by omega), hnot64]
  rfl

end Emit

/-- Settles O7: one clause for each way `emit` can go. -/
theorem eventPosted : Obligations.EventPosted := by
  refine ⟨?written, ?failed, ?overflow, ?full, ?held, ?lost, fun _ => rfl⟩
  case written =>
    intro s t code tag head detail ho hfree hw
    exact postBale_of_emit_false ((emit_room _ ho hfree).trans (congrArg (·, false) (writeOutbound_ok hw)))
  case failed =>
    intro s t code tag head detail e ho hfree hw
    exact postBale_of_emit_false ((emit_room _ ho hfree).trans (congrArg (·, false) (writeOutbound_fails hw)))
  case overflow =>
    intro s t code tag head detail ho hfree hw hup hroom
    have hemit := (emit_lastSlot (eventBale s code tag head detail) ho hfree).trans
      (congrArg (fun u : State => (u.loseEvent, true)) (writeOutbound_ok hw))
    refine ⟨_, postBale_overflow hemit hup hroom, ?_, rfl, rfl, _, rfl, rfl, rfl, rfl⟩
    exact congrArg RouteSt.put (State.modRoute_same t 15 (fun r => { r with put := (r.put + 1) % 65536 }))
  case full =>
    intro s code tag head detail ho hfree
    exact postBale_of_emit_false (emit_ringFull _ ho hfree)
  case held =>
    intro s code tag head detail ho hroom
    exact postBale_of_emit_false (emit_held _ ho hroom)
  case lost =>
    intro s code tag head detail ho hfull
    exact postBale_of_emit_false (emit_notHeld _ ho hfull)

/-! ### Another than the owner (R59, R63, R410) -/

/-- A write by another than the owner meets one of the reasons before the register's type is looked at. -/
theorem judgeAccess_of_not_owner {s : State} {acc : Accessor} (a : Nat) (h : s.isOwner acc = false) :
    ∃ reason, s.judgeAccess acc true a = some reason := by
  by_cases ha : a % 4 = 0
  · by_cases hf : s.boot.mode = 1 ∧ floorAdmits a = false
    · exact ⟨_, judgeAccess_floor ha hf.1 hf.2⟩
    · cases hr : regAt a with
      | none => exact ⟨_, judgeAccess_unmapped ha hf hr⟩
      | some p => exact ⟨_, (judgeAccess_mapped ha hf hr).trans (by rw [if_neg (by decide), if_pos h])⟩
  · exact ⟨_, judgeAccess_unaligned ha⟩

/-- Such a write leaves at most its violation. -/
theorem writeAccess_of_not_owner {s : State} {acc : Accessor} (a : Nat) (v : Word) (h : s.isOwner acc = false) :
    s.writeAccess acc a v = (s, false) ∨ ∃ reason, s.writeAccess acc a v = (s.violation acc true a reason, false) := by
  cases hs : s.reachable acc with
  | false => exact .inl (writeAccess_unreachable a v hs)
  | true =>
    obtain ⟨reason, hj⟩ := judgeAccess_of_not_owner a h
    exact .inr ⟨reason, writeAccess_refused v hs hj⟩

theorem violation_isOwner (s : State) (acc acc' : Accessor) (wr : Bool) (a reason : Nat) :
    (s.violation acc wr a reason).isOwner acc' = s.isOwner acc' := by
  rw [violation_frame]
  cases acc' <;> rfl

theorem writeRun_cons_refused {s t : State} {acc : Accessor} {a : Nat} {v : Word} (vs : List Word) (k : Nat)
    (h : s.writeAccess acc a v = (t, false)) : State.writeRun acc s a (v :: vs) k = (t, k) := by
  rw [State.writeRun, h]

/-- Settles O60: the first word of the run is refused, and it ends there. -/
theorem nonOwnerWritesNothing : Obligations.NonOwnerWritesNothing := by
  intro s acc a vs ho
  cases vs with
  | nil => exact ⟨s, rfl, rfl, rfl, rfl, rfl, rfl, rfl, rfl, fun _ => rfl⟩
  | cons v vs =>
    rcases writeAccess_of_not_owner a v ho with h | ⟨reason, h⟩
    · exact ⟨s, writeRun_cons_refused vs 0 h, rfl, rfl, rfl, rfl, rfl, rfl, rfl, fun _ => rfl⟩
    · refine ⟨_, writeRun_cons_refused vs 0 h, ?_, ?_, ?_, ?_, ?_, ?_, ?_, fun _ => violation_isOwner ..⟩ <;>
        rw [violation_frame]

end Sys2Proof.Machine

/-! PROOFS. COMMIT: the fields of a group become pending (R66). -/

namespace Sys2Proof.Machine

/-! ### Members of the dirty and the pending fields -/

section Fields

variable {s : State} {a g h : Nat}

theorem mem_pendingIn_of_dirtyAt {n : Nat} (hd : s.dirtyAt a = some ⟨g, some n⟩) : a ∈ s.pendingIn g := by
  have hmem := mapGet_mem none s.commit.dirty a (by rw [show mapGet none s.commit.dirty a = s.dirtyAt a from rfl, hd]; simp)
  rw [show mapGet none s.commit.dirty a = s.dirtyAt a from rfl, hd] at hmem
  exact List.mem_map.mpr ⟨_, List.mem_filter.mpr ⟨hmem, by simp⟩, rfl⟩

/-- A head with a pending field is waited for. -/
theorem mem_waitingOf_of_pending (hp : a ∈ s.pendingIn g) (hh : s.headOfAddr a = some h) : h ∈ s.waitingOf g := by
  have hown : h ∈ s.ownersOf g := by
    rw [State.ownersOf, dedup_mem]
    exact List.mem_filterMap.mpr ⟨a, hp, hh⟩
  rw [State.waitingOf]
  split
  · rw [dedup_mem]
    exact List.mem_cons_of_mem _ hown
  · exact hown

end Fields

/-! ### The commit of one group -/

/-- What a commit makes of a field dirty in its group: pending where it has a head, and clean where it has none. -/
def committedField (s : State) (g serial a : Nat) : Option Dirty :=
  match s.headOfAddr a with
  | some _ => some ⟨g, some serial⟩
  | none => none

/-- The group a commit leaves (R66). -/
def committedGroup (s : State) (g : Nat) : Group :=
  { s.group g with
    state := 1
    onRef := if (s.group g).state = 1 then (s.group g).onRef else !(s.dirtyIn g).any (fun a => (s.headOfAddr a).isSome)
    refHead := s.refHead
    serial := s.commit.serial + 1
    carried := if (s.group g).state = 1 then (s.group g).carried else false }

/-- The state in which the new commit is counted. -/
def State.countedCommit (s : State) : State :=
  { s with commit := { s.commit with serial := s.commit.serial + 1, count := s.commit.count + 1 } }

theorem commitGroup_eq (s : State) (g : Nat) :
    s.commitGroup g = ((s.dirtyIn g).foldl (fun u a => u.setDirty a (committedField s g (s.commit.serial + 1) a))
      s.countedCommit).setGroup g (committedGroup s g) := rfl

theorem foldl_setDirty_frame (f : Nat → Option Dirty) (l : List Nat) (s : State) :
    l.foldl (fun u a => u.setDirty a (f a)) s =
      { s with commit := { s.commit with dirty := (l.foldl (fun u a => u.setDirty a (f a)) s).commit.dirty } } := by
  induction l generalizing s with
  | nil => rfl
  | cons a l ih => rw [List.foldl_cons, ih]; rfl

@[simp] theorem setGroup_group_same (s : State) (g : Nat) (x : Group) : (s.setGroup g x).group g = x := by
  simp [State.setGroup, State.group]

theorem setGroup_group_ne (s : State) {g k : Nat} (x : Group) (h : k ≠ g) : (s.setGroup g x).group k = s.group k :=
  mapGet_mapSet_ne _ _ _ h

section CommitGroup

variable (s : State) (g : Nat)

@[simp] theorem commitGroup_group : (s.commitGroup g).group g = committedGroup s g := by
  rw [commitGroup_eq, setGroup_group_same]

theorem commitGroup_group_ne {k : Nat} (h : k ≠ g) : (s.commitGroup g).group k = s.group k := by
  rw [commitGroup_eq, setGroup_group_ne _ _ h]
  exact congrArg (fun m => mapGet default m k) (foldl_setDirty_groups _ _ _)

theorem commitGroup_dirtyAt (a : Nat) : (s.commitGroup g).dirtyAt a =
    if a ∈ s.dirtyIn g then committedField s g (s.commit.serial + 1) a else s.dirtyAt a := by
  rw [commitGroup_eq]
  exact foldl_setDirty_dirtyAt _ _ _ _

theorem commitGroup_count : (s.commitGroup g).commit.count = s.commit.count + 1 := by
  rw [commitGroup_eq, foldl_setDirty_frame]
  rfl

theorem commitGroup_headOfAddr (a : Nat) : (s.commitGroup g).headOfAddr a = s.headOfAddr a := by
  rw [commitGroup_frame]
  rfl

/-- A commit that finds no field leaves the dirty map alone. -/
theorem commitGroup_pendingIn_of_clean (h : s.dirtyIn g = []) : (s.commitGroup g).pendingIn g = s.pendingIn g := by
  rw [commitGroup_eq, h]
  rfl

end CommitGroup

theorem waitingOf_eq_ref {s : State} {g : Nat} (hon : (s.group g).onRef = true) (hp : s.pendingIn g = []) :
    s.waitingOf g = [(s.group g).refHead] := by
  rw [State.waitingOf, if_pos hon, State.ownersOf, hp]
  rfl

/-! ### The command -/

theorem setBits_pow (g : Fin 16) : setBits 16 (fld (wordOf (2 ^ g.val)) 0 16) = [g.val] := by
  revert g
  decide

theorem regAt_commitControl : regAt (Reg.addr .COMMIT_CONTROL) = some (.COMMIT_CONTROL, 0, 0) :=
  regAt_addr_same (by decide) (by decide)

/-- A COMMIT that names one group commits it and computes the admission anew. -/
theorem exec_commit_single {s : State} {acc : Accessor} {v : Word} {g : Fin 16} (h : s.Accepts acc .COMMIT_CONTROL)
    (hv : s.keptValue .COMMIT_CONTROL 0 v = wordOf (2 ^ g.val)) :
    exec (.commit acc v) s = .next (((s.written .COMMIT_CONTROL 0 0 v).commitGroup g).admission) := by
  change Host.Outcome.next (s.writeCmd acc .COMMIT_CONTROL 0 0 v) = _
  rw [writeCmd_plain v h regAt_commitControl rfl rfl, hv]
  change Host.Outcome.next (State.commitMask _ (fld (wordOf (2 ^ g.val)) 0 16)) = _
  rw [State.commitMask, setBits_pow]
  rfl

/-- Settles O14: the admission after the commit moves no field and no group. -/
theorem commitMakesPending : Obligations.CommitMakesPending := by
  intro s acc v g hacc hv
  have hfields a : ((s.written .COMMIT_CONTROL 0 0 v).commitGroup g).dirtyAt a =
      if a ∈ s.dirtyIn g then committedField (s.written .COMMIT_CONTROL 0 0 v) g (s.commit.serial + 1) a
      else s.dirtyAt a := commitGroup_dirtyAt ..
  have hgroup := commitGroup_group (s.written .COMMIT_CONTROL 0 0 v) g
  have hhead a : ((s.written .COMMIT_CONTROL 0 0 v).commitGroup g).headOfAddr a = s.headOfAddr a :=
    (commitGroup_headOfAddr ..).trans (headOfAddr_written ..)
  have hframe := commitGroup_frame (s.written .COMMIT_CONTROL 0 0 v) g
  refine ⟨_, exec_commit_single hacc hv, ?state, ?ref, ?count, ?active, ?pending, ?clean, ?onRef, ?others, ?frame⟩
  case state => exact congrArg Group.state hgroup
  case ref => exact congrArg Group.refHead hgroup
  case count => exact commitGroup_count ..
  case active => exact (congrArg State.active hframe :)
  case pending =>
    intro a h ha hh
    have hserial : (((s.written .COMMIT_CONTROL 0 0 v).commitGroup g).group g).serial = s.commit.serial + 1 :=
      congrArg Group.serial hgroup
    have hd : ((s.written .COMMIT_CONTROL 0 0 v).commitGroup g).dirtyAt a = some ⟨g, some (s.commit.serial + 1)⟩ := by
      rw [hfields, if_pos ha, committedField, headOfAddr_written, hh]
    refine ⟨hd.trans (congrArg (fun n => some (Dirty.mk g (some n))) hserial.symm), ?_⟩
    exact mem_waitingOf_of_pending (mem_pendingIn_of_dirtyAt hd) ((hhead a).trans hh)
  case clean =>
    intro a ha hh
    refine (hfields a).trans ?_
    rw [if_pos ha, committedField, headOfAddr_written, hh]
  case onRef =>
    intro hd hp hstate
    have hpend := (commitGroup_pendingIn_of_clean (s.written .COMMIT_CONTROL 0 0 v) g hd).trans hp
    have hon : (((s.written .COMMIT_CONTROL 0 0 v).commitGroup g).group g).onRef = true := by
      rw [hgroup]
      change (if (s.group g).state = 1 then _ else !(s.dirtyIn g).any _) = true
      rw [if_neg hstate, hd]
      rfl
    exact (waitingOf_eq_ref hon hpend).trans (congrArg (fun x => [Group.refHead x]) hgroup)
  case others => exact fun k hk => commitGroup_group_ne _ _ hk
  case frame => rw [hframe]; rfl

end Sys2Proof.Machine

/-! PROOFS. Accepted writes of a register by its name, and updates of every unit of a list. -/

namespace Sys2Proof.Machine

/-! ### An accepted write, by the indices of its register -/

section Accepted

variable {s : State} {acc : Accessor} {r : Reg} {i j : Nat} (v : Word)

/-- An accepted write of a register that is neither commit-bound nor kept elsewhere is the stored word and what follows
from it (R8, R15, R59). -/
theorem writeCmd_next (h : s.Accepts acc r i j) (hi : i < r.row.count) (hj : j < r.row.count')
    (hc : commitBound r = false) (hk : storedAtWrite r = false) :
    s.writeCmd acc r i j v = (s.written r i j v).wroteEffect s acc r i (s.reg r i j) (s.keptValue r i v) :=
  writeCmd_plain v h (regAt_addr_same hi hj) hc hk

theorem writeCmd_stored_next (h : s.Accepts acc r i j) (hi : i < r.row.count) (hj : j < r.row.count')
    (hc : commitBound r = false) (hk : storedAtWrite r = true) :
    s.writeCmd acc r i j v = ((s.written r i j v).setStored r i j (s.keptValue r i v)).wroteEffect s acc r i (s.reg r i j)
      (s.keptValue r i v) := by
  rw [writeCmd_accepted v h (regAt_addr_same hi hj) hc, if_pos hk]

@[simp] theorem written_reg_same : (s.written r i j v).reg r i j = s.keptValue r i v := reg_setReg_same ..

/-- Registers of different addresses do not share a value. -/
theorem written_reg_ne {r' : Reg} {i' j' : Nat} (h : r'.addr i' j' ≠ r.addr i j) :
    (s.written r i j v).reg r' i' j' = s.reg r' i' j' := reg_setReg _ _ _ _ _ _ _ _ h

/-- Different registers have different addresses, so they do not share a value. -/
theorem written_reg_other {r' : Reg} {i' j' : Nat} (hne : r' ≠ r) (hi : i < r.row.count) (hj : j < r.row.count')
    (hi' : i' < r'.row.count) (hj' : j' < r'.row.count') : (s.written r i j v).reg r' i' j' = s.reg r' i' j' :=
  written_reg_ne v fun h => hne (registerSpace.2.2 r' r i' j' i j hi' hj' hi hj h).1

/-- Accepted means aligned, mapped, by the owner, and of a type that takes the write. -/
theorem typeRefusal_of_accepts (h : s.Accepts acc r i j) (hi : i < r.row.count) (hj : j < r.row.count') :
    ¬ (s.boot.mode = 1 ∧ floorAdmits (r.addr i j) = false) ∧ s.isOwner acc = true ∧ s.typeRefusal r = none := by
  have hjudge := h.2
  by_cases hf : s.boot.mode = 1 ∧ floorAdmits (r.addr i j) = false
  · rw [judgeAccess_floor (addr_aligned r i j) hf.1 hf.2] at hjudge
    contradiction
  · rw [judgeAccess_mapped (addr_aligned r i j) hf (regAt_addr_same hi hj), if_neg (by decide)] at hjudge
    cases ho : s.isOwner acc with
    | false =>
      rw [if_pos ho] at hjudge
      contradiction
    | true =>
      rw [if_neg (by simp [ho])] at hjudge
      exact ⟨hf, rfl, hjudge⟩

end Accepted

/-! ### Updates of every unit of a list -/

section Updates

variable {α : Type} [DecidableEq α] (d : α) (f : Nat → α → α)

/-- After an update of each unit of a list, a unit of it holds its update and any other what it held. -/
theorem mapGet_foldl_mapUpdate {l : List Nat} (hl : l.Nodup) (m : SMap α) (k : Nat) :
    mapGet d (l.foldl (fun m i => mapUpdate d m i (f i)) m) k = if k ∈ l then f k (mapGet d m k) else mapGet d m k := by
  induction l generalizing m with
  | nil => rfl
  | cons i l ih =>
    obtain ⟨hi, hl⟩ := List.nodup_cons.mp hl
    rw [List.foldl_cons, ih hl]
    by_cases hk : k = i
    · rw [if_neg (hk ▸ hi), if_pos (hk ▸ List.mem_cons_self), hk, mapGet_mapUpdate_same]
    · rw [mapGet_mapUpdate_ne _ _ _ hk]
      simp [hk]

/-- A fold that moves one map of the state at a time is one update of that map. -/
theorem foldl_update_map {σ : Type} (set : SMap α → σ → σ) (get : σ → SMap α) (hset : ∀ s m m', set m (set m' s) = set m s)
    (hget : ∀ s m, get (set m s) = m) (hid : ∀ s, set (get s) s = s) (l : List Nat) (s : σ) :
    l.foldl (fun s i => set (mapUpdate d (get s) i (f i)) s) s =
      set (l.foldl (fun m i => mapUpdate d m i (f i)) (get s)) s := by
  induction l generalizing s with
  | nil => exact (hid s).symm
  | cons i l ih => rw [List.foldl_cons, List.foldl_cons, ih, hset, hget]

end Updates

section UnitUpdates

variable (s : State) (l : List Nat)

theorem foldl_modNeedle (f : Nat → NeedleSt → NeedleSt) : l.foldl (fun s m => s.modNeedle m (f m)) s =
    { s with needles := l.foldl (fun m i => mapUpdate default m i (f i)) s.needles } :=
  foldl_update_map default f (fun m s => { s with needles := m }) State.needles (fun _ _ _ => rfl) (fun _ _ => rfl)
    (fun _ => rfl) l s

theorem foldl_modSkein (f : Nat → SkeinSt → SkeinSt) : l.foldl (fun s n => s.modSkein n (f n)) s =
    { s with skeins := l.foldl (fun m i => mapUpdate default m i (f i)) s.skeins } :=
  foldl_update_map default f (fun m s => { s with skeins := m }) State.skeins (fun _ _ _ => rfl) (fun _ _ => rfl)
    (fun _ => rfl) l s

theorem foldl_modCore (f : Nat → CoreSt → CoreSt) : l.foldl (fun s k => s.modCore k (f k)) s =
    { s with raster := { s.raster with cores := l.foldl (fun m i => mapUpdate default m i (f i)) s.raster.cores } } :=
  foldl_update_map default f (fun m s => { s with raster := { s.raster with cores := m } }) (fun s => s.raster.cores)
    (fun _ _ _ => rfl) (fun _ _ => rfl) (fun _ => rfl) l s

end UnitUpdates

end Sys2Proof.Machine

/-! PROOFS. Pattern operations: how one begins, and how it ends (R41 to R43, R54, R98). -/

namespace Sys2Proof.Machine

/-! ### PATTERN_CONTROL -/

/-- The fields of a LOAD as they are kept. -/
theorem load_fields : ∀ (source : Fin 4) (target : Fin 2),
    fld (wordOf (1 + 16 * source.val + 64 * target.val) &&& wordOf 0x7f) 0 4 = 1 ∧
    fld (wordOf (1 + 16 * source.val + 64 * target.val) &&& wordOf 0x7f) 4 2 = source := by
  decide

/-- The fields of a PROGRAM as they are kept. -/
theorem program_fields : ∀ (source : Fin 4) (target : Fin 2),
    fld (wordOf (2 + 16 * source.val + 64 * target.val) &&& wordOf 0x7f) 0 4 = 2 ∧
    fld (wordOf (2 + 16 * source.val + 64 * target.val) &&& wordOf 0x7f) 6 1 = target := by
  decide

section Commands

variable {s : State} {v : Word}

theorem wrotePattern_load (hcmd : fld v 0 4 = 1) (hsource : fld v 4 2 ≠ 3) (hbusy : s.patternBusy = false) :
    s.wrotePattern v = s.beginPattern .load (fld v 4 2) 0 := by
  simp [State.wrotePattern, hcmd, hbusy, hsource]

theorem wrotePattern_program (hcmd : fld v 0 4 = 2) (hbusy : s.patternBusy = false) :
    s.wrotePattern v = s.beginPattern .program 0 (fld v 6 1 + 1) := by
  simp [State.wrotePattern, hcmd, hbusy]

theorem wrotePattern_busy (hcmd : fld v 0 4 ≠ 0) (hbusy : s.patternBusy = true) : s.wrotePattern v = s.refuseCommand := by
  simp [State.wrotePattern, hcmd, hbusy]

end Commands

section Writes

variable {s : State} {acc : Accessor}

theorem exec_patternLoad (h : s.Accepts acc .PATTERN_CONTROL) (source : Fin 4) (target : Fin 2) :
    exec (.patternLoad acc source target) s =
      .next ((s.written .PATTERN_CONTROL 0 0 (wordOf (1 + 16 * source.val + 64 * target.val))).wrotePattern
        (wordOf (1 + 16 * source.val + 64 * target.val) &&& wordOf 0x7f)) :=
  congrArg Host.Outcome.next (writeCmd_next _ h (by decide) (by decide) rfl rfl)

theorem exec_patternProgram (h : s.Accepts acc .PATTERN_CONTROL) (source : Fin 4) (target : Fin 2) :
    exec (.patternProgram acc source target) s =
      .next ((s.written .PATTERN_CONTROL 0 0 (wordOf (2 + 16 * source.val + 64 * target.val))).wrotePattern
        (wordOf (2 + 16 * source.val + 64 * target.val) &&& wordOf 0x7f)) :=
  congrArg Host.Outcome.next (writeCmd_next _ h (by decide) (by decide) rfl rfl)

/-- A LOAD of a source that is none of the slots' codes begins. -/
theorem exec_patternLoad_begins (h : s.Accepts acc .PATTERN_CONTROL) (hbusy : s.patternBusy = false) {source : Fin 4}
    (target : Fin 2) (hsource : source.val ≠ 3) :
    exec (.patternLoad acc source target) s =
      .next ((s.written .PATTERN_CONTROL 0 0 (wordOf (1 + 16 * source.val + 64 * target.val))).beginPattern .load source 0) := by
  obtain ⟨hcmd, hsrc⟩ := load_fields source target
  refine (exec_patternLoad h source target).trans (congrArg Host.Outcome.next ?_)
  rw [← hsrc] at hsource
  exact Eq.trans (wrotePattern_load hcmd hsource (by exact hbusy)) (by rw [hsrc])

theorem exec_patternProgram_begins (h : s.Accepts acc .PATTERN_CONTROL) (hbusy : s.patternBusy = false) (source : Fin 4)
    (target : Fin 2) :
    exec (.patternProgram acc source target) s =
      .next ((s.written .PATTERN_CONTROL 0 0 (wordOf (2 + 16 * source.val + 64 * target.val))).beginPattern .program 0
        (target + 1)) := by
  obtain ⟨hcmd, htgt⟩ := program_fields source target
  refine (exec_patternProgram h source target).trans (congrArg Host.Outcome.next ?_)
  exact Eq.trans (wrotePattern_program hcmd (by exact hbusy)) (by rw [htgt])

theorem exec_patternLoad_busy (h : s.Accepts acc .PATTERN_CONTROL) (hbusy : s.patternBusy = true) (source : Fin 4)
    (target : Fin 2) :
    exec (.patternLoad acc source target) s =
      .next (s.written .PATTERN_CONTROL 0 0 (wordOf (1 + 16 * source.val + 64 * target.val))).refuseCommand := by
  have hcmd : fld (wordOf (1 + 16 * source.val + 64 * target.val) &&& wordOf 0x7f) 0 4 ≠ 0 := by
    rw [(load_fields source target).1]
    decide
  exact (exec_patternLoad h source target).trans (congrArg Host.Outcome.next (wrotePattern_busy hcmd hbusy))

/-! ### Locks and the owner key -/

theorem bitAt_lock_kept (v : Word) : bitAt (v &&& wordOf 1) 0 = bitAt v 0 := by
  simp [bitAt, wordOf]

theorem exec_patternLockWrite (h : s.Accepts acc .PATTERN_LOCK) (v : Word) :
    exec (.patternLockWrite acc v) s = .next { s with
      regs := (s.written .PATTERN_LOCK 0 0 v).regs
      pat := { s.pat with lockWritten := true, lock := bitAt v 0 } } := by
  refine congrArg Host.Outcome.next ((writeCmd_next v h (by decide) (by decide) rfl rfl).trans ?_)
  rw [← bitAt_lock_kept v]
  rfl

theorem exec_keyLockWrite (h : s.Accepts acc .KEY_LOCK) (v : Word) :
    exec (.keyLockWrite acc v) s = .next { s with
      regs := (s.written .KEY_LOCK 0 0 v).regs
      pat := { s.pat with keyLockWritten := true, keyLock := bitAt v 0 } } := by
  refine congrArg Host.Outcome.next ((writeCmd_next v h (by decide) (by decide) rfl rfl).trans ?_)
  rw [← bitAt_lock_kept v]
  rfl

/-- The one write of PATTERN_LOCK is used up (R63). -/
theorem exec_patternLockWrite_again {t : State} (h : s.Accepts acc .PATTERN_LOCK) (hboot : t.boot = s.boot)
    (hnet : t.net = s.net) (hlock : t.pat.lockWritten = true) (w : Word) :
    exec (.patternLockWrite acc w) t = .next (t.violation acc true (Reg.addr .PATTERN_LOCK) 5) := by
  obtain ⟨hfloor, howner, -⟩ := typeRefusal_of_accepts h (by decide) (by decide)
  have hreach : t.reachable acc = true := by
    rw [← h.1]
    cases acc <;> simp [State.reachable, hboot]
  have howner' : t.isOwner acc = true := by
    rw [← howner]
    cases acc <;> simp [State.isOwner, hnet]
  refine congrArg Host.Outcome.next (writeCmd_refused w hreach ?_)
  rw [judgeAccess_mapped (addr_aligned _ 0 0) (hboot ▸ hfloor) (regAt_addr_same (by decide) (by decide)),
    if_neg (by decide), if_neg (by simp [howner'])]
  exact if_pos hlock

end Writes

section OwnerKey

variable {s : State} {r r' : Reg} {i i' : Nat}

@[simp] theorem stored_setStored_same (v : Word) (j : Nat) : (s.setStored r i j v).stored r i j = v := by
  simp [State.setStored, State.stored]

theorem stored_setStored_ne (v : Word) (h : r'.addr i' ≠ r.addr i) : (s.setStored r i 0 v).stored r' i' = s.stored r' i' := by
  unfold State.setStored State.stored mapSet
  dsimp only
  split
  · rw [mapGet_erase, if_neg h]
  · rw [mapGet_insert, if_neg h]

/-- The owner key's words of index n, stored as their registers stand. -/
def State.storeKeyWord (s : State) (n : Nat) : State :=
  (s.setStored .OWNER_KEY_X n 0 (s.reg .OWNER_KEY_X n)).setStored .OWNER_KEY_Y n 0 (s.reg .OWNER_KEY_Y n)

theorem storeKey_eq (s : State) : s.storeKey = (List.range 8).foldl State.storeKeyWord s := rfl

/-- Storing index n stores both its words, and no other index of either. -/
theorem storeKeyWord_stored (n k : Nat) (hk : k < 8) (hn : n < 8) (hr : r = .OWNER_KEY_X ∨ r = .OWNER_KEY_Y) :
    (s.storeKeyWord n).stored r k = if k = n then s.reg r k else s.stored r k := by
  have hX : Reg.row .OWNER_KEY_X = ⟨0x100040, .rwP, 0, 0xffffffff, 8, 4, 1, 4⟩ := rfl
  have hY : Reg.row .OWNER_KEY_Y = ⟨0x100060, .rwP, 0, 0xffffffff, 8, 4, 1, 4⟩ := rfl
  have haddr : ∀ m, Reg.addr .OWNER_KEY_X m = 0x100040 + m * 4 ∧ Reg.addr .OWNER_KEY_Y m = 0x100060 + m * 4 := by
    intro m
    simp [Reg.addr, hX, hY]
  rw [State.storeKeyWord]
  split
  · next heq =>
    subst heq
    rcases hr with rfl | rfl
    · rw [stored_setStored_ne _ (by rw [(haddr k).1, (haddr k).2]; omega), stored_setStored_same]
    · rw [stored_setStored_same]
  · next hne =>
    have hx : Reg.addr r k ≠ Reg.addr .OWNER_KEY_X n := by
      rcases hr with rfl | rfl <;> simp only [haddr] <;> omega
    have hy : Reg.addr r k ≠ Reg.addr .OWNER_KEY_Y n := by
      rcases hr with rfl | rfl <;> simp only [haddr] <;> omega
    rw [stored_setStored_ne _ hy, stored_setStored_ne _ hx]

/-- Storing a list of indices stores those, as their registers stand, and moves standby memory alone. -/
theorem foldl_storeKeyWord {l : List Nat} (hl : ∀ n ∈ l, n < 8) (s : State) :
    l.foldl State.storeKeyWord s = { s with nv := (l.foldl State.storeKeyWord s).nv } ∧
      ∀ k < 8, (r = .OWNER_KEY_X ∨ r = .OWNER_KEY_Y) →
        (l.foldl State.storeKeyWord s).stored r k = if k ∈ l then s.reg r k else s.stored r k := by
  induction l generalizing s with
  | nil => exact ⟨rfl, fun _ _ _ => rfl⟩
  | cons n l ih =>
    obtain ⟨hframe, hstored⟩ := ih (fun m hm => hl m (List.mem_cons_of_mem _ hm)) (s.storeKeyWord n)
    refine ⟨hframe, fun k hk hr => ?_⟩
    rw [List.foldl_cons, hstored k hk hr, storeKeyWord_stored n k hk (hl n List.mem_cons_self) hr]
    by_cases hkl : k ∈ l
    · rw [if_pos hkl, if_pos (List.mem_cons_of_mem _ hkl)]
      rfl
    · simp [hkl]

/-- After the store, each word of the owner key is kept as its register stands (R40). -/
theorem storeKey_stored (s : State) (n : Fin 8) (hr : r = .OWNER_KEY_X ∨ r = .OWNER_KEY_Y) :
    s.storeKey.stored r n = s.reg r n := by
  rw [storeKey_eq, (foldl_storeKeyWord (fun m hm => List.mem_range.mp hm) s).2 n n.isLt hr,
    if_pos (List.mem_range.mpr n.isLt)]

theorem storeKey_frame (s : State) : s.storeKey = { s with nv := s.storeKey.nv } :=
  (foldl_storeKeyWord (r := .OWNER_KEY_X) (fun _ hm => List.mem_range.mp hm) s).1

theorem exec_ownerKeyStore {acc : Accessor} (h : s.Accepts acc .OWNER_KEY_Y 7) (v : Word) :
    exec (.ownerKeyStore acc v) s = .next (s.written .OWNER_KEY_Y 7 0 v).storeKey :=
  congrArg Host.Outcome.next (writeCmd_next v h (by decide) (by decide) rfl rfl)

end OwnerKey

/-! ### PATTERN_OPERATION_FINISH -/

section Finish

variable {s : State} {op : PatOp}

theorem patternFinish_none (hop : s.pat.op = none) (flashOk : Bool) (c : LoadCheck) : s.patternFinish flashOk c = s := by
  rw [State.patternFinish, hop]

theorem patternFinish_some (hop : s.pat.op = some op) (hchan : ¬ (op.kind ≠ .program ∧ s.boot.mode ≠ 1 ∧ op.map.length < 2))
    (flashOk : Bool) (c : LoadCheck) :
    s.patternFinish flashOk c =
      match s.patternOutcome op flashOk with
      | .error (code, sec) =>
        if op.kind = .powerOn then (s.endPattern op code sec).powerOnFails op else s.endPattern op code sec
      | .ok p =>
        match op.kind with
        | .program => s.programSlot op flashOk
        | .powerOn => s.startService op p c
        | .load => if s.boot.mode = 1 then s.startService op p c else s.startRestitch op p c := by
  rw [State.patternFinish, hop]
  exact if_neg hchan

/-- A failed load posts its PATTERN event and is recorded (R43, R54). -/
theorem endPattern_load_fails (s : State) {code : Nat} (sec : Nat) (hk : op.kind = .load) (hcode : code ≠ patOk) :
    s.endPattern op code sec = (({ s with pat := { s.pat with op := none, code := code, sect := sec } }).event 0x81
      [byteOf code, byteOf op.source, byteOf sec, 1, byteOf op.target]).recordOpen 0x02 classB [(8, code)] := by
  simp [State.endPattern, hk, hcode, opCode]
  rfl

theorem endPattern_program_ok (s : State) (sec : Nat) (hk : op.kind = .program) :
    s.endPattern op patOk sec = ({ s with pat := { s.pat with op := none, code := patOk, sect := sec } }).event 0x81
      [byteOf patOk, 0, byteOf sec, 2, byteOf op.target] := by
  simp [State.endPattern, hk, opCode]
  rfl

theorem programSlot_readable (hr : s.stagingReadable = true) :
    s.programSlot op true = (s.setFlash op.target s.stagedBytes).endPattern op patOk noSection := by
  simp [State.programSlot, hr]

theorem programSlot_unreadable (hr : s.stagingReadable = false) :
    s.programSlot op true = (s.spoilSlot op.target).endPattern op patRead noSection := by
  simp [State.programSlot, hr]

/-- A restitch with heads still to switch only begins (R50). -/
theorem startRestitch_waiting {p : Pattern} (c : LoadCheck) (hw : ((List.range 8).filter (fun h =>
      ((s.pattern.head? h).isSome || (p.head? h).isSome) && s.stillWaits p h)).isEmpty = false) :
    ∃ z : Restitch, s.startRestitch op p c = { s with pat := { s.pat with op := none, restitch := some z } } ∧
      z.pattern = p ∧ z.switched = false ∧ z.check = c ∧
      z.newMap = if op.map = s.store.chanList then none else some op.map := by
  have hwait : (((List.range 8).filter (fun h => (s.pattern.head? h).isSome || (p.head? h).isSome)).filter
      (s.stillWaits p)).isEmpty = false := by
    rw [List.filter_filter]
    simpa only [Bool.and_comm] using hw
  exact ⟨_, if_neg (by rw [hwait]; decide), rfl, rfl, rfl, rfl⟩

/-- What a load leaves of retired units: those its checks name, and the channels of its map (R53, R403). -/
theorem clearRetired_eq (s : State) (p : Pattern) (map : List Nat) {c : LoadCheck} (hc : c.skeins = []) :
    s.clearRetired p map c = { s with
      ledger := { s.ledger with
        queue := s.ledger.queue.filter (fun e => e.kind == RetireKind.channel && map.contains e.index) }
      needles := (List.range 32).foldl (fun m i => mapUpdate default m i (fun q => { q with
        retired := (c.needles.map Fin.val).contains i, queued := false, cause := 0, takenBy := none })) s.needles
      skeins := (List.range 96).foldl (fun m i => mapUpdate default m i (fun k => { k with
        retired := false, queued := false, cause := 0, transparent := false, frozen := none })) s.skeins
      raster := { s.raster with cores := (List.range 8).foldl (fun m i => mapUpdate default m i (fun q => { q with
        retired := (c.cores.map Fin.val).contains i, queued := false })) s.raster.cores } } := by
  rw [State.clearRetired, hc, State.failSkeins]
  simp only [List.map_nil, List.foldl_nil]
  rw [foldl_modNeedle, foldl_modSkein, foldl_modCore]

/-- Reading back one unit after each of a range was updated. -/
theorem mapGet_foldl_range {α : Type} [DecidableEq α] (d : α) (f : Nat → α → α) (m : SMap α) {n k : Nat} (hk : k < n) :
    mapGet d ((List.range n).foldl (fun m i => mapUpdate d m i (f i)) m) k = f k (mapGet d m k) := by
  rw [mapGet_foldl_mapUpdate d f List.nodup_range, if_pos (List.mem_range.mpr hk)]

end Finish

/-- Settles O15: the commands first, then how an operation ends. -/
theorem patternOperations : Obligations.PatternOperations := by
  refine ⟨⟨?load, ?program, ?busy, ?lock, ?keyLock, ?ownerKey⟩,
    ?idle, ?loadFails, ?programOk, ?programRead, ?restitch, ?floor, ?waits, ?cleared⟩
  case load =>
    intro s acc source target h hbusy hsource
    exact ⟨_, exec_patternLoad_begins h hbusy target hsource, rfl, rfl⟩
  case program =>
    intro s acc source target h hbusy
    exact ⟨_, exec_patternProgram_begins h hbusy source target, rfl, rfl⟩
  case busy =>
    intro s acc source target h hbusy
    exact ⟨_, exec_patternLoad_busy h hbusy source target, rfl, rfl, rfl⟩
  case lock =>
    intro s acc v h
    exact ⟨_, exec_patternLockWrite h v, rfl, rfl, rfl,
      fun w => exec_patternLockWrite_again (t := { s with
        regs := (s.written .PATTERN_LOCK 0 0 v).regs
        pat := { s.pat with lockWritten := true, lock := bitAt v 0 } }) h rfl rfl rfl w⟩
  case keyLock =>
    intro s acc v h
    exact ⟨_, exec_keyLockWrite h v, rfl, rfl, rfl⟩
  case ownerKey =>
    intro s acc v h
    have hregs := congrArg State.regs (storeKey_frame (s.written .OWNER_KEY_Y 7 0 v))
    have hv : (s.written .OWNER_KEY_Y 7 0 v).reg .OWNER_KEY_Y 7 = v :=
      (written_reg_same v).trans (BitVec.and_allOnes (x := v))
    have hY (n : Fin 7) : (s.written .OWNER_KEY_Y 7 0 v).reg .OWNER_KEY_Y n = s.reg .OWNER_KEY_Y n := by
      refine written_reg_ne v fun heq => ?_
      have hidx := (registerSpace.2.2 _ _ n 0 7 0 (by exact n.isLt.trans (by decide)) (by decide) (by decide) (by decide) heq).2.1
      omega
    refine ⟨_, exec_ownerKeyStore h v, (reg_congr hregs _ _ _).trans hv, fun n => ?_, ?_, fun n => ?_, ?_⟩
    · exact (storeKey_stored _ n (.inl rfl)).trans
        (written_reg_other v (by decide) (by decide) (by decide) n.isLt (by decide))
    · exact (storeKey_stored _ 7 (.inr rfl)).trans hv
    · exact (storeKey_stored _ (n.castLE (by decide)) (.inr rfl)).trans (hY n)
    · rw [storeKey_frame]
      rfl
  case idle => exact fun s flashOk c hop => congrArg Host.Outcome.next (patternFinish_none hop flashOk c)
  case loadFails =>
    intro s op flashOk c code sec hop hk hchan hout hcode
    refine congrArg Host.Outcome.next ((patternFinish_some hop (fun hx => hchan hx.2) flashOk c).trans ?_)
    rw [hout, ← endPattern_load_fails s sec hk hcode]
    exact if_neg (by simp [hk])
  case programOk =>
    intro s op p c hop hk hout hread
    refine congrArg Host.Outcome.next ((patternFinish_some hop (by simp [hk]) true c).trans ?_)
    simp only [hout, hk]
    rw [programSlot_readable hread, endPattern_program_ok _ _ hk]
  case programRead =>
    intro s op p c hop hk hout hread
    refine congrArg Host.Outcome.next ((patternFinish_some hop (by simp [hk]) true c).trans ?_)
    simp only [hout, hk]
    exact programSlot_unreadable hread
  case restitch =>
    intro s op flashOk p c hop hk hmode hmap hout
    refine congrArg Host.Outcome.next ((patternFinish_some hop (by omega) flashOk c).trans ?_)
    simp [hout, hk, hmode]
  case floor =>
    intro s op flashOk p c hop hk hmode hout
    refine congrArg Host.Outcome.next ((patternFinish_some hop (by simp [hmode]) flashOk c).trans ?_)
    simp [hout, hk, hmode]
  case waits =>
    intro s op p c hw
    obtain ⟨z, hz, hpat, hsw, hcheck, hmap⟩ := startRestitch_waiting (op := op) c hw
    refine ⟨_, rfl, ?_, ?_, ?_, z, ?_, hpat, hsw, hcheck, hmap⟩ <;> rw [hz]
  case cleared =>
    intro s p map c hc
    refine ⟨_, clearRetired_eq s p map hc, fun n hn => ?_, fun m hm => ?_, fun k hk => ?_, fun e he => ?_, rfl⟩
    · simp only [State.skein, mapGet_foldl_range _ _ _ hn, and_self]
    · simp only [State.needle, mapGet_foldl_range _ _ _ hm, and_self]
    · simp only [State.core, mapGet_foldl_range _ _ _ hk, and_self]
    · simpa using (List.mem_filter.mp he).2

end Sys2Proof.Machine

/-! PROOFS. The bind-off of a head (R18, R30, R46, R50, R67, R193). -/

namespace Sys2Proof.Machine

/-! ### Scan-out -/

theorem scanTo_of_not_begun {s : State} {h : Nat} (n : Nat) (hb : (s.head h).begun = false) : s.scanTo h n = s := by
  cases hl : s.liveHead h with
  | none => simp only [State.scanTo, hl]
  | some r => simp only [State.scanTo, hl, hb, true_or, if_true]

theorem scanOut_of_not_live {s : State} {h : Nat} (hl : s.liveHead h = none) : s.scanOut h = s := by
  rw [State.scanOut, hl]

theorem scanOut_of_not_begun {s : State} {h : Nat} (hb : (s.head h).begun = false) : s.scanOut h = s := by
  cases hl : s.liveHead h with
  | none => exact scanOut_of_not_live hl
  | some r => simp only [State.scanOut, hl, scanTo_of_not_begun _ hb]

/-! ### The choice among the forms of a bind-off -/

section Forms

variable {s : State} {h : Nat} {r : HeadRec}

theorem head?_of_liveHead (hl : s.liveHead h = some r) : s.pattern.head? h = some r := by
  unfold State.liveHead at hl
  split at hl
  · next r' hr =>
    split_ifs at hl
    cases hl
    exact hr
  · contradiction

theorem bindOff_of_no_restitch (hz : s.pat.restitch = none) : s.bindOff h = (s.scanOut h).plainBindOff h := by
  rw [State.bindOff, hz]

theorem bindOff_of_waiting {z : Restitch} (hz : s.pat.restitch = some z) (hw : z.waiting.contains h = true) :
    s.bindOff h = (s.scanOut h).switchHead z h := by
  simp only [State.bindOff, hz, hw, if_true]

theorem plainBindOff_of_not_live (hl : s.liveHead h = none) : s.plainBindOff h = s := by
  rw [State.plainBindOff, hl]

theorem plainBindOff_same_timing (hl : s.liveHead h = some r) (hn : (s.head h).nextTiming = none) :
    s.plainBindOff h = s.headBindOff r (if s.pat.filling then (s.head h).state else 2) true := by
  simp [State.plainBindOff, hl, hn]

theorem plainBindOff_new_timing {new : HeadRec} (hl : s.liveHead h = some r) (hn : (s.head h).nextTiming = some new) :
    s.plainBindOff h =
      if (s.head h).standinLeft = 0 then (s.startTiming new).headBindOff new (if s.pat.filling then 3 else 2) true
      else (s.modHead h (fun q => { q with standinLeft := q.standinLeft - 1 })).headBindOff r 3 true := by
  simp [State.plainBindOff, hl, hn, State.standinFrame, head?_of_liveHead hl]

end Forms

/-! ### A new timing comes into force (R30) -/

section Timing

variable {s : State} {h : Nat} {r new : HeadRec}

/-- The new record takes the place of its head's. -/
theorem find?_replaced {l : List HeadRec} (hr : l.find? (fun k => k.head == h) = some r) (hn : new.head = h) :
    (l.map (fun k => if k.head = new.head then new else k)).find? (fun k => k.head == h) = some new := by
  induction l with
  | nil => contradiction
  | cons k l ih =>
    by_cases hk : k.head = h
    · simp [hk, hn]
    · have hrest : l.find? (fun k => k.head == h) = some r := by simpa [List.find?_cons, hk] using hr
      simpa [hk, hn] using ih hrest

theorem startTiming_head (hn : new.head = h) : ((s.startTiming new).head h).nextTiming = none := by
  subst hn
  exact congrArg HeadSt.nextTiming (s.modHead_same new.head (fun q => { q with nextTiming := none, standinLeft := 0 }))

theorem startTiming_head? (hr : s.pattern.head? h = some r) (hn : new.head = h) :
    (s.startTiming new).pattern.head? h = some new :=
  find?_replaced hr hn

end Timing

theorem modHead_congr {s : State} {h : Nat} {f g : HeadSt → HeadSt} (hfg : f (s.head h) = g (s.head h)) :
    s.modHead h f = s.modHead h g :=
  congrArg (fun q => { s with heads := mapSet default s.heads h q }) hfg

/-! ### The lines of a frame (R193) -/

/-- What opening a frame sets in its head: the lines its active FRAME_CONTROL gives, and its state. -/
theorem openFrame_head (s : State) (r : HeadRec) (st : Nat) :
    (s.openFrame r st).head r.head = { s.head r.head with
      line := if (s.head r.head).fc = 1 then (frameLines r.vActive r.vTotal (s.act .HEAD_FRAME_CONTROL r.head)).1
        else (s.head r.head).bindLine
      bindLine := (frameLines r.vActive r.vTotal (s.act .HEAD_FRAME_CONTROL r.head)).1
      castLine := (frameLines r.vActive r.vTotal (s.act .HEAD_FRAME_CONTROL r.head)).2.1
      cfgErr := (frameLines r.vActive r.vTotal (s.act .HEAD_FRAME_CONTROL r.head)).2.2
      encoder := s.headPort r.head, line0Done := false, state := st, parityThisFrame := false, scanned := r.vActive } := by
  rcases hlines : frameLines r.vActive r.vTotal (s.act .HEAD_FRAME_CONTROL r.head) with ⟨bind, cast, err⟩
  simp only [State.openFrame, hlines]
  split
  · rw [State.modHead_ne _ _ _ (Nat.ne_of_lt (Nat.lt_succ_self _)), State.modHead_same]
  · rw [State.modHead_same]

theorem openFrame_frame (s : State) (r : HeadRec) (st : Nat) :
    s.openFrame r st = { s with heads := (s.openFrame r st).heads } := by
  unfold State.openFrame
  generalize frameLines r.vActive r.vTotal (s.act .HEAD_FRAME_CONTROL r.head) = lines
  obtain ⟨bind, cast, err⟩ := lines
  dsimp only
  split <;> rfl

/-- Settles O17: one clause for each form of a bind-off, then the frame it opens. -/
theorem bindOff : Obligations.BindOff := by
  refine ⟨fun s h hb => scanOut_of_not_begun hb, ?plain, ?timing, ?standin, ?notLive, ?switch, ?frame⟩
  case plain =>
    intro s u h r hu hz hf hl hn
    subst hu
    refine congrArg Host.Outcome.next ((bindOff_of_no_restitch hz).trans ((plainBindOff_same_timing hl hn).trans ?_))
    rw [hf]
    rfl
  case timing =>
    intro s u h r new hu hz hf hl hn hhead hleft
    subst hu
    refine ⟨congrArg Host.Outcome.next ((bindOff_of_no_restitch hz).trans ((plainBindOff_new_timing hl hn).trans ?_)),
      startTiming_head hhead, startTiming_head? (head?_of_liveHead hl) hhead⟩
    rw [if_pos hleft, hf]
    rfl
  case standin =>
    intro s u h r new k hu hz hl hn hleft
    subst hu
    refine congrArg Host.Outcome.next ((bindOff_of_no_restitch hz).trans ((plainBindOff_new_timing hl hn).trans ?_))
    rw [if_neg (by rw [hleft]; exact Nat.succ_ne_zero k)]
    have hk : ((s.scanOut h).head h).standinLeft - 1 = k := by rw [hleft, Nat.add_sub_cancel]
    exact congrArg (State.headBindOff · r 3 true) (modHead_congr (congrArg (fun n =>
      { (s.scanOut h).head h with standinLeft := n }) hk))
  case notLive =>
    intro s h hz hl
    refine congrArg Host.Outcome.next ((bindOff_of_no_restitch hz).trans ?_)
    rw [scanOut_of_not_live hl, plainBindOff_of_not_live hl]
  case switch => exact fun s h z hz hw => congrArg Host.Outcome.next (bindOff_of_waiting hz hw)
  case frame =>
    intro s r st
    have hhead := openFrame_head s r st
    refine ⟨_, rfl, ?_, ?_, ?_, ?_, ?_, openFrame_frame s r st⟩ <;> rw [hhead]

end Sys2Proof.Machine

/-! PROOFS. Lines of a head: a record without active pixels composes lines that the hank buffer does not list. -/

namespace Sys2Proof.Machine

/-- A head record of two lines and no active pixels. -/
def widthlessHead : HeadRec := { (default : HeadRec) with head := 0, hActive := 0, vActive := 2 }

/-- Head 0 shows a frame of that record, of which no line has been scanned out. -/
def widthlessState : State :=
  { State.reset with
    pat := { State.reset.pat with running := some { (default : Pattern) with heads := [widthlessHead] } }
    heads := [(0, { (default : HeadSt) with state := 1, begun := true })] }

theorem widthlessState_live : widthlessState.liveHead 0 = some widthlessHead := by decide

/-- The close of line 1 scans out line 0, whose composed line is empty: the sparse buffer lists nothing for it. -/
theorem widthlessState_hank : ((widthlessState.lineClose 0 1).head 0).hank = [] := by decide +kernel

/-- Refutes O18: of a head whose record has no active pixels, the line that has begun scan-out is composed as an empty
line, which the sparse hank buffer does not list. -/
theorem not_headEventsAndFailure : ¬ Obligations.HeadEventsAndFailure := by
  rintro ⟨⟨-, -, -, -, -, hscan, -⟩, -⟩
  obtain ⟨t, ht, -, -, hlisted⟩ := hscan widthlessState 0 widthlessHead 0 widthlessState_live (by decide) rfl (by decide)
  cases ht
  have hline := hlisted 0 (by decide) (by decide)
  have hempty : ((widthlessState.lineClose 0 1).head 0).hank.any (fun p => p.1 == 0) = true := hline
  rw [widthlessState_hank] at hempty
  contradiction

end Sys2Proof.Machine

/-! PROOFS. The LUT port (R184, R186). -/

namespace Sys2Proof.Machine

theorem head_setReg (s : State) (r : Reg) (i j : Nat) (v : Word) (k : Nat) : (s.setReg r i j v).head k = s.head k := rfl

section LutPort

variable {s : State} {acc : Accessor} {h : Fin 8} (v : Word)

theorem lutPortAddr_written : (s.written .LUT_PORT_DATA h 0 v).reg .LUT_PORT_ADDR h = s.reg .LUT_PORT_ADDR h :=
  written_reg_other v (by decide) h.isLt (by decide) h.isLt (by decide)

theorem exec_lutPortDataWrite (hacc : s.Accepts acc .LUT_PORT_DATA h) :
    exec (.lutPortDataWrite acc h v) s =
      .next ((s.written .LUT_PORT_DATA h 0 v).wroteLut h (s.keptValue .LUT_PORT_DATA h v)) :=
  congrArg Host.Outcome.next (writeCmd_next v hacc h.isLt (by decide) rfl rfl)

/-- A write for an absent stage stores nothing. -/
theorem wroteLut_absent {u : State} {k : Nat} (hp : u.lutPresent k (lutTable (u.reg .LUT_PORT_ADDR k)) = false) :
    u.wroteLut k v = u := by
  simp only [State.wroteLut, hp, if_true]

/-- A write beyond the table moves INDEX alone. -/
theorem wroteLut_beyond {u : State} {k : Nat} (hp : u.lutPresent k (lutTable (u.reg .LUT_PORT_ADDR k)) = true)
    (hi : lutLast (lutTable (u.reg .LUT_PORT_ADDR k)) < fld (u.reg .LUT_PORT_ADDR k) 0 16) :
    u.wroteLut k v = u.setReg .LUT_PORT_ADDR k 0 (lutNext (u.reg .LUT_PORT_ADDR k)) := by
  simp only [State.wroteLut, hp, hi, if_true, Bool.true_eq_false, if_false]

/-- A write within the table stores its entry and moves INDEX. -/
theorem wroteLut_within {u : State} {k : Nat} (hp : u.lutPresent k (lutTable (u.reg .LUT_PORT_ADDR k)) = true)
    (hi : fld (u.reg .LUT_PORT_ADDR k) 0 16 ≤ lutLast (lutTable (u.reg .LUT_PORT_ADDR k))) :
    u.wroteLut k v = (u.modHead k (fun q => { q with
      lut := mapSet 0 q.lut (lutKey (fld (u.reg .LUT_PORT_ADDR k) 20 1) (lutTable (u.reg .LUT_PORT_ADDR k))
        (fld (u.reg .LUT_PORT_ADDR k) 0 16)) (v.truncate 16) })).setReg .LUT_PORT_ADDR k 0
      (lutNext (u.reg .LUT_PORT_ADDR k)) := by
  simp only [State.wroteLut, hp, Nat.not_lt.mpr hi, Bool.true_eq_false, if_false]

end LutPort

/-- Settles O19: by whether the stage is present and the index within its table. -/
theorem lutPort : Obligations.LutPort := by
  refine ⟨?within, ?absent, ?beyond, ?next, ?wraps⟩
  case within =>
    intro s acc h v hacc hp hi
    have haddr := lutPortAddr_written (s := s) (h := h) v
    have hstep := (exec_lutPortDataWrite v hacc).trans (congrArg Host.Outcome.next
      (wroteLut_within (s.keptValue .LUT_PORT_DATA h v) (by rw [haddr]; exact hp) (by rw [haddr]; exact hi)))
    rw [haddr] at hstep
    refine ⟨_, hstep, ?_, reg_setReg_same .., rfl, fun k hk => Eq.trans (head_setReg ..) (State.modHead_ne _ _ _ hk)⟩
    have hhead := State.modHead_same (s.written .LUT_PORT_DATA h 0 v) h (fun q => { q with
      lut := mapSet 0 q.lut (lutKey (fld (s.reg .LUT_PORT_ADDR h) 20 1) (lutTable (s.reg .LUT_PORT_ADDR h))
        (fld (s.reg .LUT_PORT_ADDR h) 0 16)) ((s.keptValue .LUT_PORT_DATA h v).truncate 16) })
    refine (congrArg (fun q : HeadSt => mapGet 0 q.lut _) hhead).trans ?_
    rw [mapGet_mapSet, if_pos rfl]
  case absent =>
    intro s acc h v hacc hp
    rw [exec_lutPortDataWrite v hacc, wroteLut_absent _ (by rw [lutPortAddr_written]; exact hp)]
  case beyond =>
    intro s acc h v hacc hp hi
    have haddr := lutPortAddr_written (s := s) (h := h) v
    have hstep := (exec_lutPortDataWrite v hacc).trans (congrArg Host.Outcome.next
      (wroteLut_beyond (s.keptValue .LUT_PORT_DATA h v) (by rw [haddr]; exact hp) (by rw [haddr]; exact hi)))
    rw [haddr] at hstep
    exact ⟨_, hstep, rfl, reg_setReg_same ..⟩
  case next =>
    intro w hw
    obtain ⟨hindex, hrest⟩ := fld_lutNext w
    exact ⟨hindex.trans (if_neg (by omega)), hrest⟩
  case wraps =>
    intro w hw
    exact (fld_lutNext w).1.trans (if_pos (by omega))

end Sys2Proof.Machine

/-! PROOFS. Route resets, event release and fences (R53, R87, R89, R93, R94). -/

namespace Sys2Proof.Machine

/-! ### Fields under a mask -/

/-- A mask that has every bit of a field leaves the field. -/
theorem fld_and_mask (v m : Word) {p n : Nat} (hm : fld m p n = 2 ^ n - 1) : fld (v &&& m) p n = fld v p n := by
  rw [fld] at hm
  rw [fld, fld, BitVec.toNat_and, ← Nat.shiftRight_eq_div_pow, Nat.shiftRight_and_distrib, ← Nat.and_two_pow_sub_one_eq_mod,
    Nat.and_assoc, Nat.and_two_pow_sub_one_eq_mod, Nat.shiftRight_eq_div_pow m.toNat, hm, Nat.and_two_pow_sub_one_eq_mod,
    Nat.shiftRight_eq_div_pow]

/-- A mask that has a bit leaves it. -/
theorem bitAt_and_mask (v m : Word) (k : Nat) (hm : bitAt m k = true) : bitAt (v &&& m) k = bitAt v k := by
  rw [bitAt] at hm
  rw [bitAt, bitAt, BitVec.getLsbD_and, hm, Bool.and_true]

section Resets

variable {s : State} {r : Nat}

theorem resetRoute_now (cause : Nat) (rebind : Option RouteRec) (hb : s.routeBusyReset r = false)
    (hp : s.routes.posts.any (fun p => p.route == r) = false) :
    s.resetRoute r cause rebind = s.beginReset r cause rebind := by
  simp only [State.resetRoute, hb, hp, Bool.false_eq_true, if_false]

theorem beginReset_idle (cause : Nat) (hst : (s.route r).started = []) :
    s.beginReset r cause none = s.finishReset r ⟨cause, (s.route r).occupancy, none, 0⟩ := by
  simp only [State.beginReset, hst, List.isEmpty_nil, if_true, List.length_nil, Nat.sub_zero]

theorem beginReset_started (cause : Nat) (hst : (s.route r).started ≠ []) :
    s.beginReset r cause none = s.modRoute r (fun q => { q with
      fetched := [], resetting := some ⟨cause, (s.route r).occupancy - (s.route r).started.length, none, 0⟩ }) := by
  simp only [State.beginReset, List.isEmpty_iff, hst, if_false]

/-- The event of a finished reset (R93), of a route that is not ROUTE[15]. -/
theorem finishReset_event (n : Nat) (hr : r ≠ 15) (hf : s.pat.filling = false) :
    s.finishReset r ⟨0, n, none, 0⟩ = (s.modRoute r (fun q => { q with
      put := 0, take := 0, fetched := [], started := [], resetting := none })).event 0x82
        ([byteOf r, 0] ++ leBytes 2 n) := by
  have hfill : (s.modRoute r (fun q => { q with
      put := 0, take := 0, fetched := [], started := [], resetting := none })).pat.filling = false := hf
  simp only [State.finishReset, hr, if_false, hfill, Bool.false_eq_true]
  rfl

end Resets

/-- Settles O22: a reset by the state of its route, then the release of events and the write of a fence. -/
theorem routeControls : Obligations.RouteControls := by
  refine ⟨⟨?control, ?idle, ?started, ?absorbed, ?waits, ?done, ?none⟩, ?release, ?fence⟩
  case control =>
    intro s acc v hacc hbit
    refine congrArg Host.Outcome.next ((writeCmd_next v hacc (by decide) (by decide) rfl rfl).trans ?_)
    simp only [State.wroteEffect, hbit, if_true]
  case idle =>
    intro s r hr hb hp hst hf
    rw [resetRoute_now 0 none hb hp, beginReset_idle 0 hst, finishReset_event _ hr hf]
  case started =>
    intro s r hb hp hst
    rw [resetRoute_now 0 none hb hp, beginReset_started 0 hst]
  case absorbed =>
    intro s r hb
    simp only [State.resetRoute, hb, if_true]
  case waits =>
    intro s r hb hp
    simp only [State.resetRoute, hb, hp, Bool.false_eq_true, if_false, if_true]
  case done =>
    intro s r z hz hdone
    refine congrArg Host.Outcome.next ?_
    simp only [State.resetDone, hz, hdone, if_true]
  case none =>
    intro s r hz
    refine congrArg Host.Outcome.next ?_
    simp only [State.resetDone, hz]
  case release =>
    intro s acc v hacc
    have hstep := writeCmd_next v hacc (by decide) (by decide) rfl rfl
    have hroute := State.modRoute_same (s.written .EVENT_RELEASE 0 0 v) 15 (fun q => { q with
      take := (q.take + min (fld (s.keptValue .EVENT_RELEASE 0 v) 0 13) q.occupancy) % 65536 })
    exact ⟨_, congrArg Host.Outcome.next hstep, (congrArg RouteSt.take hroute :), (congrArg RouteSt.put hroute :),
      fun r hr => State.modRoute_ne (s.written .EVENT_RELEASE 0 0 v) 15 _ hr, rfl⟩
  case fence =>
    intro s acc f v hacc
    refine ⟨_, congrArg Host.Outcome.next (writeCmd_next v hacc f.isLt (by decide) rfl rfl), ?_, ?_, rfl⟩
    · refine (State.setFence_same (s.written .FENCE_COUNT f 0 v) f _).trans ?_
      have hkept : fld (s.keptValue .FENCE_COUNT f v) 0 16 = fld v 0 16 := fld_and_mask v _ (by decide)
      rw [hkept, fld, Nat.pow_zero, Nat.div_one]
      exact Nat.mod_mod _ 65536
    · exact fun g hg => State.setFence_ne (s.written .FENCE_COUNT f 0 v) f _ hg

end Sys2Proof.Machine

/-! PROOFS. The source of TB and the compare channels (R239 to R247, R255, R258, R259). -/

namespace Sys2Proof.Machine

/-- Two states differ in their compare channels alone. -/
def CmpFrame (s t : State) : Prop := t = { s with time := { s.time with cmp := t.time.cmp } }

theorem CmpFrame.refl (s : State) : CmpFrame s s := rfl

theorem CmpFrame.trans {s t u : State} (h : CmpFrame s t) (h' : CmpFrame t u) : CmpFrame s u := by
  unfold CmpFrame at *
  rw [h', h]

section Judge

variable {s : State} {n : Nat} (d : Nat)

/-- In debug hold the crossings are counted and skipped (R247). -/
theorem judgeCmp_holding (he : (s.cmp n).enable = true) (hh : s.holding = true) :
    s.judgeCmp d n = s.modCmp n (fun c => { c with
      holdSkip := min 0xFFFF (c.holdSkip + crossings s.time.tb d (s.cmp n).live (s.cmp n).period.toNat)
      live := c.live + BitVec.ofNat 64
        (crossings s.time.tb d (s.cmp n).live (s.cmp n).period.toNat * (s.cmp n).period.toNat) }) := by
  simp only [State.judgeCmp, he, hh, Bool.true_eq_false, if_false, if_true]
  rfl

theorem judgeCmp_crosses {d : Nat} (he : (s.cmp n).enable = true) (hh : s.holding = false) (ha : s.cmpActive = true)
    (hc : crosses s.time.tb d (s.cmp n).live = true) :
    s.judgeCmp d n = s.modCmp n (fun c => { c with crossed := some c.live, live := c.live + c.period.setWidth 64 }) := by
  simp only [State.judgeCmp, he, hh, ha, hc, Bool.true_eq_false, Bool.false_eq_true, if_false, if_true, Bool.and_self]

theorem judgeCmp_still (h : (s.cmp n).enable = false ∨
    (s.holding = false ∧ (s.cmpActive = false ∨ crosses s.time.tb d (s.cmp n).live = false))) : s.judgeCmp d n = s := by
  rcases h with he | ⟨hh, ha | hc⟩
  · simp only [State.judgeCmp, he, if_true]
  · simp only [State.judgeCmp, hh, ha, Bool.false_eq_true, Bool.false_and, if_false, ite_self]
  · simp only [State.judgeCmp, hh, hc, Bool.false_eq_true, Bool.and_false, if_false, ite_self]

theorem judgeCmp_frame : CmpFrame s (s.judgeCmp d n) := by
  cases he : (s.cmp n).enable with
  | false => rw [judgeCmp_still d (.inl he)]; rfl
  | true =>
    cases hh : s.holding with
    | true => rw [judgeCmp_holding d he hh]; rfl
    | false =>
      cases ha : s.cmpActive with
      | false => rw [judgeCmp_still d (.inr ⟨hh, .inl ha⟩)]; rfl
      | true =>
        cases hc : crosses s.time.tb d (s.cmp n).live with
        | false => rw [judgeCmp_still d (.inr ⟨hh, .inr hc⟩)]; rfl
        | true => rw [judgeCmp_crosses he hh ha hc]; rfl

theorem foldl_judgeCmp (l : List Nat) (s : State) :
    ∃ cs, l.foldl (fun u n => u.judgeCmp d n) s = { s with time := { s.time with cmp := cs } } :=
  ⟨_, foldl_frame CmpFrame CmpFrame.refl CmpFrame.trans _ (fun _ _ => judgeCmp_frame _) l s⟩

end Judge

/-- A tick of LFCLK moves TB and the compare channels, and no counter (R239, R251). -/
theorem tick_lfclk {s : State} (hs : s.power.standby = true) (hw : s.settleCycle.wantsLfclk = true) :
    ∃ cs, s.tick = { s.settleCycle with time := { s.settleCycle.time with
      cmp := cs, tb := s.settleCycle.time.tb + BitVec.ofNat 64 s.settleCycle.tbStep.1
      lfAcc := s.settleCycle.tbStep.2 } } := by
  have hstand : ¬ s.power.standby = false := by simp [hs]
  obtain ⟨cs, hframe⟩ := foldl_judgeCmp s.settleCycle.tbStep.1 (List.range 32) s.settleCycle
  rw [State.tick, if_neg hstand]
  simp only [hw, if_true]
  exact ⟨cs, by rw [hframe]⟩

/-! ### Matches (R242 to R246, R255, R259) -/

section Matches

variable {s : State} {n : Nat}

theorem cmpMatch_uncrossed (h : (s.cmp n).crossed = none) : s.cmpMatch n = s := by
  rw [State.cmpMatch, h]

theorem cmpMatch_crossed {v : BitVec 64} (h : (s.cmp n).crossed = some v) :
    s.cmpMatch n = (s.modCmp n (fun c => { c with crossed := none })).cmpFire n v := by
  rw [State.cmpMatch, h]

theorem foldl_cmpMatch_uncrossed (h : ∀ k < n, (s.cmp k).crossed = none) : (List.range n).foldl State.cmpMatch s = s :=
  List.foldlRecOn (motive := fun u => u = s) _ _ rfl fun u hu k hk => by
    rw [hu, cmpMatch_uncrossed (h k (List.mem_range.mp hk))]

/-- A match carried out before any other of its cycle (R259). -/
theorem fireBelow_succ (h : ∀ k < n, (s.cmp k).crossed = none) : s.fireBelow (n + 1) = (s.cmpMatch n).settleGpo s := by
  rw [State.fireBelow, List.range_succ, List.foldl_append, foldl_cmpMatch_uncrossed h]
  rfl

theorem cmpHandOver_noBale (h : (s.cmp n).bale = none) :
    s.cmpHandOver n = s.modCmp n (fun c => { c with faultCount := satInc c.faultCount }) := by
  rw [State.cmpHandOver, h]

theorem cmpHandOver_posts {b : Bale} (h : (s.cmp n).bale = some b) (hp : cmpPost (s.reg .CMP_CONFIG n) = true) :
    s.cmpHandOver n = (s.postInternal (cmpRoute (s.reg .CMP_CONFIG n)) b (.cmp n)).readCmpBale n false := by
  simp only [State.cmpHandOver, h, hp, if_true]

theorem cmpHandOver_quiet {b : Bale} (h : (s.cmp n).bale = some b) (hp : cmpPost (s.reg .CMP_CONFIG n) = false) :
    s.cmpHandOver n = s := by
  simp only [State.cmpHandOver, h, hp, Bool.false_eq_true, if_false]

/-- A match whose configuration asks for no post, no action and no event is counted alone. -/
theorem cmpFire_quiet (v : BitVec 64)
    (ha : cmpAction (s.reg .CMP_CONFIG n) = 0) (he : cmpEvent (s.reg .CMP_CONFIG n) = false) :
    s.cmpFire n v = (s.modCmp n (fun c => { c with matchCount := c.matchCount + 1 })).cmpHandOver n := by
  simp only [State.cmpFire, ha, gpoAction_none, he, Bool.false_eq_true, if_false]

/-- What the registers of a channel become live as (R244). -/
def cmpTaken (s : State) (n : Nat) (c : CmpSt) : CmpSt :=
  let d := if c.valueDue then { c with live := BitVec.ofNat 64 (s.pair .CMP_VALUE_LOW n), valueDue := false } else c
  if d.configDue then
    { d with enable := bitAt (s.reg .CMP_CONFIG n) 0, period := s.reg .CMP_PERIOD n, configDue := false }
  else d

theorem cmpTaken_value {c : CmpSt} (hc : c.configDue = false) (hv : c.valueDue = true) :
    cmpTaken s n c = { c with live := BitVec.ofNat 64 (s.pair .CMP_VALUE_LOW n), valueDue := false } := by
  simp only [cmpTaken, hv, hc, if_true, Bool.false_eq_true, if_false]

theorem cmpTaken_config {c : CmpSt} (hc : c.configDue = true) :
    (cmpTaken s n c).enable = bitAt (s.reg .CMP_CONFIG n) 0 ∧ (cmpTaken s n c).period = s.reg .CMP_PERIOD n ∧
      (cmpTaken s n c).configDue = false := by
  cases hv : c.valueDue <;> simp [cmpTaken, hv, hc]

/-- Without a rise of ENABLE, or without CATCH_UP, the registers are taken alone. -/
theorem cmpLive_taken (h : (s.cmp n).configDue = false ∨ bitAt (s.reg .CMP_CONFIG n) 1 = false) :
    s.cmpLive n = s.modCmp n (cmpTaken s n) := by
  rcases h with h | h <;>
    simp only [State.cmpLive, h, Bool.false_and, Bool.and_false, Bool.false_eq_true, if_false] <;> rfl

theorem cmpBaleRead_ok {a : Nat} {b : List Byte} (hr : (s.cmp n).reading = some a) (hb : s.storeRead a 64 = .ok b) :
    s.cmpBaleRead n = s.modCmp n (fun c => { c with reading := none, bale := some b }) := by
  simp only [State.cmpBaleRead, hr, hb]

theorem cmpBaleRead_fails {a : Nat} {e : Nat × Nat} (hr : (s.cmp n).reading = some a) (hb : s.storeRead a 64 = .error e) :
    s.cmpBaleRead n = ((s.modCmp n (fun c => { c with reading := none, bale := none })).event 0xD2
      ([byteOf n, byteOf e.2, 0, 0, 0, 0, 0, 0] ++ leBytes 8 a)).record 0x10 classA [] a := by
  simp only [State.cmpBaleRead, hr, hb]

end Matches

/-! ### The registers of a channel (R241, R244, R258) -/

theorem wroteCmpConfig_rises (s : State) (n : Nat) {old v : Word} (hv : bitAt v 0 = true) (ho : bitAt old 0 = false) :
    s.wroteCmpConfig n old v = (s.modCmp n (fun c => { c with configDue := true })).readCmpBale n true := by
  simp only [State.wroteCmpConfig, hv, ho, Bool.not_false, Bool.and_self, if_true]

theorem wroteCmpConfig_still (s : State) (n : Nat) {old v : Word} (h : ¬ (bitAt v 0 = true ∧ bitAt old 0 = false)) :
    s.wroteCmpConfig n old v = s.modCmp n (fun c => { c with configDue := true }) := by
  have hcond : (bitAt v 0 && !bitAt old 0) = false := by
    cases hv : bitAt v 0 <;> cases ho : bitAt old 0 <;> simp_all
  simp only [State.wroteCmpConfig, hcond, Bool.false_eq_true, if_false]

theorem pair_applyPair (s : State) (low : Reg) (i : Nat) (v : Word) :
    (s.applyPair low i v).pair low i = (s.reg low i).toNat + 2 ^ 32 * v.toNat :=
  mapGet_mapSet_same ..

/-- Settles O36: the source of TB, then the ways a channel is judged, matches and is written. -/
theorem timeBaseAndCompare : Obligations.TimeBaseAndCompare := by
  refine ⟨⟨?switch, ?noSwitch, ?wants, fun s => tbStep_tclk, fun s => tbStep_lfclk, fun s => tbStep_beforeEdge, ?tick⟩,
    ?first, ?quiet, ?none, ?crosses, fun s d n => judgeCmp_still d, ?holding, ?noBale, fun s n b => cmpHandOver_posts,
    ?value, ?config, ?configWrite, ?valueWrite, ?baleWrite, ?readOk, ?readFails, ?noRead⟩
  case switch =>
    intro s hs hl
    have hcond : ¬ (s.power.standby = false ∨ s.time.lfclk = s.wantsLfclk) := by simp [hs, hl]
    exact ⟨_, congrArg Host.Outcome.next (if_neg hcond), rfl, rfl, rfl, rfl⟩
  case noSwitch => exact fun s h => congrArg Host.Outcome.next (if_pos h)
  case wants =>
    intro s
    rw [State.wantsLfclk, Bool.or_eq_true, Bool.not_eq_true']
  case tick =>
    intro s hp hs hw
    obtain ⟨cs, htick⟩ := tick_lfclk hs hw
    have hstep := (step_of_pending_nil hp).trans (congrArg Host.Outcome.next htick)
    generalize s.settleCycle = u at hstep
    exact ⟨_, u, hstep, rfl, rfl, rfl, rfl⟩
  case first =>
    intro s n v hv hlow
    exact congrArg Host.Outcome.next ((fireBelow_succ hlow).trans (by rw [cmpMatch_crossed hv]))
  case quiet =>
    intro s n v hp ha he
    have hsame := State.modCmp_same s n (fun c => { c with matchCount := c.matchCount + 1 })
    rw [cmpFire_quiet v ha he]
    cases hb : (s.cmp n).bale with
    | none =>
      rw [cmpHandOver_noBale ((congrArg CmpSt.bale hsame).trans hb)]
      refine ⟨_, rfl, ?_, ?_, ?_, ?_, fun k hk => ?_, rfl⟩ <;> simp [State.modCmp_ne, *]
    | some b =>
      rw [cmpHandOver_quiet ((congrArg CmpSt.bale hsame).trans hb) hp]
      refine ⟨_, rfl, ?_, ?_, ?_, ?_, fun k hk => ?_, rfl⟩ <;> simp [State.modCmp_ne, *]
  case none =>
    intro s n h
    have hlow : ∀ k < n.val, (s.cmp k).crossed = none := fun k hk => h k (Nat.le_of_lt hk)
    exact congrArg Host.Outcome.next ((fireBelow_succ hlow).trans (by rw [cmpMatch_uncrossed (h n (Nat.le_refl _))]))
  case crosses =>
    intro s d n he hh ha hc
    exact ⟨_, judgeCmp_crosses he hh ha hc, by rw [State.modCmp_same], by rw [State.modCmp_same], rfl⟩
  case holding =>
    intro s d n he hh
    exact ⟨_, _, judgeCmp_holding d he hh, rfl, by rw [State.modCmp_same], by rw [State.modCmp_same],
      by rw [State.modCmp_same], rfl⟩
  case noBale =>
    intro s n h
    exact ⟨_, cmpHandOver_noBale h, by rw [State.modCmp_same], rfl⟩
  case value =>
    intro s n hc hv
    refine ⟨_, rfl, ?_⟩
    rw [cmpLive_taken (.inl hc), State.modCmp_same, cmpTaken_value hc hv]
    exact ⟨rfl, rfl, rfl, rfl⟩
  case config =>
    intro s n hc hb
    obtain ⟨henable, hperiod, hdue⟩ := cmpTaken_config (s := s) (n := n) hc
    refine ⟨_, rfl, ?_⟩
    rw [cmpLive_taken (.inr hb), State.modCmp_same]
    exact ⟨henable, hperiod, hdue, rfl⟩
  case configWrite =>
    intro s acc n v hacc
    have hstep := writeCmd_next v hacc n.isLt (by decide) rfl rfl
    by_cases h : bitAt (s.keptValue .CMP_CONFIG n v) 0 = true ∧ bitAt (s.reg .CMP_CONFIG n) 0 = false
    · have hrise := hstep.trans (wroteCmpConfig_rises (s.written .CMP_CONFIG n 0 v) n h.1 h.2)
      refine ⟨_, congrArg Host.Outcome.next hrise, ?_⟩
      rw [State.readCmpBale, State.modCmp_same, State.modCmp_same]
      exact ⟨rfl, rfl, rfl, fun _ _ => ⟨rfl, rfl⟩,
        fun k hk => (State.modCmp_ne _ n _ hk).trans (State.modCmp_ne (s.written .CMP_CONFIG n 0 v) n _ hk), rfl⟩
    · have hstill := hstep.trans (wroteCmpConfig_still (s.written .CMP_CONFIG n 0 v) n h)
      refine ⟨_, congrArg Host.Outcome.next hstill, ?_⟩
      rw [State.modCmp_same]
      exact ⟨rfl, rfl, rfl, fun hv ho => absurd ⟨hv, ho⟩ h,
        fun k hk => State.modCmp_ne (s.written .CMP_CONFIG n 0 v) n _ hk, rfl⟩
  case valueWrite =>
    intro s acc n v hacc
    have hlow : (s.written .CMP_VALUE_HIGH n 0 v).reg .CMP_VALUE_LOW n = s.reg .CMP_VALUE_LOW n :=
      written_reg_other v (by decide) n.isLt (by decide) n.isLt (by decide)
    have hpair := pair_applyPair (s.written .CMP_VALUE_HIGH n 0 v) .CMP_VALUE_LOW n (s.keptValue .CMP_VALUE_HIGH n v)
    have hcmp := State.modCmp_same ((s.written .CMP_VALUE_HIGH n 0 v).applyPair .CMP_VALUE_LOW n
      (s.keptValue .CMP_VALUE_HIGH n v)) n (fun c => { c with valueDue := true })
    rw [hlow] at hpair
    exact ⟨_, congrArg Host.Outcome.next (writeCmd_next v hacc n.isLt (by decide) rfl rfl),
      (congrArg CmpSt.valueDue hcmp :), (congrArg CmpSt.live hcmp :), hpair, rfl⟩
  case baleWrite =>
    intro s acc n v hacc
    have hlow : (s.written .CMP_BALE_ADDR_HIGH n 0 v).reg .CMP_BALE_ADDR_LOW n = s.reg .CMP_BALE_ADDR_LOW n :=
      written_reg_other v (by decide) n.isLt (by decide) n.isLt (by decide)
    have hpair := pair_applyPair (s.written .CMP_BALE_ADDR_HIGH n 0 v) .CMP_BALE_ADDR_LOW n
      (s.keptValue .CMP_BALE_ADDR_HIGH n v)
    have hcmp := State.modCmp_same ((s.written .CMP_BALE_ADDR_HIGH n 0 v).applyPair .CMP_BALE_ADDR_LOW n
      (s.keptValue .CMP_BALE_ADDR_HIGH n v)) n (fun c => { c with
        reading := some (((s.written .CMP_BALE_ADDR_HIGH n 0 v).applyPair .CMP_BALE_ADDR_LOW n
          (s.keptValue .CMP_BALE_ADDR_HIGH n v)).pair .CMP_BALE_ADDR_LOW n), bale := none })
    rw [hlow] at hpair
    exact ⟨_, congrArg Host.Outcome.next (writeCmd_next v hacc n.isLt (by decide) rfl rfl),
      (congrArg CmpSt.bale hcmp :), (congrArg CmpSt.reading hcmp :), hpair, rfl⟩
  case readOk =>
    intro s n a b hr hb
    exact ⟨_, congrArg Host.Outcome.next (cmpBaleRead_ok hr hb), by rw [State.modCmp_same], by rw [State.modCmp_same], rfl⟩
  case readFails =>
    intro s n a e hr hb
    exact ⟨_, congrArg Host.Outcome.next (cmpBaleRead_fails hr hb), by rw [State.modCmp_same],
      by rw [State.modCmp_same], rfl⟩
  case noRead =>
    intro s n hr
    refine congrArg Host.Outcome.next ?_
    rw [State.cmpBaleRead, hr]

end Sys2Proof.Machine

/-! PROOFS. Counters, cues and GPIO (R248 to R253, R256). -/

namespace Sys2Proof.Machine

/-! ### Counters -/

section Counters

variable {s : State} {k : Nat}

theorem cntWrap_none (h : (s.cnt k).wrapFrom = none) : s.cntWrap k = s := by
  rw [State.cntWrap, h]

theorem cntWrap_quiet {x : Word × Bool} (h : (s.cnt k).wrapFrom = some x) (he : bitAt (s.reg .CNT_CONFIG k) 4 = false) :
    s.cntWrap k = s.modCnt k (fun _ => { s.cnt k with wrapFrom := none, wraps := (s.cnt k).wraps + 1 }) := by
  simp only [State.cntWrap, h, State.cntWrapped, he, Bool.false_and, Bool.false_eq_true, if_false]

/-- The first wrap that asks for its event posts it (R251). -/
theorem cntWrap_posts {x : Word × Bool} (h : (s.cnt k).wrapFrom = some x) (he : bitAt (s.reg .CNT_CONFIG k) 4 = true)
    (hl : (s.cnt k).lastEvent = none) :
    s.cntWrap k = (s.modCnt k (fun _ => { s.cnt k with
      wrapFrom := none, wraps := (s.cnt k).wraps + 1, lastEvent := some s.time.tb.toNat })).event 0xD0
        ([byteOf k, 0, 0, 0] ++ leBytes 4 ((s.cnt k).wraps + 1).toNat) := by
  simp only [State.cntWrap, h, State.cntWrapped, he, hl, Bool.and_self, if_true]

theorem cntTick_wraps (h : (s.cntNext k).2 = true) : s.cntTick k =
    s.modCnt k (fun old => { (s.cntNext k).1 with wrapFrom := some (old.reload, old.down) }) := by
  rw [State.cntTick, show s.cntNext k = ((s.cntNext k).1, true) from Prod.ext rfl h]

theorem cntTick_counts (h : (s.cntNext k).2 = false) : s.cntTick k = s.modCnt k (fun _ => (s.cntNext k).1) := by
  rw [State.cntTick, show s.cntNext k = ((s.cntNext k).1, false) from Prod.ext rfl h]

/-- A counter that takes a new count by CNT_LOAD (R256): a wrap not yet counted gives its reload value back. -/
def CntSt.unwrapped (c : CntSt) : CntSt :=
  match c.wrapFrom with
  | none => c
  | some (r, d) => { c with reload := r, down := d, wrapFrom := none }

theorem CntSt.unwrapped_kept (c : CntSt) : c.unwrapped.wraps = c.wraps ∧ c.unwrapped.wrapFrom = none ∧
    ∀ r d, c.wrapFrom = some (r, d) → c.unwrapped.reload = r := by
  rw [CntSt.unwrapped]
  cases h : c.wrapFrom with
  | none => exact ⟨rfl, h, fun _ _ h' => nomatch h'⟩
  | some x => exact ⟨rfl, rfl, fun r d h' => by rw [Option.some.inj h']⟩

theorem countFrom_cnt (v : Word) : ∃ d, (s.countFrom k v).cnt k = { s.cnt k with count := v, down := d } :=
  ⟨_, State.modCnt_same ..⟩

theorem loadCount_cnt (v : Word) : ∃ d, (s.loadCount k v).cnt k = { (s.cnt k).unwrapped with count := v, down := d } := by
  obtain ⟨d, hd⟩ := countFrom_cnt (s := s.modCnt k CntSt.unwrapped) (k := k) v
  rw [State.modCnt_same] at hd
  exact ⟨d, hd⟩

theorem loadCount_cnt_ne (v : Word) {n : Nat} (hn : n ≠ k) : (s.loadCount k v).cnt n = s.cnt n :=
  (State.modCnt_ne _ k _ hn).trans (State.modCnt_ne s k _ hn)

end Counters

/-! ### GPIO -/

section Gpio

variable {s : State} (p : Fin 8)

theorem pulseEnd_on (h : s.time.gpoPulse.getLsbD p = true) : s.pulseEnd p = { s with time := { s.time with
    gpoCue := setBit8 s.time.gpoCue p false, gpoPulse := setBit8 s.time.gpoPulse p false } } := if_pos h

theorem gpiChange_raw (level : Bool) (hr : s.boot.regsUp = true) (hf : s.pattern.gpioFn p ≠ 1) :
    s.gpiChange p level = { s with time := { s.time with
      gpiIn := setBit8 s.time.gpiIn p level, gpiState := setBit8 s.time.gpiState p level } } :=
  if_neg (by simp [hr, hf])

theorem gpiChange_filtered (level : Bool) (hf : s.pattern.gpioFn p = 1) :
    s.gpiChange p level = { s with time := { s.time with gpiIn := setBit8 s.time.gpiIn p level } } :=
  if_pos (.inr hf)

theorem getLsbD_setBit8_same (w : BitVec 8) (b : Bool) : (setBit8 w p b).getLsbD p = b := by
  rw [getLsbD_setBit8, if_pos rfl]

end Gpio

/-- Settles O37: counters by what their cycle gives, then the ends of pulses and the inputs. -/
theorem countersAndGpio : Obligations.CountersAndGpio := by
  refine ⟨?quiet, ?posts, ?noWrap, ?tick, fun c g v hc => if_pos hc, fun c g v hc => if_neg hc,
    fun c v => ⟨rfl, rfl⟩, ?load, ?pulse, ?noPulse, ?raw, ?filtered, ?expiry, fun s => ⟨_, rfl, fun _ => rfl, rfl⟩⟩
  case quiet =>
    intro s k x hx he
    exact ⟨_, congrArg Host.Outcome.next (cntWrap_quiet hx he), State.modCnt_same .., rfl, fun n => State.modCnt_ne s k _⟩
  case posts =>
    intro s k x hx he hl
    refine ⟨_, congrArg Host.Outcome.next (cntWrap_posts hx he hl), ?_⟩
    rw [State.modCnt_same]
    exact ⟨rfl, rfl, rfl, rfl⟩
  case noWrap => exact fun s k h => congrArg Host.Outcome.next (cntWrap_none h)
  case tick =>
    intro s k
    cases hw : (s.cntNext k).2 with
    | true =>
      refine ⟨_, cntTick_wraps hw, ?_⟩
      rw [State.modCnt_same]
      exact ⟨rfl, rfl, rfl, fun _ => rfl, fun n => State.modCnt_ne s k _, rfl⟩
    | false =>
      refine ⟨_, cntTick_counts hw, ?_⟩
      rw [State.modCnt_same]
      exact ⟨rfl, rfl, rfl, (nomatch ·), fun n => State.modCnt_ne s k _, rfl⟩
  case load =>
    intro s acc k v hacc
    have hkept : s.keptValue .CNT_LOAD k v = v := BitVec.and_allOnes
    have hstep := writeCmd_next v hacc k.isLt (by decide) rfl rfl
    rw [hkept] at hstep
    obtain ⟨d, hcnt⟩ := loadCount_cnt (s := s.written .CNT_LOAD k 0 v) (k := k) v
    obtain ⟨hwraps, hfrom, hreload⟩ := (s.cnt k).unwrapped_kept
    exact ⟨_, congrArg Host.Outcome.next hstep, (congrArg CntSt.count hcnt :), (congrArg CntSt.wraps hcnt :).trans hwraps,
      (congrArg CntSt.wrapFrom hcnt :).trans hfrom, fun r d h => (congrArg CntSt.reload hcnt :).trans (hreload r d h),
      fun n => loadCount_cnt_ne (s := s.written .CNT_LOAD k 0 v) v, rfl⟩
  case pulse =>
    intro s p hp
    refine ⟨_, rfl, ?_⟩
    rw [pulseEnd_on p hp]
    exact ⟨getLsbD_setBit8_same .., getLsbD_setBit8_same ..,
      fun q hq => (getLsbD_setBit8 _ p q false).trans (if_neg hq), rfl⟩
  case noPulse =>
    intro s p hp
    refine congrArg Host.Outcome.next ?_
    rw [State.pulseEnd, hp]
    rfl
  case raw =>
    intro s p level hr hf
    exact ⟨_, congrArg Host.Outcome.next (gpiChange_raw p level hr hf), getLsbD_setBit8_same .., getLsbD_setBit8_same ..,
      rfl⟩
  case filtered =>
    intro s p level hf
    exact ⟨_, congrArg Host.Outcome.next (gpiChange_filtered p level hf), rfl, getLsbD_setBit8_same .., rfl⟩
  case expiry =>
    intro s p hr
    exact ⟨_, congrArg Host.Outcome.next (if_pos hr), getLsbD_setBit8_same .., rfl⟩

end Sys2Proof.Machine

/-! PROOFS. Barrier commits of the Caravan (R322 to R324). -/

namespace Sys2Proof.Machine

theorem barrier_modHead (s : State) (h i : Nat) (f : HeadSt → HeadSt) : (s.modHead h f).barrier i = s.barrier i := rfl

section Fire

variable (s : State)

/-- The barriers of a state, each judged by whether its frame is the next (R323). -/
def State.firedBarriers : State :=
  (List.range 8).foldl (State.fireBarrier (fun b => b.cfn - 1 == s.caravan.cfn) barFired) s

/-- A barrier of the next frame leaves its slot, and others wait. -/
theorem firedBarriers_at :
    (∀ i, i < 8 → s.firedBarriers.barrier i = match s.barrier i with
      | none => none
      | some b => if b.cfn - 1 = s.caravan.cfn then none else some b) ∧
    ∀ i, 8 ≤ i → s.firedBarriers.barrier i = s.barrier i := by
  obtain ⟨hat, hother, -⟩ := foldl_fireBarrier_at (fun b => b.cfn - 1 == s.caravan.cfn) barFired (List.range 8) s
    List.nodup_range
  refine ⟨fun i hi => ?_, fun i hi => hother i (by simpa using hi)⟩
  rw [State.firedBarriers, hat i (List.mem_range.mpr hi)]
  cases s.barrier i with
  | none => rfl
  | some b => simp only [beq_iff_eq]

theorem firedBarriers_pat : s.firedBarriers.pat = s.pat :=
  (foldl_fireBarrier_at _ _ (List.range 8) s List.nodup_range).2.2

theorem exec_barrierFire : exec .barrierFire s =
    .next (s.firedBarriers.modHead s.refHead (fun q => { q with line0Done := true })) := by
  have href : s.firedBarriers.refHead = s.refHead := by
    unfold State.refHead State.pattern
    rw [firedBarriers_pat]
  exact congrArg (fun h => Host.Outcome.next (s.firedBarriers.modHead h _)) href

variable {s}

theorem firedBarriers_none (h : ∀ i b, i < 8 → s.barrier i = some b → b.cfn - 1 ≠ s.caravan.cfn) : s.firedBarriers = s :=
  foldl_fireBarrier_none _ _ _ _ fun i hi b hb => beq_eq_false_iff_ne.mpr (h i b (List.mem_range.mp hi) hb)

theorem firedBarriers_one {i : Nat} {b : Barrier} (hi : i < 8) (hb : s.barrier i = some b) (hdue : b.cfn - 1 = s.caravan.cfn)
    (h : ∀ k c, k < 8 → k ≠ i → s.barrier k = some c → c.cfn - 1 ≠ s.caravan.cfn) :
    s.firedBarriers = ((s.freeBarrier i).commitMask b.mask.toNat).barrierResult i barFired b := by
  refine (foldl_fireBarrier_one _ _ _ s i List.nodup_range (List.mem_range.mpr hi) fun k hk hne c hc =>
    beq_eq_false_iff_ne.mpr (h k c (List.mem_range.mp hk) hne hc)).trans ?_
  simp only [State.fireBarrier, hb, hdue, beq_self_eq_true, if_true]

end Fire

theorem cancelBarriers_at (s : State) (mask : Nat) :
    (∀ i, (s.cancelBarriers mask).barrier i = if i ∈ setBits 8 mask then none else s.barrier i) ∧
      (s.cancelBarriers mask).commit = s.commit :=
  foldl_cancelBarrier_at _ s

section Write

variable {s : State} {acc : Accessor} {v : Word}

theorem exec_caravanBarrierCommit_arms (hacc : s.Accepts acc .CARAVAN_BARRIER_COMMIT) (hv : fld v 0 16 ≠ 0) :
    exec (.caravanBarrierCommit acc v) s =
      .next ((s.written .CARAVAN_BARRIER_COMMIT 0 0 v).armBarrier (fld v 0 16)) :=
  congrArg Host.Outcome.next ((writeCmd_barrier hacc).trans (if_neg hv))

/-- Whether a barrier is late is judged by the registers it is armed from, which the write of its mask leaves. -/
theorem written_barrierLate : (s.written .CARAVAN_BARRIER_COMMIT 0 0 v).barrierLate
      ((s.written .CARAVAN_BARRIER_COMMIT 0 0 v).reg .CARAVAN_BARRIER_CFN) =
    s.barrierLate (s.reg .CARAVAN_BARRIER_CFN) :=
  congrArg s.barrierLate (reg_written_barrier s v)

theorem exec_caravanBarrierCancel (hacc : s.Accepts acc .CARAVAN_BARRIER_CANCEL) :
    exec (.caravanBarrierCancel acc v) s =
      .next ((s.written .CARAVAN_BARRIER_CANCEL 0 0 v).cancelBarriers (fld v 0 8)) :=
  congrArg Host.Outcome.next ((writeCmd_next v hacc (by decide) (by decide) rfl rfl).trans
    (congrArg (s.written .CARAVAN_BARRIER_CANCEL 0 0 v).cancelBarriers (fld_keptValue_cancel s v)))

variable (i r k : Nat) (b : Barrier)

/-- The barriers after one is armed in slot i. -/
theorem barrier_armed_same : ({ s with caravan := { s.caravan with
    barriers := mapSet none s.caravan.barriers i (some b), barrierResult := r, barrierSlot := k } } : State).barrier i =
      some b := by
  rw [State.barrier, mapGet_mapSet_same]

theorem barrier_armed_ne {j : Nat} (hj : j ≠ i) : ({ s with caravan := { s.caravan with
    barriers := mapSet none s.caravan.barriers i (some b), barrierResult := r, barrierSlot := k } } : State).barrier j =
      s.barrier j := by
  rw [State.barrier, mapGet_mapSet_ne _ _ _ hj, State.barrier]

end Write

/-- Settles O50: the write of a mask by what it finds, then firing and cancelling. -/
theorem caravanBarriers : Obligations.CaravanBarriers := by
  refine ⟨?nothing, ?armed, ?late, ?full, ?noneDue, ?fired, ?one, ?cancelled⟩
  case nothing =>
    intro s acc v hacc hv
    exact congrArg Host.Outcome.next ((writeCmd_barrier hacc).trans (if_pos hv))
  case armed =>
    intro s acc v i hacc hv hlate hfree
    have harm := armBarrier_ok (s.written .CARAVAN_BARRIER_COMMIT 0 0 v) (fld v 0 16) i hv
      (written_barrierLate.trans hlate) hfree
    rw [reg_written_barrier] at harm
    have hstep := (exec_caravanBarrierCommit_arms hacc hv).trans (congrArg Host.Outcome.next harm)
    rw [State.barrierResult, toNat_fld16] at hstep
    exact ⟨_, hstep, barrier_armed_same .., fun k hk => barrier_armed_ne _ _ _ _ hk, rfl, rfl, rfl⟩
  case late =>
    intro s acc v hacc hv hlate
    exact ⟨_, exec_caravanBarrierCommit_arms hacc hv, armBarrier_late _ _ hv (written_barrierLate.trans hlate)⟩
  case full =>
    intro s acc v hacc hv hlate hfull
    have hfree : (List.range 8).find? (fun i => (s.barrier i).isNone) = none := by
      simpa [List.find?_eq_none] using hfull
    exact ⟨_, exec_caravanBarrierCommit_arms hacc hv, armBarrier_full _ _ hv (written_barrierLate.trans hlate) hfree⟩
  case noneDue =>
    intro s h
    rw [exec_barrierFire, firedBarriers_none h]
  case fired =>
    intro s
    obtain ⟨hat, hother⟩ := firedBarriers_at s
    refine ⟨_, exec_barrierFire s, fun i hi => ?_, fun i hi => ?_, by rw [State.modHead_same]⟩
    · exact (barrier_modHead ..).trans ((hat i hi).trans (by cases s.barrier i <;> rfl))
    · rw [barrier_modHead, hother i hi]
  case one =>
    intro s i b hi hb hdue h
    rw [exec_barrierFire, firedBarriers_one hi hb hdue h]
  case cancelled =>
    intro s acc v hacc
    obtain ⟨hat, hcommit⟩ := cancelBarriers_at (s.written .CARAVAN_BARRIER_CANCEL 0 0 v) (fld v 0 8)
    refine ⟨_, exec_caravanBarrierCancel hacc, fun i hi => ?_, fun i hi => ?_, hcommit⟩
    · rw [hat]
      simp only [mem_setBits8 v i hi]
      rfl
    · have hout : i ∉ setBits 8 (fld v 0 8) := fun h =>
        absurd (List.mem_range.mp (List.mem_of_mem_filter h)) (Nat.not_lt.mpr hi)
      rw [hat, if_neg hout]
      rfl

end Sys2Proof.Machine

/-! PROOFS. Vendor requests on USB: registers, claims, posts and modes (R289 to R295, R302 to R305). -/

namespace Sys2Proof.Machine

section Requests

variable {s : State}

/-- A vendor request is its body, run with the grace ended (R294). -/
theorem next_usbRequest (h : s.usbLive = true) (run : State → State) :
    (.next (s.usbRequest run) : Host.Outcome State Fault Refusal) = .next (run s.usbBegun) :=
  congrArg Host.Outcome.next (usbRequest_live h run)

theorem next_ownerRequest (h : s.usbLive = true) (ho : s.net.owner = .usb) (r : Nat) (run : State → State) :
    (.next (s.usbRequest (fun s => s.ownerRequest r run)) : Host.Outcome State Fault Refusal) =
      .next (run s.usbBegun) :=
  (next_usbRequest h _).trans (congrArg Host.Outcome.next (ownerRequest_owner ho r run))

theorem next_ownerRequest_other (h : s.usbLive = true) (ho : s.net.owner ≠ .usb) (r : Nat) (run : State → State) :
    (.next (s.usbRequest (fun s => s.ownerRequest r run)) : Host.Outcome State Fault Refusal) =
      .next (s.usbBegun.usbEnd r stNotOwner) :=
  (next_usbRequest h _).trans (congrArg Host.Outcome.next (ownerRequest_other ho r run))

theorem next_serviceRequest (h : s.usbLive = true) (hm : s.boot.mode ≠ 1) (ho : s.net.owner = .usb) (r : Nat)
    (run : State → State) : (.next (s.usbRequest (fun s => s.serviceRequest r (fun s => s.ownerRequest r run))) : Host.Outcome State Fault Refusal) = .next (run s.usbBegun) :=
  (next_usbRequest h _).trans (congrArg Host.Outcome.next
    ((serviceRequest_service hm r _).trans (ownerRequest_owner ho r run)))

theorem next_serviceRequest_floor (h : s.usbLive = true) (hm : s.boot.mode = 1) (r : Nat) (run : State → State) :
    (.next (s.usbRequest (fun s => s.serviceRequest r run)) : Host.Outcome State Fault Refusal) =
      .next (s.usbBegun.usbEnd r stFloor) :=
  (next_usbRequest h _).trans (congrArg Host.Outcome.next (serviceRequest_floor hm r run))

/-! ### Registers (R291) -/

variable {u : State}

theorem usbRead_run {a n : Nat} {ws : List Word} (hn : 1 ≤ n) (hn' : n ≤ 128) (hr : State.readRun .usb n s a = (u, ws)) :
    s.usbRead a n = if ws.length = n then u.usbAnswer rqReadReg n (ws.flatMap (fun w => leBytes 4 w.toNat))
      else u.usbEnd rqReadReg stRefused ws.length := by
  rw [State.usbRead, if_neg (by omega), hr]

theorem usbWrite_sized {ws : List Word} (hw : ws ≠ []) (hlen : ws.length ≤ 128) :
    ¬ (ws.isEmpty = true ∨ 128 < ws.length) := by
  simp [hw, hlen]

theorem usbWrite_owner {a k : Nat} {ws : List Word} (ho : s.usbOwner = true) (hw : ws ≠ []) (hlen : ws.length ≤ 128)
    (hr : State.writeRun .usb s a ws 0 = (u, k)) :
    s.usbWrite a ws = u.usbEnd rqWriteReg (if k = ws.length then stOk else stRefused) k := by
  rw [State.usbWrite, if_neg (usbWrite_sized hw hlen), if_neg (by simp [ho]), hr]

theorem usbWrite_other {ws : List Word} (a : Nat) (ho : s.usbOwner = false) (hw : ws ≠ []) (hlen : ws.length ≤ 128) :
    s.usbWrite a ws = (s.writeAccess .usb a (ws.headD 0)).1.usbEnd rqWriteReg stNotOwner := by
  rw [State.usbWrite, if_neg (usbWrite_sized hw hlen), if_pos ho]

/-! ### Claims (R293 to R295) -/

/-- A fresh challenge is live, is made for the secret, and takes one free value (R271). -/
theorem freshOffer_live (s : State) : ∃ o, s.freshOffer = (o, { s with freeCount := s.freeCount + 1 }) ∧ o.live = true ∧
    o.secret = s.net.secret :=
  ⟨_, rfl, rfl, rfl⟩

theorem usbNonce_free {o : Offer} (hl : s.net.lockouts.contains 0 = false) (ho : s.owned = false)
    (hf : s.freshOffer = (o, u)) :
    s.usbNonce = (u.modUsb (fun u => { u with offer := some o })).usbAnswer rqClaimNonce 0
      (beBytes 32 o.nonce.toNat ++ leBytes 4 o.session.toNat) := by
  simp only [State.usbNonce, usbParty, hl, ho, hf, Bool.false_eq_true, if_false]

theorem usbNonce_refused (h : s.net.lockouts.contains 0 = true ∨ s.owned = true) : s.usbNonce =
    s.usbEnd rqClaimNonce (if s.net.lockouts.contains 0 = true then stBusy else stOwned) := by
  cases hl : s.net.lockouts.contains 0 with
  | true => simp only [State.usbNonce, usbParty, hl, if_true]
  | false =>
    have ho : s.owned = true := h.resolve_left (by rw [hl]; decide)
    simp only [State.usbNonce, usbParty, hl, ho, Bool.false_eq_true, if_false, if_true]

/-- The challenge last given, spent by a claim. -/
def State.offerSpent (s : State) : State :=
  s.modUsb (fun u => { u with offer := u.offer.map (fun o => { o with live := false }) })

theorem offerSpent_live {o : Offer} (h : s.offerSpent.usb.offer = some o) : o.live = false := by
  obtain ⟨o', -, ho⟩ := Option.map_eq_some_iff.mp h
  rw [← ho]

theorem usbClaim_taken {mac : BitVec 256} (h : s.chassis.button = true ∨ s.usbMacOk mac = true) (ho : s.owned = false) :
    s.usbClaim mac = ((s.offerSpent.beginOwner .usb).ownerEvent ownerClaimed 1 0).usbEnd rqClaim stOk := by
  have hmac : ¬ (s.chassis.button = false ∧ s.usbMacOk mac = false) := by
    rcases h with h | h <;> simp [h]
  rw [State.usbClaim, if_neg hmac, if_neg (by simp [ho])]
  rfl

theorem usbClaim_fails {mac : BitVec 256} (hb : s.chassis.button = false) (hm : s.usbMacOk mac = false) :
    s.usbClaim mac = s.offerSpent.usbClaimFails := by
  rw [State.usbClaim, if_pos ⟨hb, hm⟩]
  rfl

theorem usbSecret_stored (k : BitVec 256) (h : s.pat.keyLock = false) :
    s.usbSecret k = (s.modNet (fun n => { n with secret := k })).usbEnd rqSetSecret stOk :=
  if_neg (by simp [h])

theorem usbSecret_locked (k : BitVec 256) (h : s.pat.keyLock = true) : s.usbSecret k =
    (s.takeFree.2.violation .usb true (Config.freeWord s.freeCount).toNat whyLocked).usbEnd rqSetSecret stRefused :=
  if_pos h

end Requests

/-! ### Posts and modes (R291, R302 to R305) -/

section Posts

variable {s u : State} {r : Nat} {b : List Bale}

theorem exec_usbPost_formed (hl : s.usbLive = true) (hm : s.boot.mode ≠ 1) (ho : s.net.owner = .usb)
    (hb : balesMalformed r b = false) : exec (.usbPost r b) s = .next (s.usbBegun.usbPosts r b) := by
  refine (next_usbRequest hl _).trans (congrArg Host.Outcome.next ?_)
  rw [if_neg (by simp [hb]), serviceRequest_service hm, ownerRequest_owner ho]

theorem usbPosts_accepted (h : s.acceptPost r b .usb = (u, 1)) : s.usbPosts r b = u := by
  rw [State.usbPosts, h]
  rfl

theorem usbPosts_full (h : s.acceptPost r b .usb = (u, 2)) : s.usbPosts r b = u.usbEnd rqPost stFull := by
  rw [State.usbPosts, h]
  rfl

theorem usbPosts_unbound (h : s.acceptPost r b .usb = (u, 3)) : s.usbPosts r b = u.usbEnd rqPost stUnbound := by
  rw [State.usbPosts, h]
  rfl

variable {m : UsbMode}

theorem settleAcc_routes (s : State) : s.settleAcc.routes = s.routes :=
  (congrArg State.routes (show s.settleAcc = _ from settleAcc_frame s) :)

/-- A change of mode out of another mode than debug hold moves no route, but by the cycle that debug hold settles
first. -/
theorem enterMode_routes (hs : s.usb.mode ≠ .debugHold) :
    (s.enterMode m).routes = if m = .debugHold then s.settleCycle.routes else s.routes := by
  rw [State.enterMode]
  by_cases hm : s.usb.mode = m
  · rw [if_pos hm, if_neg (hm ▸ hs)]
  · rw [if_neg hm, if_neg hs, settleAcc_routes]
    exact apply_ite State.routes (m = .debugHold) s.settleCycle s

/-- SET_MODE by the owner, out of floor mode. -/
theorem setMode_kept (s : State) (m : UsbMode) : (s.usbBegun.enterMode m).usb = { s.usb with grace := false, mode := m } ∧
    (s.usbBegun.enterMode m).regs = s.regs ∧ (s.usbBegun.enterMode m).net = s.net ∧
    (s.usb.mode = m → s.usbBegun.enterMode m = s.usbBegun) := by
  obtain ⟨hregs, hnet, husb, -⟩ := enterMode_kept s.usbBegun m
  exact ⟨husb, hregs, hnet, fun h => enterMode_same h⟩

end Posts

/-- Settles O43: each request is its body, which the state and the request's own bounds decide. -/
theorem usbRequests : Obligations.UsbRequests := by
  refine ⟨?unserved, ?read, ?write, ?writeOther, ?result, ?nonce, ?noNonce, ?claim, ?claimFails, ?release, ?secret,
    ?malformed, ?other⟩
  case unserved => exact fun s run h => if_neg (by simp [h])
  case read =>
    intro s u a n ws hl hn hn' hr
    exact (next_usbRequest hl _).trans (congrArg Host.Outcome.next (usbRead_run hn hn' hr))
  case write =>
    intro s u a ws k hl ho hw hlen hr
    exact (next_usbRequest hl _).trans (congrArg Host.Outcome.next (usbWrite_owner (beq_iff_eq.mpr ho) hw hlen hr))
  case writeOther =>
    intro s a ws hl ho hw hlen
    exact (next_usbRequest hl _).trans (congrArg Host.Outcome.next (usbWrite_other _ (beq_eq_false_iff_ne.mpr ho) hw hlen))
  case result =>
    intro s hl
    exact ⟨_, next_usbRequest hl _, rfl, rfl⟩
  case nonce =>
    intro s hl hlock ho
    obtain ⟨o, hfresh, hlive, hsecret⟩ := freshOffer_live s.usbBegun
    exact ⟨_, o, (next_usbRequest hl _).trans (congrArg Host.Outcome.next (usbNonce_free hlock ho hfresh)), rfl, hlive,
      hsecret, rfl, rfl⟩
  case noNonce =>
    intro s hl h
    exact ⟨_, (next_usbRequest hl _).trans (congrArg Host.Outcome.next (usbNonce_refused h)), rfl⟩
  case claim =>
    intro s mac hl h ho
    exact ⟨_, (next_usbRequest hl _).trans (congrArg Host.Outcome.next (usbClaim_taken h ho)), rfl,
      fun o => offerSpent_live⟩
  case claimFails =>
    intro s mac hl hb hm
    refine ⟨_, (next_usbRequest hl _).trans (congrArg Host.Outcome.next (usbClaim_fails hb hm)), rfl, rfl, ?_,
      fun o => offerSpent_live⟩
    exact List.contains_iff_mem.mpr ((mem_nub 0 _).mpr List.mem_cons_self)
  case release =>
    intro s hl ho
    obtain ⟨t, hend, hnone, husb, hregs⟩ := endUsbOwner_eq s.usbBegun ownerReleased ho
    refine ⟨t, (next_ownerRequest hl ho _ _).trans ?_, hnone, by rw [husb], hregs⟩
    rw [hend]
  case secret =>
    intro s k hl ho
    have hrun := next_ownerRequest hl ho rqSetSecret (fun s => s.usbSecret k)
    exact ⟨fun h => hrun.trans (congrArg Host.Outcome.next (usbSecret_stored k h)),
      fun h => ⟨_, (Config.freeWord s.freeCount).toNat, hrun.trans (congrArg Host.Outcome.next (usbSecret_locked k h)), rfl⟩⟩
  case malformed =>
    intro s b hl hb
    exact (next_usbRequest hl _).trans (congrArg Host.Outcome.next (if_neg hb))
  case other =>
    intro s hl hm ho
    refine ⟨next_ownerRequest_other hl ho _ _, ?_, next_ownerRequest_other hl ho _ _⟩
    exact (next_usbRequest hl _).trans (congrArg Host.Outcome.next
      ((serviceRequest_service hm _ _).trans (ownerRequest_other ho _ _)))

/-- Settles O44: a post by the answer of its route, and a mode by the mode before. -/
theorem usbPostsAndModes : Obligations.UsbPostsAndModes := by
  refine ⟨?accepted, ?full, ?unbound, ?malformed, ?floor, ?modes⟩
  case accepted =>
    intro s u r b hl hm ho hb h
    rw [exec_usbPost_formed hl hm ho hb, usbPosts_accepted h]
  case full =>
    intro s u r b hl hm ho hb h
    rw [exec_usbPost_formed hl hm ho hb, usbPosts_full h]
  case unbound =>
    intro s u r b hl hm ho hb h
    rw [exec_usbPost_formed hl hm ho hb, usbPosts_unbound h]
  case malformed =>
    intro s r b hl hb
    exact (next_usbRequest hl _).trans (congrArg Host.Outcome.next (if_pos (balesMalformed_count hb)))
  case floor =>
    intro s r b hl hm
    refine ⟨next_serviceRequest_floor hl hm _ _, next_serviceRequest_floor hl hm _ _, next_serviceRequest_floor hl hm _ _,
      fun hb => (next_usbRequest hl _).trans (congrArg Host.Outcome.next ?_)⟩
    rw [if_neg (by simp [hb]), serviceRequest_floor hm]
  case modes =>
    intro s hl hm ho
    have hrun := fun m => next_serviceRequest hl hm ho rqSetMode (fun s => (s.enterMode m).usbEnd rqSetMode stOk)
    have hroutes := fun m (h : s.usb.mode ≠ .debugHold) => enterMode_routes (s := s.usbBegun) (m := m) h
    refine ⟨⟨_, hrun .normal, ?_⟩, ⟨_, hrun .freeze, ?_⟩, ⟨_, hrun .debugHold, ?_⟩⟩
    · obtain ⟨husb, hregs, hnet, hsame⟩ := setMode_kept s .normal
      exact ⟨husb, hregs, hnet, hroutes .normal, hsame⟩
    · obtain ⟨husb, hregs, hnet, hsame⟩ := setMode_kept s .freeze
      exact ⟨husb, hregs, hnet, hroutes .freeze, hsame⟩
    · obtain ⟨husb, hregs, hnet, hsame⟩ := setMode_kept s .debugHold
      exact ⟨husb, hregs, hnet, hroutes .debugHold, hsame⟩

end Sys2Proof.Machine

/-! PROOFS. Uploads on EP2, capture pages on EP1 and events on EP3 (R276, R296 to R301, R305). -/

namespace Sys2Proof.Machine

/-! ### Uploads (R296 to R298) -/

section Setup

variable {s : State} {k a n : Nat}

theorem bulkStore_arms (hm : s.boot.mode ≠ 1) (hn : 1 ≤ n) (hn' : n ≤ 4194304) (ha : a % 64 = 0) (hs : a + n ≤ s.storeSpan) :
    s.bulkStore a n = s.armUpload 0 a n := by
  rw [State.bulkStore, if_neg (by omega), if_neg hm]

theorem bulkStaging_arms (hm : s.boot.mode ≠ 1) (hn : 1 ≤ n) (ha : a % 64 = 0) (hs : a + n ≤ 4194304) :
    s.bulkStaging a n = s.armUpload 1 (s.stagingBase + a) n := by
  rw [State.bulkStaging, if_neg (by omega), if_neg hm]

theorem bulkSlot_arms (hm : s.boot.mode = 1) (hn : 1 ≤ n) (hn' : n ≤ 4194304) :
    s.bulkSlot k 0 n = (s.setFlash (k + 1) []).armUpload (k + 2) 0 n := by
  rw [State.bulkSlot, if_neg (by omega), if_neg (by omega)]

theorem bulkSlot_refused (hm : s.boot.mode ≠ 1) (hn : 1 ≤ n) (hn' : n ≤ 4194304) :
    s.bulkSlot k 0 n = s.usbEnd rqBulkSetup stRefused := by
  rw [State.bulkSlot, if_neg (by omega), if_pos hm]

/-- Setting a slot of the flash changes the pattern block alone, and the slot then reads what was set. -/
theorem setFlash_eq (s : State) (k : Fin 2) (bs : List Byte) :
    ∃ p, s.setFlash (k.val + 1) bs = { s with pat := p } ∧ (s.setFlash (k.val + 1) bs).slotBytes (k.val + 1) = bs := by
  revert k
  rw [Fin.forall_fin_two]
  exact ⟨⟨_, rfl, rfl⟩, ⟨_, rfl, rfl⟩⟩

end Setup

section Data

variable {s t : State} {u : Upload} {p : List Byte}

/-- A packet for an armed upload whose slot is erased: its blocks are written, and it is acknowledged. -/
theorem ep2Data_taken (hl : s.usbLive = true) (hu : s.usb.upload = some u) (he : u.erasing = false) (hp : p ≠ [])
    (hlen : p.length ≤ u.remaining) :
    s.ep2Data p = (s.pumpUpload { u with remaining := u.remaining - p.length, held := [] }
      (pieces 64 (u.held ++ p))).send .usbAck := by
  have hpos : 0 < p.length := List.length_pos_of_ne_nil hp
  have hrem : u.remaining ≠ 0 := by omega
  simp only [State.ep2Data, hl, hu, hrem, he, List.take_of_length_le hlen, Bool.true_eq_false, Bool.false_eq_true, if_false]

/-- The block that ends an upload is written whatever its size. -/
theorem pumpUpload_last (hk : u.kind ≤ 1) (hr : u.remaining = 0) (hw : s.storeWrite (u.base + u.offset) p = (t, none)) :
    s.pumpUpload u [p] = t.modUsb (fun q => { q with upload := some { u with
      offset := u.offset + p.length, crc := p.foldl (crcByte 0xEDB88320) u.crc } }) := by
  have hwrite : s.writeUpload u p = (t, true) := by
    rw [State.writeUpload, if_neg (by omega), hw]
  rw [State.pumpUpload, if_neg (by simp [hr]), hwrite]
  rfl

theorem pumpUpload_fails {e : Nat × Nat} (hk : u.kind ≤ 1) (hr : u.remaining = 0)
    (hw : s.storeWrite (u.base + u.offset) p = (t, some e)) : s.pumpUpload u [p] = t.endUpload stStore := by
  have hwrite : s.writeUpload u p = (t, false) := by
    rw [State.writeUpload, if_neg (by omega), hw]
  rw [State.pumpUpload, if_neg (by simp [hr]), hwrite]

theorem pumpUpload_held (hr : u.remaining ≠ 0) (hp : p.length < 64) :
    s.pumpUpload u [p] = s.modUsb (fun q => { q with upload := some { u with held := p } }) := by
  rw [State.pumpUpload, if_pos ⟨hp, hr⟩]

theorem endUpload_some (h : s.usb.upload = some u) (r : Nat) :
    s.endUpload r = s.modUsb (fun q => { q with upload := none, result := r }) := by
  rw [State.endUpload, h]

theorem storeWrite_usb (s : State) (a : Nat) (bs : List Byte) : (s.storeWrite a bs).1.usb = s.usb :=
  (kept_storeWrite s a bs false false).2.2.1

/-- The checks of a slot (R298) set the pattern result, which nothing of USB enters. -/
theorem checkSlot_modUsb (s : State) (f : UsbSt → UsbSt) (k : Nat) :
    (s.modUsb f).checkSlot k = { s.modUsb f with pat := (s.checkSlot k).pat } := by
  have hargs : checkSigned (slotReader ⟨(s.modUsb f).slotBytes k⟩) (fld ((s.modUsb f).stored .SIG_POLICY) 0 2)
      ((s.modUsb f).ownerKey .OWNER_KEY_X) ((s.modUsb f).ownerKey .OWNER_KEY_Y) =
    checkSigned (slotReader ⟨s.slotBytes k⟩) (fld (s.stored .SIG_POLICY) 0 2) (s.ownerKey .OWNER_KEY_X)
      (s.ownerKey .OWNER_KEY_Y) := rfl
  rw [State.checkSlot, State.checkSlot, hargs]
  generalize checkSigned _ _ _ _ = r
  cases r <;> rfl

end Data

/-! ### Capture pages and events (R276, R299 to R301, R305) -/

section Pages

variable {s t : State} {c : Instr} {cap : Capture}

/-- An instruction of Table 14-3 that captures, with the page that it captures. -/
def captures (c : Instr) (cap : Capture) : Prop :=
  c = .usbCaptureLedger ∧ cap = .ledger ∨ c = .usbCapturePowerLog ∧ cap = .powerLog ∨
    ∃ a n, c = .usbCaptureStore a n ∧ cap = .store a n ∧ 1 ≤ n ∧ n ≤ 4096 ∧ a < 2 ^ 64

theorem exec_usbCaptureStore (hl : s.usbLive = true) {a n : Nat} (hn : 1 ≤ n) (hn' : n ≤ 4096) (ha : a < 2 ^ 64) :
    exec (.usbCaptureStore a n) s = .next (s.usbBegun.serviceRequest rqCapture (fun s => s.ownerRequest rqCapture
      (fun s => s.usbCapture (.store a n)))) :=
  (next_usbRequest hl _).trans (congrArg Host.Outcome.next (if_neg (by omega)))

theorem exec_captures (hl : s.usbLive = true) (ho : s.net.owner = .usb) (hm : s.boot.mode ≠ 1) (hc : captures c cap) :
    exec c s = .next (s.usbBegun.usbCapture cap) := by
  rcases hc with ⟨rfl, rfl⟩ | ⟨rfl, rfl⟩ | ⟨a, n, rfl, rfl, hn, hn', ha⟩
  · exact next_ownerRequest hl ho _ _
  · exact next_ownerRequest hl ho _ _
  · rw [exec_usbCaptureStore hl hn hn' ha, serviceRequest_service hm, ownerRequest_owner ho]

theorem usbCapture_pool {base : Nat} (hm : s.boot.mode ≠ 1) (hp : s.pattern.poolBase = some base) :
    s.usbBegun.usbCapture cap = s.usbBegun.capturePool base cap := by
  rw [usbCapture_service hm, hp]

theorem capturePool_busy (base : Nat) (hf : s.freeIndex = none) :
    s.usbBegun.capturePool base cap = s.usbBegun.usbEnd rqCapture stBusy := by
  rw [State.capturePool, show s.usbBegun.freeIndex = none from hf]

theorem capturePool_queues {base k : Nat} {data : List Byte} (hf : s.freeIndex = some k)
    (hc : s.captured cap = .ok data) (hb : s.buildPage base k true (padTo 4096 data) = some t) :
    s.capturePool base cap = (t.queuePage k (padTo 4096 data)).usbEnd rqCapture stOk := by
  simp only [State.capturePool, hf, hc, hb]

theorem captureChip_busy (h : s.net.chipPage ≠ none) : s.captureChip cap = s.usbEnd rqCapture stBusy := by
  rw [State.captureChip, if_pos (Option.isSome_iff_ne_none.mpr h)]

theorem captureChip_ledger (h : s.net.chipPage = none) : s.captureChip .ledger =
    ((s.modNet (fun n => { n with chipPage := some ⟨true, s.ledgerPage.length, padTo 4096 s.ledgerPage⟩ })).queuePage 4
      (padTo 4096 s.ledgerPage)).usbEnd rqCapture stOk := by
  rw [State.captureChip, if_neg (by simp [h])]
  rfl

theorem dropHeadPage_cons {k : Nat} {q : List Nat} (h : s.usb.queue = k :: q) :
    s.dropHeadPage = (s.freePage k).modUsb (fun u => { u with queue := q, packets := 0 }) := by
  rw [State.dropHeadPage, h]

/-- The page that is sent next, packet by packet (R299). -/
theorem ep1Ack_cons {k : Nat} {q : List Nat} (hl : s.usbLive = true) (h : s.usb.queue = k :: q) : s.ep1Ack =
    if 4096 ≤ s.bulkPacket * (s.usb.packets + 1) then
      (s.send (.usbData 1 (slice (s.pageData k) (s.bulkPacket * s.usb.packets) s.bulkPacket))).takeFree.2.dropHeadPage
    else (s.send (.usbData 1 (slice (s.pageData k) (s.bulkPacket * s.usb.packets) s.bulkPacket))).takeFree.2.modUsb
      (fun u => { u with packets := u.packets + 1 }) := by
  simp only [State.ep1Ack, hl, h, Bool.true_eq_false, if_false]

/-- A page freed, of the pool or on chip, with whatever of USB changes beside. -/
theorem freePage_modUsb (s : State) (f : UsbSt → UsbSt) (k : Nat) :
    (s.freePage k).modUsb f = { s with net := (s.freePage k).net, usb := f s.usb } := by
  rw [freePage_net]
  rfl

end Pages

/-- Settles O45: the bounds of a setup, then what a packet finds, then the end of the upload. -/
theorem usbUploads : Obligations.UsbUploads := by
  refine ⟨?store, ?malformed, ?staging, ?slot, ?slotRefused, ?erased, ?unready, ?last, ?fails, ?held, ?done, ?notDone⟩
  case store =>
    intro s a n hl ho hm hn hn' ha hs
    obtain ⟨t, harm, hup, hframe⟩ := armUpload_eq s.usbBegun 0 a n
    refine ⟨t, (next_ownerRequest hl ho _ _).trans (congrArg Host.Outcome.next ?_), hup, hframe⟩
    exact (bulkStore_arms (s := s.usbBegun) hm hn hn' ha hs).trans harm
  case malformed =>
    intro s a n hl ho h
    exact (next_ownerRequest hl ho _ _).trans (congrArg Host.Outcome.next (if_pos h))
  case staging =>
    intro s a n hl ho hm hn ha hs
    obtain ⟨t, harm, hup, hframe⟩ := armUpload_eq s.usbBegun 1 (s.stagingBase + a) n
    refine ⟨t, (next_ownerRequest hl ho _ _).trans (congrArg Host.Outcome.next ?_), hup, hframe⟩
    exact (bulkStaging_arms (s := s.usbBegun) hm hn ha hs).trans harm
  case slot =>
    intro s k n hl ho hm hn hn'
    obtain ⟨p, hflash, hbytes⟩ := setFlash_eq s.usbBegun k []
    obtain ⟨t, harm, hup, hframe⟩ := armUpload_eq (s.usbBegun.setFlash (k + 1) []) (k + 2) 0 n
    refine ⟨t, (next_ownerRequest hl ho _ _).trans (congrArg Host.Outcome.next ?_), ?_, ?_, ?_⟩
    · exact (bulkSlot_arms (s := s.usbBegun) (k := k) hm hn hn').trans harm
    · rw [hup]
      simp
    · rw [hframe]
      exact hbytes
    · rw [hflash] at hframe
      rw [hframe]
      rfl
  case slotRefused =>
    intro s k a n hl ho hn hn'
    refine ⟨fun ha => ?_, fun hm => ?_⟩
    · exact (next_ownerRequest hl ho _ _).trans (congrArg Host.Outcome.next (if_pos (.inr (.inr ha))))
    · exact (next_ownerRequest hl ho _ _).trans (congrArg Host.Outcome.next (bulkSlot_refused hm hn hn'))
  case erased =>
    intro s u hu
    refine congrArg Host.Outcome.next ?_
    rw [State.eraseDone, State.modUsb, hu]
    rfl
  case unready =>
    intro s p hl
    refine ⟨fun hu => congrArg Host.Outcome.next ?_, fun u hu hr he => congrArg Host.Outcome.next ?_⟩
    · simp only [State.ep2Data, hl, hu, Bool.true_eq_false, if_false]
    · simp only [State.ep2Data, hl, hu, hr, he, Bool.true_eq_false, if_false, if_true]
  case last =>
    intro s t u p hl hu he hk hh hr hp hlen hw
    refine congrArg Host.Outcome.next ((ep2Data_taken hl hu he hp (Nat.le_of_eq hr.symm)).trans ?_)
    rw [hh, List.nil_append, pieces_single p hp hlen, hr, Nat.sub_self,
      pumpUpload_last (u := { u with remaining := 0, held := [] }) hk rfl hw]
  case fails =>
    intro s t u p e hl hu he hk hh hr hp hlen hw
    have hup : t.usb.upload = some u := by
      have husb := storeWrite_usb s (u.base + u.offset) p
      rw [hw] at husb
      rw [husb, hu]
    refine congrArg Host.Outcome.next ((ep2Data_taken hl hu he hp (Nat.le_of_eq hr.symm)).trans ?_)
    rw [hh, List.nil_append, pieces_single p hp hlen, hr, Nat.sub_self,
      pumpUpload_fails (u := { u with remaining := 0, held := [] }) hk rfl hw, endUpload_some hup]
  case held =>
    intro s u p hl hu he hlen hpos hr
    have hp : p ≠ [] := List.ne_nil_of_length_pos hpos
    have hall : (u.held ++ p).length < 64 := by rwa [List.length_append]
    refine congrArg Host.Outcome.next ((ep2Data_taken hl hu he hp (Nat.le_of_lt hr)).trans ?_)
    rw [pieces_single _ (List.append_ne_nil_of_right_ne_nil _ hp) (Nat.le_of_lt hall),
      pumpUpload_held (by show u.remaining - p.length ≠ 0; omega) hall]
  case done =>
    intro s u hu hr
    have hdone : s.uploadDone = if 2 ≤ u.kind then
        (s.modUsb (fun q => { q with upload := none, result := stOk, check := wordOf (u.crc.xor 0xFFFFFFFF) })).checkSlot
          (u.kind - 1)
      else s.modUsb (fun q => { q with upload := none, result := stOk, check := wordOf (u.crc.xor 0xFFFFFFFF) }) := by
      simp only [State.uploadDone, hu, hr, ne_eq, not_true_eq_false, if_false, endUpload_some hu]
      rfl
    refine ⟨_, congrArg Host.Outcome.next hdone, ?_⟩
    by_cases hk : 2 ≤ u.kind
    · rw [if_pos hk, checkSlot_modUsb]
      exact ⟨rfl, fun h => absurd hk (by omega), fun _ => ⟨rfl, rfl⟩⟩
    · rw [if_neg hk]
      exact ⟨rfl, fun _ => rfl, fun h => absurd h hk⟩
  case notDone =>
    intro s h
    refine congrArg Host.Outcome.next ?_
    rcases h with h | ⟨u, hu, hr⟩
    · rw [State.uploadDone, h]
    · rw [State.uploadDone, hu]
      exact if_pos hr

/-- Settles O46: captures by where the page lies, then the packets that send it, then the events. -/
theorem usbPages : Obligations.UsbPages := by
  refine ⟨?queued, ?full, ?chip, ?chipFull, ?floor, ?noPage, ?packet, ?timeout, ?noTimeout, ?event, ?noEvent⟩
  case queued =>
    intro s t base k c cap data hl ho hm hp hf hc hcap hb
    rw [exec_captures hl ho hm hcap, usbCapture_pool hm hp, capturePool_queues (s := s.usbBegun) hf hc hb]
    rfl
  case full =>
    intro s base hl ho hm hp hf
    have hbusy : ∀ c cap, captures c cap → exec c s = .next (s.usbBegun.usbEnd rqCapture stBusy) := by
      intro c cap hcap
      rw [exec_captures hl ho hm hcap, usbCapture_pool hm hp, capturePool_busy base hf]
    exact ⟨hbusy _ _ (.inl ⟨rfl, rfl⟩), hbusy _ _ (.inr (.inl ⟨rfl, rfl⟩)),
      fun a n hn hn' ha => hbusy _ _ (.inr (.inr ⟨a, n, rfl, rfl, hn, hn', ha⟩))⟩
  case chip =>
    intro s hl ho hchip hnone
    have hcap := (usbCapture_chip hchip .ledger).trans (captureChip_ledger (s := s.usbBegun) hnone)
    exact ⟨_, (next_ownerRequest hl ho _ _).trans (congrArg Host.Outcome.next hcap), rfl, rfl, rfl⟩
  case chipFull =>
    intro s hl ho hchip hsome
    have hbusy : ∀ cap, s.usbBegun.usbCapture cap = s.usbBegun.usbEnd rqCapture stBusy := fun cap =>
      (usbCapture_chip hchip cap).trans (captureChip_busy (s := s.usbBegun) hsome)
    exact ⟨(next_ownerRequest hl ho _ _).trans (congrArg Host.Outcome.next (hbusy _)),
      (next_ownerRequest hl ho _ _).trans (congrArg Host.Outcome.next (hbusy _))⟩
  case floor =>
    intro s a n hl ho hm hn hn' ha
    rw [exec_usbCaptureStore hl hn hn' ha, serviceRequest_floor hm]
  case noPage =>
    intro s hl hq
    refine congrArg Host.Outcome.next ?_
    simp only [State.ep1Ack, hl, hq, Bool.true_eq_false, if_false]
  case packet =>
    intro s k q hl hq
    have hack := ep1Ack_cons hl hq
    by_cases hlast : 4096 ≤ s.bulkPacket * (s.usb.packets + 1)
    · rw [if_pos hlast] at hack
      generalize hv : (s.send (.usbData 1 (slice (s.pageData k) (s.bulkPacket * s.usb.packets) s.bulkPacket))).takeFree.2 =
        v at hack
      have hqueue : v.usb.queue = k :: q := by
        rw [← hv]
        exact hq
      rw [dropHeadPage_cons hqueue] at hack
      obtain ⟨hpool, hchip⟩ := freePage_at v k
      have hframe := freePage_modUsb v (fun u => { u with queue := q, packets := 0 }) k
      refine ⟨_, congrArg Host.Outcome.next hack, ?_, fun h => absurd hlast (by omega), fun _ => ⟨?_, ?_, hchip⟩⟩
      · rw [hframe, ← hv]
        rfl
      · rw [hframe, ← hv]
        rfl
      · intro hk
        obtain ⟨hnone, hother⟩ := hpool hk
        refine ⟨hnone, fun j hj => (hother j hj).trans ?_⟩
        rw [← hv]
        rfl
    · rw [if_neg hlast] at hack
      exact ⟨_, congrArg Host.Outcome.next hack, rfl, fun _ => rfl, fun h => absurd h hlast⟩
  case timeout =>
    intro s k q hq
    obtain ⟨hpool, hchip⟩ := freePage_at s k
    have hdrop : s.usbPageTimeout = (s.freePage k).modUsb (fun u => { u with
        queue := q, packets := 0, captureDiscards := satInc u.captureDiscards }) := by
      rw [State.usbPageTimeout, if_neg (by simp [hq]), dropHeadPage_cons hq]
      rfl
    have hframe := freePage_modUsb s (fun u => { u with
      queue := q, packets := 0, captureDiscards := satInc u.captureDiscards }) k
    exact ⟨_, congrArg Host.Outcome.next hdrop, congrArg State.usb hframe, by rw [hframe], hpool, hchip⟩
  case noTimeout =>
    intro s hq
    exact congrArg Host.Outcome.next (if_pos (by simp [hq]))
  case event =>
    intro s hl ho hd
    refine congrArg Host.Outcome.next ?_
    have hcond : ¬ (s.usbOwner = false ∨ s.eventsDue = 0) := by simp [State.usbOwner, ho, hd]
    rw [State.ep3Ack, if_neg (by simp [hl]), if_neg hcond]
    rfl
  case noEvent =>
    intro s hl h
    refine congrArg Host.Outcome.next ?_
    have hcond : s.usbOwner = false ∨ s.eventsDue = 0 := h.imp_left beq_eq_false_iff_ne.mpr
    rw [State.ep3Ack, if_neg (by simp [hl]), if_pos hcond]

end Sys2Proof.Machine

/-! PROOFS. The bus of the USB service port (R289, R294, R306 to R308). -/

namespace Sys2Proof.Machine

section Bus

variable {s : State}

/-- What a bus reset leaves, before the change of state is posted. -/
theorem busReset_live (hl : s.usbLive = true) (stage : UsbStage) :
    s.busReset stage = (s.breakOff.modUsb (fun u => { u with
      busResets := satInc u.busResets
      partialDiscards := if stage = .outPartial then satInc u.partialDiscards else u.partialDiscards
      grace := s.usbOwner })).usbState 2 usbReset := by
  rw [State.busReset, if_neg (by simp [hl])]
  by_cases h : stage = .outPartial
  · simp only [h, if_true]
  · simp only [h, if_false]
    rfl

theorem vbusChange_lost (h : s.usb.vbus = true) : s.vbusChange false =
    ((s.breakOff.modUsb (fun u => { u with vbus := false, pullup := false, highSpeed := false })).usbState 0
      usbVbusLost).endUsbOpen usbVbusLost := by
  simp only [State.vbusChange, h, Bool.true_eq_false, Bool.false_eq_true, if_false]

theorem vbusChange_connects (hv : s.usb.vbus = false) (hd : s.usb.disabled = false) (hp : s.boot.usbPhyOk = true)
    (hm : s.boot.mode ≠ 0) (hu : s.usb.pullup = false) : s.vbusChange true =
      ({ s with usb := { s.usb with vbus := true, pullup := true } } : State).usbState 1 usbHost := by
  have hcond : (true && s.boot.usbPhyOk && !s.usb.disabled && s.boot.mode != 0 && !s.usb.pullup) = true := by
    simp [hp, hd, hm, hu]
  simp only [State.vbusChange, hv, State.modUsb, hd, Bool.false_eq_true, if_false, if_true, Bool.false_and,
    State.usbConnect]
  rw [if_pos (by simpa [hd] using hcond)]

theorem enumerate_live (hl : s.usbLive = true) (e : EnumStep) (b : Bool) : s.enumerate e b =
    if e = .addressed then (((s.modUsb (fun u => { u with highSpeed := b })).usbState (enumState e) usbHost).send
      (.usbDescriptors (usbDescriptorsOf b)))
    else (s.modUsb (fun u => { u with highSpeed := b })).usbState (enumState e) usbHost := by
  rw [State.enumerate, if_pos hl]

/-- The descriptors of Tables 14-1 and 14-2 (R289). -/
theorem usbDescriptorsOf_endpoints (b : Bool) :
    (usbDescriptorsOf b).endpoints[1]? = some ⟨1, .bulk, true, if b then 512 else 64, none⟩ ∧
    (usbDescriptorsOf b).endpoints[2]? = some ⟨2, .bulk, false, if b then 512 else 64, none⟩ ∧
    (usbDescriptorsOf b).endpoints[3]? = some ⟨3, .interrupt, true, 64, some 1⟩ :=
  ⟨rfl, rfl, rfl⟩

/-- Disabling the port ends the session and frees every queued page (R306). -/
theorem wroteUsbDisable_on (v : Word) (hv : bitAt v 0 = true) :
    (s.wroteUsbDisable v).usb.disabled = true ∧ (s.wroteUsbDisable v).usb.disableWritten = true ∧
      (s.wroteUsbDisable v).usb.removalDue = true ∧ (s.wroteUsbDisable v).usb.queue = [] ∧
      (s.wroteUsbDisable v).usb.packets = 0 ∧ (s.wroteUsbDisable v).net.owner ≠ .usb ∧
      (s.wroteUsbDisable v).usb.pullup = s.usb.pullup ∧ (s.wroteUsbDisable v).usb.vbus = s.usb.vbus := by
  have hdef : s.wroteUsbDisable v =
      let t := (s.modUsb (fun u => { u with disableWritten := true, disabled := true, removalDue := true })).endUsbOpen
        usbDisabled
      (t.usb.queue.foldl State.freePage t).modUsb (fun u => { u with queue := [], packets := 0 }) := by
    simp only [State.wroteUsbDisable, hv, Bool.true_eq_false, if_false]
    rfl
  rw [hdef]
  obtain ⟨hended, hkept⟩ := endUsbOpen_eq
    (s.modUsb (fun u => { u with disableWritten := true, disabled := true, removalDue := true })) usbDisabled
  generalize hu : s.modUsb (fun u => { u with disableWritten := true, disabled := true, removalDue := true }) = u
    at hended hkept ⊢
  obtain ⟨husb, howner⟩ := foldl_freePage (u.endUsbOpen usbDisabled).usb.queue (u.endUsbOpen usbDisabled)
  simp only [State.modUsb, husb, howner]
  by_cases ho : u.net.owner = .usb
  · obtain ⟨hnone, hends⟩ := hended ho
    rw [hends, hnone, ← hu]
    exact ⟨rfl, rfl, rfl, trivial, trivial, by decide, rfl, rfl⟩
  · rw [hkept ho]
    refine ⟨?_, ?_, ?_, trivial, trivial, ho, ?_, ?_⟩ <;> rw [← hu] <;> rfl

end Bus

/-- Settles O47: one clause for each thing that happens on the bus. -/
theorem usbBus : Obligations.UsbBus := by
  refine ⟨?reset, ?noReset, ?grace, ?noGrace, ?lost, fun s c => (endUsbOpen_eq s c).1, fun s c => (endUsbOpen_eq s c).2,
    ?connects, ?still, ?state, ?step, ?addressed, ?disabled, ?enabled, ?removal, ?noRemoval⟩
  case reset =>
    intro s stage hl
    obtain ⟨hframe, hbroken, hkept⟩ := breakOff_usb s
    refine ⟨_, congrArg Host.Outcome.next (busReset_live hl stage), ?_, ?_, ?_, beq_iff_eq, ?_, ?_, hbroken, hkept, ?_⟩ <;>
      rw [hframe] <;> rfl
  case noReset => exact fun s stage hl => congrArg Host.Outcome.next (if_pos hl)
  case grace =>
    intro s hg ho
    obtain ⟨t, hend, hnone, husb, hregs⟩ := endUsbOwner_eq s ownerTimedOut ho
    exact ⟨t, congrArg Host.Outcome.next ((if_pos hg).trans hend), hnone, husb, hregs⟩
  case noGrace => exact fun s hg => congrArg Host.Outcome.next (if_neg (by simp [hg]))
  case lost =>
    intro s hv
    obtain ⟨hframe, -, -⟩ := breakOff_usb s
    refine ⟨_, congrArg Host.Outcome.next (vbusChange_lost hv), rfl, rfl, ?_, ?_, ?_⟩ <;> rw [hframe] <;> rfl
  case connects =>
    intro s hv hd hp hm hu
    exact congrArg Host.Outcome.next (vbusChange_connects hv hd hp hm hu)
  case still => exact fun s b h => congrArg Host.Outcome.next (if_pos h)
  case state => exact fun s st cause => ⟨fun h => if_pos h, fun h => if_neg h⟩
  case step =>
    intro s e b hl he
    exact congrArg Host.Outcome.next ((enumerate_live hl e b).trans (if_neg he))
  case addressed =>
    intro s b hl
    exact ⟨usbDescriptorsOf b, congrArg Host.Outcome.next ((enumerate_live hl _ b).trans (if_pos rfl)), rfl, rfl, rfl, rfl,
      rfl, rfl, rfl, rfl, rfl, rfl, rfl, rfl, rfl, rfl, usbDescriptorsOf_endpoints b⟩
  case disabled =>
    intro s acc v hacc hv
    have hbit : bitAt (s.keptValue .USB_PORT_DISABLE 0 v) 0 = true := by
      rw [← hv]
      exact (bitAt_and_mask v _ 0 (by decide))
    exact ⟨_, congrArg Host.Outcome.next (writeCmd_next v hacc (by decide) (by decide) rfl rfl),
      wroteUsbDisable_on (s := s.written .USB_PORT_DISABLE 0 0 v) _ hbit⟩
  case enabled =>
    intro s acc v hacc hv
    have hbit : bitAt (s.keptValue .USB_PORT_DISABLE 0 v) 0 = false := by
      rw [← hv]
      exact (bitAt_and_mask v _ 0 (by decide))
    exact congrArg Host.Outcome.next ((writeCmd_next v hacc (by decide) (by decide) rfl rfl).trans (if_pos hbit))
  case removal => exact fun s h => congrArg Host.Outcome.next (if_pos h)
  case noRemoval => exact fun s h => congrArg Host.Outcome.next (if_neg (by simp [h]))

end Sys2Proof.Machine

/-! PROOFS. Purl: registers, posts, Store transfers and capture pages; frames and EVENTs (R59, R61, R80, R262, R265,
R269, R275 to R278). -/

namespace Sys2Proof.Machine

section Runs

variable {s u : State} {req : PurlReq}

/-- A request that arrives alone, of a session that is known, is run when its sender may make it. -/
theorem next_purl {b : PurlBody} (h : s.PurlRuns req b.opcode) (h' : b.ownerOnly = false ∨ s.ownerReq req = true) :
    (.next (s.purl req b) : Host.Outcome State Fault Refusal) = .next (s.runPurl req b) :=
  congrArg Host.Outcome.next (purl_runs h h')

/-- A request of a session with nothing in flight names none of them. -/
theorem names_none_of_flightOf {b : PurlBody} (h : s.flightOf req = []) : s.net.flight.any (fun f => f.names req b.opcode) = false := by
  rw [List.any_eq_false]
  intro f hf hnames
  have hmem : f ∈ s.flightOf req := by
    simp only [Flight.names, Bool.and_eq_true] at hnames
    exact List.mem_filter.mpr ⟨hf, hnames.1.1⟩
  rw [h] at hmem
  exact absurd hmem List.not_mem_nil

/-- One of the owner alone, by another, is NOT_OWNER (R61, R270). -/
theorem purl_notOwner {b : PurlBody} (h : s.PurlRuns req b.opcode) (hb : b.ownerOnly = true) (ho : s.ownerReq req = false) :
    s.purl req b = (s.notOwnerLeaves req b).answer req b.opcode stNotOwner [] b.param := by
  obtain ⟨hserved, hsession, hkept, hflight⟩ := h
  have hnone := names_none_of_flightOf (b := b) hflight
  simp [State.purl, hserved, hkept, hnone, hflight, State.judgePurl, hsession, hb, ho]

/-! ### Registers (R59, R269) -/

theorem purlRead_run {a n : Nat} {ws : List Word} (hn : 1 ≤ n) (hn' : n ≤ 351)
    (hr : State.readRun (.purl req.client req.session) n s a = (u, ws)) :
    s.purlRead req a n = u.answer req opRead (if ws.length = n then stOk else stRefused)
      (beBytes 2 ws.length ++ [0, 0] ++ ws.flatMap (fun w => beBytes 4 w.toNat)) := by
  rw [State.purlRead, if_neg (by omega), purlAcc, hr]

theorem purlWrite_run {a k : Nat} {ws : List Word} (hw : ws ≠ []) (hlen : ws.length ≤ 350)
    (hr : State.writeRun (.purl req.client req.session) s a ws 0 = (u, k)) :
    s.purlWrite req a ws = u.answer req opWrite (if k = ws.length then stOk else stRefused) (beBytes 2 k ++ [0, 0]) := by
  rw [State.purlWrite, if_neg (by simp [hw, hlen]), purlAcc, hr]

/-! ### Bales (R80, R81) -/

section Posts

variable {r : Nat} {bales : List Bale} (hr : r ≤ 15) (hb : bales ≠ []) (hlen : bales.length ≤ 22)
  (hsize : bales.any (fun b => b.length != 64) = false)
include hr hb hlen hsize

theorem purlPost_formed : ¬ (15 < r ∨ bales.isEmpty = true ∨ 22 < bales.length ∨
    bales.any (fun b => b.length != 64) = true) := by
  simp [hr, hb, hlen, hsize]

theorem purlPost_accepted (h : s.acceptPost r bales (.purl req) = (u, 1)) : s.purlPost req r bales =
    u.modNet (fun n => { n with flight := n.flight ++ [⟨req.client, req.session, req.seq, .post r bales, true⟩] }) := by
  rw [State.purlPost, if_neg (purlPost_formed hr hb hlen hsize), h]
  rfl

theorem purlPost_full (h : s.acceptPost r bales (.purl req) = (u, 2)) :
    s.purlPost req r bales = u.answer req opPost stFull [] r := by
  rw [State.purlPost, if_neg (purlPost_formed hr hb hlen hsize), h]
  rfl

theorem purlPost_unbound (h : s.acceptPost r bales (.purl req) = (u, 3)) :
    s.purlPost req r bales = u.answer req opPost stUnbound [] r := by
  rw [State.purlPost, if_neg (purlPost_formed hr hb hlen hsize), h]
  rfl

end Posts

/-! ### Store transfers (R275) -/

theorem purlStoreRead_ok {a n : Nat} {bs : List Byte} (hn : 1 ≤ n) (hn' : n ≤ 1392) (ha : a < 2 ^ 64)
    (h : s.storeRead a n = .ok bs) : s.purlStoreRead req a n =
      s.answer req opStoreRead stOk (beBytes 8 a ++ bs ++ beBytes 4 (crc32 (beBytes 8 a ++ bs))) := by
  rw [State.purlStoreRead, if_neg (by omega), h]
  rfl

theorem purlStoreRead_fails {a n : Nat} {e : Nat × Nat} (hn : 1 ≤ n) (hn' : n ≤ 1392) (ha : a < 2 ^ 64)
    (h : s.storeRead a n = .error e) : s.purlStoreRead req a n = s.answer req opStoreRead stStore := by
  rw [State.purlStoreRead, if_neg (by omega), h]

theorem purlStoreWrite_sized {a : Nat} {d : List Byte} (hd : d ≠ []) (hlen : d.length ≤ 1396) (ha : a < 2 ^ 64) :
    ¬ (d.isEmpty = true ∨ 1396 < d.length ∨ 2 ^ 64 ≤ a) := by
  rintro (h | h | h)
  · exact hd (List.isEmpty_iff.mp h)
  · omega
  · omega

theorem purlStoreWrite_ok {a : Nat} {d : List Byte} {check : Word} (hd : d ≠ []) (hlen : d.length ≤ 1396) (ha : a < 2 ^ 64)
    (hc : check.toNat = crc32 (beBytes 8 a ++ d)) (hw : s.storeWrite a d false true = (u, none)) :
    s.purlStoreWrite req a d check = u.answer req opStoreWrite stOk := by
  rw [State.purlStoreWrite, if_neg (purlStoreWrite_sized hd hlen ha), transferCheck, if_neg (not_not.mpr hc), hw]

theorem purlStoreWrite_check {a : Nat} {d : List Byte} {check : Word} (hd : d ≠ []) (hlen : d.length ≤ 1396)
    (ha : a < 2 ^ 64) (hc : check.toNat ≠ crc32 (beBytes 8 a ++ d)) :
    s.purlStoreWrite req a d check = s.answer req opStoreWrite stCheck := by
  rw [State.purlStoreWrite, if_neg (purlStoreWrite_sized hd hlen ha), transferCheck, if_pos hc]

/-! ### Capture pages (R276, R277) -/

variable {c : Instr} {cap : Capture} {base k : Nat}

/-- An instruction of Purl that captures, with what it captures. -/
def purlCaptures (req : PurlReq) (c : Instr) (cap : Capture) : Prop :=
  c = .purlCaptureLedger req ∧ cap = .ledger ∨ c = .purlCapturePowerLog req ∧ cap = .powerLog ∨
    ∃ a n, c = .purlCaptureStore req a n ∧ cap = .store a n ∧ 1 ≤ n ∧ n ≤ 4096 ∧ a < 2 ^ 64

theorem exec_purlCaptures (h : s.PurlRuns req opCapture) (ho : s.ownerReq req = true) (hc : purlCaptures req c cap) :
    exec c s = .next (s.purlCapture req cap) := by
  rcases hc with ⟨rfl, rfl⟩ | ⟨rfl, rfl⟩ | ⟨a, n, rfl, rfl, hn, hn', ha⟩
  · exact next_purl h (.inr ho)
  · exact next_purl h (.inr ho)
  · exact (next_purl (b := .captureStore a n) h (.inr ho)).trans (congrArg Host.Outcome.next (if_neg (by omega)))

theorem purlCapture_noRegion (h : s.pattern.poolBase = none) :
    s.purlCapture req cap = s.answer req opCapture stNoRegion := by
  rw [State.purlCapture, h]

theorem purlCapture_busy (h : s.pattern.poolBase = some base) (hf : s.freeIndex = none) :
    s.purlCapture req cap = s.answer req opCapture stBusy := by
  simp only [State.purlCapture, h, hf]

theorem purlCapture_builds {data : List Byte} (h : s.pattern.poolBase = some base) (hf : s.freeIndex = some k)
    (hc : s.captured cap = .ok data) (hb : s.buildPage base k false data = some u) : s.purlCapture req cap =
      u.answer req opCapture stOk ([byteOf k, 0, 0, 0] ++ beBytes 8 (pageAddr base k) ++ beBytes 4 data.length ++
        beBytes 4 (crc32 (beBytes 8 (pageAddr base k) ++ data))) := by
  simp only [State.purlCapture, h, hf, hc, hb]
  rfl

/-- A page that is built takes its place in the pool, and no register moves. -/
theorem buildPage_some {usb : Bool} {data : List Byte} (h : s.buildPage base k usb data = some u) :
    u.page k = some ⟨usb, data.length, []⟩ ∧ u.regs = s.regs := by
  rw [State.buildPage] at h
  split at h
  · contradiction
  · rw [← Option.some.inj h]
    exact ⟨by rw [State.page, State.setPage, mapGet_mapSet_same], (kept_storeWrite s (pageAddr base k) data false false).1⟩

theorem setPage_page (s : State) (k j : Nat) (p : Option Page) : (s.setPage k p).page j = if j = k then p else s.page j := by
  rw [State.page, State.setPage, mapGet_mapSet, State.page]

theorem purlFree_held (hp : s.pattern.poolBase = some base) (hk : k ≤ 3) (hh : s.purlHolds k = true) :
    s.purlFree req k = (s.setPage k none).takeFree.2.answer req opCapture stOk
      (byteOf k :: (List.range 19).map (Config.freeByte (s.setPage k none).freeCount)) := by
  rw [State.purlFree, if_neg (by simp [hp]), if_neg (by omega)]
  simp only [hh, if_true]
  rfl

end Runs

/-- Settles O40: each request is its body, which its owner and its bounds decide. -/
theorem purlRegisters : Obligations.PurlRegisters := by
  refine ⟨?read, ?readMalformed, ?write, ?writeOther, ?accepted, ?full, ?unbound, ?postOther⟩
  case read =>
    intro s u req a n ws h hn hn' hr
    exact (next_purl h (.inl rfl)).trans (congrArg Host.Outcome.next (purlRead_run hn hn' hr))
  case readMalformed =>
    intro s req a n h hn
    exact (next_purl (b := .read a.toNat n) h (.inl rfl)).trans (congrArg Host.Outcome.next (if_pos hn))
  case write =>
    intro s u req a ws k h ho hw hlen hr
    exact (next_purl (b := .write a.toNat ws true) h (.inr ho)).trans (congrArg Host.Outcome.next (purlWrite_run hw hlen hr))
  case writeOther =>
    intro s req a ws h ho
    exact congrArg Host.Outcome.next (purl_notOwner (b := .write a.toNat ws true) h rfl ho)
  case accepted =>
    intro s u req r bales h ho hr hb hlen hsize hp
    exact (next_purl (b := .post r bales) h (.inr ho)).trans
      (congrArg Host.Outcome.next (purlPost_accepted hr hb hlen hsize hp))
  case full =>
    intro s u req r bales h ho hr hb hlen hsize hp
    exact (next_purl (b := .post r bales) h (.inr ho)).trans
      (congrArg Host.Outcome.next (purlPost_full hr hb hlen hsize hp))
  case unbound =>
    intro s u req r bales h ho hr hb hlen hsize hp
    exact (next_purl (b := .post r bales) h (.inr ho)).trans
      (congrArg Host.Outcome.next (purlPost_unbound hr hb hlen hsize hp))
  case postOther =>
    intro s req r bales h ho
    exact congrArg Host.Outcome.next (purl_notOwner (b := .post r bales) h rfl ho)

/-- Settles O41: transfers by their check, pages by the pool. -/
theorem purlStoreAndPages : Obligations.PurlStoreAndPages := by
  refine ⟨?read, ?readFails, ?write, ?check, ?noRegion, ?builds, ?busy, ?release, ?timeout, ?noTimeout⟩
  case read =>
    intro s req a n bs h hn hn' ha hr
    exact (next_purl (b := .storeRead a n) h (.inl rfl)).trans
      (congrArg Host.Outcome.next (purlStoreRead_ok hn hn' ha hr))
  case readFails =>
    intro s req a n e h hn hn' ha hr
    exact (next_purl (b := .storeRead a n) h (.inl rfl)).trans
      (congrArg Host.Outcome.next (purlStoreRead_fails hn hn' ha hr))
  case write =>
    intro s t req a d check h ho hd hlen ha hc hw
    exact (next_purl (b := .storeWrite a d check) h (.inr ho)).trans
      (congrArg Host.Outcome.next (purlStoreWrite_ok hd hlen ha hc hw))
  case check =>
    intro s req a d check h ho hd hlen ha hc
    exact (next_purl (b := .storeWrite a d check) h (.inr ho)).trans
      (congrArg Host.Outcome.next (purlStoreWrite_check hd hlen ha hc))
  case noRegion =>
    intro s req a n h ho hp
    have hnone : ∀ c cap, purlCaptures req c cap → exec c s = .next (s.answer req opCapture stNoRegion) := by
      intro c cap hc
      rw [exec_purlCaptures h ho hc, purlCapture_noRegion hp]
    refine ⟨hnone _ _ (.inl ⟨rfl, rfl⟩), hnone _ _ (.inr (.inl ⟨rfl, rfl⟩)), ?_,
      fun hn hn' ha => hnone _ _ (.inr (.inr ⟨a, n, rfl, rfl, hn, hn', ha⟩))⟩
    exact (next_purl (b := .captureRelease n) h (.inr ho)).trans (congrArg Host.Outcome.next (if_pos (by simp [hp])))
  case builds =>
    intro s t req base k c cap data h ho hp hf hc hb hcap
    refine ⟨?_, buildPage_some hb⟩
    rw [exec_purlCaptures h ho hcap, purlCapture_builds hp hf hc hb]
  case busy =>
    intro s req base a n h ho hp hf
    have hbusy : ∀ c cap, purlCaptures req c cap → exec c s = .next (s.answer req opCapture stBusy) := by
      intro c cap hc
      rw [exec_purlCaptures h ho hc, purlCapture_busy hp hf]
    exact ⟨hbusy _ _ (.inl ⟨rfl, rfl⟩), hbusy _ _ (.inr (.inl ⟨rfl, rfl⟩)),
      fun hn hn' ha => hbusy _ _ (.inr (.inr ⟨a, n, rfl, rfl, hn, hn', ha⟩))⟩
  case release =>
    intro s req base k h ho hp hk hh
    refine ⟨_, (next_purl (b := .captureRelease k) h (.inr ho)).trans
      (congrArg Host.Outcome.next (purlFree_held hp hk hh)), ?_, fun j hj => ?_, ?_, ?_⟩
    · rw [answer_page]
      exact (setPage_page s k k none).trans (if_pos rfl)
    · rw [answer_page]
      exact (setPage_page s k j none).trans (if_neg hj)
    · rw [answer_store]
      rfl
    · rw [answer_regs]
      rfl
  case timeout =>
    intro s k hh
    exact ⟨_, congrArg Host.Outcome.next (if_pos hh), (setPage_page s k k none).trans (if_pos rfl), rfl, rfl⟩
  case noTimeout => exact fun s k hh => congrArg Host.Outcome.next (if_neg (by simp [hh]))

/-! ### Frames and EVENTs (R262, R265, R278, R288) -/

section Frames

variable {s : State} {p : Fin 2} {f : List Byte}

theorem etherFrame_received (hu : s.boot.regsUp = true) (hl : (s.netPort p).link = true) (ok : Bool) :
    s.etherFrame p f ok = if ok = false then (s.netDiscard p).modPort p (fun q => { q with fcsErrors := satInc q.fcsErrors })
      else if (if (untag f).vid.isSome then 1522 else 1518) < f.length + 4 then s.netDiscard p
      else (s.modPort p (fun q => { q with rx := satInc q.rx })).goodFrame p f := by
  rw [State.etherFrame, if_neg (by simp [State.netUp, hu, hl])]

/-- The longest frame of R288, with its FCS and without. -/
theorem maxFrame_lt_iff (f : List Byte) : (if (untag f).vid.isSome then 1522 else 1518) < f.length + 4 ↔
    (if (untag f).vid.isSome then 1518 else 1514) < f.length := by
  split <;> omega

/-- EVENT sends the bales due, up to 21, to an owner that Purl serves (R278). -/
theorem sendEvent_due {c : Client} {n : Word} (ho : s.net.owner = .purl c n) (hs : s.purlServed c.net = true)
    (hd : s.eventsDue ≠ 0) : s.sendEvent = ((s.sendNet c.net (fld (s.reg .PURL_CONFIG) 16 6)
        (.purl c opEvent 0 0 s.net.eventSeq n (beBytes 2 s.eventFirst ++ beBytes 2 (min 21 s.eventsDue) ++
          (List.range (min 21 s.eventsDue)).flatMap (fun k => s.sentBale (s.eventFirst + k))))).modNet (fun q => { q with
      eventNext := (s.eventFirst + min 21 s.eventsDue) % 65536, eventSeq := q.eventSeq + 1 })).takeFree.2 := by
  have hready : s.netReady c.net = true := by
    simp only [State.purlServed, Bool.and_eq_true] at hs
    exact hs.2
  have hcount : ¬ min 21 s.eventsDue = 0 := by omega
  simp only [State.sendEvent, ho, hs, hcount, Bool.true_eq_false, or_self, if_false, State.sendPurl, hready, if_true]

end Frames

/-- Settles O42: a frame by its link, its FCS and its length, an EVENT by its owner and what is due. -/
theorem framesAndEvents : Obligations.FramesAndEvents := by
  refine ⟨?noLink, ?badFcs, ?long, ?good, ?event, ?noEvent⟩
  case noLink => exact fun s p f ok h => congrArg Host.Outcome.next (if_pos h)
  case badFcs =>
    intro s p f hu hl
    refine ⟨_, congrArg Host.Outcome.next ((etherFrame_received hu hl false).trans (if_pos rfl)), ?_⟩
    rw [State.modPort_same, State.netDiscard, State.modPort_same]
    exact ⟨rfl, rfl, rfl, rfl⟩
  case long =>
    intro s p f hu hl hf
    refine congrArg Host.Outcome.next ((etherFrame_received hu hl true).trans ?_)
    rw [if_neg (by decide), if_pos ((maxFrame_lt_iff f).mpr hf)]
  case good =>
    intro s p f hu hl hf
    refine congrArg Host.Outcome.next ((etherFrame_received hu hl true).trans ?_)
    rw [if_neg (by decide), if_neg (mt (maxFrame_lt_iff f).mp (Nat.not_lt.mpr hf))]
  case event =>
    intro s c n ho hs hd
    exact ⟨_, congrArg Host.Outcome.next (sendEvent_due ho hs hd), rfl, rfl, rfl, rfl, rfl⟩
  case noEvent =>
    intro s h
    refine congrArg Host.Outcome.next ?_
    rw [State.sendEvent]
    split
    case h_1 c n ho =>
      have hdue : s.eventsDue = 0 := h.resolve_right fun h' => h' c n ho
      rw [hdue]
      exact if_pos (.inr rfl)
    case h_2 => rfl

end Sys2Proof.Machine

/-! PROOFS. Which Purl requests run, claims, and the end of an owner session (R61, R265 to R274, R286, R287, R379). -/

namespace Sys2Proof.Machine

/-! ### Values not given before (R271) -/

section Unused

variable {n : Nat} {used : List (BitVec n)}

/-- A search that meets a value that is not used ends at one. -/
theorem unused_not_mem_of_exists {fuel : Nat} {v : BitVec n} (h : ∃ i < fuel, v + BitVec.ofNat n i ∉ used) :
    unused used fuel v ∉ used := by
  induction fuel generalizing v with
  | zero =>
    obtain ⟨i, hi, -⟩ := h
    exact absurd hi (Nat.not_lt_zero i)
  | succ fuel ih =>
    rw [unused]
    split
    case isTrue hv =>
      obtain ⟨i, hi, hout⟩ := h
      cases i with
      | zero =>
        rw [show BitVec.ofNat n 0 = 0#n from rfl, BitVec.add_zero] at hout
        exact absurd (List.contains_iff_mem.mp hv) hout
      | succ i =>
        refine ih ⟨i, Nat.lt_of_succ_lt_succ hi, ?_⟩
        rw [BitVec.add_assoc, show (1 : BitVec n) = BitVec.ofNat n 1 from rfl, ← BitVec.ofNat_add, Nat.add_comm]
        exact hout
    case isFalse hv => exact fun hmem => hv (List.contains_iff_mem.mpr hmem)

/-- Of more values in a row than are used, one is not used. -/
theorem exists_add_not_mem {fuel : Nat} (hlen : used.length < fuel) (hfuel : fuel ≤ 2 ^ n) (v : BitVec n) :
    ∃ i < fuel, v + BitVec.ofNat n i ∉ used := by
  by_contra hall
  have hall' : ∀ i < fuel, v + BitVec.ofNat n i ∈ used := by simpa using hall
  have hinj : ∀ i ∈ Finset.range fuel, ∀ j ∈ Finset.range fuel,
      v + BitVec.ofNat n i = v + BitVec.ofNat n j → i = j := by
    intro i hi j hj h
    have hval := congrArg BitVec.toNat (add_left_cancel h)
    rw [Finset.mem_range] at hi hj
    rwa [BitVec.toNat_ofNat, BitVec.toNat_ofNat, Nat.mod_eq_of_lt (by omega), Nat.mod_eq_of_lt (by omega)] at hval
  have hcard : (Finset.range fuel).card ≤ used.toFinset.card :=
    Finset.card_le_card_of_injOn (fun i => v + BitVec.ofNat n i)
      (fun i hi => List.mem_toFinset.mpr (hall' i (Finset.mem_range.mp hi))) hinj
  have hused := used.toFinset_card_le
  rw [Finset.card_range] at hcard
  omega

theorem unused_not_mem (hlen : used.length < 2 ^ n) (v : BitVec n) : unused used (used.length + 1) v ∉ used :=
  unused_not_mem_of_exists (exists_add_not_mem (Nat.lt_succ_self _) hlen v)

end Unused

/-- A fresh challenge repeats no session number and no nonce of those given, and its session is not 0. -/
theorem freshOffer_fresh {s : State} (h : s.net.offers.length + 2 < 2 ^ 32) : s.freshOffer.1.session ≠ 0 ∧
    ∀ x ∈ s.net.offers, x.session ≠ s.freshOffer.1.session ∧ x.nonce ≠ s.freshOffer.1.nonce := by
  have hgiven : s.offersGiven.length ≤ s.net.offers.length + 1 := by
    rw [State.offersGiven, List.length_append]
    cases s.usb.offer <;> simp
  have hsession : s.freshOffer.1.session ∉ (0 :: s.offersGiven.map Offer.session : List Word) :=
    unused_not_mem (by simp only [List.length_cons, List.length_map]; omega) _
  have hnonce : s.freshOffer.1.nonce ∉ s.offersGiven.map Offer.nonce :=
    unused_not_mem (by simp only [List.length_map]; omega) _
  rw [List.mem_cons, not_or] at hsession
  refine ⟨hsession.1, fun x hx => ?_⟩
  have hmem : x ∈ s.offersGiven := List.mem_append_left _ hx
  exact ⟨fun h => hsession.2 (List.mem_map.mpr ⟨x, hmem, h⟩), fun h => hnonce (List.mem_map.mpr ⟨x, hmem, h⟩)⟩

/-! ### Arrival (R265, R270, R273, R274, R379) -/

section Arrival

variable {s : State} {req : PurlReq} {b : PurlBody}

variable (hs : s.purlServed req.client.net = true)
include hs

theorem purl_repeat {m : NetMsg} (hk : s.keptReply req b.opcode = some m) : s.purl req b =
    s.countDuplicate.sendNet req.client.net (fld (s.reg .PURL_CONFIG) 16 6) (m.to req.client) := by
  have hready : s.countDuplicate.netReady req.client.net = true := by
    simp only [State.purlServed, Bool.and_eq_true] at hs
    exact hs.2
  simp only [State.purl, hs, hk, Bool.true_eq_false, if_false, State.sendPurl, hready, if_true]
  rfl

variable (hk : s.keptReply req b.opcode = none)
include hk

theorem purl_inFlight (hn : s.net.flight.any (fun f => f.names req b.opcode) = true) :
    s.purl req b = s.countDuplicate := by
  simp only [State.purl, hs, hk, hn, Bool.true_eq_false, if_false, if_true]

theorem purl_busy (hn : s.net.flight.any (fun f => f.names req b.opcode) = false) (hw : 16 ≤ (s.flightOf req).length) :
    s.purl req b = s.answer req b.opcode stBusy [] b.param := by
  simp only [State.purl, hs, hk, hn, hw, Bool.true_eq_false, Bool.false_eq_true, if_false, if_true]

theorem purl_waits (hn : s.net.flight.any (fun f => f.names req b.opcode) = false) (hw : (s.flightOf req).length < 16)
    (hf : s.flightOf req ≠ []) : s.purl req b = s.modNet (fun n => { n with
      flight := n.flight ++ [⟨req.client, req.session, req.seq, b, false⟩] }) := by
  simp only [State.purl, hs, hk, hn, Nat.not_le.mpr hw, List.isEmpty_iff, hf, Bool.true_eq_false, Bool.false_eq_true,
    if_false]

theorem purl_judged (hf : s.flightOf req = []) : s.purl req b = s.judgePurl req b := by
  have hn := names_none_of_flightOf (b := b) hf
  simp [State.purl, hs, hk, hn, hf]

end Arrival

section Sessions

variable {s : State} {req : PurlReq} {b : PurlBody}

theorem judgePurl_unknown (h : s.sessionRefusal req b.opcode = some stSession) :
    s.judgePurl req b = s.purlReply req b.opcode stSession [] false none b.param := by
  rw [State.judgePurl, h]
  rfl

theorem judgePurl_elsewhere (h : s.sessionRefusal req b.opcode = some stNotOwner) :
    s.judgePurl req b = (s.notOwnerLeaves req b).purlReply req b.opcode stNotOwner [] false none b.param := by
  rw [State.judgePurl, h]
  rfl

theorem runHeld_none (n : Nat) (h : s.flightOf req = []) : State.runHeld req n s = s := by
  cases n with
  | zero => rfl
  | succ n => rw [State.runHeld, h]

theorem runHeld_one (n : Nat) {f : Flight} (h : s.flightOf req = [f]) (hf : f.begun = false) :
    State.runHeld req (n + 1) s = State.runHeld req n ((s.modNet (fun n => { n with flight := n.flight.erase f })).judgePurl
      ⟨f.client, f.seq, f.session⟩ f.body) := by
  simp only [State.runHeld, h, hf, List.any_nil, Bool.or_self, Bool.false_eq_true, if_false]

/-- Session 0 is one for each address and UDP port (R270). -/
theorem sameSession_zero (c d : Client) : sameSession c 0 d 0 = true ↔ c.addr = d.addr ∧ c.port = d.port := by
  simp [sameSession]

theorem sessionRefusal_unknown {op : Nat} (hn : req.session ≠ 0) (ho : s.net.owner = .none) (hoff : s.net.offers = []) :
    s.sessionRefusal req op = some stSession := by
  rw [State.sessionRefusal, if_neg hn, ho]
  simp [State.sessionRefusal.unknown, hoff]

theorem sessionRefusal_elsewhere {op : Nat} {c : Client} (hn : req.session ≠ 0) (ho : s.net.owner = .purl c req.session)
    (hc : c ≠ req.client) : s.sessionRefusal req op = some stNotOwner := by
  simp only [State.sessionRefusal, hn, ho, hc, if_false, if_true]

/-! ### Claims (R271, R272) -/

theorem challenge_given (hn : req.session = 0) (hl : s.net.lockouts.contains req.client.addr = false)
    (ho : s.owned = false) {o : Offer} {u : State} (hf : s.freshOffer = (o, u)) : s.challenge req =
      (u.modNet (fun n => { n with offers := n.offers ++ [o] })).purlReply req opClaim stChallenge
        (beBytes 32 o.nonce.toNat) true (some o.session) := by
  simp only [State.challenge, hn, hl, ho, hf, ne_eq, not_true_eq_false, Bool.false_eq_true, if_false]

theorem challenge_locked (hn : req.session = 0) (hl : s.net.lockouts.contains req.client.addr = true) :
    s.challenge req = s.answer req opClaim stBusy := by
  simp only [State.challenge, hn, hl, ne_eq, not_true_eq_false, if_false, if_true]

theorem challenge_owned (hn : req.session = 0) (hl : s.net.lockouts.contains req.client.addr = false)
    (ho : s.owned = true) : s.challenge req = s.answer req opClaim stOwned := by
  simp only [State.challenge, hn, hl, ho, ne_eq, not_true_eq_false, Bool.false_eq_true, if_false, if_true]

variable {o : Offer} {mac : BitVec 256} (hn : req.session ≠ 0) (hr : s.ownerReq req = false)
  (hf : s.net.offers.find? (fun o => o.session == req.session && o.live) = some o)
include hn hr hf

theorem claim_accepted (ho : s.owned = false)
    (hm : beBytes 32 mac.toNat = o.mac (beBytes 4 req.client.addr.toNat ++ beBytes 2 req.client.port.toNat)) :
    s.claim req mac = (((s.spendOffer req.session).beginOwner (.purl req.client req.session)).ownerEvent ownerClaimed 0
      req.client.addr.toNat).answer req opClaim stOk := by
  have howned : (s.spendOffer req.session).owned = false := ho
  simp only [State.claim, hn, hr, hf, hm, howned, ne_eq, not_true_eq_false, Bool.false_eq_true, if_false]

theorem claim_fails (hm : beBytes 32 mac.toNat ≠ o.mac (beBytes 4 req.client.addr.toNat ++ beBytes 2 req.client.port.toNat)) :
    s.claim req mac = (s.spendOffer req.session).claimFails req := by
  rw [State.claim, if_neg hn, if_neg (by simp [hr]), hf]
  exact if_pos hm

end Sessions

/-! ### The end of a session (R272, R286, R287) -/

section EndOwner

variable {s : State} {c : Client} {n : Word}

theorem endPurlOwner_released (h : s.net.owner = .purl c n) : s.endPurlOwner ownerReleased =
    ({ s with net := { s.net with owner := .none } } : State).ownerEvent ownerReleased 0 c.addr.toNat := by
  rw [State.endPurlOwner, h]
  rfl

theorem endPurlOwner_timedOut (h : s.net.owner = .purl c n) : s.endPurlOwner ownerTimedOut =
    (({ s with net := { s.net with owner := .none } } : State).ownerEvent ownerTimedOut 0 c.addr.toNat).record 0x11 classB
      [(8, ownerTimedOut)] c.addr.toNat := by
  rw [State.endPurlOwner, h]
  rfl

theorem endPurlOwner_other (change : Nat) (h : ∀ c n, s.net.owner ≠ .purl c n) : s.endPurlOwner change = s := by
  rw [State.endPurlOwner]
  split
  case h_1 c n ho => exact absurd ho (h c n)
  case h_2 => rfl

theorem contains_filter_ne (l : List Word) (a b : Word) :
    (l.filter (fun x => x != a)).contains b = (b != a && l.contains b) := by
  rw [Bool.eq_iff_iff, List.contains_iff_mem, List.mem_filter, Bool.and_eq_true, List.contains_iff_mem, and_comm]

end EndOwner

/-- Settles O39: arrival by the session's state, then claims by the offer and the MAC, then the ends of a session. -/
theorem purlSessions : Obligations.PurlSessions := by
  refine ⟨⟨fun s req b => purl_runs, fun s req b => purl_notOwner, fun s req b h => if_pos h, ?unknown, ?elsewhere, ?again,
    fun s req b => purl_inFlight, fun s req b => purl_busy, ?waits, fun s req n => runHeld_none n,
    fun s req n f => runHeld_one n, fun s a req ws w => rfl, sameSession_zero, ?fresh,
    fun s req op => sessionRefusal_unknown, fun s req c op => sessionRefusal_elsewhere⟩,
    ?challenge, ?locked, ?owned, ?claim, ?claimFails, ?expiry, ?lockoutEnd, ?release, ?timeout, ?noTimeout⟩
  case unknown =>
    intro s req b hs hk hf h
    rw [purl_judged hs hk hf, judgePurl_unknown h]
  case elsewhere =>
    intro s req b hs hk hf h
    rw [purl_judged hs hk hf, judgePurl_elsewhere h]
  case again =>
    intro s req b m hs hk
    exact ⟨_, purl_repeat hs hk, rfl, rfl, rfl, rfl, rfl, rfl⟩
  case waits =>
    intro s req b hs hk hn hw hf
    exact ⟨_, purl_waits hs hk hn hw hf, rfl, rfl⟩
  case fresh =>
    intro s h
    obtain ⟨hzero, hnew⟩ := freshOffer_fresh h
    exact ⟨_, rfl, hzero, hnew, rfl, rfl⟩
  case challenge =>
    intro s req h hn hl ho
    obtain ⟨o, hfresh, hlive, hsecret⟩ := freshOffer_live s
    exact ⟨_, o, (next_purl (b := .challenge) h (.inl rfl)).trans
      (congrArg Host.Outcome.next (challenge_given hn hl ho hfresh)), rfl, hlive, hsecret, rfl⟩
  case locked =>
    intro s req h hn hl
    exact (next_purl (b := .challenge) h (.inl rfl)).trans (congrArg Host.Outcome.next (challenge_locked hn hl))
  case owned =>
    intro s req h hn hl ho
    exact (next_purl (b := .challenge) h (.inl rfl)).trans (congrArg Host.Outcome.next (challenge_owned hn hl ho))
  case claim =>
    intro s req o mac h hn hr ho hf hm
    exact (next_purl (b := .claim mac) h (.inl rfl)).trans (congrArg Host.Outcome.next (claim_accepted hn hr hf ho hm))
  case claimFails =>
    intro s req o mac h hn hr hf hm
    exact ⟨_, (next_purl (b := .claim mac) h (.inl rfl)).trans (congrArg Host.Outcome.next (claim_fails hn hr hf hm)),
      List.contains_iff_mem.mpr ((mem_nub _ _).mpr List.mem_cons_self), rfl, rfl, rfl⟩
  case expiry =>
    intro s session
    refine ⟨_, rfl, fun o ho hsession => ?_, rfl, rfl⟩
    obtain ⟨o', -, rfl⟩ := List.mem_map.mp ho
    by_cases h : o'.session = session
    · rw [if_pos h]
    · rw [if_neg h] at hsession
      exact absurd hsession h
  case lockoutEnd =>
    intro s a
    refine ⟨_, rfl, ?_, fun b hb => ?_, rfl⟩
    · exact (contains_filter_ne _ a a).trans (by simp)
    · exact (contains_filter_ne _ a b).trans (by simp [hb])
  case release =>
    intro s req h ho
    refine (next_purl (b := .release) h (.inr ho)).trans (congrArg Host.Outcome.next ?_)
    rw [State.runPurl, endPurlOwner_released (beq_iff_eq.mp ho)]
  case timeout => exact fun s c n h => congrArg Host.Outcome.next (endPurlOwner_timedOut h)
  case noTimeout => exact fun s h => congrArg Host.Outcome.next (endPurlOwner_other _ h)

end Sys2Proof.Machine

/-! PROOFS. Network ports and console data (R131, R262, R264, R279, R280, R286, R288). -/

namespace Sys2Proof.Machine

section Ports

variable {s u : State} {p : Nat}

/-! ### Addresses (R264, R286) -/

theorem arp_own (m : BitVec 48) (a : Word) (hr : s.netReady p = true) (hu : s.boot.regsUp = true) :
    s.arp p m a (s.addressOf p) = s.sendNet p 0 (.arpReply m a) :=
  if_pos (by simp [hr, State.netUp, hu])

theorem arp_other (m : BitVec 48) (a b : Word) (h : s.netReady p = false ∨ b ≠ s.addressOf p) : s.arp p m a b = s :=
  if_neg (by rcases h with h | h <;> simp [h])

theorem icmp_own (a : Word) (msg : List Byte) (hr : s.netReady p = true) (hu : s.boot.regsUp = true)
    (hlen : 24 + msg.length ≤ 1500) : s.icmp p a (s.addressOf p) msg = s.sendNet p 0 (.icmpReply a msg) :=
  if_pos (by simp [hr, State.netUp, hu, hlen])

theorem icmp_long (a b : Word) (msg : List Byte) (hlen : 1500 < 24 + msg.length) : s.icmp p a b msg = s :=
  if_neg (by simp [Nat.not_le.mpr hlen])

theorem addressOf_leased (hd : s.dhcpOn p = true) (hl : (s.netPort p).leased = true) :
    s.addressOf p = (s.netPort p).address :=
  (if_pos hd).trans (if_pos hl)

theorem addressOf_unleased (hd : s.dhcpOn p = true) (hl : (s.netPort p).leased = false) : s.addressOf p = 0 :=
  (if_pos hd).trans (if_neg (by simp [hl]))

theorem dhcpOn_of_dhcpRuns (h : s.dhcpRuns p = true) : s.dhcpOn p = true := by
  simp only [State.dhcpRuns, Bool.and_eq_true] at h
  exact h.1.1

variable {r : DhcpReply}

theorem dhcpTake_other (h : s.dhcpRuns p = false ∨ (s.netPort p).xid ≠ some r.xid ∨ r.chaddr ≠ Config.portMac p) :
    s.dhcpTake p r = s.netDiscard p := if_pos h

section Exchange

variable (hd : s.dhcpRuns p = true) (hx : (s.netPort p).xid = some r.xid) (hm : r.chaddr = Config.portMac p)
include hd hx hm

theorem dhcpTake_offer (hk : r.kind = 2) (hl : (s.netPort p).leased = false) :
    s.dhcpTake p r = s.sendNet p 0 (.dhcpRequest r.xid r.address r.server) := by
  simp only [State.dhcpTake, hd, hx, hm, hk, hl, ne_eq, not_true_eq_false, Bool.true_eq_false, or_self, and_self, if_false,
    if_true]

theorem dhcpTake_ack (hk : r.kind = 5) : s.dhcpTake p r = (s.modPort p (fun q => { q with
    leased := true, address := r.address, netmask := r.netmask, gateway := r.gateway, xid := none })).settleJoins s p := by
  simp only [State.dhcpTake, hd, hx, hm, hk, ne_eq, not_true_eq_false, Bool.true_eq_false, or_self, if_false, if_true]
  rfl

end Exchange

/-- A lease that expires (R286), with no owner bound through the port. -/
theorem dhcpExpiry_unowned (hd : s.dhcpOn p = true) (hl : (s.netPort p).leased = true) (ho : s.net.owner = .none) :
    s.dhcpExpiry p = (s.modPort p PortSt.noLease).record 0x12 classA [(8, p)] 0 := by
  have howner : ((s.modPort p PortSt.noLease).record 0x12 classA [(8, p)] 0).net.owner = .none := by
    rw [record_frame]
    exact ho
  rw [State.dhcpExpiry, if_pos (by simp [hd, hl]), State.dropLease, howner]

theorem dhcpAsk_runs (hd : s.dhcpRuns p = true) : s.dhcpAsk p =
    (s.takeFree.2.modPort p (fun q => { q with xid := some (Config.freeWord s.freeCount) })).sendNet p 0
      (if (s.netPort p).leased then .dhcpRequest (Config.freeWord s.freeCount) (s.netPort p).address 0
      else .dhcpDiscover (Config.freeWord s.freeCount)) := if_pos hd

/-! ### Groups (R131, R279) -/

theorem igmp_ready (m : NetMsg) (h : s.netReady p = true) : s.igmp p m = s.sendNet p 48 m := if_pos h

theorem settleJoins_one {g : Word × Word} (hr : s.netReady p = true) (hg : s.groupsOf p = [g]) (hu : u.netReady p = false) :
    s.settleJoins u p = s.sendNet p 48 (.igmpJoin g.1 g.2) := by
  rw [State.settleJoins, if_pos (by simp [hr, hu]), hg]
  exact igmp_ready _ hr

theorem igmpAnswer_one {g : Word × Word} {group : Option Word} {senders : List Word} (hu : s.boot.regsUp = true)
    (hr : s.netReady p = true) (hg : queryAnswers (s.groupsOf p) group senders = [g]) :
    s.igmpAnswer p group senders = s.sendNet p 48 (.igmpJoin g.1 g.2) := by
  rw [State.igmpAnswer, if_neg (by simp [State.netUp, hu]), hg]
  exact igmp_ready _ hr

theorem queryAnswers_group (g : Word × Word) : queryAnswers [g] (some g.1) [] = [g] := by
  simp [queryAnswers]

theorem queryAnswers_sender (g : Word × Word) : queryAnswers [g] (some g.1) [g.2] = [g] := by
  simp [queryAnswers, nub]

/-! ### Links (R262, R335) -/

theorem setLink_up (hl : (s.netPort p).link = false) : s.setLink p true =
    ((s.modPort p (fun q => { q with link := true, speed := s.speedChosen p })).event 0xD9
      [byteOf p, 1, byteOf (s.speedChosen p)]).settleJoins s p := by
  rw [State.setLink, if_neg (by simp [hl])]
  rfl

theorem setLink_down (hl : (s.netPort p).link = true) : s.setLink p false =
    (((s.modPort p (fun q => { q with link := false, speed := 0 })).event 0xD9
      [byteOf p, 0, byteOf (s.netPort p).speed]).record 0x12 classA [(8, p)] 0).settleJoins s p := by
  rw [State.setLink, if_neg (by simp [hl])]
  rfl

theorem setLink_same {up : Bool} (hl : (s.netPort p).link = up) : s.setLink p up = s := if_pos hl

theorem linkable_unsupplied (h : s.sfpModule p = none ∨ s.chassis.sfpFault.getLsbD p = true) : s.linkable p = false := by
  rcases h with h | h <;> simp [State.linkable, State.sfpOn, h]

theorem settleAddress_kept (h : s.addressOf p = 0 ∨ u.addressOf p ≠ 0) : u.settleAddress s p = u := by
  refine if_neg ?_
  rw [Bool.and_eq_true, bne_iff_ne, beq_iff_eq]
  exact fun h' => h.elim h'.1 fun hu => hu h'.2

theorem settleAddress_lost (h : s.addressOf p ≠ 0) (hu : u.addressOf p = 0) :
    u.settleAddress s p = u.record 0x12 classA [(8, p)] 0 := by
  refine if_pos ?_
  rw [Bool.and_eq_true, bne_iff_ne, beq_iff_eq]
  exact ⟨h, hu⟩

/-- A write of NET_CONFIG of a port whose link is down drops at most its lease. -/
theorem wroteNetConfig_down (v : Word) (hl : (s.netPort p).link = false) :
    s.wroteNetConfig u p v = (if bitAt v 4 then s else s.modPort p PortSt.noLease).settleAddress u p := by
  rw [State.wroteNetConfig, setLink_same hl]

/-! ### Console data (R279, R280) -/

variable {k : E131} {n : Nat}

theorem e131_ignored (hu : s.boot.regsUp = true)
    (h : (∀ r ∈ s.pattern.universes, r.universe' ≠ k.number) ∨ k.preview = true ∨ k.startCode ≠ 0) :
    s.e131 k = s.consoleIgnore := by
  rw [State.e131, if_neg (by simp [State.netUp, hu])]
  cases hf : s.pattern.universes.findIdx? (fun r => r.universe' == k.number) with
  | none => rfl
  | some u =>
    refine if_pos ?_
    rw [Bool.or_eq_true, Bool.or_eq_true, bne_iff_ne]
    rcases h with h | h | h
    · have hnone : s.pattern.universes.findIdx? (fun r => r.universe' == k.number) = none :=
        List.findIdx?_eq_none_iff.mpr fun r hr => beq_eq_false_iff_ne.mpr (h r hr)
      rw [hf] at hnone
      contradiction
    · exact .inl (.inl h)
    · exact .inl (.inr h)

theorem e131_taken (hu : s.boot.regsUp = true)
    (hf : s.pattern.universes.findIdx? (fun r => r.universe' == k.number) = some n) (hp : k.preview = false)
    (hs : k.startCode = 0) (hpri : k.priority ≤ 200) : s.e131 k = s.takeConsole n k := by
  rw [State.e131, if_neg (by simp [State.netUp, hu]), hf]
  exact if_neg (by simp [hp, hs, hpri])

theorem takeConsole_first (hs : (s.universe' n).sources = []) (ht : k.terminated = false) : s.takeConsole n k =
    ({ s with net := { s.net with packetOrder := s.net.packetOrder + 1 } } : State).updateUniverse n { s.universe' n with
      sources := [⟨k.cid, k.priority, k.sequence.toNat, s.net.packetOrder + 1, padTo 512 k.slots⟩], heard := true } := by
  simp [State.takeConsole, hs, ht]

end Ports

/-- Settles O38: addresses, links, groups and console data, each by what the port holds. -/
theorem networkPorts : Obligations.NetworkPorts := by
  refine ⟨?arp, ?noArp, ?icmp, fun s p dscp m => ⟨_, rfl, rfl, by rw [State.sendNet, State.modPort_same]; rfl, rfl⟩, ?ack,
    ?offer, ?otherServer, ?joins, ?expiry, ?ask, ?noAsk, ?queryDown, ?query, ?linkUp, ?noLink,
    fun s p => linkable_unsupplied, ?linkDown, fun s u p => settleAddress_kept, fun s u p => settleAddress_lost, ?config,
    ?ignored, ?taken, ?first, ?timeout, ?noTimeout⟩
  case arp => exact fun s p m a hr hu => congrArg Host.Outcome.next (arp_own m a hr hu)
  case noArp => exact fun s p m a b h => congrArg Host.Outcome.next (arp_other m a b h)
  case icmp =>
    intro s p a msg hr hu
    exact ⟨fun h => congrArg Host.Outcome.next (icmp_own a msg hr hu h),
      fun h => congrArg Host.Outcome.next (icmp_long a _ msg h)⟩
  case ack =>
    intro s p r hd hx hm hk
    have hport := State.modPort_same s p (fun q => { q with
      leased := true, address := r.address, netmask := r.netmask, gateway := r.gateway, xid := none })
    have hon := dhcpOn_of_dhcpRuns hd
    have hlease := addressOf_leased (s := s.modPort p (fun q => { q with
      leased := true, address := r.address, netmask := r.netmask, gateway := r.gateway, xid := none }))
      hon (congrArg PortSt.leased hport)
    exact ⟨_, congrArg Host.Outcome.next (dhcpTake_ack (r := r) hd hx hm hk), hlease.trans (congrArg PortSt.address hport),
      (congrArg PortSt.netmask hport :), (congrArg PortSt.gateway hport :), (congrArg PortSt.xid hport :), rfl⟩
  case offer =>
    intro s p r hd hx hm hk hl
    exact congrArg Host.Outcome.next (dhcpTake_offer (r := r) hd hx hm hk hl)
  case otherServer => exact fun s p r h => congrArg Host.Outcome.next (dhcpTake_other (r := r) h)
  case joins => exact fun s p hr g hg u => settleJoins_one hr hg
  case expiry =>
    intro s p hd hl ho
    refine ⟨_, congrArg Host.Outcome.next (dhcpExpiry_unowned hd hl ho), ?_, rfl⟩
    exact addressOf_unleased (s := s.modPort p PortSt.noLease) hd (by rw [State.modPort_same]; rfl)
  case ask =>
    intro s p hd
    have hport := State.modPort_same s.takeFree.2 p (fun q => { q with xid := some (Config.freeWord s.freeCount) })
    exact ⟨_, _, congrArg Host.Outcome.next (dhcpAsk_runs hd), (congrArg PortSt.xid hport :),
      (congrArg PortSt.leased hport :), rfl⟩
  case noAsk => exact fun s p h => congrArg Host.Outcome.next (if_neg (by simp [h]))
  case queryDown => exact fun s p g l h => congrArg Host.Outcome.next (if_pos h)
  case query =>
    intro s p g hu hg hr
    refine ⟨congrArg Host.Outcome.next (igmpAnswer_one hu hr hg), congrArg Host.Outcome.next (igmpAnswer_one hu hr ?_),
      fun _ => congrArg Host.Outcome.next (igmpAnswer_one hu hr ?_)⟩
    · rw [hg, queryAnswers_group]
    · rw [hg, queryAnswers_sender]
  case linkUp =>
    intro s p hu hl hlink
    have hport := State.modPort_same s p (fun q => { q with link := true, speed := s.speedChosen p })
    refine ⟨_, congrArg Host.Outcome.next ((if_pos ?_).trans (setLink_up hl)), (congrArg PortSt.link hport :),
      (congrArg PortSt.speed hport :), rfl⟩
    simp [State.netUp, hu, hlink]
  case noLink =>
    intro s p speed hu h
    refine congrArg Host.Outcome.next (if_neg ?_)
    rcases h with h | h <;> simp [h]
  case linkDown =>
    intro s p speed hu hl
    have hport := State.modPort_same s p (fun q => { q with link := false, speed := 0 })
    refine ⟨_, congrArg Host.Outcome.next ((if_pos ?_).trans (setLink_down hl)), (congrArg PortSt.link hport :),
      (congrArg PortSt.speed hport :), rfl⟩
    simp [State.netUp, hu]
  case config =>
    intro s acc p v hacc hl
    have hstep := (writeCmd_stored_next v hacc p.isLt (by decide) rfl rfl).trans
      (wroteNetConfig_down (s := (s.written .NET_CONFIG p 0 v).setStored .NET_CONFIG p 0 (s.keptValue .NET_CONFIG p v))
        (s.keptValue .NET_CONFIG p v) hl)
    refine ⟨_, congrArg Host.Outcome.next hstep, ?_⟩
    split
    · exact ⟨stored_setStored_same .., written_reg_same v, hl, rfl⟩
    · refine ⟨stored_setStored_same .., written_reg_same v, ?_, rfl⟩
      exact (congrArg PortSt.link (State.modPort_same _ p PortSt.noLease)).trans hl
  case ignored => exact fun s p k hr hu h => congrArg Host.Outcome.next ((if_pos hr).trans (e131_ignored hu h))
  case taken =>
    intro s p k u hr hu hf hp hs hpri
    exact congrArg Host.Outcome.next ((if_pos hr).trans (e131_taken hu hf hp hs hpri))
  case first => exact fun s u k hs ht => ⟨_, takeConsole_first hs ht, rfl⟩
  case timeout => exact fun s u cid h => congrArg Host.Outcome.next (if_pos h)
  case noTimeout => exact fun s u cid h => congrArg Host.Outcome.next (if_neg (by simp [h]))

end Sys2Proof.Machine

/-! PROOFS. The Caravan: frames received, timers, elections and the loss of the lead (R310 to R321, R325 to R328). -/

namespace Sys2Proof.Machine

/-! ### Frames received (R311 to R313, R316) -/

section Received

variable {s : State} {p : CaravanPort} {f : List Byte}

theorem caravanReceive_closed (h : s.caravan.bypassOpen = false) : s.caravanReceive p f = s := if_pos h

theorem caravanReceive_unsound (h : s.caravan.bypassOpen = true) (hs : caravanSound f = false) : s.caravanReceive p f =
    { s with caravan := { s.caravan with checkErrors := satInc s.caravan.checkErrors } } := by
  rw [State.caravanReceive, if_neg (by simp [h]), if_pos hs]

theorem caravanReceive_echo (h : s.caravan.bypassOpen = true) (hs : caravanSound f = true) (ht : beAt f 3 1 = typeEcho) :
    s.caravanReceive p f = s.takeEcho p f := by
  rw [State.caravanReceive, if_neg (by simp [h]), if_neg (by simp [hs]), if_pos ht]

theorem caravanReceive_echoReply (h : s.caravan.bypassOpen = true) (hs : caravanSound f = true)
    (ht : beAt f 3 1 = typeEchoReply) : s.caravanReceive p f = s.takeEchoReply p f := by
  rw [State.caravanReceive, if_neg (by simp [h]), if_neg (by simp [hs]), if_neg (by rw [ht]; decide), if_pos ht]

/-- A CALL or BEAT of the unit itself, or one that is not later than the last of its origin, goes no further (R315). -/
theorem takeGroupFrame_stale
    (h : (BitVec.ofNat 64 (beAt f 4 8) = s.caravan.priority ∧ wordOf (beAt f 0x0C 4) = s.boot.bootTag) ∨
      s.laterSequence (BitVec.ofNat 64 (beAt f 4 8)) (wordOf (beAt f 0x0C 4)) (beAt f 0x12 2) = false) :
    s.takeGroupFrame p f = s := by
  rcases h with h | h
  · exact if_pos h
  · simp only [State.takeGroupFrame, h, if_true, ite_self]

/-- A frame that goes further has its sequence noted and is forwarded before it is taken. -/
def State.passedOn (s : State) (p : CaravanPort) (f : List Byte) : State :=
  (s.noteSequence (BitVec.ofNat 64 (beAt f 4 8)) (wordOf (beAt f 0x0C 4)) (beAt f 0x12 2)).forward p f

variable (ho : ¬ (BitVec.ofNat 64 (beAt f 4 8) = s.caravan.priority ∧ wordOf (beAt f 0x0C 4) = s.boot.bootTag))
  (hl : s.laterSequence (BitVec.ofNat 64 (beAt f 4 8)) (wordOf (beAt f 0x0C 4)) (beAt f 0x12 2) = true)
include ho hl

theorem takeGroupFrame_call (ht : beAt f 3 1 = typeCall) : s.takeGroupFrame p f =
    (s.passedOn p f).takeCall (BitVec.ofNat 64 (beAt f 4 8)) (wordOf (beAt f 0x0C 4)) (wordOf (beAt f 0x18 4)) := by
  simp only [State.takeGroupFrame, ho, hl, ht, Bool.true_eq_false, if_false, if_true]
  rfl

theorem takeGroupFrame_beat (ht : beAt f 3 1 = typeBeat) : s.takeGroupFrame p f =
    (s.passedOn p f).takeBeat p f (BitVec.ofNat 64 (beAt f 4 8)) (wordOf (beAt f 0x0C 4)) := by
  have htype : ¬ typeBeat = typeCall := by decide
  simp only [State.takeGroupFrame, ho, hl, ht, htype, Bool.true_eq_false, if_false]
  rfl

omit ho hl

/-- What a frame passed on changes: the sequences, and what is sent. -/
theorem passedOn_eq : s.passedOn p f = { s with
    wire := s.wire ++ (if 2 ≤ s.caravan.state ∧ beAt f 0x10 1 < 31 then [.caravan (otherPort p) (caravanSeal ((patch (patch f 0x10
      (beBytes 1 (beAt f 0x10 1 + 1))) 0x14 (beBytes 4 (beAt f 0x14 4 + s.incomingDelay p + 600))).take 44))] else [])
    caravan := { s.caravan with
      seqs := (s.noteSequence (BitVec.ofNat 64 (beAt f 4 8)) (wordOf (beAt f 0x0C 4)) (beAt f 0x12 2)).caravan.seqs } } := by
  have hlisten : s.listening = false ↔ 2 ≤ s.caravan.state := by
    rw [State.listening, decide_eq_false_iff_not]
    omega
  rw [State.passedOn, forward_eq]
  simp only [← hlisten]
  rfl

end Received

/-! ### BEATs (R319 to R321, R327) -/

section Beats

variable {s : State} {p : CaravanPort} {f : List Byte} {o : BitVec 64} {t : Word}

/-- A BEAT heard: its CFN and its arrival are remembered, whether or not it is followed. -/
def State.beatHeard (s : State) (f : List Byte) (o : BitVec 64) (t : Word) : State :=
  ({ s with caravan := { s.caravan with
    cfnSeen := if s.caravan.cfnSeen.toNat < (wordOf (beAt f 0x18 4)).toNat then wordOf (beAt f 0x18 4)
      else s.caravan.cfnSeen } } : State).hearBeat o t (beAt f 0x1C 4) (beAt f 0x24 1)

theorem beatHeard_mem : ∃ b ∈ (s.beatHeard f o t).caravan.heard, b.origin = o ∧ b.tb = s.time.tb.toNat :=
  ⟨_, List.mem_append_right _ List.mem_cons_self, rfl, rfl⟩

theorem takeBeat_ignored (h : s.follows o t = false) : s.takeBeat p f o t = s.beatHeard f o t :=
  if_neg (Bool.not_eq_true _ ▸ (show (s.beatHeard f o t).follows o t = false from h))

/-- The lead that a followed BEAT gives. -/
def State.beatLed (s : State) (f : List Byte) (o : BitVec 64) (t : Word) : State :=
  let s0 := s.beatHeard f o t
  let s1 := ((if s0.caravan.state == 4 || (s0.caravan.state == 3 && s0.caravan.lead != o) then s0.caravanCause 2
    else s0).takeLead o t).caravanEnter 3
  { s1 with caravan := { s1.caravan with
    period := beAt f 0x1C 4, leadMembers := beAt f 0x24 1, cfnNext := some (wordOf (beAt f 0x18 4)), waitingBeat := false } }

theorem takeBeat_followed (h : s.follows o t = true) : s.takeBeat p f o t = (s.beatLed f o t).beatHeads (beAt f 0x1C 4)
    ((beAt f 0x20 4 : Int) - ((beAt f 0x14 4 : Int) + s.incomingDelay p)) :=
  if_pos (show (s.beatHeard f o t).follows o t = true from h)

/-- What following a BEAT sets, and what it leaves of the members, the CFN and the BEATs heard. -/
theorem beatLed_caravan : ∃ c n, (s.beatLed f o t).caravan = { (s.beatHeard f o t).caravan with
    cause := c, lead := o, leadTag := t, leadKnown := true, leadChanges := n, state := 3, period := beAt f 0x1C 4
    leadMembers := beAt f 0x24 1, cfnNext := some (wordOf (beAt f 0x18 4)), waitingBeat := false } := by
  simp only [State.beatLed]
  split
  · refine ⟨2, (((s.beatHeard f o t).caravanCause 2).takeLead o t).caravan.leadChanges, ?_⟩
    rw [(caravanEnter_eq _ 3).1, (takeLead_caravan _ o t).1]
    rfl
  · refine ⟨s.caravan.cause, ((s.beatHeard f o t).takeLead o t).caravan.leadChanges, ?_⟩
    rw [(caravanEnter_eq _ 3).1, (takeLead_caravan _ o t).1]
    rfl

end Beats

/-! ### Elections (R317) -/

section Elections

variable {s : State}

theorem highestCfn_toNat (s : State) : s.highestCfn.toNat = max s.caravan.cfnSeen.toNat s.caravan.cfn.toNat := by
  rw [State.highestCfn]
  split <;> omega

theorem not_listening (h : 2 ≤ s.caravan.state) : s.listening = false := by
  rw [State.listening, decide_eq_false_iff_not]
  omega

theorem echoOut_quiet (h : s.caravan.bypassOpen = false ∨ s.caravan.state ≤ 1) : s.echoOut = s :=
  if_pos (h.imp_right decide_eq_true)

theorem callTimer_quiet (h : s.caravan.bypassOpen = false ∨ s.caravan.state ≤ 1) : s.callTimer = s :=
  if_pos (h.imp_right fun h => .inl (decide_eq_true h))

theorem echoOut_sends (hb : s.caravan.bypassOpen = true) (h : 2 ≤ s.caravan.state) : s.echoOut =
    (s.send (.caravan .east (s.caravanFrame typeEcho (beBytes 4 (s.time.tb.toNat % 0x100000000))))).send
      (.caravan .west (s.caravanFrame typeEcho (beBytes 4 (s.time.tb.toNat % 0x100000000)))) :=
  if_neg (by simp [hb, not_listening h])

theorem callTimer_sends (hb : s.caravan.bypassOpen = true) (h : 2 ≤ s.caravan.state)
    (hw : s.caravan.state = 2 → s.caravan.waitingBeat = false) :
    s.callTimer = s.callOut typeCall (beBytes 4 s.highestCfn.toNat ++ [byteOf s.caravan.state]) :=
  if_neg (by simpa [hb, not_listening h] using hw)

theorem electionEnd_still (h : s.caravan.state = 0 ∨ 3 ≤ s.caravan.state) : s.electionEnd = s := by
  rw [State.electionEnd]
  split
  case h_1 h1 => omega
  case h_2 h2 => omega
  case h_3 => rfl

end Elections

/-! ### The lead lost (R326, R327) -/

section Loss

/-- A head that the lost lead no longer drives: it unlocks and holds its pull. -/
def State.unlockHead (s : State) (h : Nat) : State :=
  (s.modHead h (fun q => { q with lockBeats := 0 })).setLocked h false

theorem unlockHead_head (s : State) (h k : Nat) :
    ((s.unlockHead h).head k).pull = (s.head k).pull ∧
      ((s.unlockHead h).head k).locked = (if k = h then false else (s.head k).locked) := by
  obtain ⟨hunlocked, hpull, hother, -⟩ := setLocked_at (s.modHead h (fun q => { q with lockBeats := 0 })) h
  by_cases hk : k = h
  · rw [if_pos hk, hk]
    refine ⟨(hpull h).trans ?_, hunlocked⟩
    rw [State.modHead_same]
  · rw [if_neg hk, State.unlockHead, hother k hk, State.modHead_ne _ _ _ hk]
    exact ⟨rfl, rfl⟩

/-- What the loss of a lead leaves, apart from events and the locks. -/
def LossFrame (s t : State) : Prop :=
  t.caravan = s.caravan ∧ t.time = s.time ∧ t.wire = s.wire ∧ ∀ k, (t.head k).pull = (s.head k).pull

theorem LossFrame.refl (s : State) : LossFrame s s := ⟨rfl, rfl, rfl, fun _ => rfl⟩

theorem LossFrame.trans {s t u : State} (h : LossFrame s t) (h' : LossFrame t u) : LossFrame s u := by
  obtain ⟨hc, ht, hw, hp⟩ := h
  obtain ⟨hc', ht', hw', hp'⟩ := h'
  exact ⟨hc'.trans hc, ht'.trans ht, hw'.trans hw, fun k => (hp' k).trans (hp k)⟩

theorem setLocked_time (s : State) (h : Nat) (b : Bool) :
    (s.setLocked h b).time = s.time ∧ (s.setLocked h b).wire = s.wire := by
  rw [State.setLocked]
  split
  · exact ⟨rfl, rfl⟩
  · rw [event_frame]
    exact ⟨rfl, rfl⟩

theorem unlockHead_frame (s : State) (h : Nat) : LossFrame s (s.unlockHead h) := by
  obtain ⟨htime, hwire⟩ := setLocked_time (s.modHead h (fun q => { q with lockBeats := 0 })) h false
  exact ⟨(setLocked_at _ h).2.2.2, htime, hwire, fun k => (unlockHead_head s h k).1⟩

/-- Every head of a list is unlocked, and any other keeps its lock. -/
theorem foldl_unlockHead (l : List Nat) (s : State) : LossFrame s (l.foldl State.unlockHead s) ∧
    ∀ k, ((l.foldl State.unlockHead s).head k).locked = if k ∈ l then false else (s.head k).locked := by
  refine ⟨foldl_frame LossFrame LossFrame.refl LossFrame.trans _ unlockHead_frame l s, ?_⟩
  induction l generalizing s with
  | nil => exact fun _ => rfl
  | cons h l ih =>
    intro k
    rw [List.foldl_cons, ih, (unlockHead_head s h k).2]
    by_cases hk : k = h <;> simp [hk]

/-- Every head unlocked. -/
def State.headsUnlocked (s : State) : State := (List.range 8).foldl State.unlockHead s

theorem headsUnlocked_frame (s : State) :
    LossFrame s s.headsUnlocked ∧ ∀ h, h < 8 → (s.headsUnlocked.head h).locked = false := by
  obtain ⟨hframe, hlocked⟩ := foldl_unlockHead (List.range 8) s
  exact ⟨hframe, fun h hh => (hlocked h).trans (if_pos (List.mem_range.mpr hh))⟩

/-- The state of a lost lead: heads unlocked, and the loss recorded (R326). -/
def State.leadLost (s : State) : State := s.headsUnlocked.record 0x14 classA [] s.headsUnlocked.caravan.cfn.toNat

theorem leadLost_frame (s : State) : LossFrame s s.leadLost ∧ ∀ h, h < 8 → (s.leadLost.head h).locked = false := by
  obtain ⟨hframe, hlocked⟩ := headsUnlocked_frame s
  rw [State.leadLost]
  generalize s.headsUnlocked = u at hframe hlocked
  rw [record_frame]
  exact ⟨hframe, hlocked⟩

theorem leadLost_otherLead (s : State) : s.leadLost.otherLead = s.otherLead := by
  obtain ⟨⟨hcaravan, htime, -, -⟩, -⟩ := leadLost_frame s
  rw [State.otherLead, State.otherLead, hcaravan, htime]

variable {s : State}

theorem leadLost_def : ((List.range 8).foldl (fun (s : State) (h : Nat) => (s.modHead h (fun q => { q with
      lockBeats := 0 })).setLocked h false) s).record 0x14 classA []
    ((List.range 8).foldl (fun (s : State) (h : Nat) => (s.modHead h (fun q => { q with
      lockBeats := 0 })).setLocked h false) s).caravan.cfn.toNat = s.leadLost := by
  have hunlock : (fun (s : State) (h : Nat) => (s.modHead h (fun q => { q with lockBeats := 0 })).setLocked h false) =
    State.unlockHead := rfl
  rw [State.leadLost, State.headsUnlocked, hunlock]

theorem loseLead_elects (h : s.caravan.state = 3) (ho : s.otherLead = none) :
    s.loseLead = ((s.leadLost.caravanCause 1).caravanEnter 5).elect := by
  rw [← leadLost_otherLead] at ho
  simp only [State.loseLead, h, if_true, leadLost_def, ho]

theorem loseLead_follows {b : HeardBeat} (h : s.caravan.state = 3) (ho : s.otherLead = some b) :
    s.loseLead = s.leadLost.followOther b := by
  rw [← leadLost_otherLead] at ho
  simp only [State.loseLead, h, if_true, leadLost_def, ho]

theorem takeLead_heads (s : State) (v : BitVec 64) (t : Word) : (s.takeLead v t).heads = s.heads := by
  rw [State.takeLead]
  split
  · rfl
  · dsimp only
    rw [event_frame]

theorem head_of_heads {s t : State} (h : t.heads = s.heads) (k : Nat) : t.head k = s.head k := by
  rw [State.head, h, State.head]

theorem foldl_higher_mem (l : List HeardBeat) (b : HeardBeat) : l.foldl HeardBeat.higher b ∈ b :: l := by
  induction l generalizing b with
  | nil => exact List.mem_cons_self
  | cons c l ih =>
    rw [List.foldl_cons]
    have hhigher : b.higher c = b ∨ b.higher c = c := by
      rw [HeardBeat.higher]
      split
      · exact .inr rfl
      · exact .inl rfl
    rcases List.mem_cons.mp (ih (b.higher c)) with h | h
    · rw [h]
      rcases hhigher with h | h <;> simp [h]
    · simp [h]

/-- The origin followed instead of the lead is another one, heard of late (R327). -/
theorem otherLead_heard {b : HeardBeat} (h : s.otherLead = some b) : b ∈ s.caravan.heard ∧
    (b.origin ≠ s.caravan.lead ∨ b.tag ≠ s.caravan.leadTag) ∧ (s.time.tb.toNat - b.tb) * 10 ≤ 3 * s.caravan.period := by
  simp only [State.otherLead] at h
  split at h
  case h_1 => contradiction
  case h_2 c rest hlive =>
    have hmem : b ∈ c :: rest := Option.some.inj h ▸ foldl_higher_mem rest c
    rw [← hlive, List.mem_filter] at hmem
    obtain ⟨hheard, hcond⟩ := hmem
    rw [Bool.and_eq_true, decide_eq_true_eq, Bool.not_eq_true', Bool.and_eq_false_iff, beq_eq_false_iff_ne,
      beq_eq_false_iff_ne] at hcond
    exact ⟨hheard, hcond⟩

end Loss

end Sys2Proof.Machine

/-! PROOFS. The statements about the Caravan's frames and timers, from the lemmas before. -/

namespace Sys2Proof.Machine

theorem exec_caravan {s : State} {p : CaravanPort} {f : List Byte} {c : Instr}
    (hc : c ∈ [Instr.call p f, .beat p f, .echo p f, .echoReply p f]) : exec c s = .next (s.caravanReceive p f) := by
  simp only [List.mem_cons, List.not_mem_nil, or_false] at hc
  rcases hc with rfl | rfl | rfl | rfl <;> rfl

theorem wordOf_toNat (n : Nat) : (wordOf n).toNat = n % 2 ^ 32 := BitVec.toNat_ofNat ..

/-- A pull moves at most 20 ppm, and towards an error of 0 (R320). -/
theorem pullTowards_bounds (m : Fin 20001) (up : Bool) (e p : Int) :
    p - 20000 ≤ pullTowards m up e p ∧ pullTowards m up e p ≤ p + 20000 ∧
    (0 < e → p < 0 → p < pullTowards m up e p) ∧ (0 < e → 0 ≤ p → 0 ≤ pullTowards m up e p) ∧
    (e < 0 → 0 < p → pullTowards m up e p < p) ∧ (e < 0 → p ≤ 0 → pullTowards m up e p ≤ 0) := by
  have hturn : (1 : Int) ≤ ((max 1 m.val : Nat) : Int) ∧ ((max 1 m.val : Nat) : Int) ≤ 20000 := by
    have hm := m.isLt
    omega
  have hfree : -20000 ≤ (if up then (m.val : Int) else -(m.val : Int)) ∧
      (if up then (m.val : Int) else -(m.val : Int)) ≤ 20000 := by
    have hm := m.isLt
    cases up <;> simp <;> omega
  have hpull : pullTowards m up e p = if 0 < e then (if p < 0 then p + ((max 1 m.val : Nat) : Int) else
      max 0 (p + (if up then (m.val : Int) else -(m.val : Int))))
    else if e < 0 then (if 0 < p then p - ((max 1 m.val : Nat) : Int) else
      min 0 (p + (if up then (m.val : Int) else -(m.val : Int))))
    else p + (if up then (m.val : Int) else -(m.val : Int)) := rfl
  rw [hpull]
  generalize ((max 1 m.val : Nat) : Int) = turn at hturn ⊢
  generalize (if up then (m.val : Int) else -(m.val : Int)) = free at hfree ⊢
  refine ⟨?_, ?_, fun _ _ => ?_, fun _ _ => ?_, fun _ _ => ?_, fun _ _ => ?_⟩ <;> omega

/-- A CALL of another unit, taken (R318, R321, R328). -/
theorem takeCall_other {s : State} {p : CaravanPort} {f : List Byte}
    (ho : BitVec.ofNat 64 (beAt f 4 8) ≠ s.caravan.priority) {t : State}
    (ht : t = (s.passedOn p f).takeCall (BitVec.ofNat 64 (beAt f 4 8)) (wordOf (beAt f 0x0C 4)) (wordOf (beAt f 0x18 4))) :
    t.wire = (s.passedOn p f).wire ∧
      t.laterSequence (BitVec.ofNat 64 (beAt f 4 8)) (wordOf (beAt f 0x0C 4)) (beAt f 0x12 2) = false ∧
      t.caravan.cfnSeen.toNat = max s.caravan.cfnSeen.toNat (beAt f 0x18 4 % 2 ^ 32) ∧
      (s.caravan.members.length < 31 → ∃ m ∈ t.caravan.members, m.origin = BitVec.ofNat 64 (beAt f 4 8)) ∧
      (31 ≤ s.caravan.members.length → (∀ m ∈ s.caravan.members, m.origin ≠ BitVec.ofNat 64 (beAt f 4 8)) →
        t.caravan.members = s.caravan.members ∧ t.caravan.oversize = true ∧ t.caravan.ignored = satInc s.caravan.ignored) ∧
      t.caravan.state = s.caravan.state ∧ t = { s with wire := t.wire, caravan := t.caravan } := by
  have hpass := passedOn_eq (s := s) (p := p) (f := f)
  have hpriority : (s.passedOn p f).caravan.priority = s.caravan.priority := by rw [hpass]
  obtain ⟨hcall, hseen⟩ := takeCall_eq (s.passedOn p f) (BitVec.ofNat 64 (beAt f 4 8)) (wordOf (beAt f 0x0C 4))
    (wordOf (beAt f 0x18 4)) (hpriority ▸ ho)
  obtain ⟨hmember, hroom, hfull⟩ := hearMember_eq (s.passedOn p f) (BitVec.ofNat 64 (beAt f 4 8)) (wordOf (beAt f 0x0C 4))
  rw [← ht] at hcall hseen
  have hlater := noteSequence_later s (BitVec.ofNat 64 (beAt f 4 8)) (wordOf (beAt f 0x0C 4)) (beAt f 0x12 2)
  generalize (s.passedOn p f).hearMember _ _ = u at hcall hmember hroom hfull
  refine ⟨?_, ?_, ?_, ?_, ?_, ?_, ?_⟩
  · rw [hcall, hmember]
  · rw [hcall, hmember, hpass]
    exact hlater
  · rw [hseen, hpass, wordOf_toNat]
  · rw [hcall]
    rw [hpass] at hroom
    exact hroom
  · rw [hcall]
    rw [hpass] at hfull
    exact hfull
  · rw [hcall, hmember, hpass]
  · rw [hcall, hmember, hpass]

/-- A CALL under the unit's own value: the duplicate is kept, and recorded when it is the first (R325). -/
theorem takeCall_duplicate {s : State} (t c : Word) :
    (s.takeCall s.caravan.priority t c).caravan.duplicate = some (s.caravan.priority, t) ∧
      (s.caravan.duplicate ≠ none → ∃ x, s.takeCall s.caravan.priority t c = { s with caravan := x }) := by
  have hdup : (s.duplicateValue s.caravan.priority t).caravan.duplicate = some (s.caravan.priority, t) := by
    rw [State.duplicateValue]
    split
    · rfl
    · rw [record_frame]
  have hknown : s.caravan.duplicate ≠ none →
      s.duplicateValue s.caravan.priority t = { s with caravan := { s.caravan with
        duplicate := some (s.caravan.priority, t) } } := fun h => if_pos (Option.isSome_iff_ne_none.mpr h)
  simp only [State.takeCall, if_true]
  generalize s.duplicateValue s.caravan.priority t = u at hdup hknown
  obtain ⟨hmember, -, -⟩ := hearMember_eq u s.caravan.priority t
  generalize u.hearMember s.caravan.priority t = v at hmember
  constructor
  · split <;> rw [hmember] <;> exact hdup
  · intro h
    split <;> exact ⟨_, by rw [hmember, hknown h]⟩

/-- Settles O48: each type of frame by the lemma of how it is taken. -/
theorem caravanFrames : Obligations.CaravanFrames := by
  refine ⟨?gate, ?listens, ?echo, ?reply, ?stale, ?call, ?duplicate, ?followed, ?ignored, pullTowards_bounds⟩
  case gate =>
    intro s p f c hc
    rw [exec_caravan hc]
    exact ⟨fun h => congrArg Host.Outcome.next (caravanReceive_closed h),
      fun h hs => congrArg Host.Outcome.next (caravanReceive_unsound h hs)⟩
  case listens =>
    intro s p f h hs ht hstate
    exact congrArg Host.Outcome.next ((caravanReceive_echo h hs ht).trans (if_pos (decide_eq_true hstate)))
  case echo =>
    intro s p f h hs ht hstate
    exact ⟨_, congrArg Host.Outcome.next ((caravanReceive_echo h hs ht).trans
      (if_neg (by rw [not_listening hstate]; decide)))⟩
  case reply =>
    intro s f h hs ht
    exact ⟨congrArg Host.Outcome.next (caravanReceive_echoReply h hs ht),
      congrArg Host.Outcome.next (caravanReceive_echoReply h hs ht)⟩
  case stale =>
    intro s p f c hc h hs ht hstale
    rw [exec_caravan (p := p) (f := f) (List.mem_append_left _ hc), caravanReceive_group h hs ht,
      takeGroupFrame_stale hstale]
  case call =>
    intro s p f h hs ht ho hl
    have hstep := (caravanReceive_group (p := p) h hs (.inl ht)).trans (takeGroupFrame_call (fun h' => ho h'.1) hl ht)
    obtain ⟨hwire, hrest⟩ := takeCall_other (t := (s.passedOn p f).takeCall (BitVec.ofNat 64 (beAt f 4 8))
      (wordOf (beAt f 0x0C 4)) (wordOf (beAt f 0x18 4))) ho rfl
    exact ⟨_, congrArg Host.Outcome.next hstep, hwire.trans (by rw [passedOn_eq]), hrest⟩
  case duplicate =>
    intro s p f h hs ht ho htag hl
    have hstep := (caravanReceive_group (p := p) h hs (.inl ht)).trans (takeGroupFrame_call (fun h' => htag h'.2) hl ht)
    have hpass := passedOn_eq (s := s) (p := p) (f := f)
    have hpriority : (s.passedOn p f).caravan.priority = s.caravan.priority := by rw [hpass]
    rw [ho, ← hpriority] at hstep
    obtain ⟨hdup, hknown⟩ := takeCall_duplicate (s := s.passedOn p f) (wordOf (beAt f 0x0C 4)) (wordOf (beAt f 0x18 4))
    refine ⟨_, congrArg Host.Outcome.next hstep, by rw [hdup, hpriority], fun hsome => ?_⟩
    obtain ⟨x, hx⟩ := hknown (by rw [hpass]; exact hsome)
    rw [hx, hpass]
  case followed =>
    intro s p f h hs ht ho hl hf
    have hpass := passedOn_eq (s := s) (p := p) (f := f)
    have hfollows : (s.passedOn p f).follows (BitVec.ofNat 64 (beAt f 4 8)) (wordOf (beAt f 0x0C 4)) = true := by
      rw [hpass]
      exact hf
    have hstep := (caravanReceive_group (p := p) h hs (.inr ht)).trans
      ((takeGroupFrame_beat (fun h' => ho h'.1) hl ht).trans (takeBeat_followed hfollows))
    obtain ⟨hcaravan, -⟩ := beatHeads_frame ((s.passedOn p f).beatLed f (BitVec.ofNat 64 (beAt f 4 8))
      (wordOf (beAt f 0x0C 4))) (beAt f 0x1C 4) ((beAt f 0x20 4 : Int) - ((beAt f 0x14 4 : Int) +
        (s.passedOn p f).incomingDelay p))
    obtain ⟨c, n, hled⟩ := beatLed_caravan (s := s.passedOn p f) (f := f) (o := BitVec.ofNat 64 (beAt f 4 8))
      (t := wordOf (beAt f 0x0C 4))
    have hheard := beatHeard_mem (s := s.passedOn p f) (f := f) (o := BitVec.ofNat 64 (beAt f 4 8))
      (t := wordOf (beAt f 0x0C 4))
    refine ⟨_, congrArg Host.Outcome.next hstep, ?_⟩
    rw [hcaravan, hled]
    rw [hpass] at hheard ⊢
    exact ⟨rfl, rfl, rfl, rfl, rfl, rfl, rfl, rfl, hheard⟩
  case ignored =>
    intro s p f h hs ht ho hl hf
    have hpass := passedOn_eq (s := s) (p := p) (f := f)
    have hfollows : (s.passedOn p f).follows (BitVec.ofNat 64 (beAt f 4 8)) (wordOf (beAt f 0x0C 4)) = false := by
      rw [hpass]
      exact hf
    have hstep := (caravanReceive_group (p := p) h hs (.inr ht)).trans
      ((takeGroupFrame_beat (fun h' => ho h'.1) hl ht).trans (takeBeat_ignored hfollows))
    have hheard := beatHeard_mem (s := s.passedOn p f) (f := f) (o := BitVec.ofNat 64 (beAt f 4 8))
      (t := wordOf (beAt f 0x0C 4))
    refine ⟨_, congrArg Host.Outcome.next hstep, ?_⟩
    rw [hpass] at hheard ⊢
    exact ⟨rfl, hheard⟩

/-- A group frame goes out on both ports under the next SEQUENCE (R313). -/
theorem callOut_eq (s : State) (type : Nat) (body : List Byte) : ∃ f : List Byte,
    f = ({ s with caravan := { s.caravan with seq := s.caravan.seq + 1 } } : State).caravanFrame type body ∧
    s.callOut type body = { s with
      wire := s.wire ++ [.caravan .east f, .caravan .west f]
      caravan := { s.caravan with seq := s.caravan.seq + 1 } } :=
  ⟨_, rfl, by simp [State.callOut, State.send]⟩

/-- The BEAT's fields for head record `r` of the reference head (Table 15-4). -/
def State.beatBody (s : State) (r : HeadRec) : List Byte :=
  beBytes 4 (s.caravan.cfnNext.getD (s.caravan.cfn + 1)).toNat ++
    beBytes 4 (nanoseconds (framePeriod r / 1000000000)) ++ beBytes 4 (s.dueTime r) ++
    [byteOf (s.caravan.members.length + 1)]

theorem beatOut_frame {s : State} {r : HeadRec} (h : s.caravan.state = 4)
    (hr : s.pattern.heads.find? (fun r => r.head == s.refHead) = some r) :
    s.beatOut.caravan = { (s.callOut typeBeat (s.beatBody r)).caravan with
        period := nanoseconds (framePeriod r / 1000000000) } ∧
      s.beatOut.wire = (s.callOut typeBeat (s.beatBody r)).wire := by
  rw [State.beatOut, if_pos h, hr]
  dsimp only
  obtain ⟨hcaravan, hwire, -⟩ := beatHeads_frame
    ({ (s.callOut typeBeat (s.beatBody r)).modHead s.refHead (fun q => { q with line0Done := true }) with
      caravan := { (s.callOut typeBeat (s.beatBody r)).caravan with
        period := nanoseconds (framePeriod r / 1000000000) } })
    (nanoseconds (framePeriod r / 1000000000)) (s.dueTime r)
  exact ⟨hcaravan, hwire⟩

/-- A duplicate that outlives an ageing is that of another unit (R325). -/
theorem ageMember_duplicate {s : State} {o : BitVec 64} {x : BitVec 64 × Word}
    (hx : (s.ageMember o).caravan.duplicate = some x) : s.caravan.duplicate = some x ∧ x.1 ≠ o := by
  simp only [State.ageMember] at hx
  split at hx
  next v t hdup =>
    by_cases hv : v = o
    · rw [if_pos hv] at hx
      cases hx
    · rw [if_neg hv] at hx
      cases hx
      exact ⟨hdup, hv⟩
  next => cases hx

/-- A lead lost without another: an election begins, with the heads unlocked and their pulls kept (R326). -/
theorem leadLost_elects (s : State) :
    ((((s.leadLost.caravanCause 1).caravanEnter 5).elect).caravan.state = 2) ∧
    ((((s.leadLost.caravanCause 1).caravanEnter 5).elect).caravan.cause = 1) ∧
    ((((s.leadLost.caravanCause 1).caravanEnter 5).elect).caravan.best = s.caravan.priority) ∧
    ((((s.leadLost.caravanCause 1).caravanEnter 5).elect).caravan.cfn = s.caravan.cfn) ∧
    ((((s.leadLost.caravanCause 1).caravanEnter 5).elect).caravan.barriers = s.caravan.barriers) ∧
    ∀ h, h < 8 → ((((s.leadLost.caravanCause 1).caravanEnter 5).elect).head h).locked = false ∧
      ((((s.leadLost.caravanCause 1).caravanEnter 5).elect).head h).pull = (s.head h).pull := by
  obtain ⟨⟨hcaravan, -, -, hpull⟩, hlocked⟩ := leadLost_frame s
  generalize s.leadLost = l at hcaravan hpull hlocked ⊢
  obtain ⟨helect, hheads, -⟩ := elect_caravan ((l.caravanCause 1).caravanEnter 5)
  obtain ⟨henter, hheads', -⟩ := caravanEnter_eq (l.caravanCause 1) 5
  have hhead := head_of_heads (hheads.trans hheads')
  have hcause : (l.caravanCause 1).caravan = { l.caravan with cause := 1 } := rfl
  rw [helect, henter, hcause, hcaravan]
  refine ⟨rfl, rfl, rfl, rfl, rfl, fun k hk => ?_⟩
  rw [hhead]
  exact ⟨hlocked k hk, hpull k⟩

/-- A lead lost with another heard: that one is followed (R326). -/
theorem leadLost_follows (s : State) (b : HeardBeat) :
    (s.leadLost.followOther b).caravan.state = s.caravan.state ∧ (s.leadLost.followOther b).caravan.lead = b.origin ∧
    (s.leadLost.followOther b).caravan.leadTag = b.tag ∧ (s.leadLost.followOther b).caravan.period = b.period ∧
    (s.leadLost.followOther b).caravan.cfn = s.caravan.cfn ∧
    ∀ h, h < 8 → ((s.leadLost.followOther b).head h).locked = false ∧
      ((s.leadLost.followOther b).head h).pull = (s.head h).pull := by
  obtain ⟨⟨hcaravan, -, -, hpull⟩, hlocked⟩ := leadLost_frame s
  generalize s.leadLost = l at hcaravan hpull hlocked ⊢
  obtain ⟨hlead, -⟩ := takeLead_caravan (l.caravanCause 2) b.origin b.tag
  have hhead := head_of_heads (takeLead_heads (l.caravanCause 2) b.origin b.tag)
  have hcause : (l.caravanCause 2).caravan = { l.caravan with cause := 2 } := rfl
  rw [State.followOther, hlead, hcause, hcaravan]
  exact ⟨rfl, rfl, rfl, rfl, rfl, fun k hk => (hhead k).symm ▸ ⟨hlocked k hk, hpull k⟩⟩

/-- Settles O49: each timer by the state of the member. -/
theorem caravanTimers : Obligations.CaravanTimers := by
  refine ⟨?quiet, ?echo, ?call, ?window, ?leads, ?waits, ?still, ?noBeat, ?beat, ?noLoss, ?elects, ?follows,
    fun s b => otherLead_heard, ?ages, ?link⟩
  case quiet =>
    exact fun s h => ⟨congrArg Host.Outcome.next (echoOut_quiet h), congrArg Host.Outcome.next (callTimer_quiet h)⟩
  case echo =>
    intro s hb h
    refine ⟨s.caravanFrame typeEcho (beBytes 4 (s.time.tb.toNat % 0x100000000)),
      (congrArg Host.Outcome.next (echoOut_sends hb h)).trans ?_, rfl⟩
    simp [State.send]
  case call =>
    intro s hb h hw
    obtain ⟨f, hf, hout⟩ := callOut_eq s typeCall (beBytes 4 s.highestCfn.toNat ++ [byteOf s.caravan.state])
    refine ⟨f, _, congrArg Host.Outcome.next ((callTimer_sends hb h hw).trans hout), rfl, ?_⟩
    rw [hf, highestCfn_toNat]
    rfl
  case window =>
    intro s h
    rcases h with h | ⟨h, hw⟩
    · obtain ⟨hcaravan, -, hwire⟩ := elect_caravan s
      refine ⟨_, congrArg Host.Outcome.next (electionEnd_listening h), ?_, fun _ => ?_, fun h' => absurd h' (by omega), hwire⟩
      · rw [hcaravan]
      · rw [hcaravan]
    · obtain ⟨hcaravan, -, hwire⟩ := electFrom_caravan s s.highestCfn
      refine ⟨_, congrArg Host.Outcome.next ((electionEnd_window h).trans (if_pos hw)), ?_, fun h' => absurd h' (by omega),
        fun _ => ?_, hwire⟩
      · rw [hcaravan]
      · rw [hcaravan]
        exact highestCfn_toNat s
  case leads =>
    intro s h hw hb ht
    have hstep := (electionEnd_window h).trans ((if_neg (by simp [hw])).trans (if_pos ⟨hb, ht⟩))
    refine ⟨_, congrArg Host.Outcome.next hstep, ?_⟩
    rw [(caravanEnter_eq _ 4).1, (takeLead_caravan _ _ _).1]
    exact ⟨rfl, rfl, rfl, s.highestCfn, rfl, highestCfn_toNat s⟩
  case waits =>
    intro s h hw hb
    exact congrArg Host.Outcome.next ((electionEnd_window h).trans ((if_neg (by simp [hw])).trans
      (if_neg (not_and_or.mpr hb))))
  case still => exact fun s h => congrArg Host.Outcome.next (electionEnd_still h)
  case noBeat => exact fun s h => congrArg Host.Outcome.next (if_neg h)
  case beat =>
    intro s r h hr
    obtain ⟨f, hf, hout⟩ := callOut_eq s typeBeat (s.beatBody r)
    obtain ⟨hcaravan, hwire⟩ := beatOut_frame h hr
    rw [hout] at hcaravan hwire
    exact ⟨s.beatOut, f, s.beatBody r, rfl, hwire, hf, rfl, hcaravan⟩
  case noLoss => exact fun s h => congrArg Host.Outcome.next (if_neg h)
  case elects =>
    intro s h ho
    obtain ⟨hstate, hcause, hbest, hcfn, hbarriers, hheads⟩ := leadLost_elects s
    exact ⟨_, congrArg Host.Outcome.next (loseLead_elects h ho), hstate, hcause, hbest, hcfn, hbarriers, hheads⟩
  case follows =>
    intro s b h ho
    obtain ⟨hstate, hlead, htag, hperiod, hcfn, hheads⟩ := leadLost_follows s b
    exact ⟨_, congrArg Host.Outcome.next (loseLead_follows h ho), hstate.trans h, hlead, htag, hperiod, hcfn, hheads⟩
  case ages =>
    intro s o
    exact ⟨_, rfl, rfl, fun x hx => ageMember_duplicate hx, rfl, rfl⟩
  case link =>
    intro s up
    constructor
    · refine congrArg Host.Outcome.next ?_
      rw [State.caravanLinkChange]
      cases up <;> simp
    · refine congrArg Host.Outcome.next ?_
      rw [State.caravanLinkChange]
      cases up <;> simp

end Sys2Proof.Machine

/-! PROOFS. The chassis: fans, lamps, the button, the SFP cages, DP_PWR and the GPOs (R332 to R339, R386). -/

namespace Sys2Proof.Machine

theorem setBit_same (n : Nat) (w : BitVec n) {p : Nat} (b : Bool) (hp : p < n) : (setBit n w p b).getLsbD p = b :=
  (setBit_at n w p p b hp).trans (if_pos rfl)

/-- What a fan's speed leaves in the chassis, before its event (R332). -/
def State.fanSeen (s : State) (f rpm : Nat) : State :=
  s.modChassis (fun c => { c with
    fanStopped := setBit 5 c.fanStopped f (decide (rpm < 1000)), fanRpm := mapSet 0 c.fanRpm f rpm })

theorem fanSpeed_eq (s : State) (f rpm : Nat) :
    s.fanSpeed f rpm = if s.chassis.fanStopped.getLsbD f = decide (rpm < 1000) then s.fanSeen f rpm
      else if rpm < 1000 then ((s.fanSeen f rpm).event 0xF0 [byteOf f, 1]).record 0x15 classD [(16, rpm)] f
      else (s.fanSeen f rpm).event 0xF0 [byteOf f, 0] := by
  by_cases h : rpm < 1000
  · simp [State.fanSpeed, State.fanSeen, h, byteOf]
  · simp [State.fanSpeed, State.fanSeen, h, byteOf]

/-- What a module put in or taken out leaves in the chassis, before its event (R335). -/
def State.sfpSeen (s : State) (p : Nat) (m : Option SfpModule) : State :=
  s.modChassis (fun c => { c with
    sfpModules := mapSet none c.sfpModules p m, sfpFault := setBit 2 c.sfpFault p (c.sfpFault.getLsbD p && m.isSome) })

theorem sfpSeen_module (s : State) (p : Nat) (m : Option SfpModule) : (s.sfpSeen p m).sfpModule p = m :=
  mapGet_mapSet_same none s.chassis.sfpModules p m

theorem sfpSeen_fault (s : State) {p : Nat} (m : Option SfpModule) (hp : p < 2) :
    (s.sfpSeen p m).chassis.sfpFault.getLsbD p = (s.chassis.sfpFault.getLsbD p && m.isSome) :=
  setBit_same 2 _ _ hp

theorem sfpChange_in {s : State} {p : Nat} {m : SfpModule} (h : s.sfpModule p = none) :
    s.sfpChange p (some m) = (s.sfpSeen p (some m)).event 0xF1 [byteOf p, 1] := by
  simp [State.sfpChange, State.sfpSeen, h, byteOf]

theorem sfpChange_out {s : State} {p : Nat} {m : SfpModule} (h : s.sfpModule p = some m) :
    s.sfpChange p none = ((s.sfpSeen p none).event 0xF1 [byteOf p, 0]).setLink p false := by
  simp [State.sfpChange, State.sfpSeen, h, byteOf]

theorem sfpChange_same {s : State} {p : Nat} {m : Option SfpModule} (h : (s.sfpModule p).isSome = m.isSome) :
    s.sfpChange p m = s := if_pos h

theorem fanDuty_of_other {s : State} {f g : Nat} (hg : g < 5) (hne : g ≠ f)
    (h : s.chassis.fanStopped.getLsbD g = true) : s.fanDuty f = 100 := by
  have hany : ((List.range 5).any (fun g => g != f && s.chassis.fanStopped.getLsbD g)) = true :=
    List.any_eq_true.mpr ⟨g, List.mem_range.mpr hg, by rw [h, Bool.and_true]; exact bne_iff_ne.mpr hne⟩
  exact if_pos (by rw [hany, Bool.or_true])

/-- Every GPO is open outside service and debug hold (R386). -/
theorem gpoDriven_of_mode {s : State} (p : Nat) (h : s.mode < 2) : s.gpoDriven p = false := by
  have hmode : decide (2 ≤ s.mode) = false := decide_eq_false (by omega)
  have hservice : (s.mode == 2) = false := beq_eq_false_iff_ne.mpr (by omega)
  rw [State.gpoDriven]
  split
  · rw [hmode, Bool.false_and]
  · rw [hmode, Bool.false_and]
  · exact hservice
  · rfl

/-- Settles O51: each input by the branch of its operation. -/
theorem chassis : Obligations.Chassis := by
  refine ⟨?fan, ?lamps, fun s b => rfl, ?moduleIn, ?moduleOut, ?empty, ?overLimit, ?withinLimit, ?folds, ?folded, ?trips, ?noTrip,
    fun s p => gpoDriven_of_mode _⟩
  case fan =>
    intro s f rpm
    exact ⟨s.fanSeen f.val rpm, congrArg Host.Outcome.next (fanSpeed_eq s f.val rpm),
      fun k _ => setBit_at 5 _ _ k _ f.isLt, mapGet_mapSet_same .., rfl⟩
  case lamps =>
    refine fun s => ⟨fun h => ⟨if_pos h, if_pos h⟩, fun h hl => ?_, fun f g _ hg hne hs => fanDuty_of_other hg hne hs⟩
    simp [State.ledPower, h, hl]
  case moduleIn =>
    intro s p m h
    exact ⟨s.sfpSeen p.val (some m), congrArg Host.Outcome.next (sfpChange_in h), sfpSeen_module ..,
      (sfpSeen_fault s (some m) p.isLt).trans (Bool.and_true _), rfl⟩
  case moduleOut =>
    intro s p m h
    exact ⟨⟨s.sfpSeen p.val none, congrArg Host.Outcome.next (sfpChange_out h), sfpSeen_module ..,
      (sfpSeen_fault s none p.isLt).trans (Bool.and_false _), rfl⟩,
      fun k => congrArg Host.Outcome.next (sfpChange_same (by rw [h]; rfl))⟩
  case empty => exact fun s p h => congrArg Host.Outcome.next (sfpChange_same (by rw [h]))
  case overLimit =>
    intro s p hm hf
    have hfault : (setBit 2 s.chassis.sfpFault p.val true).getLsbD p.val = true := setBit_same 2 _ _ p.isLt
    refine ⟨s.modChassis (fun c => { c with sfpFault := setBit 2 c.sfpFault p.val true }),
      congrArg Host.Outcome.next (if_pos (by rw [hm, hf]; rfl)), hfault, ?_, rfl⟩
    simp [State.sfpOn, State.modChassis, hfault]
  case withinLimit =>
    intro s p h
    refine congrArg Host.Outcome.next (if_neg ?_)
    rcases h with h | h <;> simp [h]
  case folds =>
    intro s p h
    exact ⟨_, congrArg Host.Outcome.next (if_neg (by rw [h]; decide)), setBit_same 4 _ _ p.isLt, rfl⟩
  case folded =>
    intro s p h
    exact ⟨congrArg Host.Outcome.next (if_pos h), congrArg Host.Outcome.next (if_neg (by rw [Bool.and_false]; decide)),
      _, congrArg Host.Outcome.next (if_pos (by rw [h]; rfl)), setBit_same 4 _ _ p.isLt, rfl⟩
  case trips =>
    intro s p hd ht
    exact ⟨_, congrArg Host.Outcome.next (if_pos (by rw [hd, ht]; rfl)),
      (setBit8_at _ _ _ _ p.isLt).trans (if_pos rfl), rfl⟩
  case noTrip =>
    intro s p h
    refine congrArg Host.Outcome.next (if_neg ?_)
    rcases h with h | h <;> simp [h]

end Sys2Proof.Machine

/-! PROOFS. The rail sequence: start, enable, window, reverse order, release and retry (R347 to R354, R374, R376). -/

namespace Sys2Proof.Machine

theorem RailsFrame.standby {s t : State} (h : RailsFrame s t) : t.power.standby = s.power.standby :=
  (congrArg (fun u : State => u.power.standby) h :)

theorem RailsFrame.latch {s t : State} (h : RailsFrame s t) : t.power.latch = s.power.latch :=
  (congrArg (fun u : State => u.power.latch) h :)

/-- What a start leaves of the system domain and of the sequence (R348, R376). -/
theorem beginStart_at (s : State) (floor : Bool) : (s.beginStart floor).power.state = (if floor then 4 else 1) ∧
    (s.beginStart floor).power.standby = s.power.standby ∧ (s.beginStart floor).power.latch = s.power.latch ∧
    (s.beginStart floor).boot.inReset = true ∧ (s.beginStart floor).boot.mode = 0 ∧
    (s.beginStart floor).boot.attempts = 0 ∧ (s.beginStart floor).store.mem = [] ∧
    (s.beginStart floor).pat.running = none ∧ (s.beginStart floor).net.owner = .none ∧
    (∀ r, r < 13 → ((s.beginStart floor).rail r).state = 0) ∧ (floor = true → (s.beginStart floor).power.boardsOff = 7) := by
  obtain ⟨s1, x, n, htake, hrails, hzero, k, off, hbegin, hoff⟩ := begin_at s floor
  obtain ⟨hstandby, hlatch, hreset, hmode, hmem, hrun, howner⟩ := take_eq htake
  have hx : x = _ := hrails
  rw [hbegin]
  exact ⟨rfl, hrails.standby.trans hstandby, hrails.latch.trans hlatch,
    (congrArg (fun u : State => u.boot.inReset) hx).trans hreset, (congrArg (fun u : State => u.boot.mode) hx).trans hmode, rfl,
    (congrArg (fun u : State => u.store.mem) hx).trans hmem, (congrArg (fun u : State => u.pat.running) hx).trans hrun,
    (congrArg (fun u : State => u.net.owner) hx).trans howner, hzero, hoff⟩

theorem enableTimer_enables {s : State} {r : Nat} (hs : s.power.standby = true) (hst : s.power.state = 1)
    (hoff : s.power.offTable = false) (hrev : s.power.reverse = []) (hheld : s.boardHeld (railBoard r) = false)
    (hr : (s.rail r).state = 0) : s.enableTimer r = s.railEnable r :=
  if_pos ⟨hs, .inl hst, by rw [State.wholeOff, hoff, hrev]; rfl, hheld, hr, by rw [hst]; rfl⟩

theorem enableTimer_not {s : State} {r : Nat}
    (h : s.power.standby = false ∨ (s.rail r).state ≠ 0 ∨ s.boardHeld (railBoard r) = true) : s.enableTimer r = s := by
  refine if_neg ?_
  rintro ⟨hs, -, -, hheld, hr, -⟩
  rcases h with h | h | h
  · rw [hs] at h
    cases h
  · exact h hr
  · rw [hheld] at h
    cases h

/-- The reading a window's end takes of its rail (R349). -/
def State.railRead (s : State) (r : Nat) (g : RailReading) : State :=
  s.modRail r (fun q => { q with mv := g.millivolts, pg := g.powerGood, limiting := g.limiting })

theorem railRead_same (s : State) (r : Nat) (g : RailReading) :
    (s.railRead r g).rail r = { s.rail r with mv := g.millivolts, pg := g.powerGood, limiting := g.limiting } :=
  State.modRail_same ..

theorem windowCloses_idle {s : State} {r : Nat} {g : RailReading} (h : (s.rail r).state ≠ 1) :
    s.windowCloses r g = s.railRead r g := if_pos h

theorem windowCloses_up {s : State} {r : Nat} {g : RailReading} (h : (s.rail r).state = 1)
    (hup : s.railReached r g = true) : s.windowCloses r g = (s.railRead r g).railRises r := by
  simp only [State.windowCloses, h, ne_eq, not_true_eq_false, if_false, hup, if_true]
  rfl

theorem windowCloses_fails {s : State} {r : Nat} {g : RailReading} (h : (s.rail r).state = 1)
    (hup : s.railReached r g = false) (hr : r < 14) (hst : s.power.state = 1) :
    s.windowCloses r g = (s.railRead r g).startFailure r kindTimeout g.millivolts := by
  have hstart : s.starting = true := by rw [State.starting, hst]; rfl
  simp only [State.windowCloses, h, ne_eq, not_true_eq_false, if_false, hup, Bool.false_eq_true, Nat.not_le.mpr hr,
    hstart, if_true]
  rfl

theorem railRises_rail (s : State) (r k : Nat) :
    (s.railRises r).rail k = if k = r then { s.rail r with state := 2, lastRetry := s.time.tb.toNat } else s.rail k := by
  have hback : (s.railRises r).rail k = (s.modRail r (fun q => { q with state := 2, lastRetry := s.time.tb.toNat })).rail k :=
    congrArg (fun m => mapGet default m k) (boardBack_rail _ _)
  rw [hback]
  split
  next hk => rw [hk, State.modRail_same]
  next hk => rw [State.modRail_ne _ _ _ hk]

theorem startFailure_after (s : State) (r kind mv : Nat) :
    (s.startFailure r kind mv).power.after = if r ≤ 5 ∨ s.power.state = 4 then .stay else .floorStart := rfl

theorem reverseStep_cons {s : State} {r : Nat} {q : List Nat} (h : s.power.reverse = r :: q) :
    s.reverseStep = (s.railCut r 0).modPower (fun p => { p with
      reverse := q, state := if q.isEmpty then 0 else p.state }) := by
  simp only [State.reverseStep, h]

theorem sendSlaves_frame (l : List Nat) (c d : Nat) (s : State) :
    PowerFrame s (l.foldl (fun s b => s.sendSlave (b + 1) c d) s) ∧
      (l.foldl (fun s b => s.sendSlave (b + 1) c d) s).power.state = s.power.state := by
  induction l generalizing s with
  | nil => exact ⟨rfl, rfl⟩
  | cons b l ih =>
    obtain ⟨hframe, hpower⟩ := sendSlave_rails s (b + 1) c d
    obtain ⟨hframe', hstate⟩ := ih (s.sendSlave (b + 1) c d)
    exact ⟨hframe.trans hframe', hstate.trans (congrArg PowerSt.state hpower :)⟩

theorem stretchEnds_not {s : State}
    (h : s.boot.inReset = false ∨ s.boot.held = true ∨ s.wholeOff = true ∨ s.sequenceUp = false) : s.stretchEnds = s := by
  refine if_neg ?_
  rcases h with h | h | h | h <;> simp [h]

/-- What releases the resets once the rails are up (R350, R374). -/
theorem stretchEnds_at {s : State} (hr : s.boot.inReset = true) (hh : s.boot.held = false) (hoff : s.wholeOff = false)
    (hst : s.power.state = 1 ∨ s.power.state = 4) (hup : s.sequenceUp = true) :
    s.stretchEnds.boot = { s.boot with
      inReset := false, cause := s.boot.nextCause, releaseTb := s.time.tb.toNat, boardsUp := ~~~s.power.boardsOff
      buttonFloor := s.boot.buttonHeld, buttonHeld := false } ∧
      s.stretchEnds.power.state = (if s.power.state = 1 then 2 else 4) ∧
      s.stretchEnds = { s with power := s.stretchEnds.power, boot := s.stretchEnds.boot, wire := s.stretchEnds.wire } := by
  have hmem : decide (s.power.state ∈ [1, 2, 4]) = true := by rcases hst with h | h <;> rw [h] <;> rfl
  rw [State.stretchEnds, if_pos (by rw [hr, hh, hoff, hmem, hup]; rfl)]
  dsimp only
  obtain ⟨hframe, hstate⟩ := sendSlaves_frame (setBits 3 (~~~s.power.boardsOff).toNat) cmdBoardReset 0
    ((s.modPower (fun p => { p with
      state := if p.state = 1 then 2 else p.state, result := if p.result = 3 then 1 else p.result })).modBoot
      (fun b => { b with
        inReset := false, cause := b.nextCause, releaseTb := s.time.tb.toNat, boardsUp := ~~~s.power.boardsOff
        buttonFloor := b.buttonHeld, buttonHeld := false }))
  have heq := (hframe : _ = _)
  refine ⟨(congrArg State.boot heq :), hstate.trans ?_, ?_⟩
  · rcases hst with h | h <;> simp [State.modPower, State.modBoot, h]
  · generalize (setBits 3 (~~~s.power.boardsOff).toNat).foldl _ _ = t at heq ⊢
    rw [heq]
    rfl

/-- Settles O52: each step of the sequence by the branch of its operation. -/
theorem powerSequence : Obligations.PowerSequence := by
  refine ⟨?start, ?noStart, ?timerStarts, ?timerStays, ?enables, ?noEnable, ?idle, ?up, ?fails, ?reverse, ?reversed,
    ?floor, ?noFloor, ?release, fun s h => congrArg Host.Outcome.next (stretchEnds_not h), ?retry, ?noRetry⟩
  case start =>
    intro s hs hst hl hm
    obtain ⟨hstate, hstandby, hlatch, hreset, hmode, hatt, hmem, hrun, howner, hrails, -⟩ := beginStart_at s false
    exact ⟨_, congrArg Host.Outcome.next (mainsPow hs hst hl hm), hstate, hstandby.trans hs, hlatch.trans hl, hreset, hmode,
      hatt, hmem, hrun, howner, hrails⟩
  case noStart =>
    intro s h
    exact ⟨congrArg Host.Outcome.next (noStart h),
      fun ha => congrArg Host.Outcome.next ((if_pos ha).trans (noStart h))⟩
  case timerStarts => exact fun s h => congrArg Host.Outcome.next (if_pos h)
  case timerStays => exact fun s h => congrArg Host.Outcome.next (if_neg h)
  case enables =>
    intro s r hs hst hoff hrev hheld hr
    obtain ⟨hstate, -, hother, hframe⟩ := railEnable_at s r.val
    exact ⟨_, congrArg Host.Outcome.next (enableTimer_enables hs hst hoff hrev hheld hr), hstate, hother, hframe⟩
  case noEnable => exact fun s r h => congrArg Host.Outcome.next (enableTimer_not h)
  case idle => exact fun s r g h => congrArg Host.Outcome.next (windowCloses_idle h)
  case up =>
    intro s r g h hup
    refine ⟨_, congrArg Host.Outcome.next (windowCloses_up h hup), ?_, fun k hk => ?_⟩
    · rw [railRises_rail, if_pos rfl, railRead_same]
      rfl
    · rw [railRises_rail, if_neg hk]
      exact State.modRail_ne _ _ _ hk
  case fails =>
    intro s r g hr h hup hst hreset
    obtain ⟨hlatch, hfail, hrail, hrev⟩ := startFail_at (s.railRead r.val g) r.val kindTimeout g.millivolts hreset
    refine ⟨_, congrArg Host.Outcome.next (windowCloses_fails h hup hr hst), hlatch, hfail, hrail, hrev, ?_⟩
    rw [startFailure_after, show (s.railRead r.val g).power.state = 1 from hst]
    simp
  case reverse =>
    intro s r q h hreset
    obtain ⟨hrail, hother, hframe, hpower⟩ := railCut_at s r 0 hreset
    refine ⟨_, congrArg Host.Outcome.next (reverseStep_cons h), hrail, hother, rfl, ?_,
      PowerFrame.trans hframe (t := s.railCut r 0) rfl⟩
    exact congrArg (fun n => if q.isEmpty then 0 else n) (congrArg PowerSt.state hpower :)
  case reversed =>
    intro s h
    refine congrArg Host.Outcome.next ?_
    simp only [State.reverseStep, h]
  case floor =>
    intro s hs hst hl ha hm
    obtain ⟨hstate, -, hlatch, hreset, -, -, -, -, -, -, hoff⟩ := beginStart_at s true
    exact ⟨_, congrArg Host.Outcome.next (if_pos (by rw [hs, hst, hl, ha, hm]; rfl)), hstate, hoff rfl, hlatch.trans hl, hreset⟩
  case noFloor =>
    intro s h
    refine congrArg Host.Outcome.next (if_neg ?_)
    rcases h with h | h | h <;> simp [h]
  case release =>
    intro s hr hh hoff hst hup
    obtain ⟨hboot, hstate, hframe⟩ := stretchEnds_at hr hh hoff hst hup
    exact ⟨_, rfl, congrArg BootSt.inReset hboot, congrArg BootSt.cause hboot, congrArg BootSt.releaseTb hboot,
      congrArg BootSt.boardsUp hboot, hstate, hframe⟩
  case retry =>
    intro s r hr hoff hheld
    obtain ⟨hstate, hretries, hother, hframe⟩ := railEnable_at s r.val
    exact ⟨_, congrArg Host.Outcome.next (if_pos ⟨hr, hoff, hheld⟩), hstate, hother, hretries, hframe⟩
  case noRetry =>
    intro s r h
    refine congrArg Host.Outcome.next (if_neg ?_)
    rcases h with h | h | h <;> simp [h]

end Sys2Proof.Machine

/-! PROOFS. Faults of the rails: the gates, the samples, the levels and the reactions (R352 to R354, R357, R366). -/

namespace Sys2Proof.Machine

theorem gateLimit_ungated {s : State} {r : Nat} (h : railGated r = false ∨ s.railOn r = false) : s.gateLimit r = s :=
  if_pos h

/-- A gate that limits, its rail marked (R352). -/
def State.gateSeen (s : State) (r : Nat) : State := s.modRail r (fun q => { q with limiting := true })

theorem gateLimit_accessory {s : State} {r : Nat} (hr : 14 ≤ r) (hg : railGated r = true) (hon : s.railOn r = true) :
    s.gateLimit r = (((s.gateSeen r).countFault r kindUv).railReport r
      (if (s.rail r).state = 1 then kindGate else kindOvercurrent) 2 (s.rail r).mv).accLatch r := by
  rw [State.gateLimit, if_neg (by simp [hg, hon])]
  exact if_pos hr

theorem gateLimit_starting {s : State} {r : Nat} (hr : r < 14) (hg : railGated r = true) (hon : s.railOn r = true)
    (hst : s.power.state = 1) : s.gateLimit r = (s.gateSeen r).startFailure r kindGate (s.rail r).mv := by
  rw [State.gateLimit, if_neg (by simp [hg, hon])]
  exact (if_neg (Nat.not_le.mpr hr)).trans (if_pos (by rw [State.starting, hst]; rfl))

theorem accLatch_rail (s : State) (r : Nat) : ((s.accLatch r).rail r).state = 6 :=
  congrArg RailSt.state (s.modRail_same r (fun q => { q with state := 6 }))

theorem accLatch_latched (s : State) {r : Nat} (h : r - 14 < 2) : (s.accLatch r).power.accLatched.getLsbD (r - 14) = true :=
  setBit_same 2 _ _ h

/-- Only the rails' records differ. -/
def SampleFrame (s t : State) : Prop := t = { s with power := { s.power with rails := t.power.rails } }

theorem SampleFrame.refl (s : State) : SampleFrame s s := rfl

theorem SampleFrame.trans {s t u : State} (h : SampleFrame s t) (h' : SampleFrame t u) : SampleFrame s u := by
  have ht : t = _ := h
  have hu : u = _ := h'
  rw [ht] at hu
  exact hu

/-- What a sample leaves of rail `r` during a start (R343, R353). -/
def State.sampled (s : State) (r : Nat) (g : RailReading) : RailSt :=
  if (s.rail r).state = 1 ∧ s.railReached r g = true then
    { s.rail r with mv := g.millivolts, pg := g.powerGood, limiting := g.limiting, state := 2
                    lastRetry := s.time.tb.toNat }
  else { s.rail r with mv := g.millivolts, pg := g.powerGood, limiting := g.limiting }

theorem sampled_of_frame {s t : State} {r : Nat} (h : SampleFrame s t) (hr : t.rail r = s.rail r) (g : RailReading) :
    t.sampled r g = s.sampled r g := by
  have hreached : t.railReached r g = s.railReached r g := by
    rw [show t = _ from h]
    rfl
  have htb : t.time.tb = s.time.tb := (congrArg (fun u : State => u.time.tb) h :)
  rw [State.sampled, hreached, hr, htb, State.sampled]

theorem starting_of_frame {s t : State} (h : SampleFrame s t) : t.starting = s.starting := by
  rw [show t = _ from h]
  rfl

theorem boardBack_starting {s : State} (h : s.starting = true) (b : Nat) : s.boardBack b = s := by
  refine if_neg ?_
  rintro ⟨-, -, hreleased, -⟩
  rw [State.released] at hreleased
  rw [State.starting] at h
  simp only [Bool.and_eq_true, Bool.or_eq_true, beq_iff_eq, Bool.not_eq_true'] at h hreleased
  obtain ⟨hreset, hstate⟩ := hreleased
  rcases h with h | ⟨-, h⟩
  · omega
  · rw [h] at hreset
    cases hreset

theorem sampleRail_at {s : State} (h : s.starting = true) (fs : List (Nat × Nat × Nat)) (r : Nat) (g : RailReading) :
    ∃ t : State, State.sampleRail (s, fs) (r, g) = (t, fs) ∧ SampleFrame s t ∧ t.rail r = s.sampled r g ∧
      ∀ k, k ≠ r → t.rail k = s.rail k := by
  rw [sampleRail_start h]
  refine ⟨_, rfl, ?_⟩
  by_cases hup : (s.rail r).state = 1 ∧ s.railReached r g = true
  · have hback : ∀ (t : State) (b : Nat), SampleFrame s t → t.boardBack b = t := fun t b ht =>
      boardBack_starting ((starting_of_frame ht).trans h) b
    rw [if_pos hup, State.sampled, if_pos hup, State.railRises, hback]
    refine ⟨rfl, ?_, fun k hk => ?_⟩
    rotate_left 2
    · exact rfl
    · rw [State.modRail_same, State.modRail_same]
      rfl
    · rw [State.modRail_ne _ _ _ hk, State.modRail_ne _ _ _ hk]
  · rw [if_neg hup, State.sampled, if_neg hup]
    exact ⟨rfl, State.modRail_same .., fun k hk => State.modRail_ne _ _ _ hk⟩

theorem sampleRails_at {s : State} (l : List (Nat × RailReading)) (h : s.starting = true) (hl : (l.map Prod.fst).Nodup)
    (fs : List (Nat × Nat × Nat)) : ∃ t : State, l.foldl State.sampleRail (s, fs) = (t, fs) ∧ SampleFrame s t ∧
      (∀ r g, (r, g) ∈ l → t.rail r = s.sampled r g) ∧ ∀ k, k ∉ l.map Prod.fst → t.rail k = s.rail k := by
  induction l generalizing s with
  | nil => exact ⟨s, rfl, rfl, fun r g hmem => (List.not_mem_nil hmem).elim, fun _ _ => rfl⟩
  | cons x l ih =>
    obtain ⟨r, g⟩ := x
    obtain ⟨hfresh, hl⟩ := List.nodup_cons.mp hl
    obtain ⟨u, hu, hframe, hrail, hother⟩ := sampleRail_at h fs r g
    obtain ⟨t, ht, hframe', hsampled, hkept⟩ := ih ((starting_of_frame hframe).trans h) hl
    refine ⟨t, by rw [List.foldl_cons, hu, ht], hframe.trans hframe', fun k g' hmem => ?_, fun k hk => ?_⟩
    · rcases List.mem_cons.mp hmem with heq | htail
      · obtain ⟨rfl, rfl⟩ := Prod.mk.inj heq
        exact (hkept k hfresh).trans hrail
      · have hne : k ≠ r := by
          rintro rfl
          exact hfresh (List.mem_map.mpr ⟨(k, g'), htail, rfl⟩)
        rw [hsampled k g' htail, sampled_of_frame hframe (hother k hne)]
    · rw [List.map_cons, List.mem_cons, not_or] at hk
      rw [hkept k hk.2, hother k hk.1]

theorem railFaults_nil (s : State) : s.railFaults [] = s := by rw [State.railFaults]; rfl

/-- Samples of a start: every rail by its own reading (R353). -/
theorem samples_start {s : State} {gs : List RailReading} (hs : s.power.standby = true) (hstart : s.starting = true)
    (hoff : s.power.offTable = false) (hlen : gs.length = 16) : ∃ t : State, s.samples gs = t ∧ SampleFrame s t ∧
      ∀ r g, gs[r]? = some g → t.rail r = s.sampled r g := by
  have hfst : ((List.range 16).zip gs).map Prod.fst = List.range 16 :=
    List.map_fst_zip (by rw [List.length_range, hlen])
  obtain ⟨t, hfold, hframe, hsampled, -⟩ := sampleRails_at ((List.range 16).zip gs) hstart
    (by rw [hfst]; exact List.nodup_range) []
  have hoff' : t.power.offTable = false := (congrArg (fun u : State => u.power.offTable) hframe :).trans hoff
  refine ⟨t, ?_, hframe, fun r g hg => hsampled r g ?_⟩
  · rw [State.samples, if_pos hs, hfold]
    dsimp only
    rw [railFaults_nil, List.foldl_nil, State.mainsCollapse, if_neg (by simp [hoff'])]
  · obtain ⟨hr, hgr⟩ := List.getElem?_eq_some_iff.mp hg
    have hr' : r < (List.range 16).length := by rw [List.length_range, ← hlen]; exact hr
    refine List.mem_iff_getElem.mpr ⟨r, by rw [List.length_zip]; exact lt_min hr' hr, ?_⟩
    rw [List.getElem_zip, List.getElem_range, hgr]

theorem judge_low {r : Nat} {levels : Word} {q : RailSt} {g : RailReading}
    (h : 400 * g.millivolts + levelAt r (fld levels 8 8) < 400 * railNominal r) :
    (judge r levels false q g).1.uvRun = min 4 (q.uvRun + 1) ∧
      ((railGated r && g.limiting && !q.limiting) = false → q.uvRun = 2 → (judge r levels false q g).2.2 = some kindUv) := by
  have hlow : levelAt r (fld levels 8 8) < 400 * (railNominal r - g.millivolts) := by omega
  constructor
  · simp [judge, hlow]
  · intro hgate hrun
    simp [judge, hlow, hgate, hrun]

theorem judge_not_low {r : Nat} {levels : Word} {q : RailSt} {g : RailReading}
    (h : 400 * railNominal r ≤ 400 * g.millivolts + levelAt r (fld levels 8 8)) : (judge r levels false q g).1.uvRun = 0 := by
  have hlow : ¬levelAt r (fld levels 8 8) < 400 * (railNominal r - g.millivolts) := by omega
  simp [judge, hlow]

theorem nextReaction_retry {s : State} {r : Nat} (hr : r ≤ 12) (hc : fld (s.railConfig r) 0 2 = 1) (h6 : 6 ≤ r) :
    s.nextReaction r = if s.retriesMade r < fld (s.railConfig r) 4 3 then 1 else 2 := by
  have hreaction : s.reaction r = 1 := by
    rw [State.reaction, if_neg (by omega), if_neg (by omega), if_neg (by omega), hc]
  exact if_pos hreaction

/-- Retry is a reset on the rails of the main board (R354). -/
theorem nextReaction_main {s : State} {r : Nat} (hr : r ≤ 5) (hc : fld (s.railConfig r) 0 2 = 1) : s.nextReaction r = 3 := by
  have hreaction : s.reaction r = 3 := by
    rw [State.reaction, if_neg (by omega), if_neg (by omega), if_pos ⟨hc, hr⟩]
  rw [State.nextReaction, hreaction]
  rfl

/-- Settles O53: gates, samples, levels, reactions and the off table, each by its own lemma. -/
theorem railFaults : Obligations.RailFaults := by
  refine ⟨fun s r h => congrArg Host.Outcome.next (gateLimit_ungated h), ?accessory, ?start, ?noStandby, ?sampled,
    fun r levels q g h => judge_low h, fun r levels q g h => judge_not_low h, fun s r hr hc h6 => nextReaction_retry hr hc h6,
    fun s r hr hc => nextReaction_main hr hc, ?offTable, ?noOffTable⟩
  case accessory =>
    intro s r hr hon
    have hlt := r.isLt
    have hg : railGated r.val = true := by
      obtain h | h : r.val = 14 ∨ r.val = 15 := by omega
      · rw [h]; rfl
      · rw [h]; rfl
    exact ⟨_, congrArg Host.Outcome.next (gateLimit_accessory hr hg hon), accLatch_rail .., accLatch_latched _ (by omega)⟩
  case start =>
    intro s r hr hg hon hst hreset
    obtain ⟨hlatch, hfail, hrail, hrev⟩ := startFail_at (s.gateSeen r.val) r.val kindGate (s.rail r.val).mv hreset
    exact ⟨_, congrArg Host.Outcome.next (gateLimit_starting hr hg hon hst), hlatch, hfail, hrail, hrev⟩
  case noStandby =>
    intro s gs h
    exact congrArg Host.Outcome.next (if_neg (by rw [h]; decide))
  case sampled =>
    intro s gs hs hstart hoff hlen
    obtain ⟨t, ht, hframe, hrail⟩ := samples_start hs hstart hoff hlen
    refine ⟨t, congrArg Host.Outcome.next ht, fun r g hg => ⟨fun h hup => ?_, fun h => ?_⟩, hframe⟩
    · rw [hrail r g hg, State.sampled, if_pos ⟨h, hup⟩]
    · rw [hrail r g hg, State.sampled, if_neg]
      rintro ⟨hone, hup⟩
      rcases h with h | h
      · exact h hone
      · rw [hup] at h
        cases h
  case offTable =>
    intro s r hoff hr hon hreset
    obtain ⟨hstate, hother, hframe, hpower⟩ := railCut_at s r.val 0 hreset
    obtain ⟨hrail, hend, hall⟩ := endOff_at (s.railCut r.val 0)
    have hoff' : (s.railCut r.val 0).power.offTable = true := (congrArg PowerSt.offTable hpower :).trans hoff
    refine ⟨_, congrArg Host.Outcome.next (if_pos (by simp [hoff, hr, hon])), ?_, fun k hk => ?_, fun h => ?_⟩
    · rw [hrail]; exact hstate
    · rw [hrail]; exact hother k hk
    · exact hend (hall ▸ h) hoff'
  case noOffTable =>
    intro s r hoff hheld
    refine congrArg Host.Outcome.next ?_
    rw [State.offStep, if_neg (by simp [hoff, hheld]), State.endOff, if_neg (by simp [hoff])]

end Sys2Proof.Machine

/-! PROOFS. Modules, mains, heat and POS (R345, R357, R358, R360, R364). -/

namespace Sys2Proof.Machine

theorem psuChange_same {s : State} {i : Nat} {c : PsuCond} (h : mapGet default s.power.psus i = c) : s.psuChange i c = s :=
  if_pos h

theorem psuChange_delivers {s : State} {i : Nat} (h : mapGet default s.power.psus i ≠ .delivering) :
    s.psuChange i .delivering = (s.modPower (fun p => { p with
      psus := mapSet default p.psus i .delivering })).psvEvent 0xF8 [byteOf i, 0] := if_neg h

theorem psuChange_fails {s : State} {i : Nat} {c : PsuCond} (h : mapGet default s.power.psus i ≠ c) (hc : c ≠ .delivering) :
    s.psuChange i c = ((s.modPower (fun p => { p with psus := mapSet default p.psus i c })).psvRecordOpen
      [(8, Config.unstated 0xF8 i)]).psvEvent 0xF8 [byteOf i, byteOf (psuCode c)] := by
  rw [State.psuChange, if_neg h]
  exact congrArg (fun t : State => t.psvEvent 0xF8 [byteOf i, byteOf (psuCode c)]) (if_neg hc)

/-- PFW raised: the mains gone and the cause of the next start kept (R358). -/
def State.pfwRaised (s : State) : State :=
  { s with power := { s.power with mainsDown := true, pfw := true }, boot := { s.boot with nextCause := 5 } }

theorem acFail_raises {s : State} (hs : s.power.standby = true) (hst : s.power.state ≠ 0) (hp : s.power.pfw = false) :
    s.acFail = if s.starting = true
      then ((s.pfwRaised.psvRecordOpen [(8, Config.unstated 0xF9 0)]).psvEvent 0xF9 [1]).startOff .mainsStart
      else (s.pfwRaised.psvRecordOpen [(8, Config.unstated 0xF9 0)]).psvEvent 0xF9 [1] := by
  rw [State.acFail, if_neg (fun h => hst h.2.1), if_neg (by simp [hs, hst, hp])]
  rfl

theorem acFail_still {s : State} (h : s.power.standby = false ∨ s.power.state = 0 ∧ s.power.after ≠ .fullStart) :
    s.acFail = { s with power := { s.power with mainsDown := true } } := by
  rcases h with h | ⟨h, ha⟩
  · rw [State.acFail, if_neg (by simp [h]), if_pos (.inl h)]
    rfl
  · rw [State.acFail, if_neg (fun h' => ha h'.2.2), if_pos (.inr (.inl h))]
    rfl

theorem mainsReturn_withdraws {s : State} (hp : s.power.pfw = true) (ha : s.power.after ≠ .mainsStart) :
    s.mainsReturn = ({ s with
      power := { s.power with mainsDown := false, pfw := false, pfwCount := satInc s.power.pfwCount }
      boot := { s.boot with nextCause := s.boot.cause } } : State).psvEvent 0xF9 [0] := if_pos ⟨hp, ha⟩

theorem mainsReturn_starts {s : State} (ha : s.power.after = .mainsStart) :
    s.mainsReturn = ({ s with power := { s.power with mainsDown := false } } : State).start := by
  rw [State.mainsReturn, if_neg (fun h => h.2 ha), if_pos ha]
  rfl

theorem mainsReturn_still {s : State} (hp : s.power.pfw = false) (ha : s.power.after ≠ .mainsStart) :
    s.mainsReturn = { s with power := { s.power with mainsDown := false } } := by
  rw [State.mainsReturn, if_neg (by simp [hp]), if_neg ha]
  rfl

theorem psvRecordOpen_power (s : State) (d : List (Nat × Nat)) : (s.psvRecordOpen d).power = { s.power with
    heldRecords := (s.psvRecordOpen d).power.heldRecords, lostRecords := (s.psvRecordOpen d).power.lostRecords } :=
  (psvRecord_at s.takeFree.2 d (Config.freeWord s.takeFree.1).toNat false).2

/-- A trip before the shutting down: recorded, latched, and the first failure kept (R360). -/
def State.tripSeen (s : State) (t : Byte) : State :=
  (((s.firstFailure (Config.unstated 0x365 0) kindThermal (Config.unstated 0x365 1) 0).psvRecordOpen
    [(8, kindThermal)]).psvEvent 0xFC [2, t]).modPower (fun p => { p with trips := satInc p.trips, thermal := true, latch := true })

theorem thermalTripped_trips {s : State} {t : Byte} (hst : s.power.state ≠ 0) (ht : s.power.thermal = false) :
    s.thermalTripped t = (s.tripSeen t).startOff .thermalStart := if_neg (by simp [hst, ht])

theorem tripSeen_at (s : State) (t : Byte) : (s.tripSeen t).power.latch = true ∧ (s.tripSeen t).power.thermal = true ∧
    (s.tripSeen t).power.trips = satInc s.power.trips ∧ (s.tripSeen t).power.first.isSome = true ∧
    ∀ f, s.power.first = some f → (s.tripSeen t).power.first = some f := by
  obtain ⟨hpower, -, hsome, hkept⟩ := firstFailure_at s (Config.unstated 0x365 0) kindThermal (Config.unstated 0x365 1) 0
  rw [State.tripSeen]
  generalize s.firstFailure (Config.unstated 0x365 0) kindThermal (Config.unstated 0x365 1) 0 = u at hpower hsome hkept ⊢
  have hrecord := psvRecordOpen_power u [(8, kindThermal)]
  obtain ⟨-, hevent⟩ := psvEvent_at (u.psvRecordOpen [(8, kindThermal)]) 0xFC [2, t]
  have hfirst : ((u.psvRecordOpen [(8, kindThermal)]).psvEvent 0xFC [2, t]).power.first = u.power.first :=
    (congrArg PowerSt.first hevent :).trans (congrArg PowerSt.first hrecord :)
  refine ⟨rfl, rfl, congrArg satInc ?_, ?_, fun f hf => hfirst.trans (hkept f hf)⟩
  · exact (congrArg PowerSt.trips hevent :).trans ((congrArg PowerSt.trips hrecord :).trans (congrArg PowerSt.trips hpower :))
  · exact (congrArg Option.isSome hfirst).trans hsome

theorem thermalRestart_starts {s : State} (hs : s.power.standby = true) (hst : s.power.state = 0)
    (ha : s.power.after = .thermalStart) (hm : s.mains = true) : s.thermalRestart =
      ((s.psvEvent 0xFC [0, byteOf (Config.measured 0x360 0 s.time.tb.toNat)]).modBoot
        (fun b => { b with nextCause := Config.unstated 0x389 0 % 8 })).beginStart true :=
  if_pos (by rw [hs, hst, ha, hm]; rfl)

/-- A second counted, and the write to the FRAM that may fail (R345, R364). -/
theorem posTick_counts {s : State} (h : (s.rail 0).state = 2 ∨ (s.rail 0).state = 3) :
    s.posTick = (if Config.framWrites s.freeCount then s.takeFree.2 else s.takeFree.2.framFails).modPower
      (fun p => { p with pos := wordOf (satInc p.pos.toNat) }) := if_pos h

theorem satInc_word (n : Nat) (h : n < 2 ^ 32) : satInc n = min 0xFFFFFFFF (n + 1) := by
  rw [satInc, max32]
  split <;> omega

theorem framFails_again {s : State} (h : s.power.framFault.isSome = true) : s.framFails = s := if_pos h

/-- A failed write leaves FRAM_FAULT with what the FRAM held (R364). -/
theorem framFails_first {s : State} (h : s.power.framFault = none) :
    s.framFails.power.framFault = some s.power.fram ∧ s.framFails.power.pos = s.power.pos := by
  rw [State.framFails, if_neg (by simp [h]), psvRecordOpen_power]
  exact ⟨congrArg some (by rw [PowerSt.fram, h]; rfl), rfl⟩

theorem fram_of_fault {p : PowerSt} {f : Fram} (h : p.framFault = some f) : p.fram = f := by
  rw [PowerSt.fram, h]
  rfl

theorem framBytes_of_fram {s t : State} (h : t.power.fram = s.power.fram) : t.framBytes = s.framBytes := by
  rw [State.framBytes, h, State.framBytes]

/-- Settles O54: modules, mains, heat and POS, each by its own lemma. -/
theorem mainsAndHeat : Obligations.MainsAndHeat := by
  refine ⟨fun s i c h => congrArg Host.Outcome.next (psuChange_same h),
    fun s i h => congrArg Host.Outcome.next (psuChange_delivers h),
    fun s i c h hc => ⟨_, congrArg Host.Outcome.next (psuChange_fails h hc)⟩,
    fun s hs hst hp => ⟨s.pfwRaised, Config.unstated 0xF9 0, congrArg Host.Outcome.next (acFail_raises hs hst hp), rfl⟩,
    fun s h => congrArg Host.Outcome.next (acFail_still h),
    fun s hs hst ha => congrArg Host.Outcome.next (if_pos ⟨hs, hst, ha⟩),
    fun s hp hm hst ha => congrArg Host.Outcome.next (if_pos ⟨hp, hm, hst, ha⟩), ?noExpiry,
    fun s hp ha => congrArg Host.Outcome.next (mainsReturn_withdraws hp ha),
    fun s ha => congrArg Host.Outcome.next (mainsReturn_starts ha),
    fun s hp ha => congrArg Host.Outcome.next (mainsReturn_still hp ha), fun s t => rfl,
    fun s t hst ht => ⟨s.tripSeen t, congrArg Host.Outcome.next (thermalTripped_trips hst ht), tripSeen_at s t⟩,
    fun s t h => congrArg Host.Outcome.next (if_pos h), ?restart, ?noRestart, ?noPos, ?pos⟩
  case noExpiry =>
    intro s h
    refine congrArg Host.Outcome.next (if_neg ?_)
    rcases h with h | h | h | h <;> simp [h]
  case restart =>
    intro s hs hst ha hm
    obtain ⟨hstate, -, -, hreset, -, -, -, -, -, -, hoff⟩ := beginStart_at
      ((s.psvEvent 0xFC [0, byteOf (Config.measured 0x360 0 s.time.tb.toNat)]).modBoot
        (fun b => { b with nextCause := Config.unstated 0x389 0 % 8 })) true
    exact ⟨_, congrArg Host.Outcome.next (thermalRestart_starts hs hst ha hm), hstate, hoff rfl, hreset⟩
  case noRestart =>
    intro s h
    refine congrArg Host.Outcome.next (if_neg ?_)
    rcases h with h | h <;> simp [h]
  case noPos =>
    intro s h2 h3
    exact congrArg Host.Outcome.next (if_neg (not_or.mpr ⟨h2, h3⟩))
  case pos =>
    intro s h
    have hpos : wordOf (satInc s.power.pos.toNat) = BitVec.ofNat 32 (min 0xFFFFFFFF (s.power.pos.toNat + 1)) := by
      rw [satInc_word _ s.power.pos.isLt]
      rfl
    refine ⟨_, congrArg Host.Outcome.next (posTick_counts h), ?_⟩
    by_cases hw : Config.framWrites s.freeCount = true
    · rw [if_pos hw]
      exact ⟨hpos, .inl rfl⟩
    · rw [if_neg hw]
      cases hfault : s.power.framFault with
      | some f =>
        rw [framFails_again (by rw [show s.takeFree.2.power = s.power from rfl, hfault]; rfl)]
        exact ⟨hpos, .inl rfl⟩
      | none =>
        obtain ⟨hfram, hkept⟩ := framFails_first (s := s.takeFree.2) hfault
        generalize s.takeFree.2.framFails = t at hfram hkept ⊢
        refine ⟨?_, .inr ⟨hfram, framBytes_of_fram (fram_of_fault hfram)⟩⟩
        rw [← hpos]
        exact congrArg (fun w : Word => wordOf (satInc w.toNat)) hkept

end Sys2Proof.Machine

/-! PROOFS. The link of the power supervisor: polls, replies, failures and the slaves' own side (R361 to R363). -/

namespace Sys2Proof.Machine

/-- Only the slaves' records and the wire differ. -/
def SlavesFrame (s t : State) : Prop := t = { s with wire := t.wire, power := { s.power with slaves := t.power.slaves } }

theorem sendSlave_stops {s : State} {b c d : Nat} (h : s.power.standby = false ∨ (s.slave (b - 1)).state = 2) :
    s.sendSlave b c d = s := if_pos h.symm

/-- A word that goes out on the link (R361). -/
theorem sendSlave_at {s : State} {b : Nat} (c d : Nat) (hs : s.power.standby = true) (hb : (s.slave (b - 1)).state ≠ 2) :
    (s.sendSlave b c d).wire = s.wire ++ [.supervisor (boardName b) (linkWord c d)] ∧
      ((s.sendSlave b c d).slave (b - 1)).lastWord = linkWord c d ∧
      (∀ k, k ≠ b - 1 → (s.sendSlave b c d).slave k = s.slave k) ∧ SlavesFrame s (s.sendSlave b c d) := by
  rw [State.sendSlave, if_neg (by simp [hs, hb])]
  exact ⟨rfl, congrArg SlaveSt.lastWord (State.modSlave_same ..), fun k hk => State.modSlave_ne _ _ _ hk, rfl⟩

theorem slaveReply_stops {s : State} {b : Nat} {w : Word} (h : s.power.standby = false ∨ (s.slave (b - 1)).state = 2) :
    s.slaveReply b w = s := if_pos h.symm

theorem slaveReply_sound {s : State} {b : Nat} {w : Word} (hs : s.power.standby = true) (hb : (s.slave (b - 1)).state ≠ 2)
    (hw : linkSound w = true) (hc : fld w 24 8 = fld (s.slave (b - 1)).lastWord 24 8) : s.slaveReply b w =
      (s.modSlave (b - 1) (fun q => { q with state := 0, tries := 0 })).takeReply b (s.slave (b - 1)).lastWord w := by
  rw [State.slaveReply, if_neg (by simp [hs, hb]), if_pos ⟨hw, hc⟩]

theorem slaveReply_bad {s : State} {b : Nat} {w : Word} (hs : s.power.standby = true) (hb : (s.slave (b - 1)).state ≠ 2)
    (hw : linkSound w = false) : s.slaveReply b w = s.badReply b w := by
  rw [State.slaveReply, if_neg (by simp [hs, hb]), if_neg (by simp [hw])]

/-- A failed exchange counted, its word sent again (R362). -/
def State.slaveAgain (s : State) (b : Nat) : State :=
  (s.modSlave (b - 1) (fun q => { q with
    crc := min 0xFF (q.crc + 1), state := 1, tries := q.tries + 1, retry := min 0xFF (q.retry + 1) })).send
      (.supervisor (boardName b) (s.slave (b - 1)).lastWord)

theorem badReply_again {s : State} {b : Nat} {w : Word} (hw : linkSound w = false) (ht : (s.slave (b - 1)).tries < 3) :
    s.badReply b w = (s.slaveAgain b).psvEvent 0xFB [byteOf b, 0] := by
  rw [State.badReply, if_neg (Nat.not_le.mpr ht)]
  simp only [hw, Bool.not_false, Bool.true_or, if_true]
  rfl

theorem badReply_fails {s : State} {b : Nat} {w : Word} (hw : linkSound w = false) (ht : 3 ≤ (s.slave (b - 1)).tries) :
    s.badReply b w = (s.modSlave (b - 1) (fun q => { q with crc := min 0xFF (q.crc + 1) })).slaveFails b := by
  rw [State.badReply, if_pos ht]
  simp only [hw, Bool.not_false, Bool.true_or, if_true]

/-- A slave that fails while its board is off holds the board off (R362). -/
theorem slaveFails_off {s : State} {b : Nat} (hb : 1 ≤ b ∧ b ≤ 3) (h : s.power.state = 0 ∨ s.wholeOff = true) :
    ((s.slaveFails b).slave (b - 1)).state = 2 ∧ (s.slaveFails b).boardHeld b = true ∧
      (s.slaveFails b).power.first.isSome = true := by
  obtain ⟨hfirst, -, hsome, -⟩ := firstFailure_at (s.modSlave (b - 1) (fun q => { q with state := 2 })) 0xFE kindSlave b 0
  have hrail : ((s.modSlave (b - 1) (fun q => { q with state := 2 })).slave (b - 1)).state = 2 :=
    congrArg SlaveSt.state (State.modSlave_same ..)
  rw [State.slaveFails, if_pos h]
  generalize (s.modSlave (b - 1) (fun q => { q with state := 2 })).firstFailure 0xFE kindSlave b 0 = u at hfirst hsome ⊢
  obtain ⟨-, hrecord⟩ := psvRecord_at u [(8, kindSlave)] b false
  obtain ⟨-, hevent⟩ := psvEvent_at (u.psvRecord [(8, kindSlave)] b) 0xFB [byteOf b, 1]
  generalize u.psvRecord [(8, kindSlave)] b = v at hrecord hevent ⊢
  generalize v.psvEvent 0xFB [byteOf b, 1] = t at hevent ⊢
  have hslaves : t.power.slaves = (s.modSlave (b - 1) (fun q => { q with state := 2 })).power.slaves :=
    (congrArg PowerSt.slaves hevent :).trans ((congrArg PowerSt.slaves hrecord :).trans (congrArg PowerSt.slaves hfirst :))
  have hf : t.power.first = u.power.first := (congrArg PowerSt.first hevent :).trans (congrArg PowerSt.first hrecord :)
  refine ⟨?_, ?_, (congrArg Option.isSome hf).trans hsome⟩
  · exact (congrArg SlaveSt.state (slave_of _ hslaves (b - 1))).trans hrail
  · have hheld : (setBit 3 t.power.boardsOff (b - 1) true).getLsbD (b - 1) = true := setBit_same 3 _ _ (by omega)
    rw [State.boardHeld, decide_eq_true hb.1, decide_eq_true hb.2]
    exact hheld

/-- What slave `b` does with a word of `n` clock edges, and the reply it will give (R363). -/
def State.slaveTurn (s : State) (b : Nat) (w : Word) (n : Nat) : SlaveSt × Word :=
  if n ≠ 32 then (s.slave (b - 1), linkWord cmdError 1)
  else if linkSound w = false then (s.slave (b - 1), linkWord cmdError 2) else s.slaveActs b w

theorem slaveHears_eq (s : State) (b : Nat) (w : Word) (n : Nat) : s.slaveHears b w n =
    (s.send (.slaveReply (boardName b) (s.slave (b - 1)).reply)).modSlave (b - 1)
      (fun _ => { (s.slaveTurn b w n).1 with reply := (s.slaveTurn b w n).2 }) := rfl

theorem slaveHears_slave (s : State) (b : Nat) (w : Word) (n : Nat) : (s.slaveHears b w n).slave (b - 1) =
    { (s.slaveTurn b w n).1 with reply := (s.slaveTurn b w n).2 } := State.modSlave_same ..

section Turns
variable {s : State} {b n : Nat} {w : Word}

theorem slaveTurn_edges (hn : n ≠ 32) : s.slaveTurn b w n = (s.slave (b - 1), linkWord cmdError 1) := if_pos hn

theorem slaveTurn_unsound (hn : n = 32) (hw : linkSound w = false) :
    s.slaveTurn b w n = (s.slave (b - 1), linkWord cmdError 2) := by
  rw [State.slaveTurn, if_neg (not_not.mpr hn), if_pos hw]

theorem slaveTurn_acts (hn : n = 32) (hw : linkSound w = true) : s.slaveTurn b w n = s.slaveActs b w := by
  rw [State.slaveTurn, if_neg (not_not.mpr hn), if_neg (by simp [hw])]

theorem slaveActs_unknown (hc : 6 ≤ fld w 24 8) : s.slaveActs b w = (s.slave (b - 1), linkWord cmdError 3) := by
  rw [State.slaveActs]
  dsimp only
  split
  case h_7 => rfl
  all_goals omega

theorem slaveActs_enable (hc : fld w 24 8 = 1) : s.slaveActs b w =
    ({ s.slave (b - 1) with rails := (s.slave (b - 1)).rails ||| BitVec.ofNat 4 (fld w 8 16 % 2 ^ (boardRails b).length) },
      linkWord cmdEnable ((s.slave (b - 1)).rails ||| BitVec.ofNat 4 (fld w 8 16 % 2 ^ (boardRails b).length)).toNat) := by
  simp only [State.slaveActs, hc]

theorem slaveActs_disable (hc : fld w 24 8 = 2) : s.slaveActs b w =
    ({ s.slave (b - 1) with rails := (s.slave (b - 1)).rails &&& ~~~ (BitVec.ofNat 4 (fld w 8 16 % 2 ^ (boardRails b).length)) },
      linkWord cmdDisable ((s.slave (b - 1)).rails &&&
        ~~~ (BitVec.ofNat 4 (fld w 8 16 % 2 ^ (boardRails b).length))).toNat) := by
  simp only [State.slaveActs, hc]

end Turns

theorem mem_boardRails {r b : Nat} : r ∈ boardRails b ↔ railBoard r = b ∧ r < 13 := by
  rw [boardRails, List.mem_filter, List.mem_range, beq_iff_eq]
  exact and_comm

/-- The watchdog of a slave switches its board's rails off (R363). -/
theorem slaveSilent_at (s : State) (b : Nat) :
    (s.slaveSilent b).slave (b - 1) = { s.slave (b - 1) with rails := 0 } ∧
      (∀ k, k ≠ b - 1 → (s.slaveSilent b).slave k = s.slave k) ∧
      (∀ r, (s.slaveSilent b).rail r =
        if railBoard r = b ∧ r < 13 then { s.rail r with pg := false, limiting := false } else s.rail r) ∧
      s.slaveSilent b = { s with
        power := { s.power with slaves := (s.slaveSilent b).power.slaves, rails := (s.slaveSilent b).power.rails } } := by
  obtain ⟨hin, hout, hframe⟩ := zero_rails (fun q => { q with pg := false, limiting := false }) (boardRails b)
    (s.modSlave (b - 1) (fun q => { q with rails := 0 })) (List.nodup_range.filter _)
  have hslaves : ((boardRails b).foldl (fun s r => s.modRail r (fun q => { q with pg := false, limiting := false }))
      (s.modSlave (b - 1) (fun q => { q with rails := 0 }))).power.slaves =
      (s.modSlave (b - 1) (fun q => { q with rails := 0 })).power.slaves :=
    (congrArg (fun t : State => t.power.slaves) hframe :)
  rw [State.slaveSilent]
  generalize (boardRails b).foldl _ _ = t at hin hout hframe hslaves ⊢
  refine ⟨?_, fun k hk => ?_, fun r => ?_, ?_⟩
  · exact (slave_of _ hslaves (b - 1)).trans (State.modSlave_same ..)
  · exact (slave_of _ hslaves k).trans (State.modSlave_ne _ _ _ hk)
  · split
    next hr => exact hin r (mem_boardRails.mpr hr)
    next hr => exact hout r (fun h => hr (mem_boardRails.mp h))
  · rw [hframe]
    rfl

/-- Settles O55: the master's side by the reply, the slave's by the word. -/
theorem supervisorLink : Obligations.SupervisorLink := by
  refine ⟨?polls, ?stops, ?sound, ?again, ?fails, ?failsOff, ?hears,
    fun s b => ⟨_, rfl, slaveSilent_at s (boardOf b)⟩⟩
  case polls =>
    intro s b c d hs hb
    obtain ⟨hwire, hword, hother, hframe⟩ := sendSlave_at c.toNat d.toNat hs hb
    rw [boardName_of] at hwire
    exact ⟨_, rfl, hwire, hword, hother, hframe⟩
  case stops =>
    intro s b c d w h
    exact ⟨congrArg Host.Outcome.next (sendSlave_stops h), congrArg Host.Outcome.next (slaveReply_stops h)⟩
  case sound =>
    intro s b w hs hb hw hc
    obtain ⟨hslaves, hwire, hmv⟩ := takeReply_at
      (s.modSlave (boardOf b - 1) (fun q => { q with state := 0, tries := 0 })) (boardOf b) (s.slave (boardOf b - 1)).lastWord w
    have hslave := (slave_of _ hslaves (boardOf b - 1)).trans (State.modSlave_same ..)
    exact ⟨_, congrArg Host.Outcome.next (slaveReply_sound hs hb hw hc), congrArg SlaveSt.state hslave,
      congrArg SlaveSt.tries hslave, hwire, hmv⟩
  case again =>
    intro s b w hs hb hw ht
    refine ⟨_, congrArg Host.Outcome.next ((slaveReply_bad hs hb hw).trans (badReply_again hw ht)), ?_, State.modSlave_same ..⟩
    rw [State.slaveAgain, boardName_of]
    rfl
  case fails =>
    intro s b w hs hb hw ht
    exact ⟨_, congrArg Host.Outcome.next ((slaveReply_bad hs hb hw).trans (badReply_fails hw ht)),
      congrArg SlaveSt.crc (State.modSlave_same ..), rfl⟩
  case failsOff => exact fun s b h => ⟨_, rfl, slaveFails_off (board_lt b) h⟩
  case hears =>
    intro s b w n
    have hslave := slaveHears_slave s (boardOf b) w n
    refine ⟨_, (s.slaveTurn (boardOf b) w n).2, rfl, ?_, congrArg SlaveSt.reply hslave,
      fun k hk => State.modSlave_ne _ _ _ hk, fun hn => ?_, fun hn hw => ?_, fun hn hw hc => ?_, fun hn hw hc => ?_,
      fun hn hw hc => ?_, rfl⟩
    · rw [slaveHears_eq, boardName_of]
      rfl
    · rw [hslave, slaveTurn_edges hn]
      exact ⟨rfl, rfl⟩
    · rw [hslave, slaveTurn_unsound hn hw]
      exact ⟨rfl, rfl⟩
    · rw [hslave, slaveTurn_acts hn hw, slaveActs_unknown hc]
      exact ⟨rfl, rfl⟩
    · rw [hslave, slaveTurn_acts hn hw, slaveActs_enable hc]
      exact ⟨rfl, rfl⟩
    · rw [hslave, slaveTurn_acts hn hw, slaveActs_disable hc]
      exact ⟨rfl, rfl⟩

end Sys2Proof.Machine

/-! PROOFS. Commands of the power supervisor: PSV_COMMAND, ACC_CONTROL and the standby supply
(R351, R352, R355, R365, R368, R373, R376). -/

namespace Sys2Proof.Machine

/-- The state a PSV_COMMAND write leaves before its command runs. -/
def State.psvWritten (s : State) (v : Word) : State := s.written .PSV_COMMAND 0 0 v

section Commands
variable {s : State} {acc : Accessor}

theorem exec_clearLatch (h : s.Accepts acc .PSV_COMMAND) :
    exec (.clearLatch acc) s = .next ((s.psvWritten 1).psvClearLatch (acc == .usb)) :=
  congrArg Host.Outcome.next ((psv_write 1 h).trans (psv_1 _ _ _ (by decide)))

theorem exec_clearRecord (h : s.Accepts acc .PSV_COMMAND) :
    exec (.clearRecord acc) s = .next (s.psvWritten 2).psvClearRecord :=
  congrArg Host.Outcome.next ((psv_write 2 h).trans (psv_2 _ _ _ (by decide)))

theorem exec_clearCounters (h : s.Accepts acc .PSV_COMMAND) :
    exec (.clearCounters acc) s = .next (s.psvWritten 3).psvClearCounters :=
  congrArg Host.Outcome.next ((psv_write 3 h).trans (psv_3 _ _ _ (by decide)))

theorem exec_restartGroup (b : Fin 4) (h : s.Accepts acc .PSV_COMMAND) :
    exec (.restartGroup acc b) s = .next ((s.psvWritten (wordOf (4 + 256 * b.val))).psvRestartGroup b.val) :=
  congrArg Host.Outcome.next ((psv_write _ h).trans (psv_4 _ _ _ b.val (by revert b; decide) (by revert b; decide)))

end Commands

/-- The latch cleared, before the unit is shut down for its start (R351). -/
def State.latchCleared (s : State) : State :=
  (s.modPower (fun p => { p with latch := false, thermal := false, result := psvBusy })).modBoot
    (fun b => { b with nextCause := 2 })

theorem psvClearLatch_usb (s : State) : s.psvClearLatch (Accessor.usb == .usb) = s.latchCleared.startOff .fullStart :=
  if_pos rfl

theorem psvRestartGroup_refused {s : State} {b : Nat} (h : b = 0 ∨ s.power.latch = true ∨ s.wholeOff = true) :
    s.psvRestartGroup b = s.psvResult 2 := if_pos h

/-- Only the rails and the slaves of the supervisor's state differ. -/
def BoardFrame (s t : State) : Prop := t.power = { s.power with rails := t.power.rails, slaves := t.power.slaves }

theorem BoardFrame.trans {s t u : State} (h : BoardFrame s t) (h' : BoardFrame t u) : BoardFrame s u := by
  have ht : t.power = _ := h
  have hu : u.power = _ := h'
  rw [ht] at hu
  exact hu

/-- A rail beyond the main board's is cut with no reset (R354). -/
theorem railCut_board {s : State} {r : Nat} (st : Nat) (hr : 6 ≤ r) :
    (∀ k, k ≠ r → (s.railCut r st).rail k = s.rail k) ∧ BoardFrame s (s.railCut r st) := by
  rw [State.railCut, if_neg (fun h => by omega)]
  obtain ⟨-, hpower⟩ := railWord_rails (s.modRail r (fun q => { q with state := st, pg := false, limiting := false })) r cmdDisable
  split
  · refine ⟨fun k hk => ?_, ?_⟩
    · rw [rail_of_power hpower, State.modRail_ne _ _ _ hk]
    · rw [BoardFrame, hpower]
      rfl
  · exact ⟨fun k hk => State.modRail_ne _ _ _ hk, rfl⟩

/-- A rail of a group that starts again: off, its retries forgotten (R355). -/
def State.groupOff (s : State) (r : Nat) : State :=
  (if s.railOn r then s.railCut r 0 else s).modRail r (fun q => { q with state := 0, retries := 0 })

theorem groupOff_at {s : State} {r : Nat} (hr : 6 ≤ r) : ((s.groupOff r).rail r).state = 0 ∧
    (∀ k, k ≠ r → (s.groupOff r).rail k = s.rail k) ∧ BoardFrame s (s.groupOff r) := by
  obtain ⟨hother, hframe⟩ := railCut_board (s := s) 0 hr
  rw [State.groupOff]
  refine ⟨congrArg RailSt.state (State.modRail_same ..), fun k hk => ?_, ?_⟩
  · rw [State.modRail_ne _ _ _ hk]
    split
    · exact hother k hk
    · rfl
  · split
    · exact BoardFrame.trans (t := s.railCut r 0) hframe rfl
    · exact rfl

theorem groupOffs_at {l : List Nat} (hl : l.Nodup) (h6 : ∀ r ∈ l, 6 ≤ r) (s : State) :
    (∀ r ∈ l, ((l.foldl State.groupOff s).rail r).state = 0) ∧
      (∀ k, k ∉ l → (l.foldl State.groupOff s).rail k = s.rail k) ∧ BoardFrame s (l.foldl State.groupOff s) := by
  induction l generalizing s with
  | nil => exact ⟨fun r hr => (List.not_mem_nil hr).elim, fun _ _ => rfl, rfl⟩
  | cons x l ih =>
    obtain ⟨hx, hl⟩ := List.nodup_cons.mp hl
    obtain ⟨hoff, hother, hframe⟩ := groupOff_at (s := s) (h6 x List.mem_cons_self)
    obtain ⟨hoffs, hothers, hframe'⟩ := ih hl (fun r hr => h6 r (List.mem_cons_of_mem _ hr)) (s.groupOff x)
    refine ⟨fun r hr => ?_, fun k hk => ?_, hframe.trans hframe'⟩
    · rcases List.mem_cons.mp hr with rfl | hr
      · rw [List.foldl_cons, hothers r hx]
        exact hoff
      · exact hoffs r hr
    · rw [List.mem_cons, not_or] at hk
      rw [List.foldl_cons, hothers k hk.2, hother k hk.1]

theorem railEnable_board (s : State) (r : Nat) : BoardFrame s (s.railEnable r) := by
  rw [State.railEnable, BoardFrame, (railWord_rails _ _ _).2]
  rfl

theorem boardRails_high {b r : Nat} (hb : b ≠ 0) (hr : r ∈ boardRails b) : 6 ≤ r := by
  by_contra hlt
  obtain ⟨hboard, -⟩ := mem_boardRails.mp hr
  have hzero : ∀ r < 6, railBoard r = 0 := by decide
  exact hb (hboard ▸ hzero r (by omega))

theorem boardRails_nodup (b : Nat) : (boardRails b).Nodup := List.nodup_range.filter _

theorem boardFeed_mem {b : Nat} (hb : 1 ≤ b ∧ b ≤ 3) : boardFeed b ∈ boardRails b := by
  obtain rfl | rfl | rfl : b = 1 ∨ b = 2 ∨ b = 3 := by omega
  all_goals decide

theorem board_of_held {s : State} {b : Nat} (h : s.boardHeld b = true) : 1 ≤ b ∧ b ≤ 3 := by
  rw [State.boardHeld, Bool.and_eq_true, Bool.and_eq_true, decide_eq_true_eq, decide_eq_true_eq] at h
  exact h.1

/-- The held board released, its result BUSY (R355). -/
def State.groupFree (s : State) (b : Nat) : State :=
  s.modPower (fun p => { p with boardsOff := setBit 3 p.boardsOff (b - 1) false, result := psvBusy })

theorem psvRestartGroup_starts {s : State} {b : Nat} (hb : b ≠ 0) (hl : s.power.latch = false) (hoff : s.wholeOff = false)
    (hheld : s.boardHeld b = true) (hslave : (s.slave (b - 1)).state ≠ 2) :
    s.psvRestartGroup b = ((boardRails b).foldl State.groupOff (s.groupFree b)).railEnable (boardFeed b) := by
  rw [State.psvRestartGroup, if_neg (by simp [hb, hl, hoff]), if_neg (by simp [hheld]), if_neg hslave]
  rfl

theorem psvRestartGroup_at {s : State} {b : Nat} (hb : b ≠ 0) (hl : s.power.latch = false) (hoff : s.wholeOff = false)
    (hheld : s.boardHeld b = true) (hslave : (s.slave (b - 1)).state ≠ 2) :
    (s.psvRestartGroup b).boardHeld b = false ∧ (s.psvRestartGroup b).power.result = 3 ∧
      ((s.psvRestartGroup b).rail (boardFeed b)).state = 1 ∧
      (∀ r, r ∈ boardRails b → r ≠ boardFeed b → ((s.psvRestartGroup b).rail r).state = 0) ∧
      (∀ r, r ∉ boardRails b → (s.psvRestartGroup b).rail r = s.rail r) := by
  have hrange := board_of_held hheld
  obtain ⟨hoffs, hothers, hframe⟩ := groupOffs_at (boardRails_nodup b) (fun r hr => boardRails_high hb hr)
    (s.groupFree b)
  rw [psvRestartGroup_starts hb hl hoff hheld hslave]
  generalize (boardRails b).foldl State.groupOff (s.groupFree b) = t at hoffs hothers hframe
  obtain ⟨hstate, -, hkept, -⟩ := railEnable_at t (boardFeed b)
  have hpower : (t.railEnable (boardFeed b)).power = _ := hframe.trans (railEnable_board t (boardFeed b))
  refine ⟨?_, ?_, hstate, fun r hr hne => ?_, fun r hr => ?_⟩
  · have hfree : (setBit 3 s.power.boardsOff (b - 1) false).getLsbD (b - 1) = false := setBit_same 3 _ _ (by omega)
    rw [State.boardHeld, hpower]
    exact (congrArg (fun x => (1 ≤ b && b ≤ 3) && x) hfree).trans (Bool.and_false _)
  · rw [hpower]
    rfl
  · rw [hkept r hne]
    exact hoffs r hr
  · rw [hkept r (fun h => hr (h ▸ boardFeed_mem hrange))]
    exact hothers r hr

/-- A rail's counters at 0 (R365). -/
def zeroCounts (q : RailSt) : RailSt := { q with uvWarn := 0, uvFault := 0, ovWarn := 0, ovFault := 0, retry := 0 }

theorem psvClearCounters_eq (s : State) :
    s.psvClearCounters = ((List.range 16).foldl (fun s r => s.modRail r zeroCounts) s).psvResult 1 := rfl

theorem psvResult_rail (s : State) (n k : Nat) : (s.psvResult n).rail k = s.rail k := rfl

theorem psvResult_frame {s t : State} {n : Nat} (h : t = { s with power := { s.power with rails := t.power.rails } }) :
    t.psvResult n = { s with power := { s.power with rails := (t.psvResult n).power.rails, result := n } } := by
  rw [h]
  rfl

theorem psvClearCounters_at (s : State) : (∀ r, r < 16 → s.psvClearCounters.rail r = zeroCounts (s.rail r)) ∧
    s.psvClearCounters = { s with power := { s.power with rails := s.psvClearCounters.power.rails, result := 1 } } := by
  obtain ⟨hin, -, hframe⟩ := zero_rails zeroCounts (List.range 16) s List.nodup_range
  rw [psvClearCounters_eq]
  refine ⟨fun r hr => ?_, psvResult_frame hframe⟩
  rw [psvResult_rail]
  exact hin r (List.mem_range.mpr hr)

theorem settleAcc_at (s : State) {k : Nat} (hk : k < 2) :
    (bitAt (s.reg .ACC_CONTROL) k = true → 2 ≤ s.mode → (s.rail (14 + k)).state = 0 → (s.settleAcc.rail (14 + k)).state = 1) ∧
    (bitAt (s.reg .ACC_CONTROL) k = false → (s.rail (14 + k)).state ≠ 6 → (s.settleAcc.rail (14 + k)).state = 0) ∧
    s.settleAcc.power.accLatched = s.power.accLatched := by
  obtain ⟨hreg, hmode, hlatch, hother, hon, hoff⟩ := accOne_at s 0
  obtain ⟨-, -, hlatch', hother', hon', hoff'⟩ := accOne_at (accOne s 0) 1
  have hsettle : s.settleAcc = accOne (accOne s 0) 1 := rfl
  rw [hreg] at hon' hoff'
  rw [hmode] at hon'
  rw [hsettle]
  obtain rfl | rfl : k = 0 ∨ k = 1 := by omega
  · rw [hother' 0 (by decide)]
    exact ⟨hon, hoff, hlatch'.trans hlatch⟩
  · rw [hother 1 (by decide)] at hon' hoff'
    exact ⟨hon', hoff', hlatch'.trans hlatch⟩

theorem accClears_at (old v : Word) (s : State) {k : Nat} (hk : k < 2) :
    ((List.range 2).foldl (accClear old v) s).reg .ACC_CONTROL = s.reg .ACC_CONTROL ∧
    ((List.range 2).foldl (accClear old v) s).mode = s.mode ∧
    (bitAt v k = false ∨ bitAt old k = true ∨ s.power.accLatched.getLsbD k = false →
      ((List.range 2).foldl (accClear old v) s).rail (14 + k) = s.rail (14 + k)) ∧
    (bitAt v k = true → bitAt old k = false → s.power.accLatched.getLsbD k = true →
      (((List.range 2).foldl (accClear old v) s).rail (14 + k)).state = 0 ∧
      ((List.range 2).foldl (accClear old v) s).power.accLatched.getLsbD k = false) := by
  obtain ⟨hreg, hmode, hother, hkept, hclear⟩ := accClear_at old v s 0 (by decide)
  obtain ⟨hreg', hmode', hother', hkept', hclear'⟩ := accClear_at old v (accClear old v s 0) 1 (by decide)
  have hfold : (List.range 2).foldl (accClear old v) s = accClear old v (accClear old v s 0) 1 := rfl
  rw [hfold]
  refine ⟨hreg'.trans hreg, hmode'.trans hmode, ?_⟩
  obtain rfl | rfl : k = 0 ∨ k = 1 := by omega
  · rw [(hother' 0 (by decide)).1, (hother' 0 (by decide)).2]
    exact ⟨hkept, hclear⟩
  · rw [(hother 1 (by decide)).2] at hkept' hclear'
    rw [(hother 1 (by decide)).1] at hkept'
    exact ⟨hkept', hclear'⟩

/-- What a write of ACC_CONTROL leaves of output `k` (R352, R368). -/
theorem wroteAcc_at (old v : Word) (s : State) {k : Nat} (hk : k < 2) (hv : bitAt (s.reg .ACC_CONTROL) k = bitAt v k)
    (hm : 2 ≤ s.mode) :
    (bitAt v k = false → (s.rail (14 + k)).state ≠ 6 → ((s.wroteAcc old v).rail (14 + k)).state = 0) ∧
    (bitAt v k = true → (s.rail (14 + k)).state = 0 → ((s.wroteAcc old v).rail (14 + k)).state = 1) ∧
    (bitAt v k = true → bitAt old k = false → s.power.accLatched.getLsbD k = true →
      ((s.wroteAcc old v).rail (14 + k)).state = 1 ∧ (s.wroteAcc old v).power.accLatched.getLsbD k = false) := by
  have hwrote : s.wroteAcc old v = ((List.range 2).foldl (accClear old v) s).settleAcc := rfl
  obtain ⟨hreg, hmode, hkept, hclear⟩ := accClears_at old v s hk
  rw [hwrote]
  generalize (List.range 2).foldl (accClear old v) s = t at hreg hmode hkept hclear ⊢
  obtain ⟨hon, hoff, hlatch⟩ := settleAcc_at t hk
  rw [hreg, hv] at hon hoff
  rw [hmode] at hon
  refine ⟨fun hb h6 => hoff hb ((hkept (.inl hb)).symm ▸ h6), fun hb h0 => hon hb hm ?_, fun hb ho hl => ?_⟩
  · by_cases hcut : bitAt old k = true ∨ s.power.accLatched.getLsbD k = false
    · rw [hkept (.inr hcut)]
      exact h0
    · rw [not_or, Bool.not_eq_true, Bool.not_eq_false] at hcut
      exact (hclear hb hcut.1 hcut.2).1
  · obtain ⟨hzero, hbit⟩ := hclear hb ho hl
    exact ⟨hon hb hm hzero, hlatch ▸ hbit⟩

/-- The standby supply up: TB at 0 and the rail on, before the boards are polled (R373). -/
def State.standbyRisen (s : State) : State :=
  { s with
    power := ((s.modPower (fun p => { p with standby := true, state := 0, mainsDown := false })).modRail 13
      (fun q => { q with state := 2 })).power
    time := { s.time with tb := 0, lfclk := true, lfAcc := 0 }
    boot := { s.boot with buttonHeld := s.chassis.button, nextCause := 0 } }

theorem standbyRisen_rail (s : State) : s.standbyRisen.rail 13 = { s.rail 13 with state := 2 } :=
  mapGet_mapUpdate_same default s.power.rails 13 (fun q => { q with state := 2 })

theorem polls_frame (l : List Nat) (s : State) (c d : Nat) :
    PowerFrame s (l.foldl (fun s b => s.sendSlave (b + 1) c d) s) ∧
      (l.foldl (fun s b => s.sendSlave (b + 1) c d) s).power =
        { s.power with slaves := (l.foldl (fun s b => s.sendSlave (b + 1) c d) s).power.slaves } := by
  induction l generalizing s with
  | nil => exact ⟨rfl, rfl⟩
  | cons b l ih =>
    obtain ⟨hframe, hpower⟩ := sendSlave_rails s (b + 1) c d
    obtain ⟨hframe', hpower'⟩ := ih (s.sendSlave (b + 1) c d)
    refine ⟨hframe.trans hframe', ?_⟩
    rw [hpower] at hpower'
    exact hpower'

theorem standbyUp_all {s : State} (h : s.power.standby = false) :
    s.standbyUp 7 = (List.range 3).foldl (fun s b => s.sendSlave (b + 1) cmdNop 0) s.standbyRisen := by
  rw [State.standbyUp, if_neg (by simp [h])]
  rfl

/-- The rails' counters that the FRAM keeps, from the first `n` of `m` (R364). -/
def keptRails (m : SMap RailSt) (n : Nat) : SMap RailSt :=
  (List.range n).foldl (fun k r => mapSet default k r (keepCounts (mapGet default m r))) []

theorem keptRails_at (m : SMap RailSt) {n k : Nat} (hk : k < n) :
    mapGet default (keptRails m n) k = keepCounts (mapGet default m k) := by
  induction n with
  | zero => exact (Nat.not_lt_zero k hk).elim
  | succ n ih =>
    have hsucc : keptRails m (n + 1) = mapSet default (keptRails m n) n (keepCounts (mapGet default m n)) := by
      rw [keptRails, List.range_succ, List.foldl_append]
      rfl
    rw [hsucc, mapGet_mapSet]
    split
    next h => rw [h]
    next h => exact ih (by omega)

/-- What the supervisor keeps of its state when the standby supply goes (R364, R373). -/
def State.keptPower (s : State) : PowerSt :=
  { (default : PowerSt) with
    rails := keptRails s.power.fram.rails 16, psus := s.power.psus, pos := s.power.fram.pos
    mainsLoss := s.power.fram.mainsLoss, startFail := s.power.fram.startFail, sysReset := s.power.fram.sysReset
    pfwCount := s.power.fram.pfwCount, trips := s.power.fram.trips, first := s.power.fram.first }

theorem keptPower_at (s : State) : s.keptPower.standby = false ∧ s.keptPower.latch = false ∧
    s.keptPower.first = s.power.fram.first ∧ s.keptPower.pos = s.power.fram.pos ∧
    s.keptPower.trips = s.power.fram.trips ∧
    ∀ r, r < 16 → mapGet default s.keptPower.rails r = keepCounts (mapGet default s.power.fram.rails r) :=
  ⟨rfl, rfl, rfl, rfl, rfl, fun _ hr => keptRails_at _ hr⟩

theorem standbyLost_eq (s : State) : s.standbyLost = { s.systemReset false with
    power := s.keptPower, regs := s.nv
    time := { (s.systemReset false).time with tb := 0, lfclk := false, lfAcc := 0 }
    boot := { (default : BootSt) with inReset := true } } := rfl

theorem standbyLost_at (s : State) : s.standbyLost.power = s.keptPower ∧ s.standbyLost.regs = s.nv ∧
    s.standbyLost.boot.inReset = true ∧ s.standbyLost.time.tb = 0 ∧ s.standbyLost.store.mem = [] ∧
    s.standbyLost.net.secret = s.net.secret := by
  have hmem : (s.systemReset false).store.mem = [] := rfl
  have hsecret : (s.systemReset false).net.secret = s.net.secret := rfl
  rw [standbyLost_eq]
  exact ⟨rfl, rfl, rfl, rfl, hmem, hsecret⟩

/-- Settles O56: each command by its own operation. -/
theorem powerCommands : Obligations.PowerCommands := by
  refine ⟨?latch, ?latchOther, ?record, ?counters, ?refused, ?restart, ?acc, ?isUp, ?up, ?lost⟩
  case latch =>
    intro s h
    have hstep := (exec_clearLatch h).trans (congrArg Host.Outcome.next (psvClearLatch_usb (s.psvWritten 1)))
    exact ⟨(s.psvWritten 1).latchCleared, hstep, rfl, rfl, rfl, rfl, rfl⟩
  case latchOther =>
    intro s acc hne h
    refine ⟨_, (exec_clearLatch h).trans (congrArg Host.Outcome.next (if_neg ?_)), rfl, rfl, rfl⟩
    exact fun h' => hne (beq_iff_eq.mp h')
  case record => exact fun s acc h => ⟨_, exec_clearRecord h, rfl, rfl⟩
  case counters =>
    intro s acc h
    obtain ⟨hrails, hframe⟩ := psvClearCounters_at (s.psvWritten 3)
    refine ⟨_, exec_clearCounters h, hrails, (congrArg (fun t : State => t.power.result) hframe :), ?_⟩
    generalize (s.psvWritten 3).psvClearCounters = t at hframe
    rw [hframe]
    rfl
  case refused =>
    intro s acc b h hr
    refine ⟨_, (exec_restartGroup b h).trans (congrArg Host.Outcome.next (psvRestartGroup_refused hr)), rfl⟩
  case restart =>
    intro s acc b h hb hl hoff hheld hslave
    exact ⟨_, exec_restartGroup b h, psvRestartGroup_at (s := s.psvWritten (wordOf (4 + 256 * b.val))) hb hl hoff hheld hslave⟩
  case acc =>
    intro s acc v k h hm
    have hmode : 2 ≤ s.mode := by
      rw [State.mode]
      split
      · decide
      · exact hm.ge
    have hbit : bitAt (s.keptValue .ACC_CONTROL 0 v) k.val = bitAt v k.val :=
      bitAt_and_mask v _ _ (by revert k; decide)
    have hstep : exec (.accControlWrite acc v) s =
        .next ((s.written .ACC_CONTROL 0 0 v).wroteAcc (s.reg .ACC_CONTROL) (s.keptValue .ACC_CONTROL 0 v)) :=
      congrArg Host.Outcome.next (writeCmd_next v h (by decide) (by decide) rfl rfl)
    obtain ⟨hoff, hon, hclear⟩ := wroteAcc_at (s.reg .ACC_CONTROL) (s.keptValue .ACC_CONTROL 0 v)
      (s.written .ACC_CONTROL 0 0 v) k.isLt (by rw [written_reg_same]) hmode
    rw [hbit] at hoff hon hclear
    exact ⟨fun hb h6 => ⟨_, hstep, hoff hb h6⟩, fun hb h0 => ⟨_, hstep, hon hb h0⟩,
      fun hb ho hl => ⟨_, hstep, hclear hb ho hl⟩⟩
  case isUp => exact fun s a h => congrArg Host.Outcome.next (if_pos h)
  case up =>
    intro s h
    obtain ⟨hframe, hpower⟩ := polls_frame (List.range 3) s.standbyRisen cmdNop 0
    have hrail := rail_of_power hpower 13
    refine ⟨_, congrArg Host.Outcome.next (standbyUp_all h), ?_⟩
    generalize (List.range 3).foldl _ s.standbyRisen = t at hframe hpower hrail ⊢
    refine ⟨(congrArg PowerSt.standby hpower :), (congrArg PowerSt.state hpower :),
      (congrArg (fun t : State => t.time.tb) hframe :), (congrArg (fun t : State => t.boot.buttonHeld) hframe :),
      (congrArg (fun t : State => t.boot.nextCause) hframe :), ?_, (congrArg PowerSt.latch hpower :)⟩
    rw [hrail]
    exact congrArg RailSt.state (standbyRisen_rail s)
  case lost =>
    intro s
    obtain ⟨hpower, hregs, hboot, htime, hmem, hsecret⟩ := standbyLost_at s
    obtain ⟨hstandby, hlatch, hfirst, hpos, htrips, hrails⟩ := keptPower_at s
    rw [← hpower] at hstandby hlatch hfirst hpos htrips
    refine ⟨_, rfl, hstandby, hlatch, hfirst, hpos, htrips, hregs, hboot, htime, hmem, hsecret, fun r hr => ?_, fun h => ?_⟩
    · have hrail : s.standbyLost.rail r = keepCounts (mapGet default s.power.fram.rails r) :=
        (congrArg (fun p : PowerSt => mapGet default p.rails r) hpower).trans (hrails r hr)
      rw [hrail]
      exact ⟨rfl, rfl, rfl⟩
    · have hfram : s.power.fram = s.power.toFram := by rw [PowerSt.fram, h]; rfl
      exact ⟨hfirst.trans (congrArg Fram.first hfram), hpos.trans (congrArg Fram.pos hfram)⟩

end Sys2Proof.Machine

/-! PROOFS. Bring-up and resets: clocks, the warm reset, the boot ROM, training and the Ledger's own commands
(R105, R370, R371, R374, R376, R384, R397, R408). -/

namespace Sys2Proof.Machine

theorem vco_locks {s : State} (hr : s.released = true) (hl : s.boot.vcoLock = false) :
    s.vco true = (s.modBoot (fun b => { b with vcoLock := true, clocks := true })).stepEnds 5 := by
  simp [State.vco, hr, hl]

theorem vco_still {s : State} {b : Bool} (h : s.released = false ∨ s.boot.vcoLock = true ∨ b = false) : s.vco b = s := by
  rw [State.vco]
  split
  · rfl
  · rcases h with h | h | h <;> simp_all

/-- A reset breaks off a PROGRAM, and reaches nothing but the flash slots by it (R41, R374). -/
theorem breakProgram_frame (s : State) :
    s.breakProgram = { s with pat := s.breakProgram.pat, freeCount := s.breakProgram.freeCount } := by
  rw [State.breakProgram]
  split
  · rfl
  · split
    · split
      · rw [State.spoilSlot]
        dsimp only [State.setFlash]
        split <;> rfl
      · rfl
    · rfl

theorem breakProgram_idle {s : State} (h : ∀ op, s.pat.op = some op → op.kind ≠ .program) : s.breakProgram = s := by
  rw [State.breakProgram]
  split
  · rfl
  next op hop => exact if_neg (h op hop)

theorem accOff_rail (s : State) {r : Nat} (hr : r < 14) : s.accOff.rail r = s.rail r := by
  rw [State.accOff, State.modRail_ne _ _ _ (by omega), State.modRail_ne _ _ _ (by omega)]

theorem systemReset_rail (s : State) (warm : Bool) {r : Nat} (hr : r < 14) : (s.systemReset warm).rail r = s.rail r := by
  have hacc : (s.systemReset warm).rail r = s.breakProgram.resetRegs.accOff.rail r := rfl
  have hregs : s.breakProgram.resetRegs.rail r = s.breakProgram.rail r := rfl
  rw [hacc, accOff_rail _ hr, hregs, breakProgram_frame]
  rfl

theorem systemReset_nv (s : State) (warm : Bool) : (s.systemReset warm).nv = s.nv := by
  have hnv : (s.systemReset warm).nv = s.breakProgram.nv := rfl
  rw [hnv, breakProgram_frame]

theorem systemReset_slots {s : State} (warm : Bool) (h : ∀ op, s.pat.op = some op → op.kind ≠ .program) :
    (s.systemReset warm).pat.slotA = s.pat.slotA ∧ (s.systemReset warm).pat.slotB = s.pat.slotB := by
  have hslots : (s.systemReset warm).pat.slotA = s.breakProgram.pat.slotA ∧
      (s.systemReset warm).pat.slotB = s.breakProgram.pat.slotB := ⟨rfl, rfl⟩
  rw [breakProgram_idle h] at hslots
  exact hslots

theorem systemReset_slaves (s : State) (warm : Bool) : (s.systemReset warm).power.slaves = s.power.slaves ∧
    (s.systemReset warm).power.standby = s.power.standby := by
  have hpower : (s.systemReset warm).power.slaves = s.breakProgram.power.slaves ∧
      (s.systemReset warm).power.standby = s.breakProgram.power.standby := ⟨rfl, rfl⟩
  rw [breakProgram_frame] at hpower
  exact hpower

/-- What the poll of one board leaves to the polls after it. -/
def PollFrame (s t : State) : Prop :=
  (∀ k, (t.slave k).state = (s.slave k).state) ∧ t.power.standby = s.power.standby ∧ ∀ m ∈ s.wire, m ∈ t.wire

theorem sendSlave_poll (s : State) (b c d : Nat) : PollFrame s (s.sendSlave b c d) := by
  rw [State.sendSlave]
  split
  · exact ⟨fun _ => rfl, rfl, fun _ h => h⟩
  · refine ⟨fun k => ?_, rfl, fun m h => List.mem_append_left _ h⟩
    by_cases hk : k = b - 1
    · rw [hk]
      exact (congrArg SlaveSt.state (State.modSlave_same ..) :)
    · exact (congrArg SlaveSt.state (State.modSlave_ne s (b - 1) _ hk) :)

theorem sendSlaves_wire (l : List Nat) (c d : Nat) {s : State} (hs : s.power.standby = true) :
    (∀ m ∈ s.wire, m ∈ (l.foldl (fun s b => s.sendSlave (b + 1) c d) s).wire) ∧
      ∀ b ∈ l, (s.slave b).state ≠ 2 →
        OutMsg.supervisor (boardName (b + 1)) (linkWord c d) ∈ (l.foldl (fun s b => s.sendSlave (b + 1) c d) s).wire := by
  induction l generalizing s with
  | nil => exact ⟨fun _ h => h, fun b hb => (List.not_mem_nil hb).elim⟩
  | cons x l ih =>
    obtain ⟨hstate, hstandby, hwire⟩ := sendSlave_poll s (x + 1) c d
    obtain ⟨hkept, hsent⟩ := ih (hstandby.trans hs)
    refine ⟨fun m hm => hkept m (hwire m hm), fun b hb hne => ?_⟩
    rcases List.mem_cons.mp hb with rfl | hb
    · obtain ⟨hout, -⟩ := sendSlave_at (b := b + 1) c d hs hne
      refine hkept _ ?_
      rw [hout]
      exact List.mem_append_right _ (List.mem_singleton.mpr rfl)
    · exact hsent b hb ((hstate b).symm ▸ hne)

/-- The system reset of a warm reset, with each board's reset asserted (R374). -/
def State.resetHeld (s : State) : State := (s.systemReset true).holdBoards

theorem resetHeld_eq (s : State) : s.resetHeld = { s.systemReset true with
    power := { (s.systemReset true).power with rails := s.resetHeld.power.rails, slaves := s.resetHeld.power.slaves }
    wire := s.resetHeld.wire } := (holdBoards_at (s.systemReset true)).1

theorem resetHeld_boot (s : State) : s.resetHeld.boot = resetBoot true s.boot := by
  rw [resetHeld_eq]
  rfl

theorem resetHeld_ledger (s : State) : s.resetHeld.ledger = resetLedger true s.ledger := by
  rw [resetHeld_eq]
  rfl

theorem resetHeld_rail (s : State) {r : Nat} (hr : r < 14) : s.resetHeld.rail r = s.rail r := by
  have hrails : s.resetHeld.rail r = (s.systemReset true).rail r :=
    congrArg (fun m => mapGet default m r) (holdBoards_at (s.systemReset true)).2
  rw [hrails, systemReset_rail s true hr]

theorem resetHeld_wire {s : State} {b : Nat} (hb : b < 3) (hs : s.power.standby = true) (hne : (s.slave b).state ≠ 2) :
    OutMsg.supervisor (boardName (b + 1)) (linkWord cmdBoardReset 1) ∈ s.resetHeld.wire := by
  obtain ⟨hslaves, hstandby⟩ := systemReset_slaves s true
  exact (sendSlaves_wire (List.range 3) cmdBoardReset 1 (hstandby.trans hs)).2 b (List.mem_range.mpr hb)
    ((slave_of _ hslaves b).symm ▸ hne)

theorem warmReset_eq (s : State) (cause : Nat) : s.warmReset cause =
    s.resetHeld.modBoot (fun b => { b with warmCount := satInc b.warmCount, nextCause := cause }) := rfl

/-- What a warm reset leaves of the domain (R374). -/
theorem warmReset_domain (s : State) (cause : Nat) :
    (s.warmReset cause).store.mem = [] ∧ (s.warmReset cause).heads = [] ∧ (s.warmReset cause).routes = default ∧
    (s.warmReset cause).active = [] ∧ (s.warmReset cause).net.owner = .none ∧
    (s.warmReset cause).net.secret = s.net.secret ∧ (s.warmReset cause).pat = (s.systemReset true).pat ∧
    (s.warmReset cause).nv = s.nv ∧ (s.warmReset cause).time.tb = s.time.tb := by
  rw [warmReset_eq, resetHeld_eq]
  exact ⟨rfl, rfl, rfl, rfl, rfl, rfl, rfl, systemReset_nv s true, rfl⟩

theorem warmReset_boot (s : State) (cause : Nat) : (s.warmReset cause).boot =
    { resetBoot true s.boot with warmCount := satInc s.boot.warmCount, nextCause := cause } := by
  have hboot := resetHeld_boot s
  rw [warmReset_eq]
  generalize s.resetHeld = t at hboot ⊢
  exact (congrArg (fun b : BootSt => { b with warmCount := satInc b.warmCount, nextCause := cause }) hboot :)

theorem warmReset_ledger (s : State) (cause : Nat) : (s.warmReset cause).ledger = resetLedger true s.ledger := by
  have hledger := resetHeld_ledger s
  rw [warmReset_eq]
  generalize s.resetHeld = t at hledger ⊢
  exact hledger

theorem warmReset_rail (s : State) (cause : Nat) {r : Nat} (hr : r < 14) : (s.warmReset cause).rail r = s.rail r := by
  have hrail := resetHeld_rail s hr
  rw [warmReset_eq]
  generalize s.resetHeld = t at hrail ⊢
  exact hrail

theorem warmReset_wire {s : State} (cause : Nat) {b : Nat} (hb : b < 3) (hs : s.power.standby = true)
    (hne : (s.slave b).state ≠ 2) :
    OutMsg.supervisor (boardName (b + 1)) (linkWord cmdBoardReset 1) ∈ (s.warmReset cause).wire := by
  have hwire := resetHeld_wire hb hs hne
  rw [warmReset_eq]
  generalize s.resetHeld = t at hwire ⊢
  exact hwire

section ClockFaults

/-- The clock faults of the last minute, this one among them (R371). -/
def State.faultsNow (s : State) : List Nat :=
  s.boot.faults.filter (fun x => decide (s.time.tb.toNat - x ≤ 6000000000)) ++ [s.time.tb.toNat]

/-- The unit after a clock fault, before its record (R371). -/
def State.clockFailed (s : State) : State :=
  if 3 ≤ s.faultsNow.length then
    (s.modBoot (fun b => { b with faults := s.faultsNow })).resetHeld.modBoot (fun b => { b with held := true })
  else (s.modBoot (fun b => { b with faults := s.faultsNow })).warmReset 4

theorem clockFault_resets {s : State} {c d : Nat} (hc : c ≠ 5) (hclocks : s.boot.clocks = true)
    (hr : s.boot.inReset = false) : s.clockFault c d =
      s.clockFailed.record' (mkEntry s 0x1B classD d (if c = 6 then 0xFF else c) none false) :=
  if_neg (by simp [hc, hclocks, hr])

theorem clockFailed_at (s : State) : s.clockFailed.boot.inReset = true ∧ s.clockFailed.boot.clocks = false ∧
    s.clockFailed.ledger.entries = s.ledger.entries ∧ s.clockFailed.boot.faults = s.faultsNow ∧
    (s.clockFailed.boot.faults.length < 3 → s.clockFailed.boot.nextCause = 4 ∧ s.clockFailed.boot.held = s.boot.held ∧
      s.clockFailed.boot.warmCount = satInc s.boot.warmCount) ∧
    (3 ≤ s.clockFailed.boot.faults.length → s.clockFailed.boot.held = true) := by
  have hheld := resetHeld_boot (s.modBoot (fun b => { b with faults := s.faultsNow }))
  have hheld' := resetHeld_ledger (s.modBoot (fun b => { b with faults := s.faultsNow }))
  have hwarm := warmReset_boot (s.modBoot (fun b => { b with faults := s.faultsNow })) 4
  have hwarm' := warmReset_ledger (s.modBoot (fun b => { b with faults := s.faultsNow })) 4
  rw [State.clockFailed]
  split
  next h3 =>
    generalize (s.modBoot (fun b => { b with faults := s.faultsNow })).resetHeld = t at hheld hheld' ⊢
    have hfaults : t.boot.faults = s.faultsNow := (congrArg BootSt.faults hheld :)
    exact ⟨(congrArg BootSt.inReset hheld :), (congrArg BootSt.clocks hheld :), (congrArg LedgerSt.entries hheld' :), hfaults,
      fun hlt => absurd h3 (Nat.not_le.mpr (hfaults ▸ hlt)), fun _ => rfl⟩
  next h3 =>
    generalize (s.modBoot (fun b => { b with faults := s.faultsNow })).warmReset 4 = t at hwarm hwarm' ⊢
    have hfaults : t.boot.faults = s.faultsNow := (congrArg BootSt.faults hwarm :)
    exact ⟨(congrArg BootSt.inReset hwarm :), (congrArg BootSt.clocks hwarm :), (congrArg LedgerSt.entries hwarm' :), hfaults,
      fun _ => ⟨(congrArg BootSt.nextCause hwarm :), (congrArg BootSt.held hwarm :), (congrArg BootSt.warmCount hwarm :)⟩,
      fun hge => absurd (hfaults ▸ hge) h3⟩

end ClockFaults

theorem retryBringUp_again {s : State} (hr : s.released = true) (hstep : s.boot.step < 6) : s.retryBringUp =
    s.resetHeld.modBoot (fun b => { b with attempts := b.attempts + 1, held := decide (2 ≤ b.attempts) }) :=
  if_neg (by simp [hr, hstep])

/-- A bring-up tried again: the third failure holds the unit in reset (R370). -/
theorem resetHeld_again (s : State) :
    (s.resetHeld.modBoot (fun b => { b with attempts := b.attempts + 1, held := decide (2 ≤ b.attempts) })).boot.inReset = true ∧
    (s.resetHeld.modBoot (fun b => { b with attempts := b.attempts + 1, held := decide (2 ≤ b.attempts) })).boot.attempts =
      s.boot.attempts + 1 ∧
    ((s.resetHeld.modBoot (fun b => { b with attempts := b.attempts + 1, held := decide (2 ≤ b.attempts) })).boot.held = true ↔
      2 ≤ s.boot.attempts) ∧
    (s.resetHeld.modBoot (fun b => { b with attempts := b.attempts + 1, held := decide (2 ≤ b.attempts) })).ledger.entries =
      s.ledger.entries := by
  have hboot := resetHeld_boot s
  have hledger := resetHeld_ledger s
  generalize s.resetHeld = t at hboot hledger ⊢
  have hattempts : t.boot.attempts = s.boot.attempts := (congrArg BootSt.attempts hboot :)
  refine ⟨(congrArg BootSt.inReset hboot :), congrArg Nat.succ hattempts, ?_, (congrArg LedgerSt.entries hledger :)⟩
  rw [← hattempts]
  exact decide_eq_true_iff

section Registers
variable {s : State} {acc : Accessor} {v : Word}

theorem exec_warmReset (h : s.Accepts acc .RESET_CONTROL) : exec (.warmReset acc v) s =
    .next (if bitAt v 0 && fld v 16 16 == 0x5A5A then (s.written .RESET_CONTROL 0 0 v).warmReset 3
      else s.written .RESET_CONTROL 0 0 v) := by
  rw [← k1 v, ← k2 v]
  exact congrArg Host.Outcome.next (writeCmd_next v h (by decide) (by decide) rfl rfl)

theorem exec_ledgerClear (h : s.Accepts acc .LEDGER_CONTROL) : exec (.ledgerClear acc v) s =
    .next (if bitAt v 0 && fld v 16 16 == 0x4C44 then (s.written .LEDGER_CONTROL 0 0 v).clearLedger
      else s.written .LEDGER_CONTROL 0 0 v) := by
  rw [← k1 v, ← k2 v]
  exact congrArg Host.Outcome.next (writeCmd_next v h (by decide) (by decide) rfl rfl)

theorem keyed_not {k : Nat} (h : bitAt v 0 = false ∨ fld v 16 16 ≠ k) : ¬(bitAt v 0 && fld v 16 16 == k) = true := by
  rcases h with h | h <;> simp [h]

end Registers

/-- The registers released, the Ledger coming up (R370, R376). -/
def State.registersUp (s : State) (usbPhyOk : Bool) : State :=
  { s with
    boot := { s.boot with regsUp := true, usbPhyOk := usbPhyOk, attempts := 0 }
    time := { s.time with gpiState := s.time.gpiIn } }

theorem bootRom_ready {s : State} (b : Bool) (h : s.bootReady = true) : s.bootRom true b =
    if b then (s.registersUp b).ledgerUp.stepEnds 6 else ((s.registersUp b).ledgerUp.stepEnds 6).record 0x1A classC [] 0 :=
  if_neg (by simp [h])

theorem bootRom_still {s : State} {a b : Bool} (h : s.bootReady = false ∨ a = false) : s.bootRom a b = s := if_pos h

/-- The Ledger up: what the supervisor held is written, and nothing is held any more (R393). -/
theorem ledgerUp_at (s : State) : s.ledgerUp.boot = s.boot ∧ s.ledgerUp.time = s.time ∧ s.ledgerUp.ledger.up = true ∧
    s.ledgerUp.power.heldRecords = [] := by
  have hfold := recFold (sortBy (fun (e : Entry) => e.tb.toNat) (s.ledger.held ++ s.power.heldRecords))
    (({ s with ledger := { s.ledger with
      up := true, held := [], overflow := min max32 (s.ledger.overflow + s.power.lostRecords)
      countD := min max32 (s.ledger.countD + s.power.lostRecords) } } : State).modPower
        (fun p => { p with heldRecords := [], lostRecords := 0 }))
  rw [State.ledgerUp]
  exact ⟨hfold.boot, hfold.time, hfold.up, congrArg PowerSt.heldRecords hfold.power⟩

theorem bootRom_at {s : State} (b : Bool) (h : s.bootReady = true) : (s.bootRom true b).boot.regsUp = true ∧
    (s.bootRom true b).boot.step = 6 ∧ (s.bootRom true b).boot.usbPhyOk = b ∧ (s.bootRom true b).boot.attempts = 0 ∧
    (s.bootRom true b).ledger.up = true ∧ (s.bootRom true b).power.heldRecords = [] ∧
    (s.bootRom true b).time.gpiState = s.time.gpiIn := by
  obtain ⟨hboot, htime, hup, hheld⟩ := ledgerUp_at (s.registersUp b)
  rw [bootRom_ready b h]
  generalize (s.registersUp b).ledgerUp = t at hboot htime hup hheld ⊢
  have hstep : (t.stepEnds 6).boot.regsUp = true ∧ (t.stepEnds 6).boot.step = 6 ∧ (t.stepEnds 6).boot.usbPhyOk = b ∧
      (t.stepEnds 6).boot.attempts = 0 ∧ (t.stepEnds 6).ledger.up = true ∧ (t.stepEnds 6).power.heldRecords = [] ∧
      (t.stepEnds 6).time.gpiState = s.time.gpiIn :=
    ⟨(congrArg BootSt.regsUp hboot :), rfl, (congrArg BootSt.usbPhyOk hboot :), (congrArg BootSt.attempts hboot :), hup, hheld,
      (congrArg TimeSt.gpiState htime :)⟩
  split
  · exact hstep
  · have hrecord : EventFrame (t.stepEnds 6) ((t.stepEnds 6).record 0x1A classC [] 0) := record_frame ..
    rw [hrecord.boot, hrecord.up, hrecord.power, hrecord.time]
    exact hstep

section Training

/-- The channels after training, in the order of the walk (R105). -/
def State.trained (s : State) (tr : BitVec 8) (m : List (BitVec 16)) : State :=
  (List.range 8).foldl (State.trainChannel tr m) s

variable {s : State} {tr : BitVec 8} {m : List (BitVec 16)}

theorem trained_at (h : ∀ c, (s.channel c).state ≠ 3 ∧ (s.channel c).state ≠ 4) :
    (∀ c, c < 8 → ((s.trained tr m).channel c).state = if tr.getLsbD c = true then 2 else 4) ∧
      (s.trained tr m).boot = s.boot ∧ (s.trained tr m).pat = s.pat ∧
      (s.trained tr m).channelsInService = (List.range 8).filter (fun c => tr.getLsbD c) := by
  obtain ⟨hstate, -, hboot, hpat⟩ := trains_at tr m (List.range 8) s List.nodup_range (fun c _ => h c)
  have hchannel : ∀ c, c < 8 → ((s.trained tr m).channel c).state = if tr.getLsbD c = true then 2 else 4 :=
    fun c hc => hstate c (List.mem_range.mpr hc)
  refine ⟨hchannel, hboot, hpat, List.filter_congr fun c hc => ?_⟩
  rw [hchannel c (List.mem_range.mp hc)]
  cases tr.getLsbD c <;> rfl

/-- The Store mapped over the channels that passed (R104, R105). -/
def State.trainedMap (s : State) (tr : BitVec 8) (m : List (BitVec 16)) : State :=
  (s.trained tr m).mapStore (s.trained tr m).channelsInService

theorem trainedMap_at (h : ∀ c, (s.channel c).state ≠ 3 ∧ (s.channel c).state ≠ 4) :
    (s.trainedMap tr m).store.chanList = (List.range 8).filter (fun c => tr.getLsbD c) ∧
      (s.trainedMap tr m).store.mem = [] ∧ (s.trainedMap tr m).boot = s.boot ∧ (s.trainedMap tr m).pat = s.pat ∧
      ∀ c, c < 8 → ((s.trainedMap tr m).channel c).state = if tr.getLsbD c = true then 2 else 4 := by
  obtain ⟨hstate, hboot, hpat, hservice⟩ := trained_at (tr := tr) (m := m) h
  rw [State.trainedMap]
  generalize s.trained tr m = t at hstate hboot hpat hservice ⊢
  obtain ⟨hlist, hmem, hchannel, hboot', hpat'⟩ := map_at t t.channelsInService (fun c hc => by
    rw [hstate c hc]
    split <;> decide)
  exact ⟨hlist.trans hservice, hmem, hboot'.trans hboot, hpat'.trans hpat, fun c hc => by rw [hchannel, hstate c hc]⟩

theorem trainingDone_still (h : s.boot.regsUp = false ∨ s.boot.step ≠ 6 ∨ s.pat.filling = true) :
    s.trainingDone' tr m = s := if_pos h

theorem trainingDone_runs (hr : s.boot.regsUp = true) (h6 : s.boot.step = 6) (hf : s.pat.filling = false) :
    s.trainingDone' tr m = if (s.trainedMap tr m).store.chanList.length < 2 then ((s.trainedMap tr m).stepEnds 7).enterFloor 3
      else { s.trainedMap tr m with pat := { (s.trainedMap tr m).pat with filling := true } } := by
  have hwalk : (List.range 8).foldl (State.trainChannel tr m) s = s.trained tr m := rfl
  have hmap : (s.trained tr m).mapStore (s.trained tr m).channelsInService = s.trainedMap tr m := rfl
  rw [State.trainingDone', if_neg (by simp [hr, h6, hf]), hwalk]
  dsimp only
  rw [hmap]

end Training

theorem parityScan_still {s : State} {k : Nat} {b : Bool}
    (h : s.ledger.up = false ∨ b = false ∨ s.ledger.entries.length ≤ k) : s.parityScan k b = s := by
  refine if_neg ?_
  rcases h with h | h | h
  · simp [h]
  · simp [h]
  · simp [Nat.not_lt.mpr h]

/-- Settles O57: clocks, resets, the boot ROM, training and the Ledger, each by its own lemma. -/
theorem bringUp : Obligations.BringUp := by
  refine ⟨?vco, fun s b h => congrArg Host.Outcome.next (vco_still h), fun s c d h => congrArg Host.Outcome.next (if_pos h),
    ?clock, ?warm, ?noWarm, fun s b h => ⟨_, rfl, bootRom_at b h⟩, fun s a b h => congrArg Host.Outcome.next (bootRom_still h),
    fun s tr m h => congrArg Host.Outcome.next (trainingDone_still h), ?training, ?retry, ?noRetry, ?clear, ?noClear, ?scan,
    fun s k b h => congrArg Host.Outcome.next (parityScan_still h)⟩
  case vco =>
    intro s hr hl
    exact ⟨_, congrArg Host.Outcome.next (vco_locks hr hl), rfl, rfl, rfl, rfl⟩
  case clock =>
    intro s c d hc hclocks hr
    exact ⟨s.clockFailed, congrArg Host.Outcome.next (clockFault_resets hc hclocks hr), clockFailed_at s⟩
  case warm =>
    intro s acc v h hbit hkey
    have hstep := (exec_warmReset (v := v) h).trans (congrArg Host.Outcome.next (if_pos (by rw [hbit, hkey]; rfl)))
    obtain ⟨hmem, hheads, hroutes, hactive, howner, hsecret, hpat, hnv, htb⟩ := warmReset_domain (s.written .RESET_CONTROL 0 0 v) 3
    have hboot := warmReset_boot (s.written .RESET_CONTROL 0 0 v) 3
    have hledger := warmReset_ledger (s.written .RESET_CONTROL 0 0 v) 3
    refine ⟨_, hstep, (congrArg BootSt.inReset hboot :), (congrArg BootSt.regsUp hboot :), (congrArg BootSt.mode hboot :),
      (congrArg BootSt.nextCause hboot :), (congrArg BootSt.warmCount hboot :), (congrArg LedgerSt.entries hledger :),
      (congrArg LedgerSt.generation hledger :), hmem, hheads, hroutes, hactive, howner, hsecret, fun hop => ?_,
      congrArg PatternSt.running hpat, hnv, htb, fun r hr => warmReset_rail _ _ hr, fun b hb hs hne => warmReset_wire _ hb hs hne⟩
    obtain ⟨hA, hB⟩ := systemReset_slots (s := s.written .RESET_CONTROL 0 0 v) true hop
    exact ⟨(congrArg PatternSt.slotA hpat).trans hA, (congrArg PatternSt.slotB hpat).trans hB⟩
  case noWarm =>
    intro s acc v h hv
    exact (exec_warmReset h).trans (congrArg Host.Outcome.next (if_neg (keyed_not hv)))
  case training =>
    intro s tr m hr h6 hf h
    obtain ⟨hlist, hmem, hboot, hpat, hstate⟩ := trainedMap_at (tr := tr) (m := m) h
    refine ⟨_, congrArg Host.Outcome.next (trainingDone_runs hr h6 hf), fun h2 => ?_, fun h2 hrun => ?_⟩
    · rw [if_neg (by rw [hlist]; omega)]
      generalize s.trainedMap tr m = t at hlist hmem hboot hstate ⊢
      exact ⟨rfl, hboot, hlist, hmem, hstate⟩
    · rw [if_pos (by rw [hlist]; exact h2)]
      generalize s.trainedMap tr m = t at hpat ⊢
      obtain ⟨hfloor, hpat'⟩ := enterFloor_at (t.stepEnds 7) 3 ((congrArg PatternSt.running hpat).trans hrun)
      rw [hfloor, hpat']
      exact ⟨rfl, rfl, (congrArg PatternSt.filling hpat).trans hf⟩
  case retry =>
    intro s hr hstep
    exact ⟨_, congrArg Host.Outcome.next (retryBringUp_again hr hstep), resetHeld_again s⟩
  case noRetry =>
    intro s h
    refine congrArg Host.Outcome.next (if_pos ?_)
    rcases h with h | h <;> simp [h]
  case clear =>
    intro s acc v h hbit hkey
    exact ⟨_, (exec_ledgerClear (v := v) h).trans (congrArg Host.Outcome.next (if_pos (by rw [hbit, hkey]; rfl))),
      rfl, rfl, rfl, rfl, rfl, rfl⟩
  case noClear =>
    intro s acc v h hv
    exact (exec_ledgerClear h).trans (congrArg Host.Outcome.next (if_neg (keyed_not hv)))
  case scan =>
    intro s k hup hk
    refine ⟨_, congrArg Host.Outcome.next (if_pos (by simp [hup, hk])), rfl,
      (mem_nub _ _).mpr List.mem_cons_self, fun i hi => ?_, rfl⟩
    exact (mem_nub _ _).trans ⟨fun h => (List.mem_cons.mp h).resolve_left hi, List.mem_cons_of_mem _⟩

end Sys2Proof.Machine

/-! PROOFS. Posts written, bales fetched and started (R77, R78, R80, R83, R86, R87, R93, R95, R303). -/

namespace Sys2Proof.Machine

section Posts
variable {s : State} {r n : Nat}

theorem postStatus_unbound (h : s.inbound r = false) : s.postStatus r n = postUnbound := if_pos h

theorem postStatus_full (h : s.inbound r = true)
    (hf : s.routeBusyReset r = true ∨ (s.route r).depth < (s.route r).occupancy + s.postsAhead r + n) :
    s.postStatus r n = postFull := by
  rw [State.postStatus, if_neg (by simp [h]), if_pos hf]

theorem postStatus_posted (h : s.inbound r = true) (hb : s.routeBusyReset r = false)
    (hroom : (s.route r).occupancy + s.postsAhead r + n ≤ (s.route r).depth) : s.postStatus r n = postPosted := by
  rw [State.postStatus, if_neg (by simp [h]), if_neg (by rw [hb]; simpa using hroom)]

theorem acceptPost_posted {b : List Bale} (p : Producer) (h : s.postStatus r b.length = 1) : s.acceptPost r b p =
    ({ s with routes := { s.routes with posts := s.routes.posts ++ [⟨r, b, p⟩] } }, 1) := by
  rw [State.acceptPost, h]
  rfl

theorem acceptPost_refused {b : List Bale} (p : Producer) (h : s.postStatus r b.length ≠ 1) :
    s.acceptPost r b p = (s, s.postStatus r b.length) := by
  rw [State.acceptPost]
  split
  next h1 => exact absurd h1 h
  next => rfl

/-- The bale of the staging registers (R95). -/
def State.stageBale (s : State) : Bale := (List.range 16).flatMap (fun k => leBytes 4 (s.reg .BALE_STAGE k).toNat)

/-- A post of the staging registers counted, so that POST_RESULT answers the last alone (R95). -/
def State.stageCounted (s : State) : State :=
  { s with routes := { s.routes with stageSerial := s.routes.stageSerial + 1 } }

theorem postStaged_posted (h : s.postStatus r 1 = 1) : s.postStaged r = { s with routes := { s.routes with
    posts := s.routes.posts ++ [⟨r, [s.stageBale], .stage (s.routes.stageSerial + 1)⟩]
    stageSerial := s.routes.stageSerial + 1 } } := by
  have hposted := acceptPost_posted (s := s.stageCounted) (b := [s.stageBale]) (.stage (s.routes.stageSerial + 1)) h
  rw [State.postStaged]
  exact congrArg (fun x : State × Nat => match x with
    | (s1, 1) => s1
    | (s1, st) => { s1 with routes := { s1.routes with postResult := st } }) hposted

theorem postStaged_refused (h : s.postStatus r 1 ≠ 1) : s.postStaged r = { s with routes := { s.routes with
    postResult := s.postStatus r 1, stageSerial := s.routes.stageSerial + 1 } } := by
  have hrefused := acceptPost_refused (s := s.stageCounted) (b := [s.stageBale]) (.stage (s.routes.stageSerial + 1)) h
  rw [State.postStaged]
  refine (congrArg (fun x : State × Nat => match x with
    | (s1, 1) => s1
    | (s1, st) => { s1 with routes := { s1.routes with postResult := st } }) hrefused).trans ?_
  split
  next h1 => exact absurd (congrArg Prod.snd h1) h
  next h1 =>
    cases h1
    rfl

theorem stageBale_written (v : Word) : (s.written .ROUTE_POST 0 0 v).stageBale = s.stageBale := by
  refine List.flatMap_congr fun k hk => ?_
  rw [written_reg_other v (by decide) (by decide) (by decide) (List.mem_range.mp hk) (by decide)]

theorem exec_routePost {acc : Accessor} (v : Word) (h : s.Accepts acc .ROUTE_POST) : exec (.routePost acc v) s =
    .next ((s.written .ROUTE_POST 0 0 v).postStaged (fld (s.keptValue .ROUTE_POST 0 v) 0 4)) :=
  congrArg Host.Outcome.next (writeCmd_next v h (by decide) (by decide) rfl rfl)

end Posts

/-- Bales are written into the Store and nowhere else (R77). -/
theorem writeBales_frame (s : State) (r i : Nat) (l : List Bale) :
    (s.writeBales r i l).1 = { s with store := (s.writeBales r i l).1.store } := by
  induction l generalizing s i with
  | nil => rfl
  | cons b l ih =>
    have hwrite := storeWrite_frame s ((s.route r).slotAddr i) b true false
    rw [State.writeBales]
    generalize s.storeWrite ((s.route r).slotAddr i) b true = w at hwrite ⊢
    obtain ⟨t, e⟩ := w
    have hrest := ih t (i + 1)
    cases e with
    | none =>
      dsimp only at hwrite ⊢
      generalize (t.writeBales r (i + 1) l).1 = u at hrest ⊢
      rw [hrest, hwrite]
    | some e =>
      dsimp only at hwrite ⊢
      generalize (t.writeBales r (i + 1) l).1 = u at hrest ⊢
      rw [hrest, hwrite]

section Written
variable {s t : State} {r : Nat} {bales : List Bale} {rest : List Post} {n : Nat}

theorem releaseReset_none (h : s.routes.resetWait = []) : s.releaseReset r = s := by
  rw [State.releaseReset, h]
  split <;> rfl

theorem postEnds_stage (h : s.routes.posts = ⟨r, bales, .stage n⟩ :: rest) : s.postEnds = s.writePost := by
  rw [State.postEnds, h]
  rfl

theorem writePost_stage {ok : Bool} (h : s.routes.posts = ⟨r, bales, .stage n⟩ :: rest)
    (hw : ({ s with routes := { s.routes with posts := rest } } : State).writeBales r (s.route r).put bales = (t, ok)) :
    s.writePost = ((if ok then t.modRoute r (fun q => { q with put := (q.put + bales.length) % 65536 })
      else t).finishPost ⟨r, bales, .stage n⟩ ok).releaseReset r := by
  have hput : (({ s with routes := { s.routes with posts := rest } } : State).route r).put = (s.route r).put := rfl
  rw [State.writePost, h]
  dsimp only
  rw [hput, hw]

theorem finishPost_stage (p : List Bale) (ok : Bool) (h : n = s.routes.stageSerial) :
    s.finishPost ⟨r, p, .stage n⟩ ok =
      { s with routes := { s.routes with postResult := if ok then postPosted else postStore } } := if_pos h

theorem routes_of_writeBales {b : Bool}
    (hw : ({ s with routes := { s.routes with posts := rest } } : State).writeBales r (s.route r).put bales = (t, b)) :
    t.routes = { s.routes with posts := rest } := by
  have hframe := writeBales_frame ({ s with routes := { s.routes with posts := rest } } : State) r (s.route r).put bales
  rw [hw] at hframe
  exact (congrArg State.routes hframe :)

end Written

section Fetch
variable {s : State} {r : Nat}

theorem fetchRoute_runs (hi : s.inbound r = true) (hr : (s.route r).resetting = none)
    (hroom : (s.route r).fetched.length + min (4 - (s.route r).nextFetch % (s.route r).depth % 4) (s.route r).unfetched ≤ 8) :
    s.fetchRoute r = s.fetchMany r (min (4 - (s.route r).nextFetch % (s.route r).depth % 4) (s.route r).unfetched) :=
  if_neg (by rw [hi, hr]; simpa using hroom)

/-- What the Store gives of the bale to fetch next, nothing where the read fails (R78). -/
def State.fetchedData (s : State) (r : Nat) : Option Bale :=
  match s.storeRead ((s.route r).slotAddr (s.route r).nextFetch) 64 with
  | .ok b => some b
  | .error _ => none

theorem fetchedData_ok {b : Bale} (h : s.storeRead ((s.route r).slotAddr (s.route r).nextFetch) 64 = .ok b) :
    s.fetchedData r = some b := by
  rw [State.fetchedData, h]

theorem fetchedData_error {e : Nat × Nat} (h : s.storeRead ((s.route r).slotAddr (s.route r).nextFetch) 64 = .error e) :
    s.fetchedData r = none := by
  rw [State.fetchedData, h]

theorem fetchOne_eq (s : State) (r : Nat) : s.fetchOne r = s.modRoute r (fun q => { q with
    fetched := q.fetched ++ [⟨(s.route r).nextFetch, s.fetchedData r⟩] }) := rfl

theorem startBale_holding (h : s.holding = true) : s.startBale r = s := if_pos (by simp [h])

theorem not_holding_of_ready (h : s.consumerReady r = true) : s.holding = false := by
  by_contra hh
  rw [State.consumerReady, if_pos (by simpa using hh)] at h
  cases h

variable {i : Nat} {b : Bale} {rest : List Fetched}

theorem fenceWaiting_of_head (hf : (s.route r).fetched = ⟨i, some b⟩ :: rest) : s.fenceWaiting r =
    (baleFlag b flagFenceWait && decide (baleFence b < 32) && !s.fenceMet (baleFence b) (baleWaitValue b)) := by
  rw [State.fenceWaiting, hf]

/-- A bale of route `r` started: moved from the fetched ones to the started ones (R78). -/
def State.baleStarted (s : State) (r i : Nat) (b : Bale) : State :=
  s.modRoute r (fun q => { q with fetched := q.fetched.tail, started := q.started ++ [⟨i, b, false, false, false, false⟩] })

theorem startBale_starts (hr : (s.route r).resetting = none) (hf : (s.route r).fetched = ⟨i, some b⟩ :: rest)
    (hw : baleFlag b flagFenceWait = false) (hs : baleFlag b flagFenceSignal = false) (hc : s.consumerReady r = true)
    (ho : s.otherTurn r = false) (hop : opcodeReason (s.consumer r) (baleOpcode b) = none) : s.startBale r =
      if s.consumer r == .block then { s.baleStarted r i b with
        routes := { (s.baleStarted r i b).routes with lastBlock := some r } } else s.baleStarted r i b := by
  have hwait : s.fenceWaiting r = false := by rw [fenceWaiting_of_head hf, hw]; rfl
  rw [State.startBale, if_neg (by simp [hr, not_holding_of_ready hc]), hf]
  dsimp only
  rw [if_neg (by simp [hw, hs]), if_neg (by simp [hwait, hc, ho]), hop]
  rfl

theorem startBale_unfetched (hr : (s.route r).resetting = none) (hh : s.holding = false)
    (hf : (s.route r).fetched = ⟨i, none⟩ :: rest) : s.startBale r = s.routeBad r ⟨i, none⟩ 0xFF := by
  rw [State.startBale, if_neg (by simp [hr, hh]), hf]

theorem startBale_waits (hf : (s.route r).fetched = ⟨i, some b⟩ :: rest) (hw : baleFlag b flagFenceWait = true)
    (hfence : baleFence b < 32) (hmet : s.fenceMet (baleFence b) (baleWaitValue b) = false) : s.startBale r = s := by
  have hwait : s.fenceWaiting r = true := by rw [fenceWaiting_of_head hf, hw, decide_eq_true hfence, hmet]; rfl
  rw [State.startBale]
  split
  · rfl
  · rw [hf]
    dsimp only
    rw [if_neg (by simp [Nat.not_lt.mpr (Nat.le_of_lt_succ hfence)]), if_pos (by simp [hwait])]

theorem fenceMet_iff (s : State) (f v : Nat) (hv : v < 65536) :
    s.fenceMet f v = true ↔ ((s.fence f : Int) - v) % 65536 < 32768 := by
  rw [State.fenceMet, decide_eq_true_iff]
  omega

end Fetch

/-- Settles O20: the posts by their status, the bales by what was fetched. -/
theorem routePosting : Obligations.RoutePosting := by
  refine ⟨⟨?posted, ?refused, fun s r n => postStatus_unbound, fun s r n => postStatus_full, fun s r n => postStatus_posted,
    ?none, ?written, ?failed⟩, ?fetch, ?one, fun s r h => ⟨congrArg Host.Outcome.next (if_pos h),
    congrArg Host.Outcome.next (startBale_holding h)⟩, ?start, ?unfetched,
    fun s r i b rest _ hf hw hfence hmet => congrArg Host.Outcome.next (startBale_waits hf hw hfence hmet),
    fun s f v => fenceMet_iff s f v⟩
  case posted =>
    intro s acc v h hstatus
    refine ⟨_, (exec_routePost v h).trans (congrArg Host.Outcome.next (postStaged_posted hstatus)), ?_, rfl, rfl, rfl⟩
    rw [stageBale_written]
    rfl
  case refused =>
    intro s acc v h hstatus
    exact ⟨_, (exec_routePost v h).trans (congrArg Host.Outcome.next (postStaged_refused hstatus)), rfl, rfl, rfl⟩
  case none =>
    intro s h
    refine congrArg Host.Outcome.next ?_
    rw [State.postEnds, h]
    dsimp only [List.head?_nil, Option.map_none]
    rw [State.writePost, h]
  case written =>
    intro s t r bales rest hposts hwait hw
    have hroutes := routes_of_writeBales hw
    have hserial : s.routes.stageSerial =
        (t.modRoute r (fun q => { q with put := (q.put + bales.length) % 65536 })).routes.stageSerial :=
      (congrArg RoutesSt.stageSerial hroutes :).symm
    have hwait' : t.routes.resetWait = [] := (congrArg RoutesSt.resetWait hroutes :).trans hwait
    have hwrite := (writePost_stage hposts hw).trans
      ((congrArg (fun u : State => u.releaseReset r) (finishPost_stage bales true hserial)).trans (releaseReset_none hwait'))
    exact ⟨_, congrArg Host.Outcome.next ((postEnds_stage hposts).trans hwrite),
      congrArg RouteSt.put (t.modRoute_same r (fun q => { q with put := (q.put + bales.length) % 65536 })), rfl, rfl,
      (congrArg RoutesSt.posts hroutes :)⟩
  case failed =>
    intro s t r bales rest hposts hwait hw
    have hroutes := routes_of_writeBales hw
    have hserial : s.routes.stageSerial = t.routes.stageSerial := (congrArg RoutesSt.stageSerial hroutes :).symm
    have hwait' : t.routes.resetWait = [] := (congrArg RoutesSt.resetWait hroutes :).trans hwait
    have hwrite := (writePost_stage hposts hw).trans
      ((congrArg (fun u : State => u.releaseReset r) (finishPost_stage bales false hserial)).trans (releaseReset_none hwait'))
    exact ⟨_, congrArg Host.Outcome.next ((postEnds_stage hposts).trans hwrite),
      (congrArg RoutesSt.routes hroutes :), rfl, (congrArg RoutesSt.posts hroutes :)⟩
  case fetch =>
    intro s r hh hi hr hroom
    refine congrArg Host.Outcome.next ?_
    rw [hh]
    exact fetchRoute_runs hi hr hroom
  case one =>
    intro s r
    have hroute := s.modRoute_same r (fun q => { q with
      fetched := q.fetched ++ [⟨(s.route r).nextFetch, s.fetchedData r⟩] })
    exact ⟨_, _, fetchOne_eq s r, (congrArg RouteSt.fetched hroute :), rfl, fun b hb => fetchedData_ok hb,
      fun e he => fetchedData_error he, rfl, (congrArg RouteSt.put hroute :), (congrArg RouteSt.take hroute :)⟩
  case start =>
    intro s r i b rest hr hf hw hs hc ho hop
    have hroute := s.modRoute_same r.val (fun q => { q with
      fetched := q.fetched.tail, started := q.started ++ [⟨i, b, false, false, false, false⟩] })
    have hother := fun (k : Nat) (hk : k ≠ r.val) => s.modRoute_ne r.val (fun q => { q with
      fetched := q.fetched.tail, started := q.started ++ [⟨i, b, false, false, false, false⟩] }) hk
    have hfetched := (congrArg RouteSt.fetched hroute :).trans (congrArg List.tail hf)
    refine ⟨_, congrArg Host.Outcome.next (startBale_starts hr hf hw hs hc ho hop), ?_⟩
    split
    · exact ⟨hfetched, (congrArg RouteSt.started hroute :), (congrArg RouteSt.take hroute :), rfl, rfl, hother⟩
    · exact ⟨hfetched, (congrArg RouteSt.started hroute :), (congrArg RouteSt.take hroute :), rfl, rfl, hother⟩
  case unfetched =>
    intro s r i rest hr hh hf
    exact ⟨Config.freeByte s.freeCount 0, congrArg Host.Outcome.next (startBale_unfetched hr hh hf)⟩

end Sys2Proof.Machine

/-! PROOFS. Bales executed and completed in ring order (R66, R78, R84 to R87). -/

namespace Sys2Proof.Machine

section Completion
variable {s : State} {r : Nat} {b : Started} {rest : List Started}

theorem passDone_stops (h : b.done = false) : s.passDone r (b :: rest) = s := by
  rw [State.passDone, if_neg (by simp [h])]

theorem passDone_plain (h : b.done = true) (hf : baleFlag b.data flagFenceSignal = false) :
    s.passDone r (b :: rest) =
      (s.modRoute r (fun q => { q with take := (q.take + 1) % 65536, started := rest })).passDone r rest := by
  rw [State.passDone, if_pos h, hf]
  rfl

theorem passDone_signals (h : b.done = true) (hf : baleFlag b.data flagFenceSignal = true) (hn : baleFence b.data < 32) :
    s.passDone r (b :: rest) = ((s.modRoute r (fun q => { q with
      take := (q.take + 1) % 65536, started := rest })).signalFence (baleFence b.data)).passDone r rest := by
  rw [State.passDone, if_pos h, hf, decide_eq_true hn]
  rfl

theorem reportDone_silent (h : (b.done && !b.reported) = false ∨ baleFlag b.data flagEventOnDone = false) :
    s.reportDone r (b :: rest) = s.reportDone r rest := by
  rw [State.reportDone]
  rcases h with h | h
  · rw [h]
    rfl
  · rw [h, Bool.and_false]
    rfl

theorem reportDone_reports (h : b.done = true) (hr : b.reported = false) (hf : baleFlag b.data flagEventOnDone = true) :
    s.reportDone r (b :: rest) = (s.event 0x83 ([byteOf r, byteOf b.bad.toNat] ++ leBytes 2 b.index) 0xFF
      (baleTag b.data)).reportDone r rest := by
  rw [State.reportDone, h, hr, hf]
  rfl

/-- A signal counts its fence up, alone (R87). -/
theorem signalFence_at (s : State) (f : Nat) : (s.signalFence f).fence f = (s.fence f + 1) % 65536 ∧
    (∀ g, g ≠ f → (s.signalFence f).fence g = s.fence g) ∧
    s.signalFence f = { s with routes := { s.routes with fences := (s.signalFence f).routes.fences } } :=
  ⟨s.setFence_same f _, fun _ hg => s.setFence_ne f _ hg, rfl⟩

end Completion

section Executor
variable {s : State} {r : Nat} {b : Started}

theorem nopBale_done (hh : s.holding = false) (hb : s.nextStarted r 0 = some b) :
    s.nopBale r = s.modStarted r b.index (fun x => { x with taken := true, done := true }) := by
  rw [State.nopBale, if_neg (by simp [hh]), hb]

theorem executorBale_next (op : Nat) (hh : s.holding = false) (hc : s.consumer r = .executor) :
    s.executorBale r op = s.nextStarted r op := if_neg (by rw [hh, hc]; decide)

theorem commitBale_done (hh : s.holding = false) (hc : s.consumer r = .executor) (hb : s.nextStarted r 1 = some b) :
    s.commitBale r = (s.commitMask (leAt b.data 8 2)).modStarted r b.index (fun x => { x with taken := true, done := true }) := by
  rw [State.commitBale, executorBale_next 1 hh hc, hb]

theorem regWriteBale_writes (hh : s.holding = false) (hc : s.consumer r = .executor) (hb : s.nextStarted r 2 = some b)
    (h1 : 1 ≤ leAt b.data 8 1) (h6 : leAt b.data 8 1 ≤ 6) : s.regWriteBale r =
      ((regWritePairs b.data).foldl (fun s p => (s.writeAccess .bale p.1 p.2).1)
        (s.modStarted r b.index (fun x => { x with taken := true }))).finishBale r b.index false := by
  rw [State.regWriteBale, executorBale_next 2 hh hc, hb]
  exact if_neg (by omega)

theorem regWriteBale_bad (hh : s.holding = false) (hc : s.consumer r = .executor) (hb : s.nextStarted r 2 = some b)
    (hn : leAt b.data 8 1 = 0 ∨ 6 < leAt b.data 8 1) :
    s.regWriteBale r = (s.modStarted r b.index (fun x => { x with taken := true })).refuseBale r b 2 := by
  rw [State.regWriteBale, executorBale_next 2 hh hc, hb]
  exact if_pos hn

theorem modStarted_mem (f : Started → Started) (h : b ∈ (s.route r).started) :
    f b ∈ ((s.modStarted r b.index f).route r).started := by
  have hstarted : ((s.modStarted r b.index f).route r).started =
      (s.route r).started.map (fun x => if x.index = b.index then f x else x) :=
    congrArg RouteSt.started (s.modRoute_same r (fun q => { q with
      started := q.started.map (fun x => if x.index = b.index then f x else x) }))
  rw [hstarted]
  exact List.mem_map.mpr ⟨b, h, if_pos rfl⟩

end Executor

theorem regWritePairs_length (b : Bale) : (regWritePairs b).length = leAt b 8 1 := by
  rw [regWritePairs, List.length_map, List.length_range]

theorem regWritePairs_get (b : Bale) {k : Nat} (hk : k < leAt b 8 1) :
    (regWritePairs b)[k]? = some (leAt b (16 + 8 * k) 4, wordOf (leAt b (20 + 8 * k) 4)) := by
  rw [regWritePairs, List.getElem?_map, List.getElem?_range hk]
  rfl

/-- Settles O21: completion by the head of the ring, execution by the opcode. -/
theorem balesExecuted : Obligations.BalesExecuted :=
  ⟨⟨fun _ _ => rfl, fun _ _ _ _ h => passDone_stops h, fun _ _ _ _ h hf => passDone_plain h hf,
      fun _ _ _ _ h hf hn => passDone_signals h hf hn, fun s f => ⟨_, rfl, signalFence_at s f⟩,
      fun _ _ _ _ h => reportDone_silent h, fun _ _ _ _ h hr hf => reportDone_reports h hr hf⟩,
    fun _ _ _ hh hb => congrArg Host.Outcome.next (nopBale_done hh hb),
    fun _ _ _ hh hc hb => congrArg Host.Outcome.next (commitBale_done hh hc hb),
    fun _ _ _ hh hc hb h1 h6 => congrArg Host.Outcome.next (regWriteBale_writes hh hc hb h1 h6),
    fun _ _ _ hh hc hb hn => congrArg Host.Outcome.next (regWriteBale_bad hh hc hb hn),
    fun _ _ _ bad _ h hi => hi ▸ modStarted_mem (fun x => { x with done := true, bad := bad }) h,
    fun b => ⟨regWritePairs_length b, fun _ hk => regWritePairs_get b hk⟩⟩

end Sys2Proof.Machine

/-! PROOFS. The Store's reads, writes, scrub and the retirement of its channels (R99 to R102, R106 to R108, R376). -/

namespace Sys2Proof.Machine

section Reads
variable {s : State} {cls a c : Nat}

theorem serveRead_clean (s : State) (cls a : Nat) : s.serveRead cls a .clean = s := by
  rw [State.serveRead]
  split
  · rfl
  · split <;> rfl

theorem serveRead_live (e : Ecc) (hc : s.channelOf a = some c) (hg : s.channelGone c = false)
    (hp : s.store.poison.contains (a / 64) = false) : s.serveRead cls a e = match e with
      | .clean => s
      | .corrected words => s.modChannel c (fun q => { q with ceCount := min max32 (q.ceCount + words) })
      | .uncorrectable => s.uncorrectable c cls a := by
  rw [State.serveRead, hc]
  exact if_neg (by rw [hg, hp]; decide)

theorem serveRead_still (e : Ecc) (h : s.channelOf a = none ∨ s.store.poison.contains (a / 64) = true ∨
    ∃ c, s.channelOf a = some c ∧ s.channelGone c = true) : s.serveRead cls a e = s := by
  rw [State.serveRead]
  rcases h with h | h | ⟨c, hc, hg⟩
  · rw [h]
  · split
    · rfl
    · exact if_pos (.inr h)
  · rw [hc]
    exact if_pos (.inl hg)

/-- A block that fails, before its record: counted, its address kept, poisoned (R101). -/
def State.blockFailed (s : State) (c a : Nat) : State :=
  { s.modChannel c (fun q => { q with
      ueCount := satInc q.ueCount, lastError := a
      ueTimes := q.ueTimes.filter (fun t => decide (s.time.tb.toNat - t ≤ secondTicks)) ++ [s.time.tb.toNat] }) with
    store := { (s.modChannel c (fun q => { q with
      ueCount := satInc q.ueCount, lastError := a
      ueTimes := q.ueTimes.filter (fun t => decide (s.time.tb.toNat - t ≤ secondTicks)) ++ [s.time.tb.toNat] })).store with
        poison := sortBy id (a / 64 :: s.store.poison) } }

theorem blockFailed_channel (s : State) (c a : Nat) : (s.blockFailed c a).channel c = { s.channel c with
    ueCount := satInc (s.channel c).ueCount, lastError := a
    ueTimes := (s.channel c).ueTimes.filter (fun t => decide (s.time.tb.toNat - t ≤ secondTicks)) ++ [s.time.tb.toNat] } :=
  s.modChannel_same c (fun q => { q with
    ueCount := satInc q.ueCount, lastError := a
    ueTimes := q.ueTimes.filter (fun t => decide (s.time.tb.toNat - t ≤ secondTicks)) ++ [s.time.tb.toNat] })

theorem blockFailed_channel_ne (s : State) (a : Nat) {c k : Nat} (hk : k ≠ c) :
    (s.blockFailed c a).channel k = s.channel k :=
  s.modChannel_ne c (fun q => { q with
    ueCount := satInc q.ueCount, lastError := a
    ueTimes := q.ueTimes.filter (fun t => decide (s.time.tb.toNat - t ≤ secondTicks)) ++ [s.time.tb.toNat] }) hk

theorem blockFailed_poison (s : State) (c a b : Nat) :
    (s.blockFailed c a).store.poison.contains b = true ↔ b = a / 64 ∨ s.store.poison.contains b = true := by
  have hpoison : (s.blockFailed c a).store.poison = sortBy id (a / 64 :: s.store.poison) := rfl
  rw [hpoison, List.contains_iff_mem, List.contains_iff_mem, mem_sortBy, List.mem_cons]

/-- A threshold of 0 retires nothing (R106). -/
theorem ueRate_off (h : fld (s.reg .STORE_RETIRE_THRESHOLD) 0 16 = 0) (c : Nat) : s.ueRate c = false := by
  rw [State.ueRate, h]
  rfl

theorem uncorrectable_recorded (h : fld (s.reg .STORE_RETIRE_THRESHOLD) 0 16 = 0) :
    s.uncorrectable c cls a = (s.blockFailed c a).record 0x04 classA [(8, c), (8, cls)] a := by
  have hreg : ((s.blockFailed c a).record 0x04 classA [(8, c), (8, cls)] a).reg .STORE_RETIRE_THRESHOLD =
      s.reg .STORE_RETIRE_THRESHOLD := by
    rw [record_frame]
    rfl
  have hrate := ueRate_off (by rw [hreg]; exact h) c
  exact if_neg fun h' => Bool.false_ne_true (hrate.symm.trans h')

end Reads

section Faults
variable {s : State} {a c : Nat}

theorem writeFault_ring {n : Nat} (h : s.inRingRegion a n = true) :
    s.writeFault false a n = some causeProtected ∨ s.writeFault false a n = some causeDecode := by
  rw [State.writeFault]
  split
  · exact .inr rfl
  · exact .inl (if_pos ⟨rfl, h⟩)

theorem readFault_gone (hc : s.channelOf a = some c) (hg : s.channelGone c = true) : s.readFault a = some causePoison := by
  rw [State.readFault, hc]
  exact if_pos (by rw [hg]; rfl)

theorem writeFault_gone {n : Nat} (hc : s.channelOf a = some c) (hg : s.channelGone c = true)
    (hr : s.inRingRegion a n = false) (hb : s.stagingBusy = false) : s.writeFault false a n = some causeRetired := by
  rw [State.writeFault, hc]
  dsimp only
  rw [if_neg (by simp [hr]), if_neg (by simp [hb]), if_pos hg]

end Faults

section Scrub
variable {s : State}

theorem scrub_stopped (e : Ecc) (h : s.store.scrubPeriod = 0) : s.scrub e = s := if_pos (.inl h)

theorem scrub_clean (hp : s.store.scrubPeriod ≠ 0) (hs : s.storeSpan ≠ 0) : s.scrub .clean =
    if s.store.scrubNext * 64 + 64 < s.storeSpan
    then { s with store := { s.store with scrubNext := s.store.scrubNext + 1 } }
    else { s with store := { s.store with scrubNext := 0, scrubPeriod := fld (s.reg .STORE_SCRUB_PERIOD) 0 8 } } := by
  rw [State.scrub, if_neg (not_or.mpr ⟨hp, hs⟩)]
  dsimp only
  rw [serveRead_clean, ite_self]

theorem wroteScrubPeriod_stops {v : Word} (h : fld v 0 8 = 0) :
    s.wroteScrubPeriod v = { s with store := { s.store with scrubPeriod := 0 } } := if_pos h

theorem wroteScrubPeriod_starts {v : Word} (h : fld v 0 8 ≠ 0) (hp : s.store.scrubPeriod = 0) :
    s.wroteScrubPeriod v = { s with store := { s.store with scrubPeriod := fld v 0 8, scrubNext := 0 } } := by
  rw [State.wroteScrubPeriod, if_neg h, if_pos hp]

theorem wroteScrubPeriod_later {v : Word} (h : fld v 0 8 ≠ 0) (hp : s.store.scrubPeriod ≠ 0) : s.wroteScrubPeriod v = s := by
  rw [State.wroteScrubPeriod, if_neg h, if_neg hp]

end Scrub

section Channels
variable {s : State} {c : Nat}

/-- A channel at its retirement trigger, before the record (R107). -/
def State.channelTripped (s : State) (c : Nat) : State := s.modChannel c (fun q => { q with state := 5, cause := 3 })

theorem channelTripped_channel (s : State) (c : Nat) :
    (s.channelTripped c).channel c = { s.channel c with state := 5, cause := 3 } := State.modChannel_same ..

theorem channelAlert_queues (hg : s.channelGone c = false) (hc : s.store.chanList.contains c = true) :
    s.channelAlert c = ((s.channelTripped c).record 0x04 classC [(8, c), (8, 3)] 0).enqueue .channel c 3 := by
  rw [State.channelAlert, if_neg (by simp [hg]), if_pos hc]
  rfl

theorem channelAlert_secondary (hg : s.channelGone c = true) :
    s.channelAlert c = s.record 0x04 classC [(8, c), (8, 3)] 0 none true := if_pos hg

theorem channelAlert_unmapped (hg : s.channelGone c = false) (hc : s.store.chanList.contains c = false) :
    s.channelAlert c = s := by
  rw [State.channelAlert, if_neg (by simp [hg]), if_neg (by simp only [hc]; decide)]

end Channels

section ZeroFill
variable {s : State}

/-- The zero fill over, step 7 ended (R376). -/
def State.filled (s : State) : State := ({ s with pat := { s.pat with filling := false } } : State).stepEnds 7

theorem fillDone_ready (hf : s.pat.filling = true) (hz : s.pat.restitch = none) : s.fillDone = s.storeReady := by
  rw [State.fillDone, if_neg (by simp [hf]), hz]

theorem floorStartCause_filled (s : State) : s.filled.floorStartCause = s.floorStartCause := rfl

theorem storeReady_loads (hp : s.power.state ≠ 4) (hb : s.boot.buttonFloor = false) :
    s.storeReady = s.filled.beginPattern .powerOn (1 + fld (s.filled.stored .SLOT_PREFERENCE) 0 1) 0 := by
  have hcause : s.filled.floorStartCause = none := by
    rw [floorStartCause_filled, State.floorStartCause, if_neg hp, if_neg (by simp [hb])]
  rw [State.storeReady]
  change (match s.filled.floorStartCause with
    | some c => s.filled.enterFloor c
    | none => s.filled.beginPattern .powerOn (1 + fld (s.filled.stored .SLOT_PREFERENCE) 0 1) 0) = _
  rw [hcause]

theorem storeReady_floor (hp : s.power.state ≠ 4) (hb : s.boot.buttonFloor = true) :
    s.storeReady = s.filled.enterFloor 1 := by
  have hcause : s.filled.floorStartCause = some 1 := by
    rw [floorStartCause_filled, State.floorStartCause, if_neg hp, if_pos hb]
  rw [State.storeReady]
  change (match s.filled.floorStartCause with
    | some c => s.filled.enterFloor c
    | none => s.filled.beginPattern .powerOn (1 + fld (s.filled.stored .SLOT_PREFERENCE) 0 1) 0) = _
  rw [hcause]

theorem fillDone_restitch {z : Restitch} (hf : s.pat.filling = true) (hz : s.pat.restitch = some z) :
    s.fillDone = s.fillEnds z := by
  rw [State.fillDone, if_neg (by simp [hf]), hz]

end ZeroFill

/-- Settles O23: reads and writes by the block's channel, retirement by the channel's state. -/
theorem storeService : Obligations.StoreService := by
  refine ⟨⟨fun s cls a => congrArg Host.Outcome.next (serveRead_clean ..), ?corrected, ?uncorrectable,
    fun s cls a e h => congrArg Host.Outcome.next (serveRead_still e h), ?write, fun s a bs => rfl,
    fun s a n h => writeFault_ring h, fun s e h => congrArg Host.Outcome.next (scrub_stopped e h), ?scrub, ?period⟩,
    ?alert, fun s c h => congrArg Host.Outcome.next (channelAlert_secondary h),
    fun s c h hc => congrArg Host.Outcome.next (channelAlert_unmapped h hc),
    fun s a c hc hg => ⟨readFault_gone hc hg, fun n hr hb => writeFault_gone hc hg hr hb⟩,
    fun s h => congrArg Host.Outcome.next (if_pos h),
    fun s hf hz hp hb => ⟨s.filled, congrArg Host.Outcome.next ((fillDone_ready hf hz).trans (storeReady_loads hp hb)), rfl⟩,
    fun s hf hz hp hb => congrArg Host.Outcome.next ((fillDone_ready hf hz).trans (storeReady_floor hp hb)),
    fun s z hf hz => congrArg Host.Outcome.next (fillDone_restitch hf hz)⟩
  case corrected =>
    intro s cls a c words hc hg hp
    have hchannel := s.modChannel_same c (fun q => { q with ceCount := min max32 (q.ceCount + words) })
    exact ⟨_, congrArg Host.Outcome.next (serveRead_live (.corrected words) hc hg hp), (congrArg ChannelSt.ceCount hchannel :),
      (congrArg ChannelSt.ueCount hchannel :), fun k hk => State.modChannel_ne _ _ _ hk, rfl⟩
  case uncorrectable =>
    intro s cls a c hc hg hp ht
    have hchannel := blockFailed_channel s c a
    exact ⟨s.blockFailed c a, congrArg Host.Outcome.next ((serveRead_live .uncorrectable hc hg hp).trans
      (uncorrectable_recorded ht)), (congrArg ChannelSt.ueCount hchannel :), (congrArg ChannelSt.lastError hchannel :),
      (congrArg ChannelSt.state hchannel :), fun b => blockFailed_poison s c a b, rfl,
      fun k hk => blockFailed_channel_ne s a hk, rfl⟩
  case write =>
    intro s cls a bs hcls
    exact ⟨_, _, rfl, congrArg Host.Outcome.next (if_neg hcls), storeWrite_frame s a bs false false⟩
  case scrub =>
    intro s hp hs
    refine ⟨_, congrArg Host.Outcome.next (scrub_clean hp hs), ?_, ?_⟩
    · split <;> rfl
    · split <;> rfl
  case period =>
    intro s acc v h
    have hstep : exec (.storeScrubPeriodWrite acc v) s =
        .next ((s.written .STORE_SCRUB_PERIOD 0 0 v).wroteScrubPeriod (s.keptValue .STORE_SCRUB_PERIOD 0 v)) :=
      congrArg Host.Outcome.next (writeCmd_next v h (by decide) (by decide) rfl rfl)
    have hreg := written_reg_same (s := s) (r := .STORE_SCRUB_PERIOD) (i := 0) (j := 0) (v := v)
    by_cases hv : fld (s.keptValue .STORE_SCRUB_PERIOD 0 v) 0 8 = 0
    · rw [wroteScrubPeriod_stops hv] at hstep
      exact ⟨_, hstep, hreg, fun _ => rfl, fun h' => absurd hv h', fun h' => absurd hv h', rfl⟩
    · by_cases hp : s.store.scrubPeriod = 0
      · rw [wroteScrubPeriod_starts (s := s.written .STORE_SCRUB_PERIOD 0 0 v) hv hp] at hstep
        exact ⟨_, hstep, hreg, fun h' => absurd h' hv, fun _ _ => ⟨rfl, rfl⟩, fun _ h' => absurd hp h', rfl⟩
      · rw [wroteScrubPeriod_later (s := s.written .STORE_SCRUB_PERIOD 0 0 v) hv hp] at hstep
        exact ⟨_, hstep, hreg, fun h' => absurd h' hv, fun _ h' => absurd h' hp, fun _ _ => ⟨rfl, rfl⟩, rfl⟩
  case alert =>
    intro s c hg hc
    have hchannel := channelTripped_channel s c.val
    exact ⟨s.channelTripped c.val, _, congrArg Host.Outcome.next (channelAlert_queues hg hc), rfl,
      (congrArg ChannelSt.state hchannel :), (congrArg ChannelSt.cause hchannel :),
      fun k hk => State.modChannel_ne _ _ _ hk, rfl⟩

end Sys2Proof.Machine

/-! PROOFS. Porter registers, confirmation, bus errors and halts (R113 to R116, R122, R125, R127, R128). -/

namespace Sys2Proof.Machine

section Channel
variable {s : State} {n : Nat}

theorem modPorter_congr {f g : PorterSt → PorterSt} (h : f (s.porterCh n) = g (s.porterCh n)) :
    s.modPorter n f = s.modPorter n g := by
  have hupdate : mapUpdate default s.porter n f = mapUpdate default s.porter n g := congrArg (mapSet default s.porter n) h
  rw [State.modPorter, hupdate, State.modPorter]

/-- A channel armed by GO (R115). -/
def State.goArmed (s : State) (n : Nat) : State := s.modPorter n (fun p => { p with armed := true })

theorem goArmed_same (s : State) (n : Nat) : (s.goArmed n).porterCh n = { s.porterCh n with armed := true } :=
  State.modPorter_same ..

theorem goArmed_shadow (s : State) (n m : Nat) : (s.goArmed n).porterShadow m = s.porterShadow m := rfl

theorem porterGo_arms (h : (s.porterCh n).state ≠ 0) : s.porterGo n = s.goArmed n := by
  have hch := s.modPorter_same n (fun p => { p with armed := true })
  rw [State.porterGo, if_neg]
  · rfl
  · rw [hch]
    exact fun h' => h h'.1

theorem porterGo_live (h : (s.porterCh n).state = 0) (hc : (s.porterCh n).clearing = false) :
    s.porterGo n = (s.goArmed n).goLive n := by
  have hch := s.modPorter_same n (fun p => { p with armed := true })
  rw [State.porterGo, if_pos]
  · rfl
  · rw [hch]
    exact ⟨h, hc⟩

/-- The shadow set made live on a channel (R115). -/
def State.shadowLive (s : State) (n : Nat) : State :=
  s.modPorter n (fun p => { p with live := s.porterShadow n, armed := false, goAfter := false, loops := [], status := 0 })

theorem shadowLive_same (s : State) (n : Nat) : (s.shadowLive n).porterCh n = { s.porterCh n with
    live := s.porterShadow n, armed := false, goAfter := false, loops := [], status := 0 } := State.modPorter_same ..

theorem goLive_program (h : (s.porterShadow n).mode = 2) :
    s.goLive n = (s.shadowLive n).modPorter n (fun p => { p with state := 1, pc := 0 }) := by
  rw [State.goLive, h]
  rfl

theorem goLive_register (h : (s.porterShadow n).mode = 1) (hc : (s.porterShadow n).count ≠ 0) :
    s.goLive n = (s.shadowLive n).modPorter n (fun p => { p with state := 1, starting := true }) := by
  rw [State.goLive, h]
  exact if_neg fun h' => hc h'.1

end Channel

section Clear
variable {s : State} {n : Nat}

theorem dropDescriptors_nil (s : State) (n : Nat) : s.dropDescriptors n [] = s := by
  rw [State.dropDescriptors]
  split
  · rfl
  · split <;> rfl

theorem dropDescriptors_other (l : List Nat) (h : (s.porterCh n).live.mode ≠ 3) : s.dropDescriptors n l = s := by
  rw [State.dropDescriptors]
  split
  · rfl
  · exact if_neg h

/-- A channel that CLEAR reached, its loop counters at 0 (R116, R119). -/
def State.clearBegun (s : State) (n : Nat) : State :=
  s.modPorter n (fun p => { p with
    loops := [], waiting := none, waitMet := false, error := none, halting := false
    mismatch := false, fault := none, clearing := true, clearRecorded := false, goAfter := false })

/-- A channel whose CLEAR is over: disarmed and IDLE (R116). -/
def State.clearOver (s : State) (n : Nat) : State :=
  s.modPorter n (fun p => { p with
    unconfirmed := [], starting := false, clearing := false, clearRecorded := false, armed := false, goAfter := false, state := 0 })

theorem clearBegun_same (s : State) (n : Nat) : (s.clearBegun n).porterCh n = { s.porterCh n with
    loops := [], waiting := none, waitMet := false, error := none, halting := false
    mismatch := false, fault := none, clearing := true, clearRecorded := false, goAfter := false } := State.modPorter_same ..

theorem clearOver_same (s : State) (n : Nat) : (s.clearOver n).porterCh n = { s.porterCh n with
    unconfirmed := [], starting := false, clearing := false, clearRecorded := false, armed := false, goAfter := false
    state := 0 } := State.modPorter_same ..

theorem porterClear_busy (h : (s.porterCh n).busy = true) (he : (s.porterCh n).error = none) :
    s.porterClear n = s.clearBegun n := by
  rw [State.porterClear, he, dropDescriptors_nil, if_pos h]
  rfl

theorem quiet_of_not_busy (h : (s.porterCh n).busy = false) : (s.porterCh n).error = none ∧
    (s.porterCh n).unconfirmed.filter (·.open') = [] := by
  rw [PorterSt.busy] at h
  simp only [Bool.or_eq_false_iff, Bool.not_eq_false', PorterSt.confirmed, Bool.not_eq_true', Option.isSome_eq_false_iff,
    Option.isNone_iff_eq_none] at h
  obtain ⟨⟨⟨hopen, herror⟩, -⟩, -⟩ := h
  exact ⟨herror, List.filter_eq_nil_iff.mpr fun q hq => List.any_eq_false.mp hopen q hq⟩

theorem clearDone_stays (h : (s.porterCh n).goAfter = false)
    (hd : s.dropDescriptors n (((s.porterCh n).unconfirmed.filter (·.open')).map (·.index)) = s) :
    s.clearDone n = s.clearOver n := by
  rw [State.clearDone, h, hd]
  rfl

theorem porterClear_idle (h : (s.porterCh n).busy = false) : s.porterClear n = (s.clearBegun n).clearOver n := by
  obtain ⟨herror, hopen⟩ := quiet_of_not_busy h
  have hch := clearBegun_same s n
  have hclear : s.porterClear n = (s.clearBegun n).clearDone n := by
    rw [State.porterClear, herror, dropDescriptors_nil, if_neg (by rw [h]; decide)]
    rfl
  rw [hclear]
  refine clearDone_stays (congrArg PorterSt.goAfter hch :) ?_
  rw [show ((s.clearBegun n).porterCh n).unconfirmed = (s.porterCh n).unconfirmed from (congrArg PorterSt.unconfirmed hch :), hopen]
  exact dropDescriptors_nil ..

theorem cutTransfer_none (h : (s.porterCh n).starting = false) : s.cutTransfer n = s := if_pos (.inl h)

theorem clearEnds_not (h : (s.porterCh n).clearing = false) : s.clearEnds n = s := if_neg (by rw [h]; decide)

theorem clearEnds_over (h : (s.porterCh n).clearing = true) (hg : (s.porterCh n).goAfter = false)
    (hs : (s.porterCh n).starting = false) (hm : (s.porterCh n).live.mode ≠ 3) : s.clearEnds n = s.clearOver n := by
  rw [State.clearEnds, if_pos h, cutTransfer_none hs]
  exact clearDone_stays hg (dropDescriptors_other _ hm)

theorem porterCount_done (s : State) (n : Nat) :
    ((s.porterCount n).porterCh n).doneCount = (s.porterCh n).doneCount + 1 := by
  have hch : ((s.modPorter n (fun p => { p with doneCount := p.doneCount + 1 })).porterCh n).doneCount =
      (s.porterCh n).doneCount + 1 := congrArg PorterSt.doneCount (State.modPorter_same ..)
  rw [State.porterCount]
  split
  · rw [event_frame]
    exact hch
  · exact hch

end Clear

section Confirm
variable {s : State} {n i : Nat} {t : Transfer} {rest : List InFlight} {e : BusErr}

theorem find_open (h : (s.porterCh n).unconfirmed = ⟨i, t, []⟩ :: rest) :
    (s.porterCh n).unconfirmed.find? (·.open') = some ⟨i, t, []⟩ ∧ (s.porterCh n).unconfirmed.eraseP (·.open') = rest := by
  rw [h]
  exact ⟨rfl, rfl⟩

theorem confirmReads_none (hr : t.readBack = false) : s.confirmReads t = (s, none) := if_neg (by simp [hr])

theorem confirmOldest_held (hh : s.holding = true) (hu : (s.porterCh n).unconfirmed = ⟨i, t, []⟩ :: rest)
    (hr : t.readBack = true) : s.confirmOldest n = s := by
  rw [State.confirmOldest, (find_open hu).1]
  exact if_pos ⟨hh, hr⟩

theorem confirmOldest_register (hu : (s.porterCh n).unconfirmed = ⟨i, t, []⟩ :: rest) (hr : t.readBack = false)
    (hm : (s.porterCh n).live.mode = 1) : s.confirmOldest n =
      (s.modPorter n (fun p => { p with unconfirmed := settleFlight rest })).porterComplete n := by
  have hmod : s.modPorter n (fun p => { p with unconfirmed := settleFlight (p.unconfirmed.eraseP (·.open')) }) =
      s.modPorter n (fun p => { p with unconfirmed := settleFlight rest }) :=
    modPorter_congr (by rw [(find_open hu).2])
  have hmode : ((s.modPorter n (fun p => { p with unconfirmed := settleFlight rest })).porterCh n).live.mode = 1 :=
    (congrArg (fun p : PorterSt => p.live.mode) (State.modPorter_same ..)).trans hm
  rw [State.confirmOldest, (find_open hu).1]
  dsimp only
  rw [if_neg (by simp [hr]), hmod, confirmReads_none hr]
  exact if_pos hmode

theorem transferDone_confirms (hs : (s.porterCh n).starting = false) (hc : (s.porterCh n).clearing = false)
    (hh : (s.porterCh n).halting = false) (he : (s.porterCh n).error = none) : s.transferDone n = s.confirmOldest n := by
  rw [State.transferDone, startTransfer_idle s n hs]
  exact if_neg (by rw [hc, hh, he]; decide)

theorem startTransfer_held (hh : s.holding = true) : s.startTransfer n = s := if_pos (.inr (.inr hh))

theorem transferDone_held (hh : s.holding = true) (hu : (s.porterCh n).unconfirmed = ⟨i, t, []⟩ :: rest)
    (hr : t.readBack = true) : s.transferDone n = s := by
  rw [State.transferDone, startTransfer_held hh]
  split
  · rfl
  · exact confirmOldest_held hh hu hr

theorem busError_handles {l : Option LateFail} (hs : s.startTransfer n = s) (hc : (s.porterCh n).clearing = false)
    (hh : (s.porterCh n).halting = false) (he : (s.porterCh n).error = some (i, e)) : s.busError n l = s.handleError n := by
  rw [State.busError.eq_def, hs]
  exact if_pos (by rw [hc, hh, he]; rfl)

theorem handleError_held (hh : s.holding = true) (he : (s.porterCh n).error = some (i, e))
    (hm : (s.porterCh n).live.mode = 3) : s.handleError n = s := by
  rw [State.handleError, he]
  exact if_pos ⟨hh, .inl hm⟩

theorem handleError_register (he : (s.porterCh n).error = some (i, e)) (hm : (s.porterCh n).live.mode = 1) :
    s.handleError n = s.porterStop n i e := by
  rw [State.handleError, he]
  dsimp only
  rw [if_neg (by simp [hm]), if_neg (by simp [hm]), if_neg (by simp [hm])]

theorem busError_late {f : LateFail} (hs : (s.porterCh n).starting = false) (he : (s.porterCh n).error = none) :
    s.busError n (some f) = s.lateFailure n f := by
  rw [State.busError.eq_def, startTransfer_idle s n hs]
  exact if_neg (by rw [he]; simp)

theorem lateFailure_halted {f : LateFail} (h : (s.porterCh n).state = 2) : s.lateFailure n f =
    s.record 0x05 classB [(8, n), (8, causeCode f.cause), (8, 1)] f.addr none true := if_pos (.inl h)

theorem lateFailure_clearing {f : LateFail} (h : (s.porterCh n).state ≠ 2) (hh : (s.porterCh n).halting = false)
    (hc : (s.porterCh n).clearing = true) : s.lateFailure n f = s.clearFailure n ⟨f.addr, true, causeCode f.cause⟩ := by
  rw [State.lateFailure]
  exact (if_neg (by simp [h, hh])).trans (if_pos hc)

/-- A channel whose failure during CLEAR has its record (R116). -/
def State.clearNoted (s : State) (n : Nat) : State := s.modPorter n (fun p => { p with clearRecorded := true })

theorem clearNoted_same (s : State) (n : Nat) : (s.clearNoted n).porterCh n = { s.porterCh n with clearRecorded := true } :=
  State.modPorter_same ..

theorem clearFailure_first (h : (s.porterCh n).clearRecorded = false) : s.clearFailure n e =
    (s.clearNoted n).record 0x05 classA [(8, n), (8, e.cause)] e.addr none true := if_neg (by rw [h]; decide)

theorem clearFailure_again (h : (s.porterCh n).clearRecorded = true) : s.clearFailure n e = s := if_pos h

/-- A halted channel, before its record and event (R116, R127). -/
def State.haltReached (s : State) (n : Nat) : State :=
  s.modPorter n (fun p => { p with state := 2, halting := false, error := none, unconfirmed := [], waiting := none })

theorem haltReached_same (s : State) (n : Nat) : (s.haltReached n).porterCh n = { s.porterCh n with
    state := 2, halting := false, error := none, unconfirmed := [], waiting := none } := State.modPorter_same ..

theorem porterHalts_halts (hh : (s.porterCh n).halting = true) (he : (s.porterCh n).error = some (i, e)) :
    s.porterHalts n = ((s.haltReached n).record 0x05 classB [(8, n), (8, e.cause), (8, e.write.toNat)] e.addr).event 0xA1
      ([byteOf n, byteOf e.cause, byteOf e.write.toNat, 0, 0, 0, 0, 0] ++ leBytes 8 e.addr) := by
  rw [State.porterHalts, hh, he]
  rfl

theorem porterHalts_not (hh : (s.porterCh n).halting = false) : s.porterHalts n = s := by
  rw [State.porterHalts, hh]

end Confirm

/-- Settles O24: the control register by GO and CLEAR, the errors by the channel's mode. -/
theorem porterControls : Obligations.PorterControls := by
  refine ⟨⟨?arms, ?program, ?register, ?clear, ?clearBusy, fun s n h => congrArg Host.Outcome.next (clearEnds_not h),
    ?clearDone, fun s n => ⟨_, rfl, s.porterCount n, rfl, porterCount_done s n⟩⟩,
    fun s n i t rest hs hc hh he hu hr hm =>
      congrArg Host.Outcome.next ((transferDone_confirms hs hc hh he).trans (confirmOldest_register hu hr hm)),
    fun s n i t rest hh hu hr => congrArg Host.Outcome.next (transferDone_held hh hu hr),
    fun s n i e hh hc hhalt he hm => congrArg Host.Outcome.next
      ((busError_handles (startTransfer_held hh) hc hhalt he).trans (handleError_held hh he hm)),
    ?stops, ?halts, fun s n h => congrArg Host.Outcome.next (porterHalts_not h),
    fun s n f hs he h => congrArg Host.Outcome.next ((busError_late hs he).trans (lateFailure_halted h)), ?late⟩
  case arms =>
    intro s acc n h hst
    exact ⟨_, congrArg Host.Outcome.next ((writeCmd_porterGo s acc n h).trans (porterGo_arms hst)), goArmed_same ..,
      fun k hk => State.modPorter_ne _ _ _ hk, rfl⟩
  case program =>
    intro s acc n h hst hc hm
    have hshadow := (goArmed_shadow (s.written .PORTER_CONTROL n 0 1) n n).trans (porterShadow_written s n n 1)
    have hgo := (porterGo_live (s := s.written .PORTER_CONTROL n 0 1) hst hc).trans
      (goLive_program (n := n.val) (by rw [hshadow]; exact hm))
    refine ⟨_, congrArg Host.Outcome.next ((writeCmd_porterGo s acc n h).trans hgo), ?_⟩
    rw [State.modPorter_same, shadowLive_same, goArmed_same, hshadow]
    exact ⟨rfl, rfl, rfl, rfl, rfl, rfl, rfl, rfl⟩
  case register =>
    intro s acc n h hst hc hm hcount
    have hshadow := (goArmed_shadow (s.written .PORTER_CONTROL n 0 1) n n).trans (porterShadow_written s n n 1)
    have hgo := (porterGo_live (s := s.written .PORTER_CONTROL n 0 1) hst hc).trans
      (goLive_register (n := n.val) (by rw [hshadow]; exact hm) (by rw [hshadow]; exact hcount))
    refine ⟨_, congrArg Host.Outcome.next ((writeCmd_porterGo s acc n h).trans hgo), ?_⟩
    rw [State.modPorter_same, shadowLive_same, goArmed_same, hshadow]
    exact ⟨rfl, rfl, rfl, rfl, rfl⟩
  case clear =>
    intro s acc n h hb
    have hch := (clearOver_same ((s.written .PORTER_CONTROL n 0 2).clearBegun n) n).trans
      (congrArg (fun p : PorterSt => { p with
        unconfirmed := [], starting := false, clearing := false, clearRecorded := false, armed := false, goAfter := false
        state := 0 }) (clearBegun_same (s.written .PORTER_CONTROL n 0 2) n))
    refine ⟨_, congrArg Host.Outcome.next ((writeCmd_porterClear s acc n h).trans
      (porterClear_idle (s := s.written .PORTER_CONTROL n 0 2) hb)), ?_⟩
    rw [hch]
    exact ⟨rfl, rfl, rfl, rfl, rfl, rfl, rfl, rfl, rfl,
      fun k hk => (State.modPorter_ne _ _ _ hk).trans (State.modPorter_ne _ _ _ hk), rfl⟩
  case clearBusy =>
    intro s acc n h hb he
    have hch := clearBegun_same (s.written .PORTER_CONTROL n 0 2) n
    refine ⟨_, congrArg Host.Outcome.next ((writeCmd_porterClear s acc n h).trans
      (porterClear_busy (s := s.written .PORTER_CONTROL n 0 2) hb he)), ?_⟩
    rw [hch]
    exact ⟨rfl, rfl, rfl, rfl, rfl, rfl⟩
  case clearDone =>
    intro s n h hg hs hm
    refine ⟨_, congrArg Host.Outcome.next (clearEnds_over h hg hs hm), ?_⟩
    rw [clearOver_same]
    exact ⟨rfl, rfl, rfl, rfl, fun k hk => State.modPorter_ne _ _ _ hk, rfl⟩
  case stops =>
    intro s n i e hs hc hh he hm
    have hch := s.modPorter_same n (fun p => { p.latch e with error := some (i, e), halting := true, starting := false, pc := i })
    exact ⟨_, congrArg Host.Outcome.next ((busError_handles (startTransfer_idle s n hs) hc hh he).trans
      (handleError_register he hm)), (congrArg PorterSt.halting hch :), (congrArg PorterSt.fault hch :),
      (congrArg PorterSt.error hch :), (congrArg PorterSt.state hch :), fun k hk => State.modPorter_ne _ _ _ hk, rfl⟩
  case halts =>
    intro s n i e hh he
    refine ⟨_, congrArg Host.Outcome.next (porterHalts_halts hh he), ?_⟩
    rw [haltReached_same]
    exact ⟨rfl, rfl, rfl, rfl, fun k hk => State.modPorter_ne _ _ _ hk, rfl⟩
  case late =>
    intro s n f hs he hst hh hc hr
    have hch := clearNoted_same s n
    refine ⟨s.clearNoted n, congrArg Host.Outcome.next ((busError_late hs he).trans
      ((lateFailure_clearing hst hh hc).trans (clearFailure_first hr))), hch, rfl, congrArg Host.Outcome.next ?_⟩
    rw [busError_late (by rw [hch]; exact hs) (by rw [hch]; exact he),
      lateFailure_clearing (by rw [hch]; exact hst) (by rw [hch]; exact hh) (by rw [hch]; exact hc),
      clearFailure_again (by rw [hch])]

end Sys2Proof.Machine

/-! PROOFS. Porter programs and descriptors (R117 to R123). -/

namespace Sys2Proof.Machine

section Instructions
variable {s u : State} {n : Nat} {b : List Byte} {e : BusErr}

theorem runInstr_runs {op : Nat} (f : State → List Byte → State) (h : s.programReady n = true)
    (hb : s.fetchInstr n = .ok b) (hop : leAt b 0 1 = op) (hle : op ≤ 7) : s.runInstr n op f = f s b := by
  rw [State.runInstr, if_neg (by simp [h]), hb]
  dsimp only
  rw [if_neg (by omega), if_pos hop]

theorem runInstr_badOpcode {op : Nat} (f : State → List Byte → State) (h : s.programReady n = true)
    (hb : s.fetchInstr n = .ok b) (hop : 7 < leAt b 0 1) : s.runInstr n op f = s.badOpcode n := by
  rw [State.runInstr, if_neg (by simp [h]), hb]
  exact if_pos hop

theorem runInstr_unfetched {op : Nat} (f : State → List Byte → State) (h : s.programReady n = true)
    (hb : s.fetchInstr n = .error e) : s.runInstr n op f = s.porterStop n (s.porterCh n).pc e := by
  rw [State.runInstr, if_neg (by simp [h]), hb]

/-- The launch of a data instruction and the move of its data (R117). -/
def State.instrMoved (s : State) (n op : Nat) (b : List Byte) : State × Moved :=
  (s.launch n (s.porterCh n).pc (instrTransfer op b)).moveData n (instrTransfer op b)

theorem dataInstr_moves {op : Nat} (hop : op ≠ opCompare) (hc : (instrTransfer op b).count ≠ 0)
    (hm : s.instrMoved n op b = (u, .ok)) : State.dataInstr n op s b = u.nextInstr n := by
  rw [State.instrMoved] at hm
  rw [State.dataInstr]
  dsimp only
  rw [if_neg (by simp [hop]), if_neg hc, hm]
  exact if_neg hop

theorem dataInstr_fails {op : Nat} (hop : op ≠ opCompare) (hc : (instrTransfer op b).count ≠ 0)
    (hm : s.instrMoved n op b = (u, .failed e)) :
    State.dataInstr n op s b = (u.launchFails n (s.porterCh n).pc e).nextInstr n := by
  rw [State.instrMoved] at hm
  rw [State.dataInstr]
  dsimp only
  rw [if_neg (by simp [hop]), if_neg hc, hm]

theorem compare_goesOn (hstop : natBit (leAt b 1 1) 1 = false) (hc : (instrTransfer opCompare b).count ≠ 0)
    (hm : s.instrMoved n opCompare b = (u, .ok)) : State.dataInstr n opCompare s b = (u.landed n).nextInstr n := by
  rw [State.instrMoved] at hm
  rw [State.dataInstr]
  dsimp only
  rw [if_neg (by simp [hstop]), if_neg hc, hm]
  dsimp only
  rw [if_pos rfl, if_neg (by simp [hstop])]

theorem compare_ends (hstop : natBit (leAt b 1 1) 1 = true) (hconf : (s.porterCh n).confirmed = true)
    (hc : (instrTransfer opCompare b).count ≠ 0) (hm : s.instrMoved n opCompare b = (u, .ok))
    (hmis : ((u.landed n).porterCh n).mismatch = true) : State.dataInstr n opCompare s b =
      ((u.landed n).modPorter n (fun p => { p with status := 2 })).porterComplete n := by
  have hall : s.allConfirmed n = true := hconf
  rw [State.instrMoved] at hm
  rw [State.dataInstr]
  dsimp only
  rw [if_neg (by simp [hall]), if_neg hc, hm]
  dsimp only
  rw [if_pos rfl, if_pos (by rw [hstop, hmis]; rfl)]
  rfl

theorem launch_same (s : State) (n i : Nat) (t : Transfer) : (s.launch n i t).porterCh n = { s.porterCh n with
    state := 1, unconfirmed := (s.porterCh n).unconfirmed ++ [⟨i, t, []⟩] } := State.modPorter_same ..

theorem launchFails_error (s : State) (n i : Nat) (e : BusErr) : ((s.launchFails n i e).porterCh n).error = some (i, e) :=
  (congrArg PorterSt.error (State.modPorter_same ..) :)

/-- What LOOP leaves of its counter (R119). -/
def loopLeft (p : PorterSt) (b : List Byte) : Nat :=
  if mapGet 0 p.loops (leAt b 2 1) = 0 then leAt b 4 4 - 1 else mapGet 0 p.loops (leAt b 2 1) - 1

theorem loopInstr_valid (hid : leAt b 2 1 ≤ 3) (ht : leAt b 8 4 ≤ (s.porterCh n).pc) : State.loopInstr n s b =
    s.modPorter n (fun p => { p with
      loops := mapSet 0 p.loops (leAt b 2 1) (loopLeft (s.porterCh n) b)
      pc := if loopLeft (s.porterCh n) b = 0 then p.pc + 1 else leAt b 8 4 }) := by
  rw [State.loopInstr, if_pos hid, if_pos ht]
  rfl

theorem endInstr_eq (s : State) (n : Nat) (b : List Byte) :
    State.endInstr n s b = if (s.porterCh n).confirmed = true then s.porterComplete n else s := rfl

theorem moveData_refused {t : Transfer} (h : t.refusal = some e) : s.moveData n t = (s, .failed e) := by
  rw [State.moveData, h]

theorem nextInstr_same (s : State) (n : Nat) : (s.nextInstr n).porterCh n = { s.porterCh n with pc := (s.porterCh n).pc + 1 } :=
  State.modPorter_same ..

end Instructions

section Waits
variable {s : State} {n : Nat} {b : List Byte} {w : WaitFor}

/-- A channel at a WAIT, with nothing met yet (R120). -/
def State.waitBegun (s : State) (n : Nat) : State := s.modPorter n (fun p => { p with waitMet := false })

theorem waitInstr_unconfirmed (h : (s.porterCh n).confirmed = false) : State.waitInstr n s b = s := if_pos h

theorem waitInstr_valid (h : (s.porterCh n).confirmed = true) (hw : waitFor b = some w) : State.waitInstr n s b =
    if (s.waitBegun n).waitHolds n w then (s.waitBegun n).nextInstr n
    else (s.waitBegun n).modPorter n (fun p => { p with waiting := some w, state := 3 }) := by
  have hall : s.allConfirmed n = true := h
  rw [State.waitInstr, if_neg (by simp [hall]), hw]
  rfl

theorem waitFor_fence (h : leAt b 2 1 = 0) (hid : leAt b 3 1 ≤ 31) : waitFor b = some (.fence (leAt b 3 1) (leAt b 8 2)) := by
  rw [waitFor, h]
  exact if_pos hid

theorem waitFor_bindOff (h : leAt b 2 1 = 1) (hid : leAt b 3 1 ≤ 7) : waitFor b = some (.bindOff (leAt b 3 1)) := by
  rw [waitFor, h]
  exact if_pos hid

theorem waitFor_tb (h : leAt b 2 1 = 2) : waitFor b = some (.tb (leAt b 8 8)) := by
  simp only [waitFor, h]

/-- A channel whose WAIT is over (R120). -/
def State.waitOver (s : State) (n : Nat) : State :=
  s.modPorter n (fun p => { p with waiting := none, waitMet := false, state := 1 })

theorem waitDone_goes (h : (s.porterCh n).waiting = some w) (hw : s.waitHolds n w = true) :
    s.waitDone n = (s.waitOver n).nextInstr n := by
  rw [State.waitDone, h]
  exact if_pos hw

theorem waitDone_stays (h : (s.porterCh n).waiting = some w) (hw : s.waitHolds n w = false) : s.waitDone n = s := by
  rw [State.waitDone, h]
  exact if_neg (by rw [hw]; decide)

theorem waitOver_next (s : State) (n : Nat) : ((s.waitOver n).nextInstr n).porterCh n = { s.porterCh n with
    waiting := none, waitMet := false, state := 1, pc := (s.porterCh n).pc + 1 } := by
  rw [nextInstr_same, State.waitOver, State.modPorter_same]

end Waits

section Signals
variable {s : State} {n : Nat} {b : List Byte} {bale : Bale}

theorem signalInstr_fence (h : (s.porterCh n).confirmed = true) (hp : natBit (leAt b 1 1) 2 = false)
    (hf : natBit (leAt b 1 1) 3 = true) (hn : leAt b 3 1 ≤ 31) :
    State.signalInstr n s b = (s.signalFence (leAt b 3 1)).nextInstr n := by
  have hall : s.allConfirmed n = true := h
  rw [State.signalInstr]
  dsimp only
  rw [if_neg (by simp [hall]), hp, hf, if_neg (by simpa using hn), if_pos rfl]
  rfl

theorem signalInstr_post (h : (s.porterCh n).confirmed = true) (hp : natBit (leAt b 1 1) 2 = true)
    (hf : natBit (leAt b 1 1) 3 = false) (hr : leAt b 2 1 ≤ 15) (ha : leAt b 8 8 < 2 ^ 35)
    (hb : s.storeRead (leAt b 8 8) 64 = .ok bale) :
    State.signalInstr n s b = (s.postInternal (leAt b 2 1) bale (.porter n none)).nextInstr n := by
  have hall : s.allConfirmed n = true := h
  have hhigh : leAt b 8 8 / 2 ^ 35 = 0 := Nat.div_eq_of_lt ha
  rw [State.signalInstr]
  dsimp only
  rw [if_neg (by simp [hall]), hp, hf, if_neg (by simpa using hr), if_neg (by decide), if_neg (not_not.mpr hhigh), hb]
  rfl

end Signals

/-- Settles O25: each instruction by its opcode, waits and signals by their conditions. -/
theorem porterPrograms : Obligations.PorterPrograms := by
  refine ⟨⟨fun s u n b h hb hc hop hm => congrArg Host.Outcome.next
        ((runInstr_runs _ h hb hop (by decide)).trans (dataInstr_moves (by decide) hc hm)),
      fun s u n b h hb hc hop hm => congrArg Host.Outcome.next
        ((runInstr_runs _ h hb hop (by decide)).trans (dataInstr_moves (by decide) hc hm)),
      fun s u n b h hb hc hop hm => congrArg Host.Outcome.next
        ((runInstr_runs _ h hb hop (by decide)).trans (dataInstr_moves (by decide) hc hm)),
      fun s u n b e h hb hc hop hm => congrArg Host.Outcome.next
        ((runInstr_runs _ h hb hop (by decide)).trans (dataInstr_fails (by decide) hc hm)),
      ?launch, fun s n i e => ⟨_, rfl, launchFails_error s n i e, rfl, fun k hk => State.modPorter_ne _ _ _ hk⟩,
      fun s u n b h hb hc hop hstop hm => congrArg Host.Outcome.next
        ((runInstr_runs _ h hb hop (by decide)).trans (compare_goesOn hstop hc hm)),
      fun s u n b h hb hc hop hstop hconf hm hmis => congrArg Host.Outcome.next
        ((runInstr_runs _ h hb hop (by decide)).trans (compare_ends hstop hconf hc hm hmis)),
      ?loop, fun s n b h hb hop => congrArg Host.Outcome.next
        ((runInstr_runs _ h hb hop (by decide)).trans (endInstr_eq s n.val b)),
      fun s n b h hb hop => congrArg Host.Outcome.next (runInstr_badOpcode _ h hb hop),
      fun s n e h hb => congrArg Host.Outcome.next (runInstr_unfetched _ h hb),
      fun s n t e h => moveData_refused h⟩,
    ?wait, fun s n b h hb hop hc => congrArg Host.Outcome.next
      ((runInstr_runs _ h hb hop (by decide)).trans (waitInstr_unconfirmed hc)),
    fun b h hid => waitFor_fence h hid, fun b h hid => waitFor_bindOff h hid, fun b h => waitFor_tb h,
    fun s n v => decide_eq_true_iff, ?resumes, fun s n w h hw => congrArg Host.Outcome.next (waitDone_stays h hw),
    fun s n b h hb hop hc hp hf hn => congrArg Host.Outcome.next
      ((runInstr_runs _ h hb hop (by decide)).trans (signalInstr_fence hc hp hf hn)),
    fun s n b bale h hb hop hc hp hf hr ha hbale => congrArg Host.Outcome.next
      ((runInstr_runs _ h hb hop (by decide)).trans (signalInstr_post hc hp hf hr ha hbale)),
    fun s n => ⟨_, rfl, (congrArg PorterSt.pc (nextInstr_same s n) :), rfl⟩⟩
  case launch =>
    intro s n i t
    refine ⟨_, rfl, ?_⟩
    rw [launch_same]
    exact ⟨rfl, rfl, rfl, fun k hk => State.modPorter_ne _ _ _ hk⟩
  case loop =>
    intro s n b h hb hop hid ht
    have hch := s.modPorter_same n.val (fun p => { p with
      loops := mapSet 0 p.loops (leAt b 2 1) (loopLeft (s.porterCh n) b)
      pc := if loopLeft (s.porterCh n) b = 0 then p.pc + 1 else leAt b 8 4 })
    exact ⟨_, loopLeft (s.porterCh n) b, congrArg Host.Outcome.next
      ((runInstr_runs _ h hb hop (by decide)).trans (loopInstr_valid hid ht)), fun h0 => if_pos h0, fun h0 => if_neg h0,
      (congrArg PorterSt.loops hch :), (congrArg PorterSt.pc hch :), rfl, fun k hk => State.modPorter_ne _ _ _ hk⟩
  case wait =>
    intro s n b w h hb hop hc hw
    have hrun := (runInstr_runs (State.waitInstr n) h hb hop (by decide)).trans (waitInstr_valid hc hw)
    exact ⟨s.waitBegun n, rfl, fun hholds => congrArg Host.Outcome.next (hrun.trans (if_pos hholds)),
      fun hholds => congrArg Host.Outcome.next (hrun.trans (if_neg (by rw [hholds]; decide)))⟩
  case resumes =>
    intro s n w h hw
    refine ⟨_, congrArg Host.Outcome.next (waitDone_goes h hw), ?_⟩
    rw [waitOver_next]
    exact ⟨rfl, rfl, rfl, rfl, fun k hk => (State.modPorter_ne _ _ _ hk).trans (State.modPorter_ne _ _ _ hk)⟩

section Descriptors
variable {s u : State} {n r op : Nat} {b : Started}

/-- A channel with the CONFIG fields of its shadow taken (R123). -/
def State.retaken (s : State) (n : Nat) : State :=
  s.modPorter n (fun p => { p with live := p.live.retake (s.porterShadow n) })

theorem descriptor_runs (hm : (s.porterCh n).live.mode = 3) (hst : (s.porterCh n).state ≠ 2)
    (hc : (s.porterCh n).clearing = false) (hh : (s.porterCh n).halting = false) (he : (s.porterCh n).error = none)
    (hhold : s.holding = false) (hr : s.routeFor (.porter n) = some r) (hsh : (s.porterShadow n).mode = 3)
    (hb : s.nextStarted r (0x40 + op) = some b) : s.descriptor n op = (s.retaken n).runDescriptor n r op b := by
  rw [State.descriptor, if_neg (by simp [hm, hst, hc, hh, he, hhold]), hr]
  dsimp only
  rw [if_neg (by simp [hsh]), hb]
  rfl

theorem descriptor_still (h : (s.porterCh n).live.mode ≠ 3 ∨ (s.porterCh n).error.isSome = true) : s.descriptor n op = s := by
  rw [State.descriptor]
  refine if_pos ?_
  rcases h with h | h <;> simp [h]

/-- The launch of a descriptor and the move of its data (R123). -/
def State.descriptorMoved (s : State) (n r op : Nat) (b : Started) : State × Moved :=
  ((s.modStarted r b.index (fun x => { x with taken := true })).launch n b.index (descriptorTransfer op b.data)).moveData n
    (descriptorTransfer op b.data)

theorem runDescriptor_moves (hc : (descriptorTransfer op b.data).count ≠ 0) (hop : op ≠ opCompare)
    (hm : s.descriptorMoved n r op b = (u, .ok)) : s.runDescriptor n r op b = u := by
  rw [State.descriptorMoved] at hm
  rw [State.runDescriptor, if_neg hc, hm]
  exact if_neg fun h => hop h.1

theorem runDescriptor_fails {e : BusErr} (hc : (descriptorTransfer op b.data).count ≠ 0)
    (hm : s.descriptorMoved n r op b = (u, .failed e)) : s.runDescriptor n r op b = u.launchFails n b.index e := by
  rw [State.descriptorMoved] at hm
  rw [State.runDescriptor, if_neg hc, hm]

theorem runDescriptor_differs (hc : (descriptorTransfer opCompare b.data).count ≠ 0)
    (hm : s.descriptorMoved n r opCompare b = (u, .ok)) (hmis : (u.porterCh n).mismatch = true) :
    s.runDescriptor n r opCompare b =
      u.launchFails n b.index ⟨(descriptorTransfer opCompare b.data).src, false, causeMismatch⟩ := by
  rw [State.descriptorMoved] at hm
  rw [State.runDescriptor, if_neg hc, hm]
  exact if_pos ⟨rfl, hmis⟩

theorem runDescriptor_empty (hc : (descriptorTransfer op b.data).count = 0) : s.runDescriptor n r op b =
    ((((s.modStarted r b.index (fun x => { x with taken := true })).modPorter n (fun p => p.zeroCount op)).finishBale r
      b.index false).descriptorDone n) := if_pos hc

end Descriptors

/-- Settles O26: the next descriptor by its operation, its end by how its data moved. -/
theorem porterDescriptors : Obligations.PorterDescriptors :=
  ⟨fun s n _ hm hst hc hh he hhold hr hsh => ⟨s.retaken n, rfl,
      fun _ hb => congrArg Host.Outcome.next (descriptor_runs (op := 0) hm hst hc hh he hhold hr hsh hb),
      fun _ hb => congrArg Host.Outcome.next (descriptor_runs (op := 1) hm hst hc hh he hhold hr hsh hb),
      fun _ hb => congrArg Host.Outcome.next (descriptor_runs (op := 2) hm hst hc hh he hhold hr hsh hb),
      fun _ hb => congrArg Host.Outcome.next (descriptor_runs (op := 3) hm hst hc hh he hhold hr hsh hb)⟩,
    fun _ _ _ _ _ _ hc hop hm => runDescriptor_moves hc hop hm,
    fun _ _ _ _ _ _ _ hc hm => runDescriptor_fails hc hm,
    fun _ _ _ _ _ hc hm hmis => runDescriptor_differs hc hm hmis,
    fun _ _ _ _ _ hc => runDescriptor_empty hc,
    fun _ _ h => ⟨congrArg Host.Outcome.next (descriptor_still h), congrArg Host.Outcome.next (descriptor_still h),
      congrArg Host.Outcome.next (descriptor_still h), congrArg Host.Outcome.next (descriptor_still h)⟩⟩

end Sys2Proof.Machine

/-! PROOFS. Reception by sources, the end of a source frame, loss and reconfiguration (R129 to R144). -/

namespace Sys2Proof.Machine

/-! ### States that differ in their sources alone -/

/-- `t` is `s` but for its sources. -/
def SourcesOnly (s t : State) : Prop := t = { s with sources := t.sources }

theorem SourcesOnly.trans {s t u : State} (hst : SourcesOnly s t) (htu : SourcesOnly t u) : SourcesOnly s u := by
  unfold SourcesOnly at *
  rw [hst] at htu
  exact htu

theorem sourcesOnly_modSource (s : State) (i : Nat) (f : SrcSt → SrcSt) : SourcesOnly s (s.modSource i f) := rfl

theorem discardFrame_source (s : State) (i : Nat) : (s.discardFrame i).source i = { s.source i with
    frame := none, fifo := [], early := [], awaiting := decide (4 ≤ i), prevRow := 0 } :=
  s.modSource_same i (fun q => { q with
    frame := none, fifo := [], early := [], awaiting := decide (4 ≤ i), prevRow := 0 })

/-! ### SDI lines (R129, R136, R142) -/

section Sdi
variable {s : State} {i : Nat} {l : SdiLine} {g : SdiSignal} {f : FrameSt}

theorem sdiLine_idle (hp : l.payload = none) (h : s.srcRuns i = false ∨ (s.source i).signal = none) :
    s.sdiLine i l = s := by
  rw [State.sdiLine, hp]
  rcases h with h | h
  · split
    · rfl
    · exact if_pos h
  · rw [h]

theorem sdiLine_running (hr : s.srcRuns i = true) (hg : (s.source i).signal = some g) (hp : l.payload = none) :
    s.sdiLine i l =
      (if sdiRow g l = 0
        then ((if l.crcOk then s else s.modSource i (fun q => { q with crcErrors := satInc q.crcErrors })).drainFifo i).beginFrame i
        else (if l.crcOk then s else s.modSource i (fun q => { q with crcErrors := satInc q.crcErrors })).drainFifo i).lineIn
        i g l := by
  rw [State.sdiLine, hp, hg]
  exact if_neg (by rw [hr]; decide)

theorem lineIn_open (hf : (s.source i).frame = some f) (he : f.ended = false) : s.lineIn i g l =
    if sdiLast g l = true
    then ((if l.crcOk then s else s.modFrame i (fun f => { f with corrupt := true })).takeSegment i
      ⟨sdiRow g l, 0, l.samples.map (·.toNat)⟩).endFrame i
    else (if l.crcOk then s else s.modFrame i (fun f => { f with corrupt := true })).takeSegment i
      ⟨sdiRow g l, 0, l.samples.map (·.toNat)⟩ := by
  rw [State.lineIn, hf]
  exact if_neg (by rw [he]; decide)

theorem sdiLine_clean (hr : s.srcRuns i = true) (hg : (s.source i).signal = some g) (hh : s.holding = false)
    (hq : (s.source i).fifo = []) (hp : l.payload = none) (hc : l.crcOk = true) :
    s.sdiLine i l = (if sdiRow g l = 0 then (s.modSource i (fun q => { q with fifo := [] })).beginFrame i
      else s.modSource i (fun q => { q with fifo := [] })).lineIn i g l := by
  rw [sdiLine_running hr hg hp, if_pos hc, drainFifo_empty s i hh hq]

theorem sdiLine_row (hr : s.srcRuns i = true) (hg : (s.source i).signal = some g) (hh : s.holding = false)
    (hq : (s.source i).fifo = []) (hf : (s.source i).frame = some f) (he : f.ended = false) (hp : l.payload = none)
    (hc : l.crcOk = true) (hrow : sdiRow g l ≠ 0) :
    s.sdiLine i l = if sdiLast g l = true
      then ((s.modSource i (fun q => { q with fifo := [] })).writeSegment i
        ⟨sdiRow g l, 0, l.samples.map (·.toNat)⟩).endFrame i
      else (s.modSource i (fun q => { q with fifo := [] })).writeSegment i
        ⟨sdiRow g l, 0, l.samples.map (·.toNat)⟩ := by
  have hframe : ((s.modSource i (fun q => { q with fifo := [] })).source i).frame = some f := by
    rw [s.modSource_same i]; exact hf
  have htake : (s.modSource i (fun q => { q with fifo := [] })).takeSegment i ⟨sdiRow g l, 0, l.samples.map (·.toNat)⟩ =
      (s.modSource i (fun q => { q with fifo := [] })).writeSegment i ⟨sdiRow g l, 0, l.samples.map (·.toNat)⟩ :=
    if_pos hh
  rw [sdiLine_clean hr hg hh hq hp hc, if_neg hrow, lineIn_open hframe he, if_pos hc, htake]

/-- A line whose CRC fails has been counted and has made its frame corrupt (R136). -/
def State.badLine (s : State) (i : Nat) : State :=
  (s.modSource i (fun q => { q with crcErrors := satInc q.crcErrors })).modFrame i (fun f => { f with corrupt := true })

theorem badLine_source (s : State) (i : Nat) : (s.badLine i).source i = { s.source i with
    crcErrors := satInc (s.source i).crcErrors
    frame := (s.source i).frame.map (fun f => { f with corrupt := true }) } := by
  rw [State.badLine, State.modFrame, State.modSource_same, State.modSource_same]

theorem badLine_source_ne (s : State) {i k : Nat} (hk : k ≠ i) : (s.badLine i).source k = s.source k := by
  rw [State.badLine, State.modFrame, State.modSource_ne _ _ _ hk, State.modSource_ne _ _ _ hk]

theorem sdiLine_bad (hr : s.srcRuns i = true) (hg : (s.source i).signal = some g) (hp : l.payload = none)
    (hc : l.crcOk = false) (hrow : sdiRow g l ≠ 0) (hh : s.holding = true) (hf : (s.source i).frame = some f)
    (he : f.ended = false) :
    s.sdiLine i l = if sdiLast g l = true
      then ((s.badLine i).takeSegment i ⟨sdiRow g l, 0, l.samples.map (·.toNat)⟩).endFrame i
      else (s.badLine i).takeSegment i ⟨sdiRow g l, 0, l.samples.map (·.toNat)⟩ := by
  have hcrc : ¬ l.crcOk = true := by rw [hc]; decide
  have hframe : ((s.modSource i (fun q => { q with crcErrors := satInc q.crcErrors })).source i).frame = some f := by
    rw [s.modSource_same i]; exact hf
  rw [sdiLine_running hr hg hp, if_neg hcrc, if_neg hrow, drainFifo_holding _ i (by rw [holding_modSource, hh]),
    lineIn_open hframe he, if_neg hcrc, State.badLine]

/-- The state in which a locked signal is judged: it and its payload taken, the frame in progress gone (R129). -/
def State.signalTaken (s : State) (i : Nat) (g : SdiSignal) : State :=
  (s.modSource i (fun q => { q with signal := some g, payload := g.payload.getD 0 })).discardFrame i

theorem signalTaken_source (s : State) (i : Nat) (g : SdiSignal) : (s.signalTaken i g).source i = { s.source i with
    signal := some g, payload := g.payload.getD 0
    frame := none, fifo := [], early := [], awaiting := decide (4 ≤ i), prevRow := 0 } := by
  rw [State.signalTaken, discardFrame_source, State.modSource_same]

theorem signalTaken_source_ne (s : State) {i k : Nat} (g : SdiSignal) (hk : k ≠ i) :
    (s.signalTaken i g).source k = s.source k := by
  rw [State.signalTaken, State.discardFrame, State.modSource_ne _ _ _ hk, State.modSource_ne _ _ _ hk]

theorem sdiLock_eq (s : State) (i : Nat) (g : SdiSignal) : s.sdiLock i g =
    if srcEnabled (s.reg .SRC_CONFIG i) then (s.signalTaken i g).evaluate i else s.signalTaken i g := rfl

theorem not_supported (h : g.rateCode.val = 0 ∨ g.link ≠ .single ∨ g.sampling = false) : g.supported = false := by
  unfold SdiSignal.supported
  rcases h with h | h | h <;> simp [h]

theorem evaluate_unsupported (hi : i < 4) (hg : (s.source i).signal = some g)
    (h : g.rateCode.val = 0 ∨ g.link ≠ .single ∨ g.sampling = false) :
    s.evaluate i = (s.discardFrame i).setSrcState i srcRefused 1 := by
  have hshape : s.srcShape i = some (.error 1) := by
    rw [State.srcShape, if_pos hi, hg]
    exact if_neg (by rw [not_supported h]; decide)
  rw [State.evaluate, hshape]
  rfl

end Sdi

/-! ### The merged flow of ST 2110 packets (R130, R132) -/

section Flow
variable {s : State} {i p : Nat} {k : RtpPacket} {f : FrameSt}

theorem setPath_same {up : Bool} (h : s.pathUp i p = up) : s.setPath i p up = s := if_pos h

theorem settleFlow_empty (force : Bool) (h : (s.source i).early = []) : s.settleFlow i force = s := by
  rw [State.settleFlow, h]
  rfl

theorem drainFifo_idle (h : (s.source i).fifo = []) :
    SourcesOnly s (s.drainFifo i) ∧ (s.drainFifo i).source i = s.source i := by
  cases hh : s.holding
  · rw [drainFifo_empty s i hh h]
    refine ⟨rfl, ?_⟩
    rw [State.modSource_same, ← h]
  · rw [drainFifo_holding s i hh]
    exact ⟨rfl, rfl⟩

theorem netPacket_off (h : s.srcRuns i = false ∨ srcPath (s.reg .SRC_CONFIG i) p = false) : s.netPacket i p k = s :=
  if_pos h

theorem netPacket_on (hr : s.srcRuns i = true) (hp : srcPath (s.reg .SRC_CONFIG i) p = true) : s.netPacket i p k =
    (let u := ((s.setPath i p true).drainFifo i).settleFlow i false
     match u.seqSeen i k.seq with
     | some true => u.modSource i (fun q => { q with lates := satInc q.lates })
     | some false => u
     | none => if (u.source i).past k.seq then u.modSource i (fun q => q.note k.seq u.time.tb.toNat)
       else ((u.modSource i (fun q => q.note k.seq u.time.tb.toNat)).modSource i
         (fun q => q.wait k u.time.tb.toNat)).settleFlow i false) :=
  if_neg (by rw [hr, hp]; decide)

/-- The state in which a packet of the path is judged: the path is up, and what could go on has gone on. -/
def State.flowBefore (s : State) (i p : Nat) : State := ((s.setPath i p true).drainFifo i).settleFlow i false

/-- The packet has been noted as seen. -/
def State.noted (s : State) (i : Nat) (k : RtpPacket) : State := s.modSource i (fun q => q.note k.seq s.time.tb.toNat)

theorem netPacket_seen (hr : s.srcRuns i = true) (hp : srcPath (s.reg .SRC_CONFIG i) p = true)
    (h : (s.flowBefore i p).seqSeen i k.seq = some false) : s.netPacket i p k = s.flowBefore i p := by
  unfold State.flowBefore at h ⊢
  rw [netPacket_on hr hp]
  dsimp only
  rw [h]

theorem netPacket_late (hr : s.srcRuns i = true) (hp : srcPath (s.reg .SRC_CONFIG i) p = true)
    (h : (s.flowBefore i p).seqSeen i k.seq = some true) :
    s.netPacket i p k = (s.flowBefore i p).modSource i (fun q => { q with lates := satInc q.lates }) := by
  unfold State.flowBefore at h ⊢
  rw [netPacket_on hr hp]
  dsimp only
  rw [h]

theorem netPacket_new (hr : s.srcRuns i = true) (hp : srcPath (s.reg .SRC_CONFIG i) p = true)
    (h : (s.flowBefore i p).seqSeen i k.seq = none) (hpast : ((s.flowBefore i p).source i).past k.seq = false) :
    s.netPacket i p k = (((s.flowBefore i p).noted i k).modSource i
      (fun q => q.wait k (s.flowBefore i p).time.tb.toNat)).settleFlow i false := by
  unfold State.flowBefore at h hpast ⊢
  rw [netPacket_on hr hp]
  dsimp only
  rw [h]
  exact if_neg (by rw [hpast]; decide)

theorem past_next {q : SrcSt} {n : Word} (h : q.lastSeq = some (n - 1)) : q.past n = false := by
  have hgap : (n - (n - 1) - 1).toNat = 0 := by bv_omega
  rw [SrcSt.past, h]
  exact decide_eq_false (by rw [hgap]; omega)

/-- The one packet that waits in the flow has been taken out of it. -/
def State.taken (s : State) (i : Nat) (k : RtpPacket) : State :=
  ((s.modSource i (fun q => q.note k.seq s.time.tb.toNat)).modSource i
    (fun q => q.wait k s.time.tb.toNat)).modSource i (fun q => { q with early := [] })

theorem taken_source (s : State) (i : Nat) (k : RtpPacket) : (s.taken i k).source i =
    { ((s.source i).note k.seq s.time.tb.toNat).wait k s.time.tb.toNat with early := [] } := by
  rw [State.taken, State.modSource_same, State.modSource_same, State.modSource_same]

theorem taken_sourcesOnly (s : State) (i : Nat) (k : RtpPacket) : SourcesOnly s (s.taken i k) :=
  ((sourcesOnly_modSource s i _).trans (sourcesOnly_modSource _ i _)).trans (sourcesOnly_modSource _ i _)

theorem settleFlow_next (hl : (s.source i).lastSeq = some (k.seq - 1)) (he : (s.source i).early = []) :
    ((s.modSource i (fun q => q.note k.seq s.time.tb.toNat)).modSource i
      (fun q => q.wait k s.time.tb.toNat)).settleFlow i false = (s.taken i k).takePacket i k := by
  have hsource : (((s.modSource i (fun q => q.note k.seq s.time.tb.toNat)).modSource i
      (fun q => q.wait k s.time.tb.toNat)).source i) = ((s.source i).note k.seq s.time.tb.toNat).wait k s.time.tb.toNat := by
    rw [State.modSource_same, State.modSource_same]
  have hearly : (((s.source i).note k.seq s.time.tb.toNat).wait k s.time.tb.toNat).early = [(k, s.time.tb.toNat)] := by
    show sortBy _ ((s.source i).early ++ [(k, s.time.tb.toNat)]) = _
    rw [he]
    rfl
  have hnext : (((s.source i).note k.seq s.time.tb.toNat).wait k s.time.tb.toNat).lastSeq.all
      (fun l => k.seq == l + 1) = true := by
    show (s.source i).lastSeq.all _ = true
    rw [hl]
    simp
  rw [State.settleFlow, hsource, hearly]
  simp only [List.length_cons, List.length_nil, Nat.zero_add, State.releasePackets]
  rw [hsource, hearly]
  dsimp only
  rw [hnext]
  rfl

theorem netPacket_next (hr : s.srcRuns i = true) (hp : srcPath (s.reg .SRC_CONFIG i) p = true)
    (hup : s.pathUp i p = true) (hq : (s.source i).fifo = []) (he : (s.source i).early = [])
    (hl : (s.source i).lastSeq = some (k.seq - 1)) (hn : s.seqSeen i k.seq = none) :
    s.netPacket i p k = ((s.drainFifo i).taken i k).takePacket i k := by
  obtain ⟨honly, hsource⟩ := drainFifo_idle hq
  have hseen : (s.drainFifo i).seqSeen i k.seq = none := by
    rw [State.seqSeen, hsource, congrArg State.time honly]
    exact hn
  rw [netPacket_on hr hp, setPath_same hup]
  dsimp only
  rw [settleFlow_empty (s := s.drainFifo i) false (by rw [hsource, he]), hseen]
  dsimp only
  rw [past_next (by rw [hsource, hl]), if_neg (by decide)]
  exact settleFlow_next (by rw [hsource, hl]) (by rw [hsource, he])

/-- The next packet of the flow, noted as the last taken, with nothing lost before it. -/
def State.nextTaken (s : State) (i : Nat) (k : RtpPacket) : State :=
  s.modSource i (fun q => { q with
    lastSeq := some k.seq, losses := min max32 (q.losses + 0)
    prevRow := (k.rows.getLast?.map (·.row)).getD q.prevRow })

theorem takePacket_next (ha : (s.source i).awaiting = false) (hf : (s.source i).frame = some f) (he : f.ended = false)
    (hl : (s.source i).lastSeq = some (k.seq - 1))
    (hrow : (s.source i).prevRow ≤ (packetStart k (s.source i).prevRow).1) :
    s.takePacket i k = (s.nextTaken i k).packetIn i k := by
  have hgap : ((s.source i).lastSeq.map (fun l => (k.seq - l - 1).toNat)).getD 0 = 0 := by
    rw [hl]
    show (k.seq - (k.seq - 1) - 1).toNat = 0
    bv_omega
  have hlower : decide ((packetStart k (s.source i).prevRow).1 < (s.source i).prevRow) = false :=
    decide_eq_false (Nat.not_lt.2 hrow)
  rw [State.takePacket]
  dsimp only
  rw [hgap, hlower, ha, hf, if_neg (by simp)]
  dsimp only
  rw [he, if_neg (by decide), if_neg (by decide), if_pos rfl]
  rfl

end Flow

/-- Settles O27: each arm of the reception by its branch; a line reaches its row once the FIFO is drained or ingest is
held, and the next packet of an empty flow is taken at once. -/
theorem sourceReception : Obligations.SourceReception := by
  unfold Obligations.SourceReception
  refine ⟨⟨?_, ?_, ?_, ?_, ?_, ?_, ?_, ?_, ?_⟩, ?_, ?_, ?_, ?_, ?_⟩
  · exact fun s i l hp h => congrArg Host.Outcome.next (sdiLine_idle hp h)
  · intro s i l g f hr hg hh hq hf he hp hc hrow
    exact ⟨_, _, rfl, rfl, congrArg Host.Outcome.next (sdiLine_row hr hg hh hq hf he hp hc hrow)⟩
  · intro s i l g hr hg hh hq hp hc hrow
    refine ⟨_, rfl, congrArg Host.Outcome.next ?_⟩
    rw [sdiLine_clean hr hg hh hq hp hc, if_pos hrow]
  · intro s i l g f hr hg hp hc hrow hh hf he
    refine ⟨s.badLine i, _, congrArg Host.Outcome.next (sdiLine_bad hr hg hp hc hrow hh hf he), rfl, ?_, ?_, rfl,
      fun k hk => badLine_source_ne s hk⟩
    · rw [badLine_source]
    · rw [badLine_source, hf]
      rfl
  · exact fun g l hw => if_pos hw
  · exact fun g l hw => if_neg (by rw [hw]; decide)
  · intro s i g hoff
    refine ⟨s.signalTaken i g, congrArg Host.Outcome.next ?_, ?_, ?_, ?_, ?_, rfl, fun k hk => signalTaken_source_ne s g hk⟩
    · rw [sdiLock_eq, hoff, if_neg (by decide)]
    all_goals rw [signalTaken_source]
  · intro s i g hon
    refine ⟨s.signalTaken i g, congrArg Host.Outcome.next ?_, ?_, ?_, ?_, rfl⟩
    · rw [sdiLock_eq, if_pos hon]
    all_goals rw [signalTaken_source]
  · exact fun s i g hi hg h => evaluate_unsupported hi hg h
  · exact fun s i p k h => congrArg Host.Outcome.next (netPacket_off h)
  · intro s i p k hr hp
    refine ⟨s.flowBefore (i + 4) p, rfl, fun h => congrArg Host.Outcome.next (netPacket_seen hr hp h),
      fun h => congrArg Host.Outcome.next (netPacket_late hr hp h), fun h hpast =>
      ⟨(s.flowBefore (i + 4) p).noted (i + 4) k, congrArg Host.Outcome.next (netPacket_new hr hp h hpast), ?_, rfl,
        fun n hn => State.modSource_ne _ _ _ hn⟩⟩
    rw [State.noted, State.modSource_same]
    rfl
  · intro s i p k hr hp hup hq he hl hn
    obtain ⟨honly, hsource⟩ := drainFifo_idle hq
    refine ⟨_, congrArg Host.Outcome.next (netPacket_next hr hp hup hq he hl hn), ?_, ?_,
      honly.trans (taken_sourcesOnly _ _ k)⟩
    · rw [taken_source]
    · rw [taken_source, hsource]
      rfl
  · intro s i k f ha hf he hl hrow
    refine ⟨s.nextTaken i k, takePacket_next ha hf he hl hrow, ?_, ?_, ?_, rfl⟩
    all_goals rw [State.nextTaken, State.modSource_same]
    · exact hf
    · rfl
  · exact fun s i p h => setPath_same h

end Sys2Proof.Machine

/-! PROOFS. The end of a source frame (R136, R138, R140, R142), loss and reconfiguration of a source (R140, R141, R143,
R144). -/

namespace Sys2Proof.Machine

/-! ### The end of a frame -/

section Frames
variable {s : State} {i : Nat} {f : FrameSt} {k : Nat}

/-- The frame in progress is over: counted, as a corrupt one and one that does not match where it is that. -/
def State.frameOver (s : State) (i : Nat) (f : FrameSt) : State :=
  s.modSource i (fun q => { q with
    frame := none
    corrupts := if f.corrupt || f.mismatch then satInc q.corrupts else q.corrupts
    mismatches := if f.mismatch then satInc q.mismatches else q.mismatches })

/-- A frame that had a buffer is over, and counts (R136). -/
def State.frameCounted (s : State) (i : Nat) (f : FrameSt) : State :=
  (s.frameOver i f).modSource i (fun q => { q with frames := q.frames + 1 })

theorem frameCounted_source (s : State) (i : Nat) (f : FrameSt) : (s.frameCounted i f).source i = { s.source i with
    frame := none, frames := (s.source i).frames + 1
    corrupts := if f.corrupt || f.mismatch then satInc (s.source i).corrupts else (s.source i).corrupts
    mismatches := if f.mismatch then satInc (s.source i).mismatches else (s.source i).mismatches } := by
  rw [State.frameCounted, State.modSource_same, State.frameOver, State.modSource_same]

theorem frameCounted_source_ne (s : State) (f : FrameSt) {n : Nat} (hn : n ≠ i) :
    (s.frameCounted i f).source n = s.source n := by
  rw [State.frameCounted, State.modSource_ne _ _ _ hn, State.frameOver, State.modSource_ne _ _ _ hn]

theorem frameCounted_sourcesOnly (s : State) (i : Nat) (f : FrameSt) : SourcesOnly s (s.frameCounted i f) :=
  (sourcesOnly_modSource s i _).trans (sourcesOnly_modSource _ i _)

/-- A matched frame returns to LOCKED a source that is neither refused nor disabled (R140, R142). -/
def State.relocked (s : State) (i : Nat) (f : FrameSt) : State :=
  if f.mismatch = true ∨ (s.source i).state = srcRefused ∨ (s.source i).state = srcDisabled then s
  else s.setSrcState i srcLocked 0

theorem relocked_matched (hm : f.mismatch = false) (hr : (s.source i).state ≠ srcRefused)
    (hd : (s.source i).state ≠ srcDisabled) : s.relocked i f = s.setSrcState i srcLocked 0 :=
  if_neg (by rw [hm]; simp [hr, hd])

theorem finishFrame_over (hf : (s.source i).frame = some f) (he : f.ended = true) (hh : s.holding = false)
    (hb : f.buf = some k) : s.finishFrame i =
      (if (f.corrupt || f.mismatch) = true ∧ srcDiscards (s.reg .SRC_CONFIG i) = true then s.frameCounted i f
        else (s.frameCounted i f).modSource i (fun q => q.becomeNewest k f)).relocked i f := by
  rw [State.finishFrame, hf]
  dsimp only
  rw [if_neg (by rw [he, hh]; decide), hb]
  rfl

theorem finishFrame_newest (hf : (s.source i).frame = some f) (he : f.ended = true) (hh : s.holding = false)
    (hb : f.buf = some k) (hc : f.corrupt = false) (hm : f.mismatch = false) (hr : (s.source i).state ≠ srcRefused)
    (hd : (s.source i).state ≠ srcDisabled) :
    s.finishFrame i = ((s.frameCounted i f).modSource i (fun q => q.becomeNewest k f)).setSrcState i srcLocked 0 := by
  have hstate : (((s.frameCounted i f).modSource i (fun q => q.becomeNewest k f)).source i).state = (s.source i).state := by
    rw [State.modSource_same, frameCounted_source]
    rfl
  rw [finishFrame_over hf he hh hb, if_neg (by simp [hc, hm])]
  exact relocked_matched hm (by rw [hstate]; exact hr) (by rw [hstate]; exact hd)

theorem finishFrame_discarded (hf : (s.source i).frame = some f) (he : f.ended = true) (hh : s.holding = false)
    (hb : f.buf = some k) (hc : f.corrupt = true) (hm : f.mismatch = false)
    (hp : srcDiscards (s.reg .SRC_CONFIG i) = true) (hr : (s.source i).state ≠ srcRefused)
    (hd : (s.source i).state ≠ srcDisabled) :
    s.finishFrame i = (s.frameCounted i f).setSrcState i srcLocked 0 := by
  have hstate : ((s.frameCounted i f).source i).state = (s.source i).state := by rw [frameCounted_source]
  rw [finishFrame_over hf he hh hb, if_pos ⟨by rw [hc]; rfl, hp⟩]
  exact relocked_matched hm (by rw [hstate]; exact hr) (by rw [hstate]; exact hd)

theorem finishFrame_mismatched (hf : (s.source i).frame = some f) (he : f.ended = true) (hh : s.holding = false)
    (hb : f.buf = some k) (hm : f.mismatch = true) (hp : srcDiscards (s.reg .SRC_CONFIG i) = true) :
    s.finishFrame i = s.frameCounted i f := by
  rw [finishFrame_over hf he hh hb, if_pos ⟨by rw [hm, Bool.or_true], hp⟩]
  exact if_pos (.inl hm)

/-- What waited in an empty FIFO has been written. -/
def State.fifoEmptied (s : State) (i : Nat) : State := s.modSource i (fun q => { q with fifo := [] })

theorem fifoEmptied_source (hq : (s.source i).fifo = []) : (s.fifoEmptied i).source i = s.source i := by
  rw [State.fifoEmptied, State.modSource_same, ← hq]

theorem fifoEmptied_source_ne (s : State) {n : Nat} (hn : n ≠ i) : (s.fifoEmptied i).source n = s.source n :=
  State.modSource_ne _ _ _ hn

theorem completeFrame_empty (hh : s.holding = false) (hq : (s.source i).fifo = []) (he : (s.source i).early = []) :
    s.completeFrame i = (s.fifoEmptied i).finishFrame i := by
  have hearly : ((s.fifoEmptied i).source i).early = [] := by rw [fifoEmptied_source hq, he]
  rw [State.completeFrame, drainFifo_empty s i hh hq]
  exact congrArg (State.finishFrame · i) (settleFlow_empty _ hearly)

theorem completeFrame_holding (hh : s.holding = true) (he : (s.source i).early = []) : s.completeFrame i = s := by
  rw [State.completeFrame, drainFifo_holding s i hh, settleFlow_empty _ he, State.finishFrame]
  split
  · rfl
  · exact if_pos (.inr hh)

theorem frameDone_sourcesOnly (s : State) (i : Nat) (f : FrameSt) :
    SourcesOnly s ((s.fifoEmptied i).frameCounted i f) :=
  (sourcesOnly_modSource s i _).trans (frameCounted_sourcesOnly _ i f)

theorem becomeNewest_drops (q : SrcSt) : (q.becomeNewest k f).drops =
    if q.newest.isSome = true ∧ q.taken = false then satInc q.drops else q.drops := by
  show (if (q.newest.isSome && !q.taken) = true then _ else _) = _
  cases q.newest.isSome <;> cases q.taken <;> rfl

end Frames

/-- Settles O28: with nothing waiting the frame ends on the state as it stands, and each clause is a branch of its end. -/
theorem frameCompletes : Obligations.FrameCompletes := by
  unfold Obligations.FrameCompletes
  refine ⟨?_, ?_, ?_, fun s i he hh => congrArg Host.Outcome.next (completeFrame_holding hh he)⟩
  · intro s i f k hh hq he hf hend hc hm hb hr hd
    have hsource := fifoEmptied_source hq
    have hdone := finishFrame_newest (s := s.fifoEmptied i) (by rw [hsource, hf]) hend hh hb hc hm
      (by rw [hsource]; exact hr) (by rw [hsource]; exact hd)
    have ht := (State.modSource_same ((s.fifoEmptied i).frameCounted i f) i (fun q => q.becomeNewest k f)).trans
      (congrArg (SrcSt.becomeNewest · k f) (frameCounted_source (s.fifoEmptied i) i f))
    rw [hsource] at ht
    refine ⟨_, congrArg Host.Outcome.next ((completeFrame_empty hh hq he).trans hdone), ?_, ?_, ?_, ?_, ?_, ?_,
      (frameDone_sourcesOnly s i f).trans (sourcesOnly_modSource _ i _), ?_⟩
    · rw [ht]; rfl
    · rw [ht]; rfl
    · rw [ht]; rfl
    · rw [ht]; rfl
    · rw [ht]
      exact if_neg (by rw [hc, hm]; decide)
    · rw [ht]
      exact becomeNewest_drops _
    · intro n hn
      rw [State.modSource_ne _ _ _ hn, frameCounted_source_ne _ _ hn, fifoEmptied_source_ne _ hn]
  · intro s i f k hh hq he hf hend hc hm hb hp hr hd
    have hsource := fifoEmptied_source hq
    have hdone := finishFrame_discarded (s := s.fifoEmptied i) (by rw [hsource, hf]) hend hh hb hc hm hp
      (by rw [hsource]; exact hr) (by rw [hsource]; exact hd)
    refine ⟨_, congrArg Host.Outcome.next ((completeFrame_empty hh hq he).trans hdone), ?_, ?_, ?_,
      frameDone_sourcesOnly s i f⟩
    all_goals rw [frameCounted_source, hsource]
    exact if_pos (by rw [hc]; rfl)
  · intro s i f k hh hq he hf hend hm hb hp
    have hsource := fifoEmptied_source hq
    have hdone := finishFrame_mismatched (s := s.fifoEmptied i) (by rw [hsource, hf]) hend hh hb hm hp
    refine ⟨_, congrArg Host.Outcome.next ((completeFrame_empty hh hq he).trans hdone), ?_, ?_, ?_, ?_, ?_,
      frameDone_sourcesOnly s i f⟩
    all_goals rw [frameCounted_source, hsource]
    · exact if_pos (by rw [hm, Bool.or_true])
    · exact if_pos hm

/-! ### Loss -/

section Loss
variable {s : State} {i p : Nat}

/-- The signal and the frame in progress are gone (R140). -/
def State.signalGone (s : State) (i : Nat) : State := (s.modSource i (fun q => { q with signal := none })).discardFrame i

theorem signalGone_source (s : State) (i : Nat) : (s.signalGone i).source i = { s.source i with
    signal := none, frame := none, fifo := [], early := [], awaiting := decide (4 ≤ i), prevRow := 0 } := by
  rw [State.signalGone, discardFrame_source, State.modSource_same]

theorem signalGone_sourcesOnly (s : State) (i : Nat) : SourcesOnly s (s.signalGone i) :=
  (sourcesOnly_modSource s i _).trans (sourcesOnly_modSource _ i _)

theorem sourceStops_locked (h : (s.source i).state = srcLocked) :
    s.sourceStops i = ((s.signalGone i).setSrcState i srcHolding 0).recordOpen 0x06 classA [(8, i)] :=
  if_pos (.inl h)

theorem sourceStops_other (h : (s.source i).state ≠ srcLocked) (h' : (s.source i).state ≠ srcSearching) :
    s.sourceStops i = s.signalGone i :=
  if_neg fun hor => hor.elim h fun hand => h' hand.1

theorem sourceLost_kept (h : (s.source i).state ≠ srcHolding ∨ srcLossHold (s.reg .SRC_CONFIG i) = 0) :
    s.sourceLost i = s :=
  if_neg fun hand => h.elim (· hand.1) (hand.2 ·)

theorem pathDown_down (h : s.pathUp i p = false) : s.pathDown i p = s := if_pos h

theorem pathDown_up (h : s.pathUp i p = true) : s.pathDown i p =
    if fld (s.reg .SRC_CONFIG i) 4 2 = 3 then (s.setPath i p false).recordOpen 0x06 classA [(8, i)]
    else s.setPath i p false :=
  if_neg (by rw [h]; decide)

theorem setSrcState_change {st : Nat} (reason : Nat) (h : (s.source i).state ≠ st) :
    s.setSrcState i st reason = (s.modSource i (fun q => { q with state := st, reason := reason })).event 0xA8
      [byteOf i, byteOf st, byteOf reason] :=
  if_neg fun hand => h hand.1

end Loss

/-! ### Reconfiguration -/

/-- The source offers the same frame, under the same mark, and has begun no frame. -/
def SameOffer (q q' : SrcSt) : Prop :=
  q'.newest = q.newest ∧ q'.dropNewest = q.dropNewest ∧ (q.frame = none → q'.frame = none)

theorem SameOffer.refl (q : SrcSt) : SameOffer q q := ⟨rfl, rfl, id⟩

theorem SameOffer.trans {q q' q'' : SrcSt} (h : SameOffer q q') (h' : SameOffer q' q'') : SameOffer q q'' :=
  ⟨h'.1.trans h.1, h'.2.1.trans h.2.1, fun hf => h'.2.2 (h.2.2 hf)⟩

section Restart
variable (s : State) (i : Nat)

theorem setSrcState_offer (st reason : Nat) : SameOffer (s.source i) ((s.setSrcState i st reason).source i) := by
  rw [State.setSrcState]
  split
  · exact .refl _
  · rw [event_source, State.modSource_same]
    exact .refl _

theorem setPath_offer (p : Nat) (up : Bool) : SameOffer (s.source i) ((s.setPath i p up).source i) := by
  rw [State.setPath]
  split
  · exact .refl _
  · rw [event_source, State.modSource_same]
    by_cases hp : p = 0
    · rw [if_pos hp]; exact .refl _
    · rw [if_neg hp]; exact .refl _

theorem refuseSource_offer (reason : Nat) : SameOffer (s.source i) ((s.refuseSource i reason).source i) := by
  have hdiscard : SameOffer (s.source i) ((s.discardFrame i).source i) := by
    rw [discardFrame_source]
    exact ⟨rfl, rfl, fun _ => rfl⟩
  exact hdiscard.trans (setSrcState_offer _ i _ _)

theorem leave_offer : SameOffer (s.source i) ((if (s.source i).state = srcDisabled ∨ (s.source i).state = srcRefused
    then s.setSrcState i srcSearching 0 else s).source i) := by
  split
  · exact setSrcState_offer s i _ _
  · exact .refl _

theorem evaluate_offer : SameOffer (s.source i) ((s.evaluate i).source i) := by
  rw [State.evaluate]
  split
  · exact leave_offer s i
  · exact refuseSource_offer s i _
  next fmt w h _ =>
    have hlayout : SameOffer (s.source i) ((s.modSource i (fun q => { q with
        format := fmt, width := w, height := h, pitch := pitchOf fmt w, reducedPitch := pitchOf fmt (half w),
        stride := strideOf fmt w h, base := s.srcBase i })).source i) := by
      rw [State.modSource_same]
      exact .refl _
    dsimp only
    split
    · exact hlayout.trans (leave_offer _ i)
    · exact hlayout.trans (refuseSource_offer _ i 2)

theorem foldl_offer (f : State → Nat → State) (hf : ∀ s p, SameOffer (s.source i) ((f s p).source i)) :
    ∀ (l : List Nat) (s : State), SameOffer (s.source i) ((l.foldl f s).source i)
  | [], _ => .refl _
  | p :: l, s => (hf s p).trans (foldl_offer f hf l (f s p))

/-- The frame in progress is discarded and the newest is marked to be dropped (R141). -/
def State.offerDropped (s : State) (i : Nat) : State :=
  (s.discardFrame i).modSource i (fun q => { q with
    dropNewest := q.dropNewest || q.newest.isSome, lastSeq := none, seen := [] })

theorem offerDropped_source : (s.offerDropped i).source i = { s.source i with
    frame := none, fifo := [], early := [], awaiting := decide (4 ≤ i), prevRow := 0
    dropNewest := (s.source i).dropNewest || (s.source i).newest.isSome, lastSeq := none, seen := [] } := by
  rw [State.offerDropped, State.modSource_same, discardFrame_source]

theorem restartSource_offer : SameOffer ((s.offerDropped i).source i) ((s.restartSource i).source i) := by
  have hpaths := foldl_offer i (fun s' p =>
    if srcEnabled (s.reg .SRC_CONFIG i) && srcPath (s.reg .SRC_CONFIG i) p && decide (4 ≤ i) then s'
    else s'.setPath i p false) (fun s' p => by
      split
      · exact .refl _
      · exact setPath_offer s' i p false) (List.range 2) (s.offerDropped i)
  rw [State.restartSource]
  split
  · exact hpaths.trans (evaluate_offer _ i)
  · exact hpaths.trans (setSrcState_offer _ i _ _)

end Restart

/-- Settles O29: the branches of the loss, then the effects of the writes; a restart keeps the newest and marks it. -/
theorem sourceLossAndSettings : Obligations.SourceLossAndSettings := by
  unfold Obligations.SourceLossAndSettings
  refine ⟨⟨?_, ?_, ?_, ?_, ?_, ?_, ?_, ?_, ?_⟩, ?_, ?_, ?_, ?_, ?_, ?_⟩
  · intro s i h
    refine ⟨s.signalGone i, congrArg Host.Outcome.next (sourceStops_locked h), ?_, ?_, ?_, signalGone_sourcesOnly s i⟩
    all_goals rw [signalGone_source]
  · intro s i h
    refine ⟨s.signalGone (i + 4), congrArg Host.Outcome.next (sourceStops_locked h), ?_, signalGone_sourcesOnly s (i + 4)⟩
    rw [signalGone_source]
  · intro s i h h'
    refine ⟨s.signalGone i, congrArg Host.Outcome.next (sourceStops_other h h'), signalGone_sourcesOnly s i, ?_⟩
    rw [signalGone_source]
  · exact fun s i h hl => congrArg Host.Outcome.next (if_pos ⟨h, hl⟩)
  · exact fun s i h => congrArg Host.Outcome.next (sourceLost_kept h)
  · exact fun s i p h => congrArg Host.Outcome.next (pathDown_down h)
  · exact fun s i p h h3 => congrArg Host.Outcome.next ((pathDown_up h).trans (if_neg h3))
  · exact fun s i p h h3 => congrArg Host.Outcome.next ((pathDown_up h).trans (if_pos h3))
  · exact fun s i st reason h => setSrcState_change reason h
  · exact fun s acc i v h => congrArg Host.Outcome.next (writeCmd_next v h i.isLt (by decide) rfl rfl)
  · intro s old i
    refine ⟨_, rfl, ?_⟩
    rw [State.modSource_same]
  · exact fun s acc i v h => congrArg Host.Outcome.next (writeCmd_next v h i.isLt (by decide) rfl rfl)
  · exact fun s acc i v h => congrArg Host.Outcome.next (writeCmd_next v h i.isLt (by decide) rfl rfl)
  · intro s acc i v h
    have hlow : (s.written .SRC_BASE_HIGH i 0 v).reg .SRC_BASE_LOW i = s.reg .SRC_BASE_LOW i :=
      written_reg_other v (by decide) i.isLt (by decide) i.isLt (by decide)
    have hpair := pair_applyPair (s.written .SRC_BASE_HIGH i 0 v) .SRC_BASE_LOW i (s.keptValue .SRC_BASE_HIGH i v)
    rw [hlow] at hpair
    exact ⟨_, congrArg Host.Outcome.next (writeCmd_next v h i.isLt (by decide) rfl rfl), hpair, rfl⟩
  · intro s i
    obtain ⟨hnewest, hdrop, hframe⟩ := restartSource_offer s i
    rw [offerDropped_source] at hnewest hdrop hframe
    refine ⟨_, rfl, hframe rfl, hnewest, fun h => hdrop.trans ?_⟩
    show ((s.source i).dropNewest || (s.source i).newest.isSome) = true
    rw [h, Bool.or_true]

end Sys2Proof.Machine

/-! PROOFS. Skein reads, parity errors, needle failures and needle tests (R23, R153, R154, R160, R164, R175 to R177). -/

namespace Sys2Proof.Machine

/-! ### Reads of a skein -/

section Reads
variable {s : State} {n a y i : Nat} {q : SkeinRec}

theorem waitingRead_some (ho : (s.skein n).outstanding.length < 32) (hn : s.nextRead n = some (a, y))
    (hs : s.slotFor a = true) : s.waitingRead n = some (a, y) := by
  rw [State.waitingRead, if_neg (Nat.not_le.2 ho), hn]
  exact Option.filter_some_pos hs

theorem waitingRead_none (h : 32 ≤ (s.skein n).outstanding.length ∨ s.nextRead n = none ∨
    ∀ a y, s.nextRead n = some (a, y) → s.slotFor a = false) : s.waitingRead n = none := by
  rw [State.waitingRead]
  split
  · rfl
  next hlen =>
    cases hn : s.nextRead n with
    | none => rfl
    | some p =>
      rcases h with h | h | h
      · exact absurd h hlen
      · rw [hn] at h; contradiction
      · exact Option.filter_some_neg (by simp [h p.1 p.2 hn])

/-- The read has been issued: its credit is out, and the head has had its turn (R154). -/
def State.issued (s : State) (n a y head : Nat) : State :=
  State.modSkein { s with store := { s.store with skeinTurn := some head } } n
    (fun k => { k with outstanding := k.outstanding ++ [(a, y)], fetchLine := max k.fetchLine (y + 1) })

theorem issued_skein (head : Nat) : (s.issued n a y head).skein n = { s.skein n with
    outstanding := (s.skein n).outstanding ++ [(a, y)], fetchLine := max (s.skein n).fetchLine (y + 1) } :=
  State.modSkein_same _ _ _

theorem issueRead_turn (hw : s.waitingRead n = some (a, y)) (hc : s.creditsUsed < 512)
    (hq : s.pattern.skein? n = some q) (hf : s.firstSkein q.head = some n) (ht : s.headTurn q.head = true) :
    s.issueRead n = s.issued n a y q.head := by
  rw [State.issueRead, hq, hw]
  exact if_neg (by rw [hf, ht]; simp; omega)

theorem issueRead_noRead (h : s.waitingRead n = none) : s.issueRead n = s := by
  rw [State.issueRead, h]
  split
  next hread => contradiction
  · rfl

theorem issueRead_notNow (h : 512 ≤ s.creditsUsed ∨
    ∀ q, s.pattern.skein? n = some q → s.firstSkein q.head ≠ some n ∨ s.headTurn q.head = false) :
    s.issueRead n = s := by
  rw [State.issueRead]
  split
  next q a y hq hw => exact if_pos (h.elim .inl fun h => .inr (h q hq))
  · rfl

/-- The read at an index is no longer outstanding. -/
def State.returned (s : State) (n i : Nat) : State :=
  s.modSkein n (fun k => { k with outstanding := k.outstanding.eraseIdx i })

theorem returned_skein : (s.returned n i).skein n =
    { s.skein n with outstanding := (s.skein n).outstanding.eraseIdx i } := State.modSkein_same _ _ _

theorem returned_skein_ne {k : Nat} (hk : k ≠ n) : (s.returned n i).skein k = s.skein k := State.modSkein_ne _ _ _ hk

theorem returnRead_eq (ho : (s.skein n).outstanding[i]? = some (a, y)) : s.returnRead n i =
    match s.storeRead a 256 with
    | .error e => (s.returned n i).badRead n a y e
    | .ok b =>
      if y = 65536 ∨ ((s.returned n i).skein n).closedLines.any (fun c => c.1 == y) = true then s.returned n i
      else (s.returned n i).modSkein n (fun k => { k with
        blocks := (a, b) :: k.blocks.filter (fun c => c.1 != a), served := (a, y) :: k.served }) := by
  rw [State.returnRead, ho]
  rfl

theorem returnRead_served {b : List Byte} (ho : (s.skein n).outstanding[i]? = some (a, y))
    (hb : s.storeRead a 256 = .ok b) (hy : y ≠ 65536) (hc : (s.skein n).closedLines.any (fun c => c.1 == y) = false) :
    s.returnRead n i = (s.returned n i).modSkein n (fun k => { k with
      blocks := (a, b) :: k.blocks.filter (fun c => c.1 != a), served := (a, y) :: k.served }) := by
  rw [returnRead_eq ho, hb]
  refine if_neg fun h => h.elim hy fun h => ?_
  rw [returned_skein] at h
  exact absurd (h.symm.trans hc) (by decide)

/-- A bad read has been counted, and its block serves no line (R160, R166). -/
def State.badCounted (s : State) (n a y : Nat) : State :=
  s.modSkein n (fun k => { k with
    badFetch := satInc k.badFetch, badThisFrame := true
    blocks := if y = 65536 then k.blocks else k.blocks.filter (fun b => b.1 != a)
    badBlocks := if k.closedLines.any (fun c => c.1 == y) ∨ y = 65536 then k.badBlocks else (a, y) :: k.badBlocks })

theorem badRead_first {e : Nat × Nat} (h : (s.skein n).badThisFrame = false) : s.badRead n a y e =
    (s.badCounted n a y).record 0x07 classA [(8, n), (8, e.2)] e.1 ((s.pattern.skein? n).map (·.head)) :=
  if_pos (by rw [h]; rfl)

theorem returnRead_bad {e : Nat × Nat} (ho : (s.skein n).outstanding[i]? = some (a, y))
    (he : s.storeRead a 256 = .error e) (hf : (s.skein n).badThisFrame = false) :
    s.returnRead n i = ((s.returned n i).badCounted n a y).record 0x07 classA [(8, n), (8, e.2)] e.1
      ((s.pattern.skein? n).map (·.head)) := by
  rw [returnRead_eq ho, he]
  exact badRead_first (by rw [returned_skein]; exact hf)

theorem returnRead_none (h : (s.skein n).outstanding[i]? = none) : s.returnRead n i = s := by
  rw [State.returnRead, h]

end Reads

/-! ### Parity errors of skeins and failures of needles -/

section Failures
variable {s : State} {n m cause : Nat}

/-- The skein waits for its retirement and shows stand-in colour from the next line composed (R164). -/
def State.skeinDown (s : State) (n cause : Nat) (bad : Bool) : State :=
  s.modSkein n (fun k => { k with
    queued := true, cause := cause
    standinFrom := some (s.composeNext (((s.pattern.skein? n).map (·.head)).getD 0)), transparent := bad
    latch := k.latch.map (fun l => { l with transparent := bad }) })

theorem skeinDown_skein (bad : Bool) : (s.skeinDown n cause bad).skein n = { s.skein n with
    queued := true, cause := cause
    standinFrom := some (s.composeNext (((s.pattern.skein? n).map (·.head)).getD 0)), transparent := bad
    latch := (s.skein n).latch.map (fun l => { l with transparent := bad }) } := State.modSkein_same _ _ _

theorem skeinParity_first (bad : Bool) (hr : (s.skein n).retired = false) (hq : (s.skein n).queued = false) :
    s.skeinParity n cause bad = ((s.skeinDown n cause bad).record 0x07 classC [(8, n), (8, cause)] 0
      ((s.pattern.skein? n).map (·.head))).enqueue .skein n cause :=
  if_neg (by rw [hr, hq]; decide)

theorem skeinParity_again (bad : Bool) (h : (s.skein n).retired = true ∨ (s.skein n).queued = true) :
    s.skeinParity n cause bad =
      s.record 0x07 classC [(8, n), (8, cause)] 0 ((s.pattern.skein? n).map (·.head)) true := if_pos h

theorem failNeedle_again (h : (s.needle m).retired = true ∨ (s.needle m).queued = true) :
    s.failNeedle m cause = s.record 0x08 classC [(8, m), (8, cause)] 0 (some (s.needleOwner m)) true := if_pos h

/-- The needle waits for its retirement. -/
def State.needleQueued (s : State) (m cause : Nat) : State :=
  s.modNeedle m (fun q => { q with queued := true, cause := cause })

theorem needleQueued_needle : (s.needleQueued m cause).needle m = { s.needle m with queued := true, cause := cause } :=
  State.modNeedle_same _ _ _

theorem failNeedle_unused (hr : (s.needle m).retired = false) (hq : (s.needle m).queued = false)
    (hn : ∀ n : Nat, n < 96 → (s.skein n).needle ≠ some m) :
    s.failNeedle m cause = ((s.needleQueued m cause).record 0x08 classC [(8, m), (8, cause)] 0
      (some (s.needleOwner m))).enqueue .needle m cause := by
  have hserved : (List.range 96).filter (fun n => (s.skein n).needle == some m) = [] :=
    List.filter_eq_nil_iff.2 fun n hmem => by simpa using hn n (List.mem_range.1 hmem)
  rw [State.failNeedle]
  dsimp only
  rw [if_neg (by rw [hr, hq]; decide), hserved]
  rfl

end Failures

/-- Settles O30: the branches of the reads, then of the failures. -/
theorem skeinReadsAndFailures : Obligations.SkeinReadsAndFailures := by
  unfold Obligations.SkeinReadsAndFailures
  refine ⟨⟨?issue, ?stay, ?served, ?bad, ?missing⟩, ?parity, ?parityAgain, fun s kind i cause => ⟨_, rfl, rfl, rfl⟩,
    ?needleAgain, ?needle⟩
  case issue =>
    intro s n a y q ho hc hn hs hq hf ht
    refine ⟨s.issued n a y q.head, congrArg Host.Outcome.next (issueRead_turn (waitingRead_some ho hn hs) hc hq hf ht),
      ?_, ?_, ?_, rfl, rfl, fun k hk => State.modSkein_ne _ _ _ hk⟩
    all_goals rw [issued_skein]
  case stay =>
    intro s n h
    refine congrArg Host.Outcome.next ?_
    rcases h with h | h | h | h | h
    · exact issueRead_noRead (waitingRead_none (.inl h))
    · exact issueRead_notNow (.inl h)
    · exact issueRead_noRead (waitingRead_none (.inr (.inl h)))
    · exact issueRead_noRead (waitingRead_none (.inr (.inr h)))
    · exact issueRead_notNow (.inr h)
  case served =>
    intro s n i a y b ho hb hy hc
    refine ⟨_, congrArg Host.Outcome.next (returnRead_served ho hb hy hc), ?_, ?_, ?_, ?_, rfl, ?_⟩
    · rw [State.modSkein_same, returned_skein]
    · rw [State.modSkein_same, returned_skein]
    · rw [State.modSkein_same, returned_skein]
    · rw [State.modSkein_same, returned_skein]
    · exact fun k hk => (State.modSkein_ne _ _ _ hk).trans (returned_skein_ne hk)
  case bad =>
    intro s n i a y e ho he hf
    refine ⟨_, congrArg Host.Outcome.next (returnRead_bad ho he hf), ?_, ?_, ?_, rfl, ?_⟩
    · rw [State.badCounted, State.modSkein_same, returned_skein]
    · rw [State.badCounted, State.modSkein_same]
    · rw [State.badCounted, State.modSkein_same, returned_skein]
    · exact fun k hk => (State.modSkein_ne _ _ _ hk).trans (returned_skein_ne hk)
  case missing => exact fun s n i h => congrArg Host.Outcome.next (returnRead_none h)
  case parity =>
    intro s n p bad hr hq
    refine ⟨s.skeinDown n (partCause p) bad, congrArg Host.Outcome.next (skeinParity_first bad hr hq), ?_, ?_, ?_, ?_, rfl,
      fun k hk => State.modSkein_ne _ _ _ hk⟩
    all_goals rw [skeinDown_skein]
  case parityAgain => exact fun s n p bad h => congrArg Host.Outcome.next (skeinParity_again bad h)
  case needleAgain => exact fun s m h => congrArg Host.Outcome.next (failNeedle_again h)
  case needle =>
    intro s m hr hq hn
    refine ⟨s.needleQueued m 1, congrArg Host.Outcome.next (failNeedle_unused hr hq hn), ?_, ?_, ?_, rfl,
      fun k hk => State.modNeedle_ne _ _ _ hk⟩
    all_goals rw [needleQueued_needle]
    exact hr

/-! ### Needle tests -/

section Tests
variable {s t u : State} {m : Nat}

theorem startTest_off (h : bitAt (s.reg .NEEDLE_TEST_CONTROL) 0 = false ∨ s.inService m = true ∨
    (s.needle m).retired = true ∨ (s.needle m).queued = true ∨ s.needles.any (fun p => p.2.testing) = true) :
    s.startTest m = s := if_pos h

theorem startTest_on (hc : bitAt (s.reg .NEEDLE_TEST_CONTROL) 0 = true) (hi : s.inService m = false)
    (hr : (s.needle m).retired = false) (hq : (s.needle m).queued = false)
    (hn : s.needles.any (fun p => p.2.testing) = false) :
    s.startTest m = s.modNeedle m (fun q => { q with testing := true, draining := false }) :=
  if_neg (by rw [hc, hi, hr, hq, hn]; decide)

theorem testDone_idle (pass : Bool) (h : (s.needle m).testing = false ∨ (s.needle m).draining = true) :
    s.testDone m pass = s := if_pos h

theorem testDone_eq (pass : Bool) (ht : (s.needle m).testing = true) (hd : (s.needle m).draining = false) :
    s.testDone m pass = if pass
      then s.modNeedle m (fun q => { q with testing := false, lastTest := 1, passes := satInc q.passes })
      else (s.modNeedle m (fun q => { q with testing := false, lastTest := 2 })).failNeedle m 2 :=
  if_neg (by rw [ht, hd]; decide)

theorem testAbandon_draining (ht : (s.needle m).testing = true) (hd : (s.needle m).draining = true) :
    s.testAbandon m = s.modNeedle m (fun q => { q with
      testing := false, draining := false, lastTest := 3, abandons := satInc q.abandons }) :=
  if_pos (by rw [ht, hd]; rfl)

theorem testAbandon_idle (h : (s.needle m).testing = false ∨ (s.needle m).draining = false) : s.testAbandon m = s :=
  if_neg (by rcases h with h | h <;> simp [h])

/-- `t` is `s` but for tests that were told to end. -/
def OnlyDrained (s t : State) : Prop :=
  t = { s with needles := t.needles } ∧ ∀ k, (t.needle k).takenBy = (s.needle k).takenBy ∧
    (t.needle k).retired = (s.needle k).retired ∧ ((s.needle k).draining = true → (t.needle k).draining = true)

theorem onlyDrained_refl (s : State) : OnlyDrained s s := ⟨rfl, fun _ => ⟨rfl, rfl, id⟩⟩

theorem OnlyDrained.trans (h : OnlyDrained s t) (h' : OnlyDrained t u) : OnlyDrained s u := by
  obtain ⟨hst, hk⟩ := h
  obtain ⟨htu, hk'⟩ := h'
  refine ⟨?_, fun k => ?_⟩
  · rw [hst] at htu
    exact htu
  · obtain ⟨htaken, hret, hdrain⟩ := hk k
    obtain ⟨htaken', hret', hdrain'⟩ := hk' k
    exact ⟨htaken'.trans htaken, hret'.trans hret, fun h => hdrain' (hdrain h)⟩

theorem onlyDrained_drain (s : State) (m : Nat) : OnlyDrained s (s.modNeedle m (fun q => { q with draining := true })) := by
  refine ⟨rfl, fun k => ?_⟩
  by_cases hk : k = m
  · subst hk
    rw [State.modNeedle_same]
    exact ⟨rfl, rfl, fun _ => rfl⟩
  · rw [State.modNeedle_ne _ _ _ hk]
    exact ⟨rfl, rfl, id⟩

theorem OnlyDrained.inService (h : OnlyDrained s t) : t.inService m = s.inService m := by
  obtain ⟨hst, hk⟩ := h
  have hmask (g : Nat) : t.inEffMask g m = s.inEffMask g m := by
    rw [State.inEffMask, State.inEffMask, (hk m).1, (hk m).2.1, hst]
    rfl
  rw [State.inService, State.inService]
  simp only [hmask]
  rw [hst]
  rfl

/-- One test is told to end where its needle has come into service (R177). -/
def State.abortTest (s : State) (p : Nat × NeedleSt) : State :=
  if p.2.testing && !p.2.draining && s.inService p.1 then s.modNeedle p.1 (fun q => { q with draining := true }) else s

theorem abortTests_eq (s : State) : s.abortTests = s.needles.foldl State.abortTest s := rfl

theorem onlyDrained_abortTest (s : State) (p : Nat × NeedleSt) : OnlyDrained s (s.abortTest p) := by
  rw [State.abortTest]
  split
  · exact onlyDrained_drain s p.1
  · exact onlyDrained_refl s

theorem onlyDrained_foldl (l : List (Nat × NeedleSt)) (s : State) : OnlyDrained s (l.foldl State.abortTest s) := by
  induction l generalizing s with
  | nil => exact onlyDrained_refl s
  | cons p l ih => exact (onlyDrained_abortTest s p).trans (ih _)

theorem mapGet_of_sorted {α : Type} {d v : α} {l : SMap α} {k : Nat} (hs : l.Pairwise (fun p q => p.1 < q.1))
    (h : (k, v) ∈ l) : mapGet d l k = v := by
  induction l with
  | nil => contradiction
  | cons p l ih =>
    obtain ⟨hlt, hrest⟩ := List.pairwise_cons.1 hs
    rcases List.mem_cons.1 h with h | h
    · rw [← h]
      exact if_pos rfl
    · exact (if_neg (Nat.ne_of_lt (hlt _ h))).trans (ih hrest h)

theorem abortTest_draining (p : NeedleSt) (ht : p.testing = true) (hd : p.draining = false) (hi : s.inService m = true) :
    ((s.abortTest (m, p)).needle m).draining = true := by
  have hcond : (p.testing && !p.draining && s.inService m) = true := by rw [ht, hd, hi]; rfl
  rw [State.abortTest, if_pos hcond, State.modNeedle_same]

theorem abortTests_draining (ht : (s.needle m).testing = true) (hi : s.inService m = true)
    (hk : s.needles.any (fun p => p.1 == m) = true) (hs : s.needles.Pairwise (fun p q => p.1 < q.1)) :
    (s.abortTests.needle m).draining = true := by
  obtain ⟨⟨k, v⟩, hmem, hkey⟩ := List.any_eq_true.1 hk
  obtain rfl : k = m := by simpa using hkey
  have hv : s.needle k = v := mapGet_of_sorted hs hmem
  rw [abortTests_eq]
  cases hd : (s.needle k).draining
  · obtain ⟨before, after, hsplit⟩ := List.append_of_mem hmem
    rw [hsplit, List.foldl_append, List.foldl_cons]
    refine ((onlyDrained_foldl after _).2 k).2.2 (abortTest_draining v (hv ▸ ht) (hv ▸ hd) ?_)
    rw [(onlyDrained_foldl before s).inService, hi]
  · exact ((onlyDrained_foldl s.needles s).2 k).2.2 hd

theorem skeinNeedle_addr_toNat (n : Fin 96) :
    (BitVec.ofNat 32 (Reg.addr .SKEIN_NEEDLE n 0)).toNat = Reg.addr .SKEIN_NEEDLE n 0 := by
  have hlt : Reg.addr .SKEIN_NEEDLE n 0 < 2 ^ 32 := by
    simp only [Reg.addr, Reg.row]
    omega
  rw [BitVec.toNat_ofNat, Nat.mod_eq_of_lt hlt]

end Tests

/-- Settles O31: each command by its branch; a write that brings a needle into service ends its test, for the abort reaches
every needle and changes nothing that service rests on. -/
theorem needleTests : Obligations.NeedleTests := by
  unfold Obligations.NeedleTests
  refine ⟨?start, fun s m h => congrArg Host.Outcome.next (startTest_off h), ?pass,
    fun s m ht hd => congrArg Host.Outcome.next (testDone_eq false ht hd),
    fun s m pass h => congrArg Host.Outcome.next (testDone_idle pass h), ?abandon,
    fun s m h => congrArg Host.Outcome.next (testAbandon_idle h), ?write,
    fun s m ht hi hk hs => abortTests_draining ht hi hk hs⟩
  case start =>
    intro s m hc hi hr hq hn
    refine ⟨_, congrArg Host.Outcome.next (startTest_on hc hi hr hq hn), ?_, ?_, rfl,
      fun k hk => State.modNeedle_ne _ _ _ hk⟩
    all_goals rw [State.modNeedle_same]
  case pass =>
    intro s m ht hd
    refine ⟨_, congrArg Host.Outcome.next (testDone_eq true ht hd), ?_, ?_, ?_, rfl,
      fun k hk => State.modNeedle_ne _ _ _ hk⟩
    all_goals exact congrArg _ (State.modNeedle_same _ _ _)
  case abandon =>
    intro s m ht hd
    refine ⟨_, congrArg Host.Outcome.next (testAbandon_draining ht hd), ?_, ?_, ?_, rfl⟩
    all_goals rw [State.modNeedle_same]
  case write =>
    intro s acc n v h
    have haddr := skeinNeedle_addr_toNat n
    exact exec_registerWrite_commitBound v h.1 (by rw [haddr]; exact h.2)
      (by rw [haddr]; exact regAt_addr_same n.isLt (by decide)) rfl

end Sys2Proof.Machine

/-! PROOFS. DisplayPort outputs (R201 to R203). -/

namespace Sys2Proof.Machine

section Sink
variable {s : State} {p : Nat} {k : SinkCaps}

theorem outputOn_of_portUse (h : (s.portUse p).isSome = true) : s.outputOff = false := by
  cases ho : s.outputOff
  · rfl
  · rw [State.portUse, if_pos ho] at h
    contradiction

/-- What is kept of a sink that was read. -/
def keptSink (k : SinkCaps) : SinkCaps := { k with edid := k.edid.take 512 }

theorem sinkRead_still (h : (s.dpPort p).hpd = false ∨ s.outputOff = true ∨ (s.dpPort p).sink.isSome = true) :
    s.sinkRead p k = s := if_pos h

theorem sinkRead_new (hh : (s.dpPort p).hpd = true) (ho : s.outputOff = false) (hs : (s.dpPort p).sink = none) :
    s.sinkRead p k = if (s.portUse p).isNone then s.modDp p (fun d => { d with sink := some (keptSink k) })
      else (((s.modDp p (fun d => { d with state := 1, sink := some (keptSink k) })).settlePorts s).startTraining p 0).settlePorts
        ((s.modDp p (fun d => { d with state := 1, sink := some (keptSink k) })).settlePorts s) :=
  if_neg (by rw [hh, ho, hs]; decide)

theorem hpdPulse_trained (hh : (s.dpPort p).hpd = true) (hs : (s.dpPort p).state = 3) :
    s.hpdPulse p true = (s.startTraining p 1).settlePorts s := if_pos (by rw [hh, hs]; rfl)

theorem hpdPulse_kept (s : State) (p : Nat) : s.hpdPulse p false = s :=
  if_neg (by rw [Bool.and_false, Bool.false_and]; decide)

end Sink

/-! ### The steps of a training (R202) -/

theorem laneCount_cases (n : Nat) : laneCount n = 1 ∨ laneCount n = 2 ∨ laneCount n = 4 := by
  unfold laneCount
  split
  · exact .inr (.inr rfl)
  · split
    · exact .inr (.inl rfl)
    · exact .inl rfl

theorem dpMaxLanes_cases (w : Word) : dpMaxLanes w = 1 ∨ dpMaxLanes w = 2 ∨ dpMaxLanes w = 4 := by
  unfold dpMaxLanes
  split
  next h => exact h.imp_right .inl
  · exact .inr (.inr rfl)

theorem trainStart_lanes (s : State) (p : Nat) :
    (s.trainStart p).2 = 1 ∨ (s.trainStart p).2 = 2 ∨ (s.trainStart p).2 = 4 := by
  have hport := dpMaxLanes_cases (s.reg .DP_CONFIG p)
  have hsink := laneCount_cases (((s.dpPort p).sink.map (fun (k : SinkCaps) => (k.maxRate.val, k.maxLanes))).getD (0, 1)).2
  rw [State.trainStart]
  dsimp only
  omega

theorem trainSteps_rate {rate lanes n : Nat} (h : n ≤ rate) : (trainSteps rate lanes)[n]? = some (rate - n, lanes) := by
  rw [trainSteps, List.getElem?_append_left (by simp; omega), List.getElem?_map, List.getElem?_range (by omega)]
  rfl

theorem trainSteps_halved (rate lanes m : Nat) : (trainSteps rate lanes)[rate + 1 + m]? =
    (([2, 1].filter (fun n => decide (n < lanes))).map (fun n => (0, n)))[m]? := by
  rw [trainSteps, List.getElem?_append_right (by simp)]
  simp

/-- Lanes of a link are halved, from one entry to the next, down to 1. -/
theorem halved_next {lanes m : Nat} {x y : Nat × Nat} (hl : lanes = 1 ∨ lanes = 2 ∨ lanes = 4)
    (hx : (([2, 1].filter (fun n => decide (n < lanes))).map (fun n => (0, n)))[m]? = some x)
    (hy : (([2, 1].filter (fun n => decide (n < lanes))).map (fun n => (0, n)))[m + 1]? = some y) :
    y.1 = 0 ∧ x.1 = 0 ∧ 2 * y.2 = x.2 := by
  rcases hl with rfl | rfl | rfl
  · exact absurd hx (by simp)
  · exact absurd hy (by simp)
  · match m, hx, hy with
    | 0, hx, hy =>
      obtain rfl := Option.some.inj hx
      obtain rfl := Option.some.inj hy
      exact ⟨rfl, rfl, rfl⟩
    | m + 1, hx, hy => exact absurd hy (by simp)

theorem halved_first {lanes : Nat} {y : Nat × Nat} (hl : lanes = 1 ∨ lanes = 2 ∨ lanes = 4)
    (hy : (([2, 1].filter (fun n => decide (n < lanes))).map (fun n => (0, n)))[0]? = some y) :
    y.1 = 0 ∧ 2 * y.2 = lanes := by
  rcases hl with rfl | rfl | rfl
  · exact absurd hy (by simp)
  · obtain rfl := Option.some.inj hy
    exact ⟨rfl, rfl⟩
  · obtain rfl := Option.some.inj hy
    exact ⟨rfl, rfl⟩

theorem trainSteps_next {rate lanes n : Nat} {x y : Nat × Nat} (hl : lanes = 1 ∨ lanes = 2 ∨ lanes = 4)
    (hx : (trainSteps rate lanes)[n]? = some x) (hy : (trainSteps rate lanes)[n + 1]? = some y) :
    (y.2 = x.2 ∧ y.1 + 1 = x.1) ∨ (y.1 = 0 ∧ x.1 = 0 ∧ 2 * y.2 = x.2) := by
  rcases Nat.lt_trichotomy n rate with hlt | rfl | hgt
  · obtain rfl := Option.some.inj ((trainSteps_rate (Nat.le_of_lt hlt)).symm.trans hx)
    obtain rfl := Option.some.inj ((trainSteps_rate hlt).symm.trans hy)
    exact .inl ⟨rfl, by dsimp only; omega⟩
  · obtain rfl := Option.some.inj ((trainSteps_rate le_rfl).symm.trans hx)
    obtain ⟨hcode, hlanes⟩ := halved_first hl ((trainSteps_halved n lanes 0).symm.trans hy)
    exact .inr ⟨hcode, Nat.sub_self n, hlanes⟩
  · obtain ⟨m, rfl⟩ : ∃ m, n = rate + 1 + m := ⟨n - (rate + 1), by omega⟩
    exact .inr (halved_next hl ((trainSteps_halved rate lanes m).symm.trans hx)
      ((trainSteps_halved rate lanes (m + 1)).symm.trans hy))

/-! ### The end of a training -/

section Training
variable {s : State} {p n : Nat}

theorem trainingDone_idle (h : (s.dpPort p).state ≠ 2) : s.trainingDone p n = s := if_pos h

theorem trainingDone_failed (hs : (s.dpPort p).state = 2) (ha : (s.dpPort p).attempts = 0)
    (hn : (trainSteps (s.trainStart p).1 (s.trainStart p).2).length ≤ n) :
    s.trainingDone p n = (s.modDp p (fun d => { d with state := 5, lanes := 0, rate := 0 })).settlePorts s := by
  rw [State.trainingDone]
  dsimp only
  rw [if_neg (not_not.2 hs), List.getElem?_eq_none hn]
  dsimp only
  rw [if_neg (by rw [ha]; omega)]

/-- The rate that the raster of a port's head needs. -/
def State.portNeed (s : State) (p : Nat) : Rat := (((s.portUse p).bind s.portRaster).map PortRaster.rate).getD 0

/-- A training has found a rate and lanes: the link is trained, or too slow for its raster (R202). -/
def State.linkTrained (s : State) (p code lanes : Nat) : State :=
  s.modDp p (fun d => { d with
    state := if dpUsable lanes code (dpBpc (s.reg .DP_CONFIG p)) (s.portNeed p) then 3 else 4, lanes := lanes, rate := code })

theorem linkTrained_port (code lanes : Nat) : (s.linkTrained p code lanes).dpPort p = { s.dpPort p with
    state := if dpUsable lanes code (dpBpc (s.reg .DP_CONFIG p)) (s.portNeed p) then 3 else 4
    lanes := lanes, rate := code } := State.modDp_same _ _ _

theorem trainingDone_found {code lanes : Nat} (hs : (s.dpPort p).state = 2)
    (hn : (trainSteps (s.trainStart p).1 (s.trainStart p).2)[n]? = some (code, lanes)) :
    s.trainingDone p n = (s.linkTrained p code lanes).settlePorts s := by
  rw [State.trainingDone]
  dsimp only
  rw [if_neg (not_not.2 hs), hn]
  rfl

theorem wroteDpConfig_retrain {old v : Word} (hv : bitAt v 12 = true) (hs : 2 ≤ (s.dpPort p).state)
    (hu : (s.portUse p).isSome = true) : s.wroteDpConfig p old v = (s.startTraining p 0).settlePorts s :=
  if_pos (by rw [hv, hu, decide_eq_true hs]; rfl)

theorem wroteDpConfig_unread {old v : Word} (hs : (s.dpPort p).state < 2) : s.wroteDpConfig p old v = s :=
  if_neg (by rw [decide_eq_false (Nat.not_le.2 hs), Bool.and_false, Bool.false_and]; decide)

end Training

theorem retrain_kept (s : State) (p : Nat) (v : Word) : bitAt (s.keptValue .DP_CONFIG p (v ||| 0x1000)) 12 = true := by
  refine (bitAt_and_mask (v ||| 0x1000) (wordOf 0x1337) 12 (by decide)).trans ?_
  simp [bitAt]

/-- Settles O32: each command by its branch; the steps of a training by their place among rates and lanes. -/
theorem displayPort : Obligations.DisplayPort := by
  unfold Obligations.DisplayPort
  refine ⟨?hpd, ?readDriven, ?readIdle, fun s p k h => congrArg Host.Outcome.next (sinkRead_still h), ?start, ?failed,
    ?steps, ?found, fun s p n h => congrArg Host.Outcome.next (trainingDone_idle h),
    fun s p hh hs => congrArg Host.Outcome.next (hpdPulse_trained hh hs),
    fun s p => congrArg Host.Outcome.next (hpdPulse_kept s p), ?unplug, ?retrain, ?config⟩
  case hpd =>
    intro s p
    refine ⟨_, rfl, ?_, ?_, rfl, fun k hk => State.modDp_ne _ _ _ hk⟩
    all_goals rw [State.modDp_same]
  case readDriven =>
    intro s p k hh hu hs
    have hnone : ¬ (s.portUse p).isNone = true := fun hn => by
      rw [Option.isNone_iff_eq_none.1 hn] at hu
      contradiction
    refine ⟨_, _, congrArg Host.Outcome.next ((sinkRead_new hh (outputOn_of_portUse hu) hs).trans (if_neg hnone)), rfl,
      ?_, ?_, rfl⟩
    all_goals rw [State.modDp_same]
    rfl
  case readIdle =>
    intro s p k hh ho hu hs
    refine ⟨_, congrArg Host.Outcome.next ((sinkRead_new hh ho hs).trans (if_pos hu)), ?_, ?_, rfl⟩
    all_goals rw [State.modDp_same]
    rfl
  case start =>
    intro s p n
    refine ⟨_, rfl, ?_, ?_, ?_, rfl⟩
    all_goals rw [State.startTraining, State.modDp_same]
    rfl
  case failed =>
    intro s p n hs ha hn
    refine ⟨_, congrArg Host.Outcome.next (trainingDone_failed hs ha hn), ?_, ?_, rfl⟩
    all_goals rw [State.modDp_same]
  case steps =>
    intro s p n k hk
    refine ⟨?_, fun x y hx hy => trainSteps_next (trainStart_lanes s p) hx hy⟩
    rw [trainSteps_rate (Nat.zero_le _), State.trainStart, hk]
    rfl
  case found =>
    intro s p n code lanes hs hn
    refine ⟨_, congrArg Host.Outcome.next (trainingDone_found hs hn), ?_, ?_, ?_, ?_, rfl⟩
    all_goals rw [linkTrained_port]
    · dsimp only
      rw [← State.portNeed]
      split
      next h => exact ⟨fun _ => h, fun _ => rfl⟩
      next h => exact ⟨fun h' => absurd h' (by decide), fun h' => absurd h' h⟩
    · dsimp only
      split
      · exact .inl rfl
      · exact .inr rfl
  case unplug =>
    intro s p
    refine ⟨_, rfl, ?_, ?_, ?_, rfl⟩
    all_goals rw [State.modDp_same]
  case retrain =>
    intro s acc p v h hs hu
    exact ⟨_, rfl, congrArg Host.Outcome.next ((writeCmd_next _ h p.isLt (by decide) rfl rfl).trans
      (wroteDpConfig_retrain (retrain_kept s p v) hs hu))⟩
  case config =>
    intro s acc p v h hs
    exact congrArg Host.Outcome.next ((writeCmd_next v h p.isLt (by decide) rfl rfl).trans (wroteDpConfig_unread hs))

end Sys2Proof.Machine

/-! PROOFS. The block engine (R231 to R235, R237). -/

namespace Sys2Proof.Machine

/-! ### The register operation (R231) -/

section Registers
variable {s : State} {v : Word}

theorem beControl_kept (s : State) (v : Word) (k : Nat) (hk : bitAt (wordOf 3) k = true) :
    bitAt (s.keptValue .BE_CONTROL 0 v) k = bitAt v k := bitAt_and_mask v (wordOf 3) k hk

/-- A written BE_CONTROL changes none of the registers that state the operation. -/
theorem written_beControl_reg (s : State) (v : Word) {r : Reg} {i : Nat} (hr : r ≠ .BE_CONTROL) (hi : i < r.row.count)
    (hj : 0 < r.row.count') : (s.written .BE_CONTROL 0 0 v).reg r i = s.reg r i :=
  written_reg_other v hr (by decide) (by decide) hi hj

theorem regOp_written (s : State) (v : Word) (fillOp done : Bool) :
    (s.written .BE_CONTROL 0 0 v).regOp fillOp done = s.regOp fillOp done := by
  have hreg (r : Reg) (hr : r ≠ .BE_CONTROL) (hi : 0 < r.row.count) (hj : 0 < r.row.count') :=
    written_beControl_reg s v hr hi hj
  have hclips : (List.range 8).map (fun k =>
      (fld ((s.written .BE_CONTROL 0 0 v).reg .BE_CLIP_ORIGIN k) 0 16,
        fld ((s.written .BE_CONTROL 0 0 v).reg .BE_CLIP_ORIGIN k) 16 16,
        fld ((s.written .BE_CONTROL 0 0 v).reg .BE_CLIP_EXTENT k) 0 16,
        fld ((s.written .BE_CONTROL 0 0 v).reg .BE_CLIP_EXTENT k) 16 16)) =
      (List.range 8).map (fun k =>
      (fld (s.reg .BE_CLIP_ORIGIN k) 0 16, fld (s.reg .BE_CLIP_ORIGIN k) 16 16,
       fld (s.reg .BE_CLIP_EXTENT k) 0 16, fld (s.reg .BE_CLIP_EXTENT k) 16 16)) := by
    refine List.map_congr_left fun k hk => ?_
    have hk8 : k < 8 := List.mem_range.1 hk
    rw [written_beControl_reg s v (r := .BE_CLIP_ORIGIN) (by decide) hk8 (by decide),
      written_beControl_reg s v (r := .BE_CLIP_EXTENT) (by decide) hk8 (by decide)]
  have hpair : (s.written .BE_CONTROL 0 0 v).pair .BE_FILL_LOW = s.pair .BE_FILL_LOW := rfl
  unfold State.regOp
  rw [hclips, hpair, hreg .BE_OP (by decide) (by decide) (by decide),
    hreg .BE_DST_BASE (by decide) (by decide) (by decide), hreg .BE_SRC_BASE (by decide) (by decide) (by decide),
    hreg .BE_PITCH (by decide) (by decide) (by decide), hreg .BE_SRC_ORIGIN (by decide) (by decide) (by decide),
    hreg .BE_EXTENT (by decide) (by decide) (by decide), hreg .BE_DST_ORIGIN (by decide) (by decide) (by decide),
    hreg .BE_PLANE_HEIGHT (by decide) (by decide) (by decide)]

/-- The register operation waits (R231). -/
def State.regOpWaits (s : State) (o : BlockOp) : State := { s with block := { s.block with regWait := some o } }

theorem wroteBeControl_go (hv : bitAt v 0 = true) (hb : s.regOpBusy = false) :
    s.wroteBeControl v = s.regOpWaits (s.regOp (bitAt (s.reg .BE_OP) 0) (bitAt v 1)) :=
  if_neg (by rw [hv, hb]; decide)

theorem wroteBeControl_busy (hb : s.regOpBusy = true) : s.wroteBeControl v = s := if_pos (.inr hb)

theorem beGo_taken {acc : Accessor} (h : s.Accepts acc .BE_CONTROL) (hb : s.regOpBusy = false) :
    s.writeCmd acc .BE_CONTROL 0 0 (v ||| 1) =
      (s.written .BE_CONTROL 0 0 (v ||| 1)).regOpWaits (s.regOp (bitAt (s.reg .BE_OP) 0) (bitAt v 1)) := by
  have hgo : bitAt (s.keptValue .BE_CONTROL 0 (v ||| 1)) 0 = true := by
    rw [beControl_kept _ _ _ (by decide)]
    simp [bitAt]
  have hdone : bitAt (s.keptValue .BE_CONTROL 0 (v ||| 1)) 1 = bitAt v 1 := by
    rw [beControl_kept _ _ _ (by decide)]
    simp [bitAt]
  have hop := written_beControl_reg s (v ||| 1) (r := .BE_OP) (i := 0) (by decide) (by decide) (by decide)
  refine (writeCmd_next _ h (by decide) (by decide) rfl rfl).trans
    ((wroteBeControl_go (s := s.written .BE_CONTROL 0 0 (v ||| 1)) hgo hb).trans ?_)
  rw [regOp_written, hop, hdone]

theorem beGo_busy {acc : Accessor} (h : s.Accepts acc .BE_CONTROL) (hb : s.regOpBusy = true) :
    s.writeCmd acc .BE_CONTROL 0 0 v = s.written .BE_CONTROL 0 0 v :=
  (writeCmd_next _ h (by decide) (by decide) rfl rfl).trans
    (wroteBeControl_busy (s := s.written .BE_CONTROL 0 0 v) hb)

end Registers

/-! ### Bales and the start of an operation (R232 to R234) -/

section Bales
variable {s u : State} {r op k : Nat} {b : Started} {o : BlockOp} {run : BlockRun}

/-- A bale of route `r` waits with the others (R232). -/
def State.baleWaits (s : State) (r : Nat) (b : Started) (fillOp : Bool) : State :=
  { s.modStarted r b.index (fun x => { x with taken := true }) with
    block := { s.block with waiting := s.block.waiting ++ [baleOp fillOp r b.index b.data] } }

theorem takeBlockBale_next (fillOp : Bool) (hc : s.consumer r = .block) (hh : s.holding = false)
    (hn : s.nextStarted r op = some b) : s.takeBlockBale r op fillOp = s.baleWaits r b fillOp := by
  rw [State.takeBlockBale, if_neg (by rw [hc, hh]; simp), hn]
  rfl

theorem startOp_register (hh : s.holding = false) (hn : s.nextOp = some o)
    (hk : (List.range 4).find? (fun k => (s.slotAt k).isNone) = some k) (hr : s.runBlock o = (run, u))
    (hb : o.bale = none) :
    s.startOp = ((({ u with block := { u.block with regWait := none } } : State).setSlot k (some run)).drive) := by
  rw [State.startOp, if_neg (by rw [hh]; decide), hn, hk]
  dsimp only
  rw [hr, hb]
  rfl

theorem startOp_still (h : s.holding = true ∨ s.nextOp = none) : s.startOp = s := by
  rw [State.startOp]
  split
  · rfl
  next hh =>
    rcases h with h | h
    · exact absurd h hh
    · rw [h]

/-- No bale starts while the register operation and the routes' bales hold four slots (R233). -/
theorem startBale_full (hc : s.consumer r = .block)
    (hfull : 4 ≤ (s.blockRoutes.map s.openCount).foldl (· + ·) (if s.regOpBusy then 1 else 0))
    (hflags : ∀ f b rest, (s.route r).fetched = f :: rest → f.data = some b →
      (baleFlag b flagFenceWait || baleFlag b flagFenceSignal) = false)
    (hdata : ∀ f ∈ (s.route r).fetched, f.data.isSome = true) : s.startBale r = s := by
  have hready : s.consumerReady r = false := by
    rw [State.consumerReady]
    split
    · rfl
    · rw [hc]
      exact decide_eq_false (Nat.not_lt.2 hfull)
  rw [State.startBale]
  split
  · rfl
  · split
    · rfl
    next f rest hf =>
      obtain ⟨b, hb⟩ := Option.isSome_iff_exists.1 (hdata f (by rw [hf]; exact List.mem_cons_self))
      rw [hb]
      dsimp only
      rw [if_neg (by rw [hflags f b rest hf hb, Bool.false_and]; decide), if_pos (by rw [hready]; simp)]

end Bales

/-! ### Units of an operation (R235, R237) -/

section Units
variable {s u : State} {r : BlockRun} {m : UnitMove} {bs : List Byte} {a n d : Nat}

theorem moveUnit_unread {e : Nat × Nat} (h : s.storeRead a n = .error e) :
    s.moveUnit ⟨d, .read a n⟩ r = (s, r.fails 9 e.1) := by
  have hdata : s.unitData r (.read a n) = .error e.1 := by
    rw [State.unitData, h]
  rw [State.moveUnit, hdata]

theorem unitData_read (hk : r.kept = []) (h : s.storeRead a n = .ok bs) : s.unitData r (.read a n) = .ok bs := by
  have hbefore : r.asBefore a bs = some bs := by rw [BlockRun.asBefore, hk]; rfl
  rw [State.unitData, h]
  dsimp only
  rw [hbefore]

/-- The run, with what its next unit overwrites kept where the operation reads there too (R236). -/
def State.keptRun (s : State) (m : UnitMove) (r : BlockRun) (n : Nat) : BlockRun :=
  if r.op.overlaps then { r with kept := (m.dst, match s.storeRead m.dst n with
    | .ok x => some x
    | .error _ => none) :: r.kept } else r

theorem keptRun_reason : (s.keptRun m r n).reason = r.reason := by
  rw [State.keptRun]
  split <;> rfl

theorem fails_reason (r : BlockRun) (reason fault : Nat) :
    (r.fails reason fault).reason = if r.reason = 0 then reason else r.reason := by
  rw [BlockRun.fails]
  split <;> rfl

theorem moveUnit_written {e : Option (Nat × Nat)} (hd : s.unitData r m.data = .ok bs)
    (hw : s.storeWrite m.dst bs = (u, e)) : s.moveUnit m r =
      ({ u with block := { u.block with bytes := u.block.bytes + BitVec.ofNat 64 (s.landing m.dst bs.length) } },
        e.elim (s.keptRun m r bs.length) (fun e => (s.keptRun m r bs.length).fails 0xA e.1)) := by
  rw [State.moveUnit, hd]
  dsimp only
  rw [hw]
  cases e with
  | none => rfl
  | some e => rfl

theorem moveUnit_reason {e : Option (Nat × Nat)} (hd : s.unitData r m.data = .ok bs)
    (hw : s.storeWrite m.dst bs = (u, e)) :
    (s.moveUnit m r).2.reason = if r.reason = 0 then (if e.isSome then 0xA else 0) else r.reason := by
  rw [moveUnit_written hd hw]
  cases e with
  | some e => exact (fails_reason _ _ _).trans (by rw [keptRun_reason]; rfl)
  | none =>
    refine keptRun_reason.trans ?_
    split
    next h => exact h
    · rfl

end Units

/-! ### The end of an operation (R237) -/

section Done
variable {s : State} {k : Nat} {r : BlockRun}

/-- An operation has left its slot and is counted (R233, R237). -/
def State.opCounted (s : State) (k : Nat) : State :=
  { s.setSlot k none with block := { (s.setSlot k none).block with opCount := satInc s.block.opCount } }

theorem opCounted_slot : (s.opCounted k).slotAt k = none :=
  mapGet_mapSet_same none s.block.slots k none

theorem opDone_register (hs : s.slotAt k = some r) (ht : r.todo = []) (hb : r.op.bale = none)
    (he : r.op.eventOnDone = false) : s.opDone k =
      if r.reason = 0 then (s.opCounted k).blockClean r else (s.opCounted k).blockBad r := by
  rw [State.opDone, hs]
  dsimp only
  rw [if_neg (by rw [ht, hb]; simp), he, Bool.and_false]
  rfl

theorem opDone_held (hs : s.slotAt k = some r) (hh : s.holding = true) (hr : r.reason ≠ 0) (hb : r.op.bale ≠ none) :
    s.opDone k = s := by
  rw [State.opDone, hs]
  exact if_pos (.inr ⟨hh, hr, Option.isSome_iff_ne_none.2 hb⟩)

theorem blockClean_register (hb : r.op.bale = none) :
    s.blockClean r = { s with block := { s.block with regBad := false, regReason := 0 } } := by
  rw [State.blockClean, hb]

/-- A register operation has ended bad: counted, and its reason and address held (R237). -/
def State.regOpBad (s : State) (r : BlockRun) : State :=
  { s with block := { s.block with
    badCount := satInc s.block.badCount, regBad := true, regReason := r.reason, faultAddr := r.fault } }

theorem blockBad_register (hb : r.op.bale = none) :
    s.blockBad r = (s.regOpBad r).record 0x0F classA [] r.fault := by
  rw [State.blockBad, hb]
  rfl

end Done

/-- Settles O35: each command by its branch. -/
theorem blockEngine : Obligations.BlockEngine := by
  unfold Obligations.BlockEngine
  refine ⟨?go, ?goBusy, ?copy, ?fill, fun s u o k r hh hn hk hr hb => congrArg Host.Outcome.next
    (startOp_register hh hn hk hr hb), fun s h => congrArg Host.Outcome.next (startOp_still h), fun s => rfl, ?clean, ?bad,
    ?empty, fun s k r hs hh hr hb => congrArg Host.Outcome.next (opDone_held hs hh hr hb),
    fun s r d a n e h => moveUnit_unread h, ?unit, fun s r a n bs hk h => unitData_read hk h,
    fun s r hc hfull _ hflags hdata => startBale_full hc hfull hflags hdata⟩
  case go =>
    intro s acc v h hb
    refine ⟨_, congrArg Host.Outcome.next (beGo_taken h hb), ?_, rfl, rfl⟩
    exact congrArg Host.Outcome.next ((congrArg (s.writeCmd acc .BE_CONTROL 0 0) (BitVec.or_comm 1 v)).trans (beGo_taken h hb))
  case goBusy =>
    intro s acc v h hb
    exact ⟨congrArg Host.Outcome.next (beGo_busy h hb), congrArg Host.Outcome.next (beGo_busy h hb)⟩
  case copy =>
    intro s r b hc hh hn
    exact ⟨_, congrArg Host.Outcome.next (takeBlockBale_next false hc hh hn), rfl, rfl, rfl⟩
  case fill =>
    intro s r b hc hh hn
    exact ⟨_, congrArg Host.Outcome.next (takeBlockBale_next true hc hh hn), rfl, rfl, rfl⟩
  case clean =>
    intro s k r hs ht hr hb he
    exact ⟨_, congrArg Host.Outcome.next ((opDone_register hs ht hb he).trans ((if_pos hr).trans (blockClean_register hb))),
      opCounted_slot, rfl, rfl, rfl, rfl, rfl⟩
  case bad =>
    intro s k r hs ht hr hb he
    exact ⟨_, congrArg Host.Outcome.next ((opDone_register hs ht hb he).trans ((if_neg hr).trans (blockBad_register hb))),
      opCounted_slot, rfl, rfl, rfl, rfl, rfl, rfl⟩
  case empty =>
    intro s k h
    refine congrArg Host.Outcome.next (?_ : s.opDone k = s)
    rw [State.opDone, h]
  case unit =>
    intro s r m bs e u hd hw
    exact ⟨_, rfl, by rw [moveUnit_written hd hw], by rw [moveUnit_written hd hw], moveUnit_reason hd hw⟩

end Sys2Proof.Machine

/-! PROOFS. Raster jobs, the end of draws and frames, growth (R210 to R213, R219, R220, R222). -/

namespace Sys2Proof.Machine

/-! ### Taking a job -/

section Jobs
variable {s : State} {c r op : Nat} {b : Started} {f : Nat → Started → State} {g : ReTarget}

theorem takeJob_taken (h : s.rasterJob c op = some (r, b)) (hn : s.noCore = false) : s.takeJob c op f = f r b := by
  rw [State.takeJob, h]
  exact if_neg (by rw [hn]; decide)

theorem takeJob_noCore (h : s.rasterJob c op = some (r, b)) (hn : s.noCore = true) :
    s.takeJob c op f = s.refuseBale r b 6 := by
  rw [State.takeJob, h]
  exact if_pos hn

theorem takeJob_holding (h : s.holding = true) : s.takeJob c op f = s := by
  have hjob : s.rasterJob c op = none := by
    rw [State.rasterJob]
    split
    · rfl
    · exact if_pos (by rw [h, Bool.or_true])
  rw [State.takeJob, hjob]

/-- A context at the start of the frame that a TARGET begins, or with none where it is not valid (R210). -/
def freshContext (target : Option ReTarget) (base : Nat) (k : ReContext) : ReContext := { k with
  target := target, textures := [], binBase := base, tris := [], toBin := []
  used := (target.map (fun g => 64 * g.tiles)).getD 0
  partialOn := false, binFull := false, partialTiles := [], depth := [], writeBad := false, texelThisFrame := false
  binStopped := false, drawing := none }

/-- Context `c` begins a frame, its bin memory where the registers place it. -/
def State.frameBegun (s : State) (c : Nat) (target : Option ReTarget) : State :=
  s.modContext c (freshContext target (s.pair .RE_BIN_BASE_LOW c))

theorem frameBegun_context (target : Option ReTarget) : (s.frameBegun c target).context c =
    freshContext target (s.pair .RE_BIN_BASE_LOW c) (s.context c) := State.modContext_same _ _ _

theorem frameBegun_binCapacity (target : Option ReTarget) : (s.frameBegun c target).binCapacity c = s.binCapacity c := by
  rw [State.binCapacity, frameBegun_context]
  rfl

theorem targetBale_valid (h : s.rasterJob c 0x20 = some (r, b)) (hn : s.noCore = false)
    (hv : (targetOf b.data).valid = true) :
    s.targetBale c = ((s.frameBegun c (some (targetOf b.data))).scribbleBin c).finishBale r b.index false :=
  (takeJob_taken h hn).trans (if_pos hv)

theorem targetBale_invalid (h : s.rasterJob c 0x20 = some (r, b)) (hn : s.noCore = false)
    (hv : (targetOf b.data).valid = false) : s.targetBale c = (s.frameBegun c none).refuseBale r b 2 :=
  (takeJob_taken h hn).trans (if_neg (by rw [hv]; decide))

/-- A texture is loaded into its slot, with its record in bin memory (R211, R213). -/
def State.textureLoaded (s : State) (c : Nat) (t : ReTexture) : State :=
  s.modContext c (fun k => { k with textures := mapSet none k.textures t.slot (some t), used := k.used + 32 })

theorem textureLoaded_context (t : ReTexture) : (s.textureLoaded c t).context c =
    { s.context c with textures := mapSet none (s.context c).textures t.slot (some t), used := (s.context c).used + 32 } :=
  State.modContext_same _ _ _

theorem textureBale_valid (h : s.rasterJob c 0x21 = some (r, b)) (hn : s.noCore = false)
    (hv : (textureOf b.data).valid = true) :
    s.textureBale c = ((s.textureLoaded c (textureOf b.data)).scribbleBin c).finishBale r b.index false :=
  (takeJob_taken h hn).trans (if_pos hv)

theorem textureBale_invalid (h : s.rasterJob c 0x21 = some (r, b)) (hn : s.noCore = false)
    (hv : (textureOf b.data).valid = false) : s.textureBale c = s.refuseBale r b 3 :=
  (takeJob_taken h hn).trans (if_neg (by rw [hv]; decide))

theorem drawBale_noTarget (h : s.rasterJob c 0x22 = some (r, b)) (hn : s.noCore = false)
    (ht : (s.context c).target = none) : s.drawBale c = s.refuseBale r b 2 :=
  (takeJob_taken h hn).trans (if_pos (by rw [ht]; rfl))

theorem drawBale_untextured (h : s.rasterJob c 0x22 = some (r, b)) (hn : s.noCore = false)
    (ht : (s.context c).target = some g) (hslot : leAt b.data 0x1D 1 = 0xFF) : s.drawBale c =
      if (s.context c).binFull then s.refuseBale r b 4
      else ((s.modStarted r b.index (fun x => { x with taken := true })).modContext c (fun q => { q with
        toBin := s.drawTris (s.context c) b.data, drawing := some b.index })).bin c :=
  ((takeJob_taken h hn).trans (if_neg (by simp [ht]))).trans (if_neg fun hempty => hempty.1 hslot)

/-- A frame is rendered: every tile of its target is available (R210). -/
def State.frameEnded (s : State) (c r i : Nat) (g : ReTarget) : State :=
  (s.modStarted r i (fun x => { x with taken := true })).modContext c (fun q => { q with
    rendering := true
    tiles := (List.range g.tiles).map (fun i => (⟨i, tilePasses (s.context c) g i, none, false⟩ : ReTile)) })

theorem frameEnded_context (i : Nat) : (s.frameEnded c r i g).context c = { s.context c with
    rendering := true
    tiles := (List.range g.tiles).map (fun i => (⟨i, tilePasses (s.context c) g i, none, false⟩ : ReTile)) } :=
  State.modContext_same _ _ _

theorem frameEnded_context_ne (i : Nat) {k : Nat} (hk : k ≠ c) : (s.frameEnded c r i g).context k = s.context k :=
  State.modContext_ne _ _ _ hk

theorem endFrameBale_taken (h : s.rasterJob c 0x23 = some (r, b)) (hn : s.noCore = false)
    (ht : (s.context c).target = some g) (hc : c ≠ 0) : s.endFrameBale c = s.frameEnded c r b.index g := by
  refine (takeJob_taken h hn).trans ?_
  dsimp only
  rw [ht]
  exact if_neg hc

end Jobs

/-! ### The end of draws and frames -/

section Ends
variable {s : State} {c r : Nat} {d : Nat × Started} {rest : List (Nat × Started)} {b : Started}

theorem drawBinned_none (h : s.openDraws c = []) : s.drawBinned c = s := by
  rw [State.drawBinned, h]

theorem drawBinned_eq (h : s.openDraws c = d :: rest) : s.drawBinned c =
    if s.drawsNow c d.2 && !((s.context c).toBin.isEmpty && !(s.context c).growWait) then s
    else s.finishBale d.1 d.2.index false := by
  rw [State.drawBinned, h]

theorem drawBinned_done (h : s.openDraws c = d :: rest) (hd : (s.context c).drawing ≠ some d.2.index ∨
    ((s.context c).toBin = [] ∧ (s.context c).growWait = false)) :
    s.drawBinned c = s.finishBale d.1 d.2.index false := by
  refine (drawBinned_eq h).trans (if_neg ?_)
  rcases hd with hd | ⟨hempty, hgrow⟩
  · simp [State.drawsNow, hd]
  · simp [hempty, hgrow]

theorem drawBinned_waits (h : s.openDraws c = d :: rest) (hd : (s.context c).drawing = some d.2.index)
    (hw : (s.context c).toBin ≠ [] ∨ (s.context c).growWait = true) : s.drawBinned c = s := by
  refine (drawBinned_eq h).trans (if_pos ?_)
  rcases hw with hw | hw <;> simp [State.drawsNow, hd, hw]

/-- A context whose frame has ended: counted, with nothing of it left (R210). -/
def endedContext (q : ReContext) : ReContext := { q with
  rendering := false, frames := satInc q.frames, extents := [], tris := [], used := 0, target := none
  textures := [], partialOn := false, binFull := false, partialTiles := [], depth := [], texelThisFrame := false
  binStopped := false, drawing := none }

/-- The frame of context `c` has ended. -/
def State.frameDone (s : State) (c : Nat) : State := s.modContext c endedContext

theorem frameDone_context : (s.frameDone c).context c = endedContext (s.context c) := State.modContext_same _ _ _

theorem endFrameDone_ends (hr : (s.context c).rendering = true) (ht : (s.context c).tiles = [])
    (hh : s.holding = false ∨ (s.context c).writeBad = false) : s.endFrameDone c =
      match s.routeFor (.raster c) with
      | none => s.frameDone c
      | some r =>
        match (s.route r).started.find? (fun b => b.taken && !b.done && baleOpcode b.data == 0x23) with
        | none => s.frameDone c
        | some b => if (s.context c).writeBad then (s.frameDone c).refuseBale r b 5
            else (s.frameDone c).finishBale r b.index false := by
  have hcond : ((s.context c).rendering && (s.context c).tiles.isEmpty && !(s.holding && (s.context c).writeBad)) = true := by
    rcases hh with hh | hh <;> simp [hr, ht, hh]
  exact (if_pos hcond).trans (by rfl)

theorem endFrameDone_waits (h : (s.context c).rendering = false ∨ (s.context c).tiles ≠ [] ∨
    ((s.context c).writeBad = true ∧ s.holding = true)) : s.endFrameDone c = s := by
  refine if_neg ?_
  rcases h with h | h | ⟨hbad, hhold⟩
  · simp [h]
  · simp [h]
  · simp [hbad, hhold]

theorem endFrameDone_noRoute (hr : (s.context c).rendering = true) (ht : (s.context c).tiles = [])
    (hroute : s.routeFor (.raster c) = none) (hh : s.holding = false ∨ (s.context c).writeBad = false) :
    s.endFrameDone c = s.frameDone c := by
  rw [endFrameDone_ends hr ht hh, hroute]

theorem endFrameDone_bale (hr : (s.context c).rendering = true) (ht : (s.context c).tiles = [])
    (hroute : s.routeFor (.raster c) = some r)
    (hb : (s.route r).started.find? (fun b => b.taken && !b.done && baleOpcode b.data == 0x23) = some b)
    (hh : s.holding = false ∨ (s.context c).writeBad = false) :
    s.endFrameDone c = if (s.context c).writeBad then (s.frameDone c).refuseBale r b 5
      else (s.frameDone c).finishBale r b.index false := by
  rw [endFrameDone_ends hr ht hh, hroute]
  dsimp only
  rw [hb]

end Ends

/-! ### Growth -/

section Growth
variable {s : State} {c : Nat}

/-- Context `c` waits for more bin memory (R219). -/
def State.growing (s : State) (c : Nat) : State :=
  s.modContext c (fun q => { q with growWait := true, grows := satInc q.grows })

theorem growing_context : (s.growing c).context c =
    { s.context c with growWait := true, grows := satInc (s.context c).grows } := State.modContext_same _ _ _

theorem binOverflow_grows {g : ReTarget} {n : Nat} (hp : (s.context c).partialOn = false)
    (hc : bitAt (s.reg .RE_CONTEXT_CONTROL c) 1 = false) : s.binOverflow c g n =
      ((s.growing c).event 0xC0 ([byteOf c, 0, 0, 0] ++ leBytes 4 n), false) :=
  if_neg (by rw [hp, hc]; decide)

/-- The wait for bin memory is over, and the context goes on under R220. -/
def State.partialEntered (s : State) (c : Nat) : State :=
  s.modContext c (fun q => { q with growWait := false, partialOn := true })

theorem partialEntered_context : (s.partialEntered c).context c =
    { s.context c with growWait := false, partialOn := true } := State.modContext_same _ _ _

theorem growExpiry_waiting (h : (s.context c).growWait = true) : s.growExpiry c =
    (((s.partialEntered c).event 0xC1 [byteOf c]).record 0x0D classA [] c).bin c := if_pos h

theorem growExpiry_idle (h : (s.context c).growWait = false) : s.growExpiry c = s := if_neg (by rw [h]; decide)

/-- An extent joins the bin memory of context `c` (R219). -/
def State.extentAdded (s : State) (c a n : Nat) : State :=
  s.modContext c (fun q => { q with extents := q.extents ++ [(a, n)], growWait := false })

theorem extentAdded_context (a n : Nat) : (s.extentAdded c a n).context c =
    { s.context c with extents := (s.context c).extents ++ [(a, n)], growWait := false } := State.modContext_same _ _ _

theorem wroteGrow_fits (hlen : (s.context c).extents.length < 8) (hw : (s.context c).growWait = false)
    (hin : s.inRasterBin (s.pair .RE_BIN_GROW_LOW c) (4096 * (s.reg .RE_BIN_GROW_SIZE c).toNat) = true) :
    s.wroteGrow c = s.extentAdded c (s.pair .RE_BIN_GROW_LOW c) (4096 * (s.reg .RE_BIN_GROW_SIZE c).toNat) :=
  (if_pos ⟨hlen, hin⟩).trans (if_neg (by rw [hw]; decide))

theorem wroteGrow_full (hlen : 8 ≤ (s.context c).extents.length) : s.wroteGrow c = s :=
  if_neg fun h => absurd h.1 (Nat.not_lt.2 hlen)

end Growth

/-- Settles O33: the jobs by the checks of their bales, the ends and the growth by their branches. -/
theorem rasterJobsAndFrames : Obligations.RasterJobsAndFrames := by
  unfold Obligations.RasterJobsAndFrames
  refine ⟨⟨?target, ?badTarget, ?texture, fun s c r b h hn hv => congrArg Host.Outcome.next (textureBale_invalid h hn hv),
    ?draw, fun s c r b h hn ht => congrArg Host.Outcome.next (drawBale_noTarget h hn ht), ?full, ?endFrame,
    fun s c r b op f h hn => takeJob_noCore h hn, ?holding⟩,
    fun s c d rest h hd => congrArg Host.Outcome.next (drawBinned_done h hd),
    fun s c d rest h hd hw => congrArg Host.Outcome.next (drawBinned_waits h hd hw),
    fun s c h => congrArg Host.Outcome.next (drawBinned_none h), ?overflow, ?ends, ?endsBale, ?stays, ?expiry,
    fun s c h => congrArg Host.Outcome.next (growExpiry_idle h), ?grows, ?growFull⟩
  case target =>
    intro s c r b h hn hv
    refine ⟨s.frameBegun c (some (targetOf b.data)), congrArg Host.Outcome.next (targetBale_valid h hn hv), ?_, ?_, ?_, ?_,
      frameBegun_binCapacity _, ?_, ?_, rfl, fun k hk => State.modContext_ne _ _ _ hk⟩
    all_goals rw [frameBegun_context]; rfl
  case badTarget =>
    intro s c r b h hn hv
    refine ⟨s.frameBegun c none, congrArg Host.Outcome.next (targetBale_invalid h hn hv), ?_, rfl⟩
    rw [frameBegun_context]
    rfl
  case texture =>
    intro s c r b h hn hv
    refine ⟨s.textureLoaded c (textureOf b.data), congrArg Host.Outcome.next (textureBale_valid h hn hv), ?_, ?_, rfl⟩
    all_goals rw [textureLoaded_context]
    dsimp only
    rw [mapGet_mapSet_same]
  case draw =>
    intro s c r b g h hn ht hslot hfull
    refine ⟨_, congrArg Host.Outcome.next ((drawBale_untextured h hn ht hslot).trans (if_neg (by rw [hfull]; decide))),
      ?_, ?_, ?_, rfl⟩
    all_goals rw [State.modContext_same]
    exact ht
  case full =>
    intro s c r b g h hn ht hfull hslot
    exact congrArg Host.Outcome.next ((drawBale_untextured h hn ht hslot).trans (if_pos hfull))
  case endFrame =>
    intro s c r b g h hn ht hc
    refine ⟨s.frameEnded c r b.index g, congrArg Host.Outcome.next (endFrameBale_taken h hn ht hc), ?_, ?_, ?_, rfl,
      fun k hk => frameEnded_context_ne _ hk⟩
    all_goals rw [frameEnded_context]
    · dsimp only
      rw [List.map_map]
      exact List.map_id _
    · intro x hx
      obtain ⟨i, -, rfl⟩ := List.mem_map.1 hx
      rfl
  case holding =>
    intro s c h
    exact ⟨congrArg Host.Outcome.next (takeJob_holding h), congrArg Host.Outcome.next (takeJob_holding h),
      congrArg Host.Outcome.next (takeJob_holding h), congrArg Host.Outcome.next (takeJob_holding h)⟩
  case overflow =>
    intro s c g n hp hc
    refine ⟨s.growing c, binOverflow_grows hp hc, ?_, ?_, ?_, rfl⟩
    all_goals rw [growing_context]
  case ends =>
    intro s c hr ht hroute hh
    refine ⟨s.frameDone c, congrArg Host.Outcome.next (endFrameDone_noRoute hr ht hroute hh), ?_, ?_, ?_, ?_, ?_, rfl⟩
    all_goals rw [frameDone_context]; rfl
  case endsBale =>
    intro s c r b hr ht hroute hb
    refine ⟨s.frameDone c, ?_, ?_, rfl, fun hgood => ?_, fun hbad hh => ?_, fun hbad hh => ?_⟩
    · rw [frameDone_context]; rfl
    · rw [frameDone_context]; rfl
    · exact congrArg Host.Outcome.next ((endFrameDone_bale hr ht hroute hb (.inr hgood)).trans
        (if_neg (by rw [hgood]; decide)))
    · exact congrArg Host.Outcome.next ((endFrameDone_bale hr ht hroute hb (.inl hh)).trans (if_pos hbad))
    · exact congrArg Host.Outcome.next (endFrameDone_waits (.inr (.inr ⟨hbad, hh⟩)))
  case stays =>
    intro s c h
    exact congrArg Host.Outcome.next (endFrameDone_waits (h.imp_right .inl))
  case expiry =>
    intro s c h
    refine ⟨s.partialEntered c, congrArg Host.Outcome.next (growExpiry_waiting h), ?_, ?_, rfl⟩
    all_goals rw [partialEntered_context]
  case grows =>
    intro s acc c v h hlen hw hin
    have hsize : (s.written .RE_BIN_GROW_SIZE c 0 v).reg .RE_BIN_GROW_SIZE c = s.keptValue .RE_BIN_GROW_SIZE c v :=
      written_reg_same v
    have hgrow := wroteGrow_fits (s := s.written .RE_BIN_GROW_SIZE c 0 v) hlen hw (by rw [hsize]; exact hin)
    rw [hsize] at hgrow
    refine ⟨_, congrArg Host.Outcome.next ((writeCmd_next v h c.isLt (by decide) rfl rfl).trans hgrow), ?_, rfl⟩
    rw [extentAdded_context]
    rfl
  case growFull =>
    intro s acc c v h hlen
    exact congrArg Host.Outcome.next ((writeCmd_next v h c.isLt (by decide) rfl rfl).trans
      (wroteGrow_full (s := s.written .RE_BIN_GROW_SIZE c 0 v) hlen))

end Sys2Proof.Machine

/-! PROOFS. Raster cores (R216, R217, R221, R223, R224). -/

namespace Sys2Proof.Machine

/-! ### Tile passes -/

section Passes
variable {s : State} {k c i : Nat} {x : ReTile}

theorem passStart_still (h : (s.core k).retired = true ∨ (s.core k).queued = true ∨ (s.core k).busy.isSome = true ∨
    s.holding = true) : s.passStart k = s := if_pos h

/-- Core `k` has taken a pass of tile `i` of context `c` (R217). -/
def State.passTaken (s : State) (k c i : Nat) : State :=
  (s.modTile c i (fun t => { t with core := some k, parked := false })).modCore k (fun q => { q with
    busy := some (c, i), context := c, testing := false
    lastTest := if q.testing then 3 else q.lastTest
    lastServed := if c = 0 then q.lastServed else c })

theorem passTaken_core : (s.passTaken k c i).core k = { s.core k with
    busy := some (c, i), context := c, testing := false
    lastTest := if (s.core k).testing then 3 else (s.core k).lastTest
    lastServed := if c = 0 then (s.core k).lastServed else c } :=
  State.modCore_same (s.modTile c i _) k _

theorem passTaken_core_ne {m : Nat} (hm : m ≠ k) : (s.passTaken k c i).core m = s.core m :=
  State.modCore_ne (s.modTile c i _) k _ hm

theorem modTile_context_ne (f : ReTile → ReTile) {m : Nat} (hm : m ≠ c) : (s.modTile c i f).context m = s.context m :=
  State.modContext_ne s c _ hm

theorem passTaken_context_ne {m : Nat} (hm : m ≠ c) : (s.passTaken k c i).context m = s.context m :=
  modTile_context_ne (s := s) (i := i) (fun t => { t with core := some k, parked := false }) hm

theorem passStart_taken (hr : (s.core k).retired = false) (hq : (s.core k).queued = false) (hb : (s.core k).busy = none)
    (hh : s.holding = false) (hp : s.passFor k = some (c, i)) (ht : (s.core k).testing = false) :
    s.passStart k = s.passTaken k c i := by
  rw [State.passStart]
  dsimp only
  rw [if_neg (by simp [hr, hq, hb, hh]), hp]
  exact if_neg (by simp [ht])

theorem passDone_idle (h : (s.core k).busy = none) : s.passDone' k = s := by
  rw [State.passDone', h]

/-- Core `k` has done a pass. -/
def State.passCounted (s : State) (k : Nat) : State :=
  s.modCore k (fun q => { q with busy := none, passes := q.passes + 1 })

theorem passCounted_core : (s.passCounted k).core k =
    { s.core k with busy := none, passes := (s.core k).passes + 1 } := State.modCore_same _ _ _

theorem passDone_eq (hb : (s.core k).busy = some (c, i))
    (hx : (s.context c).tiles.find? (fun t => t.index == i) = some x) : s.passDone' k =
      if 1 < x.passes then (s.passCounted k).modTile c i (fun t => { t with passes := t.passes - 1, parked := true })
      else if s.holding then s
      else ((s.passCounted k).finishTile c i false).modContext c (fun q => { q with
        tiles := q.tiles.filter (fun t => t.index != i) }) := by
  rw [State.passDone', hb]
  dsimp only
  rw [hx]
  rfl

end Passes

/-! ### Failures and tests of cores -/

section Cores
variable {s : State} {k cause : Nat}

theorem failCore_again (h : (s.core k).retired = true ∨ (s.core k).queued = true) :
    s.failCore k cause = s.record 0x0E classC [] k none true := if_pos h

/-- The core takes no further pass (R223). -/
def State.coreDown (s : State) (k : Nat) : State :=
  s.modCore k (fun q => { q with queued := true, testing := false, busy := none })

theorem coreDown_core : (s.coreDown k).core k = { s.core k with queued := true, testing := false, busy := none } :=
  State.modCore_same _ _ _

theorem coreDown_core_ne {m : Nat} (hm : m ≠ k) : (s.coreDown k).core m = s.core m := State.modCore_ne _ _ _ hm

/-- A context with the tiles of a failed core given back, to run again from their start (R223). -/
def tilesReturned (k : Nat) (x : ReContext) : ReContext := { x with
  tiles := x.tiles.map (fun t => if t.core = some k
    then { t with core := none, parked := false
                  passes := (x.target.map (fun g => tilePasses x g t.index)).getD 1 } else t) }

/-- The core is down and its tiles are given back. -/
def State.coreLost (s : State) (k : Nat) : State :=
  (List.range 4).foldl (fun s c => s.modContext c (tilesReturned k)) (s.coreDown k)

theorem coreLost_frame (s : State) (k : Nat) :
    ∃ cs, s.coreLost k = { s.coreDown k with raster := { (s.coreDown k).raster with contexts := cs } } :=
  foldl_modContext_frame (tilesReturned k) (List.range 4) (s.coreDown k)

theorem failCore_first (hr : (s.core k).retired = false) (hq : (s.core k).queued = false) : s.failCore k cause =
    { (s.coreLost k).record 0x0E classC [] k with ledger := { ((s.coreLost k).record 0x0E classC [] k).ledger with
      queue := ((s.coreLost k).record 0x0E classC [] k).ledger.queue ++ [⟨.core, k, cause⟩] } } :=
  if_neg (by rw [hr, hq]; decide)

theorem coreTestStart_idle (hc : bitAt (s.reg .RE_TEST_CONTROL) 0 = true) (hr : (s.core k).retired = false)
    (hq : (s.core k).queued = false) (ht : (s.core k).testing = false) (hb : (s.core k).busy = none)
    (hn : ∀ c : Nat, c < 4 → (s.context c).tiles.any (fun t => t.core == some k) = false) :
    s.coreTestStart k = s.modCore k (fun q => { q with testing := true }) := by
  have hparked : (List.range 4).any (fun c => (s.context c).tiles.any (fun t => t.core == some k)) = false :=
    List.any_eq_false.2 fun c hc => by rw [hn c (List.mem_range.1 hc)]; decide
  rw [State.coreTestStart]
  rw [hparked]
  exact if_neg (by simp [hc, hr, hq, ht, hb])

theorem coreTestDone_eq (r : TestResult) (h : (s.core k).testing = true) : s.coreTestDone k r = match r with
    | .pass => s.modCore k (fun q => { q with testing := false, lastTest := 1 })
    | .fail => (s.modCore k (fun q => { q with testing := false, lastTest := 2 })).failCore k 2
    | .abandoned => s.modCore k (fun q => { q with testing := false, lastTest := 3 }) :=
  if_neg (by rw [h]; decide)

theorem coreTestDone_idle (r : TestResult) (h : (s.core k).testing = false) : s.coreTestDone k r = s := if_pos h

end Cores

/-! ### The throttle -/

section Throttle
variable {s : State} {level n : Nat}

theorem throttleTo_same (h : level = s.raster.throttle) : s.throttleTo level n = s := if_pos h

/-- The throttle level has changed, with its event (R224). -/
def State.throttled (s : State) (level : Nat) : State :=
  ({ s with raster := { s.raster with throttle := level } } : State).event 0xC3 [byteOf level]

theorem throttleTo_change (h : level ≠ s.raster.throttle) : s.throttleTo level n =
    if level = 2 then (s.throttled level).record 0x0D classD [] n else s.throttled level := if_neg h

theorem throttleUp_top (hn : 100 ≤ n) (ht : s.raster.throttle ≠ 2) :
    s.throttleUp n = (s.throttled 2).record 0x0D classD [] n := by
  rw [State.throttleUp, if_pos hn]
  exact (throttleTo_change ht.symm).trans (if_pos rfl)

theorem throttleUp_first (h95 : 95 ≤ n) (hn : n < 100) (ht : s.raster.throttle = 0) :
    s.throttleUp n = s.throttled 1 := by
  rw [State.throttleUp, if_neg (Nat.not_le.2 hn), if_pos h95, ht]
  exact (throttleTo_change (by rw [ht]; decide)).trans (if_neg (by decide))

theorem throttleUp_cool (hn : n < 95) : s.throttleUp n = s := by
  rw [State.throttleUp, if_neg (by omega), if_neg (by omega)]
  exact throttleTo_same rfl

theorem throttleDown_change (h0 : 0 < s.raster.throttle) (h2 : s.raster.throttle ≤ 2) :
    s.throttleTo (s.raster.throttle - 1) 0 = s.throttled (s.raster.throttle - 1) :=
  (throttleTo_change (by omega)).trans (if_neg (by omega))

end Throttle

/-- Settles O34: each command by its branch; what a failed core leaves of its contexts lies inside them. -/
theorem rasterCores : Obligations.RasterCores := by
  unfold Obligations.RasterCores
  refine ⟨?start, fun s k h => congrArg Host.Outcome.next (passStart_still h),
    fun s k h => congrArg Host.Outcome.next (passDone_idle h), ?done,
    fun s k h => congrArg Host.Outcome.next (failCore_again h), ?fails, ?testStart, ?testDone,
    fun s k r h => congrArg Host.Outcome.next (coreTestDone_idle r h),
    fun s n hn ht => congrArg Host.Outcome.next (throttleUp_top hn ht),
    fun s n h95 hn ht => congrArg Host.Outcome.next (throttleUp_first h95 hn ht),
    fun s n hn => congrArg Host.Outcome.next (throttleUp_cool hn), ?bottom,
    fun s h0 h2 => congrArg Host.Outcome.next (throttleDown_change h0 h2)⟩
  case start =>
    intro s k c i hr hq hb hh hp ht
    refine ⟨s.passTaken k c i, congrArg Host.Outcome.next (passStart_taken hr hq hb hh hp ht), ?_, ?_, ?_,
      fun m hm => passTaken_core_ne hm, fun m hm => passTaken_context_ne hm, rfl⟩
    all_goals rw [passTaken_core]
  case done =>
    intro s k c i x hb hx
    have hdone := passDone_eq hb hx
    refine ⟨s.passCounted k, ?_, ?_, rfl, fun h1 => congrArg Host.Outcome.next (hdone.trans (if_pos h1)),
      fun h1 hh => congrArg Host.Outcome.next (hdone.trans ((if_neg (Nat.not_lt.2 h1)).trans (if_pos hh))),
      fun h1 hh => congrArg Host.Outcome.next (hdone.trans ((if_neg (Nat.not_lt.2 h1)).trans (if_neg (by rw [hh]; decide))))⟩
    all_goals rw [passCounted_core]
  case fails =>
    intro s k hr hq
    obtain ⟨cs, hframe⟩ := coreLost_frame s k
    have hcore (m : Nat) : (s.coreLost k).core m = (s.coreDown k).core m := by rw [hframe]; rfl
    refine ⟨_, _, congrArg Host.Outcome.next (failCore_first hr hq), rfl, s.coreLost k, rfl, ?_, ?_, fun m hm => ?_, ?_⟩
    · rw [hcore, coreDown_core]
    · rw [hcore, coreDown_core]
    · rw [hcore, coreDown_core_ne hm]
    · rw [hframe]
      rfl
  case testStart =>
    intro s k hc hr hq ht hb hn
    refine ⟨_, congrArg Host.Outcome.next (coreTestStart_idle hc hr hq ht hb hn), ?_, fun m hm => State.modCore_ne _ _ _ hm,
      rfl⟩
    rw [State.modCore_same]
  case testDone =>
    intro s k h
    refine ⟨⟨_, congrArg Host.Outcome.next (coreTestDone_eq .pass h), ?_, ?_, rfl⟩,
      congrArg Host.Outcome.next (coreTestDone_eq .fail h)⟩
    all_goals exact congrArg _ (State.modCore_same _ _ _)
  case bottom =>
    intro s h
    exact congrArg Host.Outcome.next (throttleTo_same (by rw [h]))

end Sys2Proof.Machine
